-- ==== Sys2Proof/Word.lean ====
section
/-!
DEFINITION. Word.lean: the words of the YX family. Registers are 32 bits (R10), data words 24 bits (R24),
accumulators 56 bits (R25), tile-memory words of the widest aspect 48 bits (R96), stamps and ticks 64 bits (R9).
-/
namespace Sys2Proof

/-- A register or bus word (R10). -/
abbrev Word := BitVec 32
/-- One byte. -/
abbrev Byte := BitVec 8
/-- A data word, Q1.23 in its normal reading (R24). -/
abbrev W24 := BitVec 24
/-- A tile-memory word of the 512 x 48 aspect, and a port's output latch (R96, R98). -/
abbrev W48 := BitVec 48
/-- A 64-bit quantity: a stamp, a tick, a register pair (R9, R11). -/
abbrev W64 := BitVec 64
/-- A 512-bit flit payload (bond network, R278). -/
abbrev Flit := BitVec 512

end Sys2Proof
end

