-- ==== Sys2Proof/Syntax.lean ====
section
/-!
DEFINITION. Syntax.lean: the commands of the block, one constructor per row of spec/opcode_table.json, and the operand
shapes they carry. An operand that names a wall, tile, flow or other instance is a bounded index (R5, R6); an operand
that the outside world supplies (a packet, a frame, a buffer of host memory) is the data itself.
-/
namespace Sys2Proof

/-- A master ID (R411, the master-ID table). -/
abbrev Mid := BitVec 6
/-- A wall number (R5). -/
abbrev Wall := Fin 8
/-- A wall-local flow number (R181). -/
abbrev FlowIx := Fin 512
/-- A register code of the tile sequencer (R123). -/
abbrev RegCode := BitVec 5
/-- A sequencer condition code (R143). -/
abbrev Cond4 := BitVec 4
/-- A program address (R119). -/
abbrev PC12 := BitVec 12
abbrev Bytes := List Byte
abbrev Words := List Word

/-- A tile: its wall and its wall-local tile index (R6). -/
structure TileRef where
  w : Fin 8
  t : Fin 128
  deriving DecidableEq, Repr

/-- The fields of PAT (R144). -/
structure PatF where
  slot : BitVec 7
  ba : BitVec 2
  bb : BitVec 2
  bc : BitVec 2
  step : BitVec 8
  hold : BitVec 4
  cond : Cond4
  deriving DecidableEq, Repr

/-- The fields of an ALU instruction (R146). -/
structure AluF where
  rd : RegCode
  ra : RegCode
  rb : RegCode
  cond : Cond4
  setf : Bool
  deriving DecidableEq, Repr

/-- The fields of an ALI instruction (R147). -/
structure AliF where
  rd : RegCode
  imm : BitVec 16
  setf : Bool
  cond : Cond4
  deriving DecidableEq, Repr

/-- The fields of an AGU instruction (R148). -/
structure AguF where
  k : BitVec 3
  m : BitVec 2
  reg : RegCode
  i : Bool
  imm : BitVec 14
  deriving DecidableEq, Repr

/-- The fields of REP (R150): `count` is the count minus one when `src` = 0; `ra` is used when `src` = 1. -/
structure RepF where
  src : Bool
  count : BitVec 12
  ra : RegCode
  fin : PC12
  deriving DecidableEq, Repr

/-- The fields of TPSET (R150, R151). -/
structure TpF where
  flag : BitVec 3
  mode : BitVec 2
  mask : BitVec 16
  cond : Cond4
  deriving DecidableEq, Repr

/-- The fields of SEND (R152, R153): `kind` is bits [3:2], `len` bits [6:4], `gen` bit [7]. -/
structure SendF where
  ra : RegCode
  rb : RegCode
  kind : BitVec 2
  len : BitVec 3
  gen : Bool
  deriving DecidableEq, Repr

/-- The fields of an FPU instruction (R154). -/
structure FpuF where
  fd : BitVec 4
  fa : BitVec 4
  fb : BitVec 4
  fc : BitVec 4
  reg : RegCode
  deriving DecidableEq, Repr

/-- A bond packet: its head (R276) and its payload bytes (R278). -/
structure Packet where
  typ : BitVec 3
  cls : Bool
  vc : Bool
  epoch : Bool
  len : BitVec 4
  la : BitVec 4
  ack : Bool
  dst : BitVec 16
  src : BitVec 16
  mid : Mid
  bytes : BitVec 10
  tag : BitVec 8
  conn : BitVec 6
  status : BitVec 16
  aux : BitVec 32
  addr : W64
  payload : Bytes
  deriving DecidableEq, Repr

/-- A segment of a packet's journey: a wall, or the crossing switch (R298). -/
inductive Segment where
  | wall (w : Wall)
  | switch
  deriving DecidableEq, Repr

/-- A domain of the bond network: a course of a wall, or a wall (R275, R309). -/
inductive Domain where
  | course (w : Wall) (c : Fin 16)
  | wall (w : Wall)
  deriving DecidableEq, Repr

/-- What a march found in one bank (R341): whether it failed, the first failing address and the failing words. -/
structure MarchResult where
  fail : Bool
  addr : Nat
  count : Nat
  deriving DecidableEq, Repr

/-- A frame of the Rueramo chain (R398), with whether its CRC is good. -/
structure ChainFrame where
  typ : Byte
  dst : Byte
  src : Byte
  seq : Byte
  payload : Bytes
  crcOk : Bool
  deriving DecidableEq, Repr

/-- What a host command carries when it runs (R421): its queue, its handle, and the fields of its entry. -/
structure CmdCtx where
  q : Fin 64
  handle : Word
  cid : BitVec 16
  fence : Bool
  wall : BitVec 3
  buf : W64
  len : Word
  args : Words
  deriving DecidableEq, Repr

/-- An image offered to the trowel: its header (512 bytes, R485; 256 of a Peger image, R487), the bytes that follow it, and
whether its signature verifies. -/
structure Image where
  peger : Bool
  header : Bytes
  payload : Bytes
  sigOk : Bool
  deriving DecidableEq, Repr

/-- One compare of the voltage monitors: monitor number and millivolts (R508). -/
abbrev Samples := List (Nat × Nat)

/-- One sample of the telemetry (R521): input millivolts and milliamps, then monitor number, value (mV or °C) and
current (10 mA units) of each rail and sensor, then the input power of each wall in 10 mW units. -/
structure Telemetry where
  vin : Nat
  iin : Nat
  mons : List (Nat × Int × Nat)
  power : List Nat
  deriving DecidableEq, Repr

/-- A rail: of the hub, or of a wall (R506). -/
inductive RailRef where
  | hub (r : Fin 3)
  | wall (w : Wall) (r : Fin 6)
  deriving DecidableEq, Repr

/-- The commands: one constructor per row of opcode_table.json, in the table's order. -/
inductive Instr where
  | registerWrite (m : Mid) (a : Nat) (v : Word)   -- REGISTER_WRITE
  | pairLoRead (m : Mid) (a : Nat)   -- PAIR_LO_READ
  | pairHiRead (m : Mid) (a : Nat)   -- PAIR_HI_READ
  | patternIssue (x : TileRef)   -- PATTERN_ISSUE
  | refillStart (x : TileRef)   -- REFILL_START
  | refillDone (x : TileRef)   -- REFILL_DONE
  | pcPinWrite (m : Mid) (x : TileRef) (b : Bool) (v : Word)   -- PC_PIN_WRITE
  | pcInvalWrite (m : Mid) (x : TileRef) (v : Word)   -- PC_INVAL_WRITE
  | capArm (m : Mid) (w : Wall) (v : Word)   -- CAP_ARM
  | capDiscard (m : Mid) (w : Wall)   -- CAP_DISCARD
  | captureFire (w : Wall)   -- CAPTURE_FIRE
  | bondInterfaceWrite (x : TileRef)   -- BOND_INTERFACE_WRITE
  | pat (x : TileRef) (f : PatF)   -- PAT
  | aluAdd (x : TileRef) (f : AluF)   -- ALU_ADD
  | aluSub (x : TileRef) (f : AluF)   -- ALU_SUB
  | aluAnd (x : TileRef) (f : AluF)   -- ALU_AND
  | aluOr (x : TileRef) (f : AluF)   -- ALU_OR
  | aluXor (x : TileRef) (f : AluF)   -- ALU_XOR
  | aluShl (x : TileRef) (f : AluF)   -- ALU_SHL
  | aluShr (x : TileRef) (f : AluF)   -- ALU_SHR
  | aluSra (x : TileRef) (f : AluF)   -- ALU_SRA
  | aluMov (x : TileRef) (f : AluF)   -- ALU_MOV
  | aluMin (x : TileRef) (f : AluF)   -- ALU_MIN
  | aluMax (x : TileRef) (f : AluF)   -- ALU_MAX
  | aluMinu (x : TileRef) (f : AluF)   -- ALU_MINU
  | aluMaxu (x : TileRef) (f : AluF)   -- ALU_MAXU
  | aluMul (x : TileRef) (f : AluF)   -- ALU_MUL
  | aluMulh (x : TileRef) (f : AluF)   -- ALU_MULH
  | aluCmp (x : TileRef) (f : AluF)   -- ALU_CMP
  | aluSx24 (x : TileRef) (f : AluF)   -- ALU_SX24
  | aluClz (x : TileRef) (f : AluF)   -- ALU_CLZ
  | ldi (x : TileRef) (f : AliF)   -- LDI
  | lui (x : TileRef) (f : AliF)   -- LUI
  | addi (x : TileRef) (f : AliF)   -- ADDI
  | andi (x : TileRef) (f : AliF)   -- ANDI
  | ori (x : TileRef) (f : AliF)   -- ORI
  | xori (x : TileRef) (f : AliF)   -- XORI
  | cmpi (x : TileRef) (f : AliF)   -- CMPI
  | ldp (x : TileRef) (f : AguF)   -- LDP
  | ldb (x : TileRef) (f : AguF)   -- LDB
  | ldl (x : TileRef) (f : AguF)   -- LDL
  | ldli (x : TileRef) (f : AguF)   -- LDLI
  | ldm (x : TileRef) (f : AguF)   -- LDM
  | step (x : TileRef) (f : AguF)   -- STEP
  | stepi (x : TileRef) (f : AguF)   -- STEPI
  | rdp (x : TileRef) (f : AguF)   -- RDP
  | rdb (x : TileRef) (f : AguF)   -- RDB
  | aguRdl (x : TileRef) (f : AguF)   -- AGU_RDL
  | aguRdm (x : TileRef) (f : AguF)   -- AGU_RDM
  | agsel (x : TileRef) (f : AguF)   -- AGSEL
  | br (x : TileRef) (cond : Cond4) (target : PC12)   -- BR
  | callw (x : TileRef) (cond : Cond4) (target : PC12)   -- CALLW
  | retw (x : TileRef) (cond : Cond4)   -- RETW
  | jmp (x : TileRef) (cond : Cond4) (ra : RegCode)   -- JMP
  | rep (x : TileRef) (f : RepF)   -- REP
  | done (x : TileRef)   -- DONE
  | yield (x : TileRef)   -- YIELD
  | waite (x : TileRef)   -- WAITE
  | retf (x : TileRef)   -- RETF
  | tpset (x : TileRef) (f : TpF)   -- TPSET
  | sync (x : TileRef)   -- SYNC
  | signal (x : TileRef) (code : BitVec 16)   -- SIGNAL
  | savew (x : TileRef)   -- SAVEW
  | restw (x : TileRef)   -- RESTW
  | savel (x : TileRef)   -- SAVEL
  | saveu (x : TileRef)   -- SAVEU
  | loadl (x : TileRef)   -- LOADL
  | loadu (x : TileRef)   -- LOADU
  | rds (x : TileRef) (ra : RegCode) (n : BitVec 6)   -- RDS
  | wrs (x : TileRef) (ra : RegCode) (n : BitVec 6)   -- WRS
  | send (x : TileRef) (f : SendF)   -- SEND
  | fence (x : TileRef)   -- FENCE
  | sysNop (x : TileRef)   -- SYS_NOP
  | fadd (x : TileRef) (f : FpuF)   -- FADD
  | fsub (x : TileRef) (f : FpuF)   -- FSUB
  | fmul (x : TileRef) (f : FpuF)   -- FMUL
  | fma (x : TileRef) (f : FpuF)   -- FMA
  | fmin (x : TileRef) (f : FpuF)   -- FMIN
  | fmax (x : TileRef) (f : FpuF)   -- FMAX
  | fabs (x : TileRef) (f : FpuF)   -- FABS
  | fneg (x : TileRef) (f : FpuF)   -- FNEG
  | fcmp (x : TileRef) (f : FpuF)   -- FCMP
  | fdiv (x : TileRef) (f : FpuF)   -- FDIV
  | fsqrt (x : TileRef) (f : FpuF)   -- FSQRT
  | ftoq (x : TileRef) (f : FpuF)   -- FTOQ
  | qtof (x : TileRef) (f : FpuF)   -- QTOF
  | ftoi (x : TileRef) (f : FpuF)   -- FTOI
  | itof (x : TileRef) (f : FpuF)   -- ITOF
  | fmvr (x : TileRef) (f : FpuF)   -- FMVR
  | fmvf (x : TileRef) (f : FpuF)   -- FMVF
  | whandCtrlWrite (m : Mid) (x : TileRef) (v : Word)   -- WHAND_CTRL_WRITE
  | create (m : Mid) (w : Wall) (f : FlowIx)   -- CREATE
  | enable (m : Mid) (w : Wall) (f : FlowIx)   -- ENABLE
  | disable (m : Mid) (w : Wall) (f : FlowIx)   -- DISABLE
  | restart (m : Mid) (w : Wall) (f : FlowIx)   -- RESTART
  | destroy (m : Mid) (w : Wall) (f : FlowIx)   -- DESTROY
  | wake (m : Mid) (w : Wall) (f : FlowIx)   -- WAKE
  | descriptorWrite (m : Mid) (w : Wall) (f : FlowIx) (r : Fin 8) (v : Word)   -- DESCRIPTOR_WRITE
  | fdSchedWrite (m : Mid) (w : Wall) (f : FlowIx) (v : Word)   -- FD_SCHED_WRITE
  | dispDoorbell (m : Mid) (w : Wall) (v : Word)   -- DISP_DOORBELL
  | fwCtrlWrite (m : Mid) (w : Wall) (n : Fin 64) (v : Word)   -- FW_CTRL_WRITE
  | lsCtrlWrite (m : Mid) (w : Wall) (l : Fin 16) (v : Word)   -- LS_CTRL_WRITE
  | hodCfgWrite (m : Mid) (w : Wall) (v : Word)   -- HOD_CFG_WRITE
  | scheduleMatch (w : Wall) (f : FlowIx)   -- SCHEDULE_MATCH
  | targetSweep (w : Wall)   -- TARGET_SWEEP
  | prestage (w : Wall) (f : FlowIx)   -- PRESTAGE
  | prestageWithdraw (w : Wall) (f : FlowIx)   -- PRESTAGE_WITHDRAW
  | flowStart (w : Wall) (f : FlowIx)   -- FLOW_START
  | fastEntry (w : Wall) (f : FlowIx)   -- FAST_ENTRY
  | hodOpStart (x : TileRef)   -- HOD_OP_START
  | hodRestoreDone (x : TileRef)   -- HOD_RESTORE_DONE
  | makeColdDone (x : TileRef)   -- MAKE_COLD_DONE
  | windowSpillDone (x : TileRef)   -- WINDOW_SPILL_DONE
  | windowFillDone (x : TileRef)   -- WINDOW_FILL_DONE
  | blockSaveDone (x : TileRef)   -- BLOCK_SAVE_DONE
  | blockRestoreDone (x : TileRef)   -- BLOCK_RESTORE_DONE
  | fpSwapDone (x : TileRef)   -- FP_SWAP_DONE
  | areaHousekeepingDone (x : TileRef)   -- AREA_HOUSEKEEPING_DONE
  | encoderEdge (w : Wall) (n : Fin 4) (a : Bool) (b : Bool)   -- ENCODER_EDGE
  | indexEdge (w : Wall) (n : Fin 4)   -- INDEX_EDGE
  | lineTriggerEdge (w : Wall) (n : Fin 4)   -- LINE_TRIGGER_EDGE
  | mainsEdge (w : Wall) (n : Fin 4) (neg : Bool)   -- MAINS_EDGE
  | feed (w : Wall) (p : Packet)   -- FEED
  | angleShareReport (w : Wall) (n : Fin 4)   -- ANGLE_SHARE_REPORT
  | refLoss (w : Wall) (n : Fin 4)   -- REF_LOSS
  | standstill (w : Wall) (n : Fin 4)   -- STANDSTILL
  | angCfgWrite (m : Mid) (w : Wall) (n : Fin 4) (v : Word)   -- ANG_CFG_WRITE
  | angPreset (m : Mid) (w : Wall) (n : Fin 4)   -- ANG_PRESET
  | ashSrcWrite (m : Mid) (w : Wall) (n : Fin 4) (v : Word)   -- ASH_SRC_WRITE
  | acuCtrlWrite (m : Mid) (w : Wall) (u : Fin 16) (v : Word)   -- ACU_CTRL_WRITE
  | acuMatch (w : Wall) (u : Fin 16)   -- ACU_MATCH
  | acuBMatch (w : Wall) (u : Fin 16)   -- ACU_B_MATCH
  | acuTimePulseEnd (w : Wall) (u : Fin 16)   -- ACU_TIME_PULSE_END
  | tickAlignCheck (w : Wall)   -- TICK_ALIGN_CHECK
  | tickCorrection (w : Wall)   -- TICK_CORRECTION
  | wallHeartbeat (w : Wall)   -- WALL_HEARTBEAT
  | hubLogAppend   -- HUB_LOG_APPEND
  | wallEventRecord (w : Wall)   -- WALL_EVENT_RECORD
  | eventLost (w : Wall)   -- EVENT_LOST
  | wallSilent (w : Wall)   -- WALL_SILENT
  | packetInject (w : Wall) (r : Fin 24) (j : Fin 8) (p : Packet)   -- PACKET_INJECT
  | routerHeadEntry (w : Wall) (r : Fin 24) (p : Packet)   -- ROUTER_HEAD_ENTRY
  | crossingSwitchEntry (i : Fin 11) (p : Packet)   -- CROSSING_SWITCH_ENTRY
  | gatewayEntry (w : Wall) (p : Packet)   -- GATEWAY_ENTRY
  | tileWritePacket (x : TileRef) (p : Packet)   -- TILE_WRITE_PACKET
  | tileMessage (x : TileRef) (p : Packet)   -- TILE_MESSAGE
  | sramRead (w : Wall) (b : Fin 8) (p : Packet)   -- SRAM_READ
  | sramWrite (w : Wall) (b : Fin 8) (p : Packet)   -- SRAM_WRITE
  | registerBusAccess (w : Wall) (p : Packet)   -- REGISTER_BUS_ACCESS
  | linkUnitWrite (w : Wall) (n : Fin 16) (p : Packet)   -- LINK_UNIT_WRITE
  | hostWindowAccess (p : Packet)   -- HOST_WINDOW_ACCESS
  | answerReceipt (w : Wall) (r : Fin 24) (j : Fin 8) (p : Packet)   -- ANSWER_RECEIPT
  | bondEpochFlipWrite (m : Mid) (seg : Segment)   -- BOND_EPOCH_FLIP_WRITE
  | epochFlip (seg : Segment)   -- EPOCH_FLIP
  | routeTableWrite (m : Mid) (seg : Segment) (b : Bool) (r : Nat) (d : Nat) (v : Word)   -- ROUTE_TABLE_WRITE
  | slotTableWrite (m : Mid) (seg : Segment) (b : Bool) (r : Nat) (o : Nat) (j : Nat) (v : Word)   -- SLOT_TABLE_WRITE
  | gcCtrlWrite (m : Mid) (w : Wall) (c : Fin 64) (v : Word)   -- GC_CTRL_WRITE
  | biRingWrite (m : Mid) (x : TileRef) (v : Word)   -- BI_RING_WRITE
  | drainTimeout (d : Domain)   -- DRAIN_TIMEOUT
  | connectionRelease (d : Domain)   -- CONNECTION_RELEASE
  | frameRealign (w : Wall)   -- FRAME_REALIGN
  | sramPatrolRead (w : Wall) (b : Fin 8)   -- SRAM_PATROL_READ
  | sramRetWrite (m : Mid) (w : Wall) (v : Word)   -- SRAM_RET_WRITE
  | retentionEntry (w : Wall) (b : Fin 8)   -- RETENTION_ENTRY
  | retentionWake (w : Wall) (b : Fin 8)   -- RETENTION_WAKE
  | marchStart (m : Mid) (w : Wall) (v : Word)   -- MARCH_START
  | marchAbort (m : Mid) (w : Wall)   -- MARCH_ABORT
  | marchEnd (w : Wall) (b : Fin 8) (r : MarchResult)   -- MARCH_END
  | clockGlitch (w : Wall)   -- CLOCK_GLITCH
  | temperatureTamper (w : Wall)   -- TEMPERATURE_TAMPER
  | secureWipeDone (w : Wall)   -- SECURE_WIPE_DONE
  | secStatusWrite (m : Mid) (w : Wall) (v : Word)   -- SEC_STATUS_WRITE
  | gddrRead (w : Wall) (d : Fin 2) (p : Packet) (crc : Nat)   -- GDDR_READ
  | gddrWrite (w : Wall) (d : Fin 2) (p : Packet) (crc : Nat)   -- GDDR_WRITE
  | hdmRead (dpa : Nat) (excl : Bool) (crc : Nat)   -- HDM_READ
  | hdmWrite (dpa : Nat) (data : Bytes) (crc : Nat)   -- HDM_WRITE
  | backInvalidationResponse (w : Wall) (d : Fin 2) (line : Nat)   -- BACK_INVALIDATION_RESPONSE
  | gddrTracking (w : Wall) (d : Fin 2)   -- GDDR_TRACKING
  | gddrPatrol (w : Wall) (d : Fin 2)   -- GDDR_PATROL
  | gddrHot (w : Wall) (d : Fin 2) (temp : BitVec 8)   -- GDDR_HOT
  | gddrTrainingDone (w : Wall) (d : Fin 2)   -- GDDR_TRAINING_DONE
  | gdRegionWrite (m : Mid) (w : Wall) (d : Fin 2) (r : Fin 48) (v : Word)   -- GD_REGION_WRITE
  | regionModeChangeDone (w : Wall) (d : Fin 2) (r : Fin 48)   -- REGION_MODE_CHANGE_DONE
  | hdmFlushTimeout (w : Wall) (d : Fin 2)   -- HDM_FLUSH_TIMEOUT
  | gdUnstale (m : Mid) (w : Wall) (d : Fin 2)   -- GD_UNSTALE
  | lkCtrlWrite (m : Mid) (w : Wall) (n : Fin 16) (v : Word)   -- LK_CTRL_WRITE
  | linkTrainingDone (w : Wall) (n : Fin 16)   -- LINK_TRAINING_DONE
  | linkUp (w : Wall) (n : Fin 16)   -- LINK_UP
  | linkDown (w : Wall) (n : Fin 16)   -- LINK_DOWN
  | linkRxTimeout (w : Wall) (n : Fin 16)   -- LINK_RX_TIMEOUT
  | streamStartBlock (w : Wall) (n : Fin 16) (b : BitVec 64)   -- STREAM_START_BLOCK
  | streamSlotReceive (w : Wall) (n : Fin 16) (pos : Fin 64) (bits : BitVec 512)   -- STREAM_SLOT_RECEIVE
  | frameArrival (w : Wall) (n : Fin 16)   -- FRAME_ARRIVAL
  | lkSfGo (m : Mid) (w : Wall) (n : Fin 16)   -- LK_SF_GO
  | freeRunTrigger (w : Wall) (n : Fin 16)   -- FREE_RUN_TRIGGER
  | angleTransmitMatch (w : Wall) (n : Fin 16)   -- ANGLE_TRANSMIT_MATCH
  | ethFrameReceive (w : Wall) (n : Fin 16) (data : Bytes) (fcsOk : Bool)   -- ETH_FRAME_RECEIVE
  | ethTransmit (w : Wall) (n : Fin 16)   -- ETH_TRANSMIT
  | ptpAdjWrite (m : Mid) (w : Wall) (v : Word)   -- PTP_ADJ_WRITE
  | ptpNsRead (m : Mid) (w : Wall)   -- PTP_NS_READ
  | legacyFrameReceive (w : Wall) (n : Fin 16) (data : Bytes) (crcOk : Bool)   -- LEGACY_FRAME_RECEIVE
  | fieldPinEdge (w : Wall) (p : Fin 24) (rising : Bool)   -- FIELD_PIN_EDGE
  | fpTripSet (m : Mid) (w : Wall) (p : Fin 24)   -- FP_TRIP_SET
  | fpTripClr (m : Mid) (w : Wall) (p : Fin 24)   -- FP_TRIP_CLR
  | fpCfgWrite (m : Mid) (w : Wall) (p : Fin 24) (v : Word)   -- FP_CFG_WRITE
  | fpBankWrite (m : Mid) (w : Wall) (v : Word)   -- FP_BANK_WRITE
  | vioInvalid (w : Wall) (meas : BitVec 8)   -- VIO_INVALID
  | vioValid (w : Wall) (meas : BitVec 8)   -- VIO_VALID
  | fieldOutputReturn (w : Wall)   -- FIELD_OUTPUT_RETURN
  | chainPartnerChange (up : Bool) (present : Bool)   -- CHAIN_PARTNER_CHANGE
  | enum (pos : BitVec 8) (fromUp : Bool)   -- ENUM
  | tickSend   -- TICK_SEND
  | tick (t : Word)   -- TICK
  | image (fr : ChainFrame)   -- IMAGE
  | ack (fr : ChainFrame)   -- ACK
  | chainResendRound   -- CHAIN_RESEND_ROUND
  | healthSend   -- HEALTH_SEND
  | health (fr : ChainFrame)   -- HEALTH
  | recoveryFrame (fr : ChainFrame)   -- RECOVERY_FRAME
  | holdNRise   -- HOLD_N_RISE
  | doneOdRise   -- DONE_OD_RISE
  | doneOdWaitTimeout (w : Wall)   -- DONE_OD_WAIT_TIMEOUT
  | cxlLinkUp (flit256 : Bool) (width : BitVec 5) (rate : BitVec 4)   -- CXL_LINK_UP
  | cxlLinkDown   -- CXL_LINK_DOWN
  | functionLevelReset   -- FUNCTION_LEVEL_RESET
  | cxlReset   -- CXL_RESET
  | claimTake (m : Mid) (r : Nat)   -- CLAIM_TAKE
  | claimRelease (m : Mid) (r : Nat)   -- CLAIM_RELEASE
  | claimForce (m : Mid) (r : Nat)   -- CLAIM_FORCE
  | sqCfgWrite (m : Mid) (q : Fin 64) (v : Word)   -- SQ_CFG_WRITE
  | cqCfgWrite (m : Mid) (q : Fin 64) (v : Word)   -- CQ_CFG_WRITE
  | sqDb (m : Mid) (q : Fin 64) (v : Word)   -- SQ_DB
  | cqDb (m : Mid) (q : Fin 64) (v : Word)   -- CQ_DB
  | commandFetch (q : Fin 64) (ws : Words) (data : Bytes)   -- COMMAND_FETCH
  | fetchFail (q : Fin 64)   -- FETCH_FAIL
  | longCommandComplete (h : Word)   -- LONG_COMMAND_COMPLETE
  | nop (c : CmdCtx)   -- NOP
  | identify (c : CmdCtx)   -- IDENTIFY
  | cancel (c : CmdCtx)   -- CANCEL
  | settingGet (c : CmdCtx)   -- SETTING_GET
  | settingSet (c : CmdCtx)   -- SETTING_SET
  | logRead (c : CmdCtx)   -- LOG_READ
  | wallLoad (c : CmdCtx)   -- WALL_LOAD
  | wallReset (c : CmdCtx)   -- WALL_RESET
  | wallPowerOn (c : CmdCtx)   -- WALL_POWER_ON
  | wallPowerStandby (c : CmdCtx)   -- WALL_POWER_STANDBY
  | wallPowerOff (c : CmdCtx)   -- WALL_POWER_OFF
  | patternImage (c : CmdCtx) (ws : Words)   -- PATTERN_IMAGE
  | kilnSlotWrite (w : Wall)   -- KILN_SLOT_WRITE
  | capture (c : CmdCtx)   -- CAPTURE
  | march (c : CmdCtx)   -- MARCH
  | gddrRetrain (c : CmdCtx)   -- GDDR_RETRAIN
  | linkTrain (c : CmdCtx)   -- LINK_TRAIN
  | selfTestBrickBist (c : CmdCtx)   -- SELF_TEST_BRICK_BIST
  | selfTestMortarSpine (c : CmdCtx)   -- SELF_TEST_MORTAR_SPINE
  | selfTestTmemMarch (c : CmdCtx)   -- SELF_TEST_TMEM_MARCH
  | selfTestSramMarch (c : CmdCtx)   -- SELF_TEST_SRAM_MARCH
  | selfTestGddrPattern (c : CmdCtx)   -- SELF_TEST_GDDR_PATTERN
  | selfTestNearLoopback (c : CmdCtx)   -- SELF_TEST_NEAR_LOOPBACK
  | selfTestFarLoopback (c : CmdCtx)   -- SELF_TEST_FAR_LOOPBACK
  | selfTestBondRoute (c : CmdCtx)   -- SELF_TEST_BOND_ROUTE
  | selfTestAngleReference (c : CmdCtx)   -- SELF_TEST_ANGLE_REFERENCE
  | selfTestCxlLoopback (c : CmdCtx)   -- SELF_TEST_CXL_LOOPBACK
  | selfTestRegulatorCheck (c : CmdCtx)   -- SELF_TEST_REGULATOR_CHECK
  | fwStage (c : CmdCtx) (img : Image)   -- FW_STAGE
  | fwActivate (c : CmdCtx)   -- FW_ACTIVATE
  | activationPoint   -- ACTIVATION_POINT
  | trowelRestart   -- TROWEL_RESTART
  | trowelBoot (ok : Bool)   -- TROWEL_BOOT
  | trialCommit   -- TRIAL_COMMIT
  | xmodemBlock (data : Bytes)   -- XMODEM_BLOCK
  | rcvPush (m : Mid) (v : Word)   -- RCV_PUSH
  | rcvDone (m : Mid) (img : Image)   -- RCV_DONE
  | rcvAbort (m : Mid)   -- RCV_ABORT
  | trwRcvSend (m : Mid) (v : Word)   -- TRW_RCV_SEND
  | evrRdWrite (m : Mid) (v : Word)   -- EVR_RD_WRITE
  | msixUnmask (m : Mid) (n : Fin 128)   -- MSIX_UNMASK
  | evRaise (m : Mid) (v : Word)   -- EV_RAISE
  | kilnStreamPacket (w : Wall) (p : Packet)   -- KILN_STREAM_PACKET
  | kilnFrame (w : Wall) (ws : Words)   -- KILN_FRAME
  | endRecord (w : Wall) (ws : Words)   -- END_RECORD
  | bootLoad (w : Wall)   -- BOOT_LOAD
  | resetPhaseExit (w : Wall)   -- RESET_PHASE_EXIT
  | lockPhaseExit (w : Wall)   -- LOCK_PHASE_EXIT
  | loadZeroingDone (w : Wall)   -- LOAD_ZEROING_DONE
  | replayDone (w : Wall)   -- REPLAY_DONE
  | startUpStep (w : Wall)   -- START_UP_STEP
  | startupOrderWrite (m : Mid) (w : Wall) (v : Word)   -- STARTUP_ORDER_WRITE
  | scrubPassStart (w : Wall)   -- SCRUB_PASS_START
  | scrubFrameCheck (w : Wall)   -- SCRUB_FRAME_CHECK
  | scrubPassEnd (w : Wall)   -- SCRUB_PASS_END
  | scrubHeartbeat (w : Wall)   -- SCRUB_HEARTBEAT
  | ptCfgWrite (m : Mid) (w : Wall) (v : Word)   -- PT_CFG_WRITE
  | powerOn   -- POWER_ON
  | brownOut   -- BROWN_OUT
  | wallPowerUp (w : Wall)   -- WALL_POWER_UP
  | voltageCompare (mv : Samples)   -- VOLTAGE_COMPARE
  | telemetrySample (t : Telemetry)   -- TELEMETRY_SAMPLE
  | calibration (ok : Bool)   -- CALIBRATION
  | tamper (w : Wall)   -- TAMPER
  | currentLimit (r : RailRef)   -- CURRENT_LIMIT
  | wpwrGateWrite (m : Mid) (w : Wall) (v : Word)   -- WPWR_GATE_WRITE
  | courseWake (w : Wall) (c : Fin 16)   -- COURSE_WAKE
  | rstNAssert (ns : Nat)   -- RST_N_ASSERT
  | watchdog   -- WATCHDOG
  | watchdogCountClear   -- WATCHDOG_COUNT_CLEAR
  | clockStepPolicy (w : Wall)   -- CLOCK_STEP_POLICY
  | clockStep (w : Wall)   -- CLOCK_STEP
  | thermalStandby (w : Wall)   -- THERMAL_STANDBY
  | consoleOpen   -- CONSOLE_OPEN
  | consoleTimeout   -- CONSOLE_TIMEOUT
  | help   -- HELP
  | id   -- ID
  | pagePower   -- PAGE_POWER
  | pageMemory (w : Wall)   -- PAGE_MEMORY
  | pageWall (w : Wall)   -- PAGE_WALL
  | pageLink (w : Wall) (n : Fin 16)   -- PAGE_LINK
  | pagePin (w : Wall)   -- PAGE_PIN
  | pageChain   -- PAGE_CHAIN
  | pageEvent   -- PAGE_EVENT
  | pageHost   -- PAGE_HOST
  | reg (a : Nat) (n : Nat)   -- REG
  | log (p : Nat) (n : Nat)   -- LOG
  | meter (v : Word)   -- METER
  | test (t : BitVec 8) (w : Wall) (a : Word) (b : Word) (c : Word)   -- TEST
  | consoleMarch (w : Wall) (banks : BitVec 8) (alg : BitVec 2) (bg : BitVec 2)   -- CONSOLE_MARCH
  | loop (w : Wall) (n : Fin 16) (far : Bool) (sec : Word)   -- LOOP
  | consoleWallReset (w : Wall)   -- CONSOLE_WALL_RESET
  | consoleWallLoad (w : Wall) (e : BitVec 2)   -- CONSOLE_WALL_LOAD
  | consoleWallPower (w : Wall) (p : BitVec 2)   -- CONSOLE_WALL_POWER
  | raise (v : Word)   -- RAISE
  | safeEnter   -- SAFE_ENTER
  | safeExit   -- SAFE_EXIT
  | recovery   -- RECOVERY
  | quit   -- QUIT
  | svcMeterSelWrite (m : Mid) (v : Word)   -- SVC_METER_SEL_WRITE
  | svcMeterUpdate   -- SVC_METER_UPDATE
  | svcSafeEnter (m : Mid)   -- SVC_SAFE_ENTER
  | svcSafeExit (m : Mid)   -- SVC_SAFE_EXIT
  | extest   -- EXTEST
  | samplePreload   -- SAMPLE_PRELOAD
  | idcode   -- IDCODE
  | highz   -- HIGHZ
  | clamp   -- CLAMP
  | extestPulse   -- EXTEST_PULSE
  | extestTrain   -- EXTEST_TRAIN
  | wallScan (w : Wall)   -- WALL_SCAN
  | bypass   -- BYPASS
  | testLogicReset   -- TEST_LOGIC_RESET
  | illegalInstruction (x : TileRef) (iw : Word)   -- ILLEGAL_INSTRUCTION
  | angleAdvance (w : Wall) (n : Fin 4)   -- ANGLE_ADVANCE
  | cxlError (kind : BitVec 2) (aer : Word)   -- CXL_ERROR
  | holdNFall   -- HOLD_N_FALL
  | doneOdFall   -- DONE_OD_FALL
  | activationWithdrawn   -- ACTIVATION_WITHDRAWN
  | bootTimeExceeded   -- BOOT_TIME_EXCEEDED
  | registerRead (m : Mid) (a : Nat)   -- REGISTER_READ
  | reservedChainFrame (fr : ChainFrame)   -- RESERVED_CHAIN_FRAME
  deriving DecidableEq, Repr

end Sys2Proof
end

