-- ==== Sys2Proof/Decode.lean ====
section
/-!
DEFINITION. Decode.lean: the commands that the bits of the opcode table spell. The table gives bits to no row, so there
is no word to decode.
-/
namespace Sys2Proof

/-- The command that a word of `nbits` bits spells: none, since no row of the table carries bits. -/
def decodeTableWord (_nbits _w : Nat) : Option Instr := none

end Sys2Proof
end

