-- ==== Sys2Proof/Config.lean ====
section
/-!
DEFINITION. Config.lean: what one part fixes, and the free values: values the spec leaves open. A free value is an
opaque constant, applied to a counter that the state holds and the step advances (`State.fresh`), so that nothing can
be proved about which value it is.
-/
namespace Sys2Proof.Config
open Sys2Proof

/-- FREE VALUE: what a brick reads through a reserved source code (R28) when the word is not stopped by R59. -/
opaque freeSource : Nat → W24
/-- FREE VALUE: what a folded move delivers when TV is set and the tally is 0 (R49), by the accumulator's value. -/
opaque freeTv : BitVec 56 → W24
/-- FREE VALUE: which of two zeros of opposite sign FMIN and FMAX deliver (R154 gives no rule). -/
opaque freeZeroSign : Nat → BitVec 1
/-- FREE VALUE: whether RST_N low for 100 ns to 1 us causes a module reset or none (R561). -/
opaque freeReset : Nat → BitVec 1
/-- FREE VALUE: a 32-bit value that the spec leaves open. -/
opaque freeWord : Nat → Word
/-- FREE VALUE: a byte that the spec leaves open. -/
opaque freeByte : Nat → Byte
/-- FREE VALUE: the result of a step that the environment decides and no operand carries. -/
opaque freeBit : Nat → BitVec 1
/-- FREE VALUE: silicon revision (HUB_VERSION, R436). -/
opaque silicon : Nat → Word
/-- FREE VALUE: unit identity (UNIT_ID, R436). -/
opaque unitId : Nat → W64
/-- FREE VALUE: identifier of the verification key (SEC_KEY_ID, R504). -/
opaque keyId : Nat → Word

end Sys2Proof.Config
end

