-- ==== Sys2Proof/Machine/Bits.lean ====
section
/-!
DEFINITION. Machine/Bits.lean: bit fields, sign extension, exact-integer helpers and byte order.
Bit ranges are written [msb:lsb] and bit 0 is the least significant bit (00_scope).
-/
namespace Sys2Proof.Machine
open Sys2Proof

/-- A field of a word: its lowest bit and its width. -/
structure Fld where
  lo : Nat
  wd : Nat
  deriving DecidableEq, Repr

/-- The value of a field of a 32-bit word. -/
def fld (w : Word) (f : Fld) : Nat := (w.toNat >>> f.lo) % 2 ^ f.wd

/-- A word with one field replaced by `v` modulo the field's width. -/
def setFld (w : Word) (f : Fld) (v : Nat) : Word :=
  BitVec.ofNat 32
    (w.toNat % 2 ^ f.lo + ((v % 2 ^ f.wd) + (w.toNat >>> (f.lo + f.wd)) * 2 ^ f.wd) * 2 ^ f.lo)

/-- Bits [lo + n - 1 : lo] of a number. -/
def nbits (x lo n : Nat) : Nat := (x >>> lo) % 2 ^ n

/-- One bit of a number. -/
def nbit (x i : Nat) : Bool := (x >>> i) % 2 == 1

/-- A number with bit `i` set to `b`. -/
def setNbit (x i : Nat) (b : Bool) : Nat :=
  if nbit x i then (if b then x else x - 2 ^ i) else (if b then x + 2 ^ i else x)

/-- A field of a bit vector of any width. -/
def bvf {n : Nat} (w : BitVec n) (lo len : Nat) : Nat := (w.toNat >>> lo) % 2 ^ len

def b2n (b : Bool) : Nat := if b then 1 else 0

/-- The two's complement reading of the low `n` bits of `x`. -/
def sInt (n x : Nat) : Int :=
  let y := x % 2 ^ n
  if 2 * y < 2 ^ n then (y : Int) else (y : Int) - (2 ^ n : Nat)

/-- The low `n` bits of an integer, as a number. -/
def wrapN (n : Nat) (x : Int) : Nat := (x % (2 ^ n : Nat)).toNat

def fits24 (x : Int) : Bool := decide (-8388608 ≤ x) && decide (x ≤ 8388607)

def clamp24 (x : Int) : Int := if x < -8388608 then -8388608 else if 8388607 < x then 8388607 else x

def w24 (x : Int) : W24 := BitVec.ofNat 24 (wrapN 24 x)

def w32 (x : Int) : Word := BitVec.ofNat 32 (wrapN 32 x)

/-- The rounding modes of R53 on the exact value x / 2^p: 0 truncates (floor), 1 rounds half up,
2 rounds to nearest with ties to even; 3 is treated as 2. -/
def roundShift (x : Int) (p mode : Nat) : Int :=
  let d : Int := (2 ^ p : Nat)
  let q := x / d
  let r := x % d
  match mode with
  | 0 => q
  | 1 => if d ≤ 2 * r then q + 1 else q
  | _ => if 2 * r < d then q else if d < 2 * r then q + 1 else if q % 2 = 0 then q else q + 1

/-- Whether an integer lies in [lo, hi]. -/
def inRange (lo x hi : Nat) : Bool := decide (lo ≤ x) && decide (x ≤ hi)

def satAdd (w : Word) (n : Nat) : Word := BitVec.ofNat 32 (min 0xFFFFFFFF (w.toNat + n))

/-- A counter that saturates at 0xFFFF_FFFF takes one more. -/
def satInc (w : Word) : Word := satAdd w 1

/-- The bytes of a number, least significant first. -/
def leBytes : Nat → Nat → List Byte
  | 0, _ => []
  | k + 1, x => BitVec.ofNat 8 x :: leBytes k (x / 256)

/-- The number that bytes spell, least significant first. -/
def ofLeBytes : List Byte → Nat
  | [] => 0
  | b :: bs => b.toNat + 256 * ofLeBytes bs

/-- 32-bit words of a byte string, least significant byte first; a short last word is filled with 0. -/
def wordsOfBytes : List Byte → List Word
  | a :: b :: c :: d :: r => BitVec.ofNat 32 (ofLeBytes [a, b, c, d]) :: wordsOfBytes r
  | [] => []
  | r => [BitVec.ofNat 32 (ofLeBytes r)]

def bytesOfWords (ws : List Word) : List Byte := ws.flatMap (fun w => leBytes 4 w.toNat)

/-- The number that 32-bit words spell, first word least significant. -/
def ofWords : List Word → Nat
  | [] => 0
  | w :: ws => w.toNat + 4294967296 * ofWords ws

/-- The low `k` 32-bit words of a number, least significant first. -/
def toWords : Nat → Nat → List Word
  | 0, _ => []
  | k + 1, x => BitVec.ofNat 32 x :: toWords k (x / 4294967296)

/-- A CRC, most significant bit first over the given bits: width `n`, generator `poly` (without its top term). -/
def crcBits (n poly : Nat) : List Bool → Nat → Nat
  | [], c => c
  | b :: bs, c =>
    let top := nbit c (n - 1)
    let c' := (c * 2) % 2 ^ n
    crcBits n poly bs (if top != b then Nat.xor c' poly else c')

/-- The bits of a byte, most significant first. -/
def byteBitsMsb (b : Byte) : List Bool := [7, 6, 5, 4, 3, 2, 1, 0].map (fun i => nbit b.toNat i)

/-- The bits of a byte, least significant first. -/
def byteBitsLsb (b : Byte) : List Bool := [0, 1, 2, 3, 4, 5, 6, 7].map (fun i => nbit b.toNat i)

/-- How many bits of the low `n` bits of `x` are 1. -/
def popCount : Nat → Nat → Nat
  | 0, _ => 0
  | k + 1, x => x % 2 + popCount k (x / 2)

/-- The lowest index in a list of naturals at which `p` holds. -/
def firstIdx (p : Nat → Bool) : List Nat → Option Nat
  | [] => none
  | i :: is => if p i then some i else firstIdx p is

/-- How many leading zeros a 32-bit word has, 0 to 32. -/
def clz32 (w : Word) : Nat :=
  ((List.range 32).reverse.takeWhile (fun i => !nbit w.toNat i)).length

end Sys2Proof.Machine
end

