-- ==== Sys2Proof/Machine/RegMap.lean ====
section
/-!
DEFINITION. Machine/RegMap.lean: the register map of BAR0 (R408, R12) and the fields, types and reset values of every
register (the register tables of chapters 03 to 14). `R.NAME` is a register's BAR0 address from its wall and instance
numbers, `F.NAME_field` a field. A register's word in the state is held under its address.
-/
namespace Sys2Proof.Machine
open Sys2Proof

/-- The type codes of R13. -/
inductive RTy where
  | rw | ro | w1c | wo | rwl | rws
  deriving DecidableEq, Repr

/-- One field of a register table: lowest bit, width, type, reset value. -/
structure FieldDef where
  lo : Nat
  wd : Nat
  ty : RTy
  rst : Nat
  deriving DecidableEq, Repr

/-- One row of a register table: its offset in the region, its instances (count and stride) and its fields. -/
structure RegDef where
  off : Nat
  dims : List (Nat × Nat)
  fields : List FieldDef
  deriving DecidableEq, Repr

/-- The base of a wall's region (R12). -/
def wallBase (w : Nat) : Nat := 0x01000000 + w * 0x00400000

namespace R
def CAP_CTRL (w : Nat) : Nat := wallBase w + 0x20800
def CAP_TRIG_LO (w : Nat) : Nat := wallBase w + 0x20804
def CAP_TRIG_HI (w : Nat) : Nat := wallBase w + 0x20808
def CAP_STATUS (w : Nat) : Nat := wallBase w + 0x2080c
def CAP_EDGE_LO (w : Nat) : Nat := wallBase w + 0x20810
def CAP_EDGE_HI (w : Nat) : Nat := wallBase w + 0x20814
def TILE_ID (w i : Nat) : Nat := wallBase w + 0x100000 + i * 0x400
def PC_STATUS (w i : Nat) : Nat := wallBase w + 0x100004 + i * 0x400
def PC_WAYS_A (w i : Nat) : Nat := wallBase w + 0x100008 + i * 0x400
def PC_WAYS_B (w i : Nat) : Nat := wallBase w + 0x10000c + i * 0x400
def PC_PIN_A (w i : Nat) : Nat := wallBase w + 0x100010 + i * 0x400
def PC_PIN_B (w i : Nat) : Nat := wallBase w + 0x100014 + i * 0x400
def PC_INVAL (w i : Nat) : Nat := wallBase w + 0x100018 + i * 0x400
def PC_MISS_COUNT (w i : Nat) : Nat := wallBase w + 0x10001c + i * 0x400
def TMEM_CFG (w i : Nat) : Nat := wallBase w + 0x100020 + i * 0x400
def TMEM_COLL (w i : Nat) : Nat := wallBase w + 0x100024 + i * 0x400
def TMEM_COLL_COUNT (w i : Nat) : Nat := wallBase w + 0x100028 + i * 0x400
def SPINE_CFG (w i : Nat) : Nat := wallBase w + 0x10002c + i * 0x400
def SPINE_STATUS (w i : Nat) : Nat := wallBase w + 0x100030 + i * 0x400
def SPINE_COUNT (w i : Nat) : Nat := wallBase w + 0x100034 + i * 0x400
def FPORT_STATUS (w i : Nat) : Nat := wallBase w + 0x100038 + i * 0x400
def SEQ_STATUS (w i : Nat) : Nat := wallBase w + 0x100040 + i * 0x400
def SEQ_FAULT (w i : Nat) : Nat := wallBase w + 0x100044 + i * 0x400
def FPOWN (w i : Nat) : Nat := wallBase w + 0x100048 + i * 0x400
def FP_SWAP_COUNT (w i : Nat) : Nat := wallBase w + 0x10004c + i * 0x400
def WIN_SPILL_COUNT (w i : Nat) : Nat := wallBase w + 0x100050 + i * 0x400
def WIN_FILL_COUNT (w i : Nat) : Nat := wallBase w + 0x100054 + i * 0x400
def WHAND_CTRL (w i : Nat) : Nat := wallBase w + 0x100058 + i * 0x400
def SEQ_STALL_COUNT (w i : Nat) : Nat := wallBase w + 0x10005c + i * 0x400
def REPC_STATUS (w i : Nat) : Nat := wallBase w + 0x100060 + i * 0x400
def FD_CTRL (w f : Nat) : Nat := wallBase w + 0x8000 + f * 0x20
def FD_BIND (w f : Nat) : Nat := wallBase w + 0x8004 + f * 0x20
def FD_SCHED (w f : Nat) : Nat := wallBase w + 0x8008 + f * 0x20
def FD_WAKE (w f : Nat) : Nat := wallBase w + 0x800c + f * 0x20
def FD_TGT_LO (w f : Nat) : Nat := wallBase w + 0x8010 + f * 0x20
def FD_TGT_HI (w f : Nat) : Nat := wallBase w + 0x8014 + f * 0x20
def FD_IDX (w f : Nat) : Nat := wallBase w + 0x8018 + f * 0x20
def FD_STAT (w f : Nat) : Nat := wallBase w + 0x801c + f * 0x20
def DISP_CFG (w : Nat) : Nat := wallBase w + 0x0
def DISP_STATUS (w : Nat) : Nat := wallBase w + 0x4
def DISP_CMD (w : Nat) : Nat := wallBase w + 0x8
def DISP_CMD_STATUS (w : Nat) : Nat := wallBase w + 0xc
def DISP_DOORBELL (w : Nat) : Nat := wallBase w + 0x10
def DISP_LATE_COUNT (w : Nat) : Nat := wallBase w + 0x14
def DISP_OVERRUN_COUNT (w : Nat) : Nat := wallBase w + 0x18
def DISP_SKIP_COUNT (w : Nat) : Nat := wallBase w + 0x1c
def DISP_EVENT (w : Nat) : Nat := wallBase w + 0x20
def DISP_NEAR_PEAK (w : Nat) : Nat := wallBase w + 0x24
def FW_CTRL (w n : Nat) : Nat := wallBase w + 0x1000 + n * 0x10
def FW_RANGE (w n : Nat) : Nat := wallBase w + 0x1004 + n * 0x10
def FW_THRESH (w n : Nat) : Nat := wallBase w + 0x1008 + n * 0x10
def FW_COUNT (w n : Nat) : Nat := wallBase w + 0x100c + n * 0x10
def LS_CTRL (w l : Nat) : Nat := wallBase w + 0x2000 + l * 0x20
def LS_COURSES (w l : Nat) : Nat := wallBase w + 0x2004 + l * 0x20
def LS_SLOTS (w l : Nat) : Nat := wallBase w + 0x2008 + l * 0x20
def LS_FLOWS (w l : Nat) : Nat := wallBase w + 0x200c + l * 0x20
def LS_LINKS (w l : Nat) : Nat := wallBase w + 0x2010 + l * 0x20
def LS_SRAM (w l : Nat) : Nat := wallBase w + 0x2014 + l * 0x20
def HOD_CFG (w : Nat) : Nat := wallBase w + 0x10000
def HOD_FREE (w : Nat) : Nat := wallBase w + 0x10004
def HOD_LOW (w : Nat) : Nat := wallBase w + 0x10008
def HOD_EVENT (w : Nat) : Nat := wallBase w + 0x1000c
def HOD_RESTORE_COUNT (w : Nat) : Nat := wallBase w + 0x10010
def HOD_SAVE_COUNT (w : Nat) : Nat := wallBase w + 0x10014
def HOD_EVICT_COUNT (w : Nat) : Nat := wallBase w + 0x10018
def HOD_HOME (w f t : Nat) : Nat := wallBase w + 0x14000 + f * 0x20 + t * 0x4
def ANG_CFG (w n : Nat) : Nat := wallBase w + 0x70000 + n * 0x40
def ANG_SCALE (w n : Nat) : Nat := wallBase w + 0x70004 + n * 0x40
def ANG_PINS (w n : Nat) : Nat := wallBase w + 0x70008 + n * 0x40
def ANG_LOSS (w n : Nat) : Nat := wallBase w + 0x7000c + n * 0x40
def ANG_OVS (w n : Nat) : Nat := wallBase w + 0x70010 + n * 0x40
def ANG_VAL_LO (w n : Nat) : Nat := wallBase w + 0x70014 + n * 0x40
def ANG_VAL_HI (w n : Nat) : Nat := wallBase w + 0x70018 + n * 0x40
def ANG_VEL (w n : Nat) : Nat := wallBase w + 0x7001c + n * 0x40
def ANG_EDGE_LO (w n : Nat) : Nat := wallBase w + 0x70020 + n * 0x40
def ANG_EDGE_HI (w n : Nat) : Nat := wallBase w + 0x70024 + n * 0x40
def ANG_STATUS (w n : Nat) : Nat := wallBase w + 0x70028 + n * 0x40
def ANG_ERR_COUNT (w n : Nat) : Nat := wallBase w + 0x7002c + n * 0x40
def ANG_SET_LO (w n : Nat) : Nat := wallBase w + 0x70030 + n * 0x40
def ANG_SET_HI (w n : Nat) : Nat := wallBase w + 0x70034 + n * 0x40
def ANG_CMD (w n : Nat) : Nat := wallBase w + 0x70038 + n * 0x40
def ACU_CTRL (w u : Nat) : Nat := wallBase w + 0x70400 + u * 0x20
def ACU_A_LO (w u : Nat) : Nat := wallBase w + 0x70404 + u * 0x20
def ACU_A_HI (w u : Nat) : Nat := wallBase w + 0x70408 + u * 0x20
def ACU_IDX (w u : Nat) : Nat := wallBase w + 0x7040c + u * 0x20
def ACU_B (w u : Nat) : Nat := wallBase w + 0x70410 + u * 0x20
def ACU_STATUS (w u : Nat) : Nat := wallBase w + 0x70414 + u * 0x20
def ACU_COUNT (w u : Nat) : Nat := wallBase w + 0x70418 + u * 0x20
def ANG_STAMP (w : Nat) : Nat := wallBase w + 0x70800
def WTICK_LO (w : Nat) : Nat := wallBase w + 0x70804
def WTICK_HI (w : Nat) : Nat := wallBase w + 0x70808
def WTICK_STATUS (w : Nat) : Nat := wallBase w + 0x7080c
def MT_TICK_LO : Nat := 0x30000
def MT_TICK_HI : Nat := 0x30004
def MT_ALIGN : Nat := 0x30008
def ASH_SRC (w n : Nat) : Nat := 0x30100 + w * 0x10 + n * 0x4
def BOND_EPOCH (w : Nat) : Nat := wallBase w + 0x40000
def BOND_FRAME (w : Nat) : Nat := wallBase w + 0x40004
def BOND_DOMAIN (w : Nat) : Nat := wallBase w + 0x40008
def BOND_EVENT (w : Nat) : Nat := wallBase w + 0x4000c
def BOND_NACK_COUNT (w : Nat) : Nat := wallBase w + 0x40010
def BOND_GMISS_COUNT (w : Nat) : Nat := wallBase w + 0x40014
def BOND_GDROP_COUNT (w : Nat) : Nat := wallBase w + 0x40018
def BOND_DISCARD_COUNT (w : Nat) : Nat := wallBase w + 0x4001c
def BOND_LOST_COUNT (w : Nat) : Nat := wallBase w + 0x40020
def BOND_ROUTE (w b r d : Nat) : Nat := wallBase w + 0x41000 + b * 0x1000 + r * 0x80 + d * 0x4
def BI_RING (w i : Nat) : Nat := wallBase w + 0x44000 + i * 0x10
def BI_WPTR (w i : Nat) : Nat := wallBase w + 0x44004 + i * 0x10
def BI_STATUS (w i : Nat) : Nat := wallBase w + 0x44008 + i * 0x10
def GC_CTRL (w c : Nat) : Nat := wallBase w + 0x45000 + c * 0x10
def GC_DST (w c : Nat) : Nat := wallBase w + 0x45004 + c * 0x10
def GC_STAT (w c : Nat) : Nat := wallBase w + 0x45008 + c * 0x10
def BOND_SLOT (w b r o j : Nat) : Nat := wallBase w + 0x46000 + b * 0x4800 + r * 0x300 + o * 0x40 + j * 0x4
def XS_EPOCH : Nat := 0x80000
def XS_WSTATE : Nat := 0x80004
def XS_EVENT : Nat := 0x80008
def XS_NACK_COUNT : Nat := 0x8000c
def XS_DEGRADE_COUNT : Nat := 0x80010
def XS_DISCARD_COUNT : Nat := 0x80014
def XS_LOST_COUNT : Nat := 0x80018
def XS_ROUTE (b i : Nat) : Nat := 0x80800 + b * 0x40 + i * 0x4
def XS_SLOT (b o j : Nat) : Nat := 0x81000 + b * 0x400 + o * 0x40 + j * 0x4
def XS_HWIN_LO (k : Nat) : Nat := 0x82000 + k * 0x10
def XS_HWIN_HI (k : Nat) : Nat := 0x82004 + k * 0x10
def XS_HWIN_SIZE (k : Nat) : Nat := 0x82008 + k * 0x10
def SRAM_STATUS (w : Nat) : Nat := wallBase w + 0x50000
def SRAM_RET (w : Nat) : Nat := wallBase w + 0x50004
def SRAM_PATROL (w : Nat) : Nat := wallBase w + 0x50008
def SRAM_EVENT (w : Nat) : Nat := wallBase w + 0x5000c
def SRAM_CE_COUNT (w : Nat) : Nat := wallBase w + 0x50010
def SRAM_UE_COUNT (w : Nat) : Nat := wallBase w + 0x50014
def SRAM_DENY_COUNT (w : Nat) : Nat := wallBase w + 0x50018
def SRAM_UE_ADDR (w : Nat) : Nat := wallBase w + 0x5001c
def SRAM_DENY_INFO (w : Nat) : Nat := wallBase w + 0x50020
def SRAM_DENY_ADDR (w : Nat) : Nat := wallBase w + 0x50024
def SRAM_LOCK (w : Nat) : Nat := wallBase w + 0x50028
def SEC_STATUS (w : Nat) : Nat := wallBase w + 0x50030
def MARCH_CTRL (w : Nat) : Nat := wallBase w + 0x50200
def MARCH_STATUS (w : Nat) : Nat := wallBase w + 0x50204
def MARCH_BOOT (w : Nat) : Nat := wallBase w + 0x50208
def SRAM_ACC_A (w b : Nat) : Nat := wallBase w + 0x50100 + b * 0x20
def SRAM_ACC_B (w b : Nat) : Nat := wallBase w + 0x50104 + b * 0x20
def SRAM_ACC_C (w b : Nat) : Nat := wallBase w + 0x50108 + b * 0x20
def SRAM_ACC_D (w b : Nat) : Nat := wallBase w + 0x5010c + b * 0x20
def SRAM_PATROL_POS (w b : Nat) : Nat := wallBase w + 0x50110 + b * 0x20
def MARCH_FAIL_ADDR (w b : Nat) : Nat := wallBase w + 0x50240 + b * 0x10
def MARCH_FAIL_COUNT (w b : Nat) : Nat := wallBase w + 0x50244 + b * 0x10
def GD_CFG (w : Nat) : Nat := wallBase w + 0x60000
def GD_LOCK (w : Nat) : Nat := wallBase w + 0x60004
def GD_STATUS (w d : Nat) : Nat := wallBase w + 0x60100 + d * 0x40
def GD_CMD (w d : Nat) : Nat := wallBase w + 0x60104 + d * 0x40
def GD_CRC_COUNT (w d : Nat) : Nat := wallBase w + 0x60108 + d * 0x40
def GD_CE_COUNT (w d : Nat) : Nat := wallBase w + 0x6010c + d * 0x40
def GD_UE_COUNT (w d : Nat) : Nat := wallBase w + 0x60110 + d * 0x40
def GD_UE_ADDR_LO (w d : Nat) : Nat := wallBase w + 0x60114 + d * 0x40
def GD_UE_ADDR_HI (w d : Nat) : Nat := wallBase w + 0x60118 + d * 0x40
def GD_BI_COUNT (w d : Nat) : Nat := wallBase w + 0x6011c + d * 0x40
def GD_BI_MAXLAT (w d : Nat) : Nat := wallBase w + 0x60120 + d * 0x40
def GD_FILTER (w d : Nat) : Nat := wallBase w + 0x60124 + d * 0x40
def GD_EVENT (w d : Nat) : Nat := wallBase w + 0x60128 + d * 0x40
def GD_DENY_COUNT (w d : Nat) : Nat := wallBase w + 0x6012c + d * 0x40
def GD_DENY_INFO (w d : Nat) : Nat := wallBase w + 0x60130 + d * 0x40
def GD_REGION (w d r : Nat) : Nat := wallBase w + 0x61000 + d * 0x600 + r * 0x20
def GD_ACC_A (w d r : Nat) : Nat := wallBase w + 0x61004 + d * 0x600 + r * 0x20
def GD_ACC_B (w d r : Nat) : Nat := wallBase w + 0x61008 + d * 0x600 + r * 0x20
def GD_ACC_C (w d r : Nat) : Nat := wallBase w + 0x6100c + d * 0x600 + r * 0x20
def GD_ACC_D (w d r : Nat) : Nat := wallBase w + 0x61010 + d * 0x600 + r * 0x20
def LK_CTRL (w n : Nat) : Nat := wallBase w + 0x80000 + n * 0x1000
def LK_STATUS (w n : Nat) : Nat := wallBase w + 0x80004 + n * 0x1000
def LK_EVENT (w n : Nat) : Nat := wallBase w + 0x80008 + n * 0x1000
def LK_RATE (w n : Nat) : Nat := wallBase w + 0x8000c + n * 0x1000
def LK_RX_TIMEOUT (w n : Nat) : Nat := wallBase w + 0x80010 + n * 0x1000
def LK_PRBS (w n : Nat) : Nat := wallBase w + 0x80014 + n * 0x1000
def LK_SF_CFG (w n : Nat) : Nat := wallBase w + 0x80040 + n * 0x1000
def LK_SF_OFS (w n : Nat) : Nat := wallBase w + 0x80044 + n * 0x1000
def LK_SF_REV (w n : Nat) : Nat := wallBase w + 0x80048 + n * 0x1000
def LK_SF_IDX (w n : Nat) : Nat := wallBase w + 0x8004c + n * 0x1000
def LK_SF_PERIOD (w n : Nat) : Nat := wallBase w + 0x80050 + n * 0x1000
def LK_SF_GO (w n : Nat) : Nat := wallBase w + 0x80054 + n * 0x1000
def LK_LG_CFG (w n : Nat) : Nat := wallBase w + 0x80060 + n * 0x1000
def LK_ETH_CFG (w n : Nat) : Nat := wallBase w + 0x80080 + n * 0x1000
def LK_ETH_MAC_LO (w n : Nat) : Nat := wallBase w + 0x80084 + n * 0x1000
def LK_ETH_MAC_HI (w n : Nat) : Nat := wallBase w + 0x80088 + n * 0x1000
def LK_ETH_DROP_COUNT (w n : Nat) : Nat := wallBase w + 0x800ac + n * 0x1000
def LK_PTP_LAT (w n : Nat) : Nat := wallBase w + 0x800b0 + n * 0x1000
def LK_DOWN_COUNT (w n : Nat) : Nat := wallBase w + 0x80020 + n * 0x1000
def LK_CRC_COUNT (w n : Nat) : Nat := wallBase w + 0x80024 + n * 0x1000
def LK_FMT_COUNT (w n : Nat) : Nat := wallBase w + 0x80028 + n * 0x1000
def LK_RXOVF_COUNT (w n : Nat) : Nat := wallBase w + 0x8002c + n * 0x1000
def LK_RXDROP_COUNT (w n : Nat) : Nat := wallBase w + 0x80030 + n * 0x1000
def LK_RXFRAME_COUNT (w n : Nat) : Nat := wallBase w + 0x80034 + n * 0x1000
def LK_TXFRAME_COUNT (w n : Nat) : Nat := wallBase w + 0x80038 + n * 0x1000
def LK_TXOVR_COUNT (w n : Nat) : Nat := wallBase w + 0x8003c + n * 0x1000
def LK_ETH_RXBASE (w n : Nat) : Nat := wallBase w + 0x8008c + n * 0x1000
def LK_ETH_RXSIZE (w n : Nat) : Nat := wallBase w + 0x80090 + n * 0x1000
def LK_ETH_RXWR (w n : Nat) : Nat := wallBase w + 0x80094 + n * 0x1000
def LK_ETH_RXRD (w n : Nat) : Nat := wallBase w + 0x80098 + n * 0x1000
def LK_ETH_TXBASE (w n : Nat) : Nat := wallBase w + 0x8009c + n * 0x1000
def LK_ETH_TXSIZE (w n : Nat) : Nat := wallBase w + 0x800a0 + n * 0x1000
def LK_ETH_TXWR (w n : Nat) : Nat := wallBase w + 0x800a4 + n * 0x1000
def LK_ETH_TXRD (w n : Nat) : Nat := wallBase w + 0x800a8 + n * 0x1000
def LK_RXS_DST (w n s : Nat) : Nat := wallBase w + 0x80400 + n * 0x1000 + s * 0x10
def LK_RXS_ADDR (w n s : Nat) : Nat := wallBase w + 0x80404 + n * 0x1000 + s * 0x10
def LK_TXS_CFG (w n s : Nat) : Nat := wallBase w + 0x80408 + n * 0x1000 + s * 0x10
def LK_SLOT_STAT (w n s : Nat) : Nat := wallBase w + 0x8040c + n * 0x1000 + s * 0x10
def PTP_SEC_LO (w : Nat) : Nat := wallBase w + 0x90000
def PTP_SEC_HI (w : Nat) : Nat := wallBase w + 0x90004
def PTP_NS (w : Nat) : Nat := wallBase w + 0x90008
def PTP_INC (w : Nat) : Nat := wallBase w + 0x9000c
def PTP_ADJ (w : Nat) : Nat := wallBase w + 0x90010
def FP_CFG (w p : Nat) : Nat := wallBase w + 0xa0000 + p * 0x10
def FP_TRIP (w p : Nat) : Nat := wallBase w + 0xa0004 + p * 0x10
def FP_TRIPMASK (w p : Nat) : Nat := wallBase w + 0xa0008 + p * 0x10
def FP_COUNT (w p : Nat) : Nat := wallBase w + 0xa000c + p * 0x10
def FP_BANK (w : Nat) : Nat := wallBase w + 0xa0200
def FP_LEVEL (w : Nat) : Nat := wallBase w + 0xa0204
def CHN_CFG : Nat := 0x90400
def CHN_STATUS : Nat := 0x90404
def CHN_TICK : Nat := 0x90408
def CHN_ERR_COUNT : Nat := 0x9040c
def CHN_EVENT : Nat := 0x90410
def HUB_ID : Nat := 0x0
def HUB_VERSION : Nat := 0x4
def UNIT_ID_LO : Nat := 0x8
def UNIT_ID_HI : Nat := 0xc
def SQ_BASE_LO (q : Nat) : Nat := 0x10000 + q * 0x20
def SQ_BASE_HI (q : Nat) : Nat := 0x10004 + q * 0x20
def SQ_CFG (q : Nat) : Nat := 0x10008 + q * 0x20
def SQ_PASID (q : Nat) : Nat := 0x1000c + q * 0x20
def SQ_HEAD (q : Nat) : Nat := 0x10010 + q * 0x20
def CQ_BASE_LO (q : Nat) : Nat := 0x10800 + q * 0x20
def CQ_BASE_HI (q : Nat) : Nat := 0x10804 + q * 0x20
def CQ_CFG (q : Nat) : Nat := 0x10808 + q * 0x20
def CQ_PASID (q : Nat) : Nat := 0x1080c + q * 0x20
def CQ_TAIL (q : Nat) : Nat := 0x10810 + q * 0x20
def SQ_DB (q : Nat) : Nat := 0x18000 + q * 0x8
def CQ_DB (q : Nat) : Nat := 0x18004 + q * 0x8
def CMD_STATUS : Nat := 0x1c000
def EM_HUB (s : Nat) : Nat := 0x20000 + s * 0x4
def EM_WALL (w s : Nat) : Nat := 0x20100 + w * 0x80 + s * 0x4
def MSIX_ADDR_LO (n : Nat) : Nat := 0x21000 + n * 0x10
def MSIX_ADDR_HI (n : Nat) : Nat := 0x21004 + n * 0x10
def MSIX_DATA (n : Nat) : Nat := 0x21008 + n * 0x10
def MSIX_CTRL (n : Nat) : Nat := 0x2100c + n * 0x10
def MSIX_PBA (j : Nat) : Nat := 0x21800 + j * 0x4
def EVR_BASE_LO : Nat := 0x22000
def EVR_BASE_HI : Nat := 0x22004
def EVR_CFG : Nat := 0x22008
def EVR_PASID : Nat := 0x2200c
def EVR_WR : Nat := 0x22010
def EVR_RD : Nat := 0x22014
def EVR_LOST_COUNT : Nat := 0x22018
def LOG_POS_LO : Nat := 0x22020
def LOG_POS_HI : Nat := 0x22024
def EV_RAISE : Nat := 0x22028
def RB_ACC_A (h : Nat) : Nat := 0x70000 + h * 0x10
def WB_ACC_A (w k : Nat) : Nat := 0x70100 + w * 0xc0 + k * 0x10
def LK_ACC_A (n : Nat) : Nat := 0x71000 + n * 0x10
def RB_ACC_B (h : Nat) : Nat := 0x70004 + h * 0x10
def WB_ACC_B (w k : Nat) : Nat := 0x70104 + w * 0xc0 + k * 0x10
def LK_ACC_B (n : Nat) : Nat := 0x71004 + n * 0x10
def RB_ACC_C (h : Nat) : Nat := 0x70008 + h * 0x10
def WB_ACC_C (w k : Nat) : Nat := 0x70108 + w * 0xc0 + k * 0x10
def LK_ACC_C (n : Nat) : Nat := 0x71008 + n * 0x10
def RB_ACC_D (h : Nat) : Nat := 0x7000c + h * 0x10
def WB_ACC_D (w k : Nat) : Nat := 0x7010c + w * 0xc0 + k * 0x10
def LK_ACC_D (n : Nat) : Nat := 0x7100c + n * 0x10
def HUB_ACC_LOCK : Nat := 0x70f00
def HG_MAP (g : Nat) : Nat := 0x76000 + g * 0x4
def REG_STAT (g : Nat) : Nat := 0x77000 + g * 0x8
def REG_STAT_ADDR (g : Nat) : Nat := 0x77004 + g * 0x8
def CLAIM (w k : Nat) : Nat := 0x78000 + w * 0x100 + k * 0x4
def CLAIM_SVC (k : Nat) : Nat := 0x78800 + k * 0x4
def WEV_STATUS (w : Nat) : Nat := wallBase w + 0xf0000
def WEV_SEQ (w : Nat) : Nat := wallBase w + 0xf0004
def WEV_LOST_COUNT (w : Nat) : Nat := wallBase w + 0xf0008
def WEV_LOG_BASE (w : Nat) : Nat := wallBase w + 0xf000c
def WEV_LOG_SIZE (w : Nat) : Nat := wallBase w + 0xf0010
def WEV_LOG_WR (w : Nat) : Nat := wallBase w + 0xf0014
def KILN_STATUS (w : Nat) : Nat := wallBase w + 0x20000
def STARTUP_ORDER (w : Nat) : Nat := wallBase w + 0x20004
def KILN_DONE_TO (w : Nat) : Nat := wallBase w + 0x20008
def KILN_IMAGE (w : Nat) : Nat := wallBase w + 0x2000c
def KILN_FRAME_COUNT (w : Nat) : Nat := wallBase w + 0x20010
def KILN_SKIP_COUNT (w : Nat) : Nat := wallBase w + 0x20014
def KILN_ERR (w : Nat) : Nat := wallBase w + 0x20018
def KILN_ERR_LOC (w : Nat) : Nat := wallBase w + 0x2001c
def KILN_BOOT (w : Nat) : Nat := wallBase w + 0x20020
def KILN_LOAD_TIME (w : Nat) : Nat := wallBase w + 0x20024
def KILN_REPLAY (w : Nat) : Nat := wallBase w + 0x20028
def PT_CFG (w : Nat) : Nat := wallBase w + 0x30000
def PT_POLICY (w : Nat) : Nat := wallBase w + 0x30004
def PT_STATUS (w : Nat) : Nat := wallBase w + 0x30008
def PT_PASS_COUNT (w : Nat) : Nat := wallBase w + 0x3000c
def PT_PASS_TIME (w : Nat) : Nat := wallBase w + 0x30010
def PT_CE_COUNT (w : Nat) : Nat := wallBase w + 0x30014
def PT_UE_COUNT (w : Nat) : Nat := wallBase w + 0x30018
def PT_UE_LOC (w : Nat) : Nat := wallBase w + 0x3001c
def PT_EVENT (w : Nat) : Nat := wallBase w + 0x30020
def PT_VOTE_COUNT (w : Nat) : Nat := wallBase w + 0x30024
def PT_OVERRUN_COUNT (w : Nat) : Nat := wallBase w + 0x30028
def PT_HB_COUNT (w : Nat) : Nat := wallBase w + 0x3002c
def TRW_STATUS : Nat := 0x40000
def TRW_BOOT : Nat := 0x4000c
def TRW_FWD : Nat := 0x40010
def TRW_ACT : Nat := 0x40014
def TRW_ACT_AT : Nat := 0x40018
def TRW_RCV_SEND : Nat := 0x4001c
def RCV_CTRL : Nat := 0x49000
def RCV_STATUS : Nat := 0x49004
def RCV_COUNT : Nat := 0x49008
def TRW_SLOT (k : Nat) : Nat := 0x40004 + k * 0x4
def TRW_CHAIN (p : Nat) : Nat := 0x40100 + p * 0x4
def RCV_WIN (j : Nat) : Nat := 0x48000 + j * 0x4
def SEC_LC : Nat := 0x60000
def SEC_KEY_ID : Nat := 0x60004
def PWR_STATUS : Nat := 0x50000
def PWR_CAUSE : Nat := 0x50004
def PWR_WDT : Nat := 0x50008
def PWR_FAN : Nat := 0x5000c
def TEL_VIN : Nat := 0x50010
def TEL_IIN : Nat := 0x50014
def TEL_PIN : Nat := 0x50018
def TEL_COUNT : Nat := 0x5001c
def MON_CFG (m : Nat) : Nat := 0x50100 + m * 0x10
def MON_LIM (m : Nat) : Nat := 0x50104 + m * 0x10
def MON_VALUE (m : Nat) : Nat := 0x50108 + m * 0x10
def MON_PEAK (m : Nat) : Nat := 0x5010c + m * 0x10
def WPWR_CTRL (w : Nat) : Nat := 0x51000 + w * 0x40
def WPWR_GATE (w : Nat) : Nat := 0x51004 + w * 0x40
def WPWR_CLK (w : Nat) : Nat := 0x51008 + w * 0x40
def WPWR_POWER (w : Nat) : Nat := 0x5100c + w * 0x40
def WPWR_STEP_COUNT (w : Nat) : Nat := 0x51010 + w * 0x40
def SVC_METER_SEL : Nat := 0x90000
def SVC_METER_MV : Nat := 0x90004
def SVC_VERDICT : Nat := 0x90008
def SVC_CONSOLE : Nat := 0x9000c
def SVC_SAFE : Nat := 0x90010

end R

namespace F
def CAP_CTRL_arm : Fld := ⟨0, 1⟩
def CAP_CTRL_trig : Fld := ⟨1, 2⟩
def CAP_CTRL_ang : Fld := ⟨3, 2⟩
def CAP_CTRL_discard : Fld := ⟨5, 1⟩
def CAP_TRIG_LO_value : Fld := ⟨0, 32⟩
def CAP_TRIG_HI_value : Fld := ⟨0, 32⟩
def CAP_STATUS_state : Fld := ⟨0, 2⟩
def CAP_STATUS_late : Fld := ⟨2, 1⟩
def CAP_EDGE_LO_tick : Fld := ⟨0, 32⟩
def CAP_EDGE_HI_tick : Fld := ⟨0, 32⟩
def TILE_ID_tile : Fld := ⟨0, 3⟩
def TILE_ID_course : Fld := ⟨3, 4⟩
def TILE_ID_wall : Fld := ⟨7, 3⟩
def PC_STATUS_cur_way : Fld := ⟨0, 3⟩
def PC_STATUS_cur_slot : Fld := ⟨3, 7⟩
def PC_STATUS_stalled : Fld := ⟨10, 1⟩
def PC_STATUS_refill_busy : Fld := ⟨11, 1⟩
def PC_STATUS_refill_way : Fld := ⟨12, 3⟩
def PC_STATUS_valid : Fld := ⟨16, 8⟩
def PC_STATUS_tag : Fld := ⟨24, 8⟩
def PC_WAYS_A_slot0 : Fld := ⟨0, 7⟩
def PC_WAYS_A_slot1 : Fld := ⟨8, 7⟩
def PC_WAYS_A_slot2 : Fld := ⟨16, 7⟩
def PC_WAYS_A_slot3 : Fld := ⟨24, 7⟩
def PC_WAYS_A_v0 : Fld := ⟨7, 1⟩
def PC_WAYS_A_v1 : Fld := ⟨15, 1⟩
def PC_WAYS_A_v2 : Fld := ⟨23, 1⟩
def PC_WAYS_A_v3 : Fld := ⟨31, 1⟩
def PC_WAYS_B_slot0 : Fld := ⟨0, 7⟩
def PC_WAYS_B_v0 : Fld := ⟨7, 1⟩
def PC_WAYS_B_slot1 : Fld := ⟨8, 7⟩
def PC_WAYS_B_v1 : Fld := ⟨15, 1⟩
def PC_WAYS_B_slot2 : Fld := ⟨16, 7⟩
def PC_WAYS_B_v2 : Fld := ⟨23, 1⟩
def PC_WAYS_B_slot3 : Fld := ⟨24, 7⟩
def PC_WAYS_B_v3 : Fld := ⟨31, 1⟩
def PC_PIN_A_slot0 : Fld := ⟨0, 7⟩
def PC_PIN_A_slot1 : Fld := ⟨8, 7⟩
def PC_PIN_A_slot2 : Fld := ⟨16, 7⟩
def PC_PIN_A_slot3 : Fld := ⟨24, 7⟩
def PC_PIN_A_v0 : Fld := ⟨7, 1⟩
def PC_PIN_A_v1 : Fld := ⟨15, 1⟩
def PC_PIN_A_v2 : Fld := ⟨23, 1⟩
def PC_PIN_A_v3 : Fld := ⟨31, 1⟩
def PC_PIN_B_slot : Fld := ⟨0, 7⟩
def PC_PIN_B_v : Fld := ⟨7, 1⟩
def PC_INVAL_ways : Fld := ⟨0, 8⟩
def PC_MISS_COUNT_count : Fld := ⟨0, 32⟩
def TMEM_CFG_aspect0 : Fld := ⟨0, 2⟩
def TMEM_CFG_aspect1 : Fld := ⟨8, 2⟩
def TMEM_CFG_aspect2 : Fld := ⟨16, 2⟩
def TMEM_CFG_aspect3 : Fld := ⟨24, 2⟩
def TMEM_CFG_rdw_a0 : Fld := ⟨2, 2⟩
def TMEM_CFG_rdw_a1 : Fld := ⟨10, 2⟩
def TMEM_CFG_rdw_a2 : Fld := ⟨18, 2⟩
def TMEM_CFG_rdw_a3 : Fld := ⟨26, 2⟩
def TMEM_CFG_rdw_b0 : Fld := ⟨4, 2⟩
def TMEM_CFG_rdw_b1 : Fld := ⟨12, 2⟩
def TMEM_CFG_rdw_b2 : Fld := ⟨20, 2⟩
def TMEM_CFG_rdw_b3 : Fld := ⟨28, 2⟩
def TMEM_CFG_coll0 : Fld := ⟨6, 2⟩
def TMEM_CFG_coll1 : Fld := ⟨14, 2⟩
def TMEM_CFG_coll2 : Fld := ⟨22, 2⟩
def TMEM_CFG_coll3 : Fld := ⟨30, 2⟩
def TMEM_COLL_coll : Fld := ⟨0, 4⟩
def TMEM_COLL_COUNT_count : Fld := ⟨0, 32⟩
def SPINE_CFG_mode0 : Fld := ⟨0, 2⟩
def SPINE_CFG_mode1 : Fld := ⟨2, 2⟩
def SPINE_CFG_mode2 : Fld := ⟨4, 2⟩
def SPINE_CFG_mode3 : Fld := ⟨6, 2⟩
def SPINE_CFG_mode4 : Fld := ⟨8, 2⟩
def SPINE_CFG_mode5 : Fld := ⟨10, 2⟩
def SPINE_CFG_mode6 : Fld := ⟨12, 2⟩
def SPINE_CFG_mode7 : Fld := ⟨14, 2⟩
def SPINE_STATUS_conflict : Fld := ⟨0, 1⟩
def SPINE_STATUS_track : Fld := ⟨1, 3⟩
def SPINE_STATUS_win_slot : Fld := ⟨4, 7⟩
def SPINE_STATUS_lose_slot : Fld := ⟨11, 7⟩
def SPINE_COUNT_count : Fld := ⟨0, 32⟩
def FPORT_STATUS_user : Fld := ⟨0, 3⟩
def FPORT_STATUS_abandoned : Fld := ⟨16, 16⟩
def SEQ_STATUS_bank : Fld := ⟨0, 2⟩
def SEQ_STATUS_state : Fld := ⟨2, 3⟩
def SEQ_STATUS_pc : Fld := ⟨5, 12⟩
def SEQ_STATUS_ldepth : Fld := ⟨17, 3⟩
def SEQ_FAULT_valid : Fld := ⟨0, 1⟩
def SEQ_FAULT_cause : Fld := ⟨1, 4⟩
def SEQ_FAULT_bank : Fld := ⟨5, 2⟩
def SEQ_FAULT_pc : Fld := ⟨7, 12⟩
def FPOWN_flow : Fld := ⟨0, 12⟩
def FPOWN_valid : Fld := ⟨31, 1⟩
def FP_SWAP_COUNT_count : Fld := ⟨0, 32⟩
def WIN_SPILL_COUNT_count : Fld := ⟨0, 32⟩
def WIN_FILL_COUNT_count : Fld := ⟨0, 32⟩
def WHAND_CTRL_ovf_en : Fld := ⟨0, 1⟩
def WHAND_CTRL_unf_en : Fld := ⟨1, 1⟩
def WHAND_CTRL_ovf_pc : Fld := ⟨2, 12⟩
def WHAND_CTRL_unf_pc : Fld := ⟨14, 12⟩
def SEQ_STALL_COUNT_count : Fld := ⟨0, 32⟩
def REPC_STATUS_start : Fld := ⟨0, 12⟩
def REPC_STATUS_end : Fld := ⟨12, 12⟩
def REPC_STATUS_valid : Fld := ⟨24, 1⟩
def FD_CTRL_state : Fld := ⟨0, 3⟩
def FD_CTRL_res : Fld := ⟨3, 2⟩
def FD_CTRL_fixed : Fld := ⟨5, 1⟩
def FD_CTRL_fastb : Fld := ⟨6, 1⟩
def FD_CTRL_prio : Fld := ⟨7, 3⟩
def FD_CTRL_preempt : Fld := ⟨10, 1⟩
def FD_CTRL_pending : Fld := ⟨11, 1⟩
def FD_CTRL_ovr_ev : Fld := ⟨12, 1⟩
def FD_CTRL_late_ev : Fld := ⟨13, 1⟩
def FD_CTRL_susp : Fld := ⟨14, 1⟩
def FD_BIND_course : Fld := ⟨0, 4⟩
def FD_BIND_tiles : Fld := ⟨4, 8⟩
def FD_BIND_entry_pc : Fld := ⟨12, 12⟩
def FD_BIND_first_slot : Fld := ⟨24, 7⟩
def FD_SCHED_mode : Fld := ⟨0, 2⟩
def FD_SCHED_ang : Fld := ⟨2, 2⟩
def FD_SCHED_skip : Fld := ⟨4, 1⟩
def FD_SCHED_div : Fld := ⟨5, 16⟩
def FD_WAKE_kind : Fld := ⟨0, 3⟩
def FD_WAKE_index : Fld := ⟨3, 9⟩
def FD_WAKE_edge : Fld := ⟨12, 2⟩
def FD_TGT_LO_value : Fld := ⟨0, 32⟩
def FD_TGT_HI_value : Fld := ⟨0, 32⟩
def FD_IDX_k : Fld := ⟨0, 16⟩
def FD_STAT_runs : Fld := ⟨0, 16⟩
def FD_STAT_late : Fld := ⟨16, 16⟩
def DISP_CFG_lead : Fld := ⟨0, 10⟩
def DISP_CFG_horizon : Fld := ⟨16, 12⟩
def DISP_CFG_late_tol : Fld := ⟨28, 4⟩
def DISP_STATUS_runnable : Fld := ⟨0, 10⟩
def DISP_STATUS_near : Fld := ⟨10, 7⟩
def DISP_STATUS_fixed : Fld := ⟨17, 6⟩
def DISP_CMD_flow : Fld := ⟨0, 9⟩
def DISP_CMD_op : Fld := ⟨9, 3⟩
def DISP_CMD_STATUS_status : Fld := ⟨0, 16⟩
def DISP_CMD_STATUS_busy : Fld := ⟨16, 1⟩
def DISP_CMD_STATUS_flow : Fld := ⟨17, 9⟩
def DISP_CMD_STATUS_op : Fld := ⟨26, 3⟩
def DISP_DOORBELL_bell : Fld := ⟨0, 32⟩
def DISP_LATE_COUNT_count : Fld := ⟨0, 32⟩
def DISP_OVERRUN_COUNT_count : Fld := ⟨0, 32⟩
def DISP_SKIP_COUNT_count : Fld := ⟨0, 32⟩
def DISP_EVENT_near_full : Fld := ⟨0, 1⟩
def DISP_EVENT_late : Fld := ⟨1, 1⟩
def DISP_EVENT_overrun : Fld := ⟨2, 1⟩
def DISP_NEAR_PEAK_peak : Fld := ⟨0, 7⟩
def FW_CTRL_tile : Fld := ⟨0, 7⟩
def FW_CTRL_tmem : Fld := ⟨7, 2⟩
def FW_CTRL_en : Fld := ⟨9, 1⟩
def FW_CTRL_rearm : Fld := ⟨10, 1⟩
def FW_RANGE_start : Fld := ⟨0, 12⟩
def FW_RANGE_end : Fld := ⟨16, 12⟩
def FW_THRESH_thresh : Fld := ⟨0, 13⟩
def FW_COUNT_count : Fld := ⟨0, 13⟩
def LS_CTRL_valid : Fld := ⟨0, 1⟩
def LS_CTRL_holder : Fld := ⟨1, 6⟩
def LS_COURSES_courses : Fld := ⟨0, 16⟩
def LS_SLOTS_first : Fld := ⟨0, 7⟩
def LS_SLOTS_last : Fld := ⟨8, 7⟩
def LS_SLOTS_courses : Fld := ⟨16, 16⟩
def LS_FLOWS_first : Fld := ⟨0, 9⟩
def LS_FLOWS_count : Fld := ⟨9, 10⟩
def LS_LINKS_links : Fld := ⟨0, 16⟩
def LS_SRAM_regions : Fld := ⟨0, 16⟩
def HOD_CFG_first : Fld := ⟨0, 13⟩
def HOD_CFG_last : Fld := ⟨16, 13⟩
def HOD_FREE_count : Fld := ⟨0, 14⟩
def HOD_LOW_thresh : Fld := ⟨0, 14⟩
def HOD_EVENT_low : Fld := ⟨0, 1⟩
def HOD_EVENT_lost : Fld := ⟨1, 1⟩
def HOD_RESTORE_COUNT_count : Fld := ⟨0, 32⟩
def HOD_SAVE_COUNT_count : Fld := ⟨0, 32⟩
def HOD_EVICT_COUNT_count : Fld := ⟨0, 32⟩
def HOD_HOME_lower : Fld := ⟨0, 13⟩
def HOD_HOME_upper : Fld := ⟨16, 13⟩
def HOD_HOME_valid : Fld := ⟨31, 1⟩
def ANG_CFG_src : Fld := ⟨0, 3⟩
def ANG_CFG_mono : Fld := ⟨3, 1⟩
def ANG_CFG_lor_act : Fld := ⟨4, 1⟩
def ANG_CFG_avg : Fld := ⟨5, 3⟩
def ANG_CFG_both : Fld := ⟨8, 1⟩
def ANG_CFG_zfix : Fld := ⟨9, 1⟩
def ANG_CFG_dir : Fld := ⟨10, 1⟩
def ANG_SCALE_ppr : Fld := ⟨0, 20⟩
def ANG_PINS_pa : Fld := ⟨0, 5⟩
def ANG_PINS_pb : Fld := ⟨8, 5⟩
def ANG_PINS_pz : Fld := ⟨16, 5⟩
def ANG_LOSS_limit : Fld := ⟨0, 20⟩
def ANG_LOSS_mwin : Fld := ⟨20, 6⟩
def ANG_OVS_limit : Fld := ⟨0, 32⟩
def ANG_VAL_LO_value : Fld := ⟨0, 32⟩
def ANG_VAL_HI_value : Fld := ⟨0, 32⟩
def ANG_VEL_vel : Fld := ⟨0, 32⟩
def ANG_EDGE_LO_tick : Fld := ⟨0, 32⟩
def ANG_EDGE_HI_tick : Fld := ⟨0, 32⟩
def ANG_STATUS_pred : Fld := ⟨0, 1⟩
def ANG_STATUS_valid : Fld := ⟨1, 1⟩
def ANG_STATUS_still : Fld := ⟨2, 1⟩
def ANG_STATUS_rev : Fld := ⟨3, 1⟩
def ANG_STATUS_lor : Fld := ⟨4, 1⟩
def ANG_STATUS_ovs : Fld := ⟨5, 1⟩
def ANG_STATUS_encerr : Fld := ⟨6, 1⟩
def ANG_STATUS_zerr : Fld := ⟨7, 1⟩
def ANG_STATUS_rej : Fld := ⟨8, 1⟩
def ANG_STATUS_slew : Fld := ⟨9, 1⟩
def ANG_STATUS_held : Fld := ⟨10, 1⟩
def ANG_ERR_COUNT_count : Fld := ⟨0, 32⟩
def ANG_SET_LO_value : Fld := ⟨0, 32⟩
def ANG_SET_HI_value : Fld := ⟨0, 32⟩
def ANG_CMD_set : Fld := ⟨0, 1⟩
def ACU_CTRL_en : Fld := ⟨0, 1⟩
def ACU_CTRL_ang : Fld := ⟨1, 2⟩
def ACU_CTRL_mode : Fld := ⟨3, 2⟩
def ACU_CTRL_act : Fld := ⟨5, 3⟩
def ACU_CTRL_pin : Fld := ⟨8, 5⟩
def ACU_CTRL_skip : Fld := ⟨13, 1⟩
def ACU_CTRL_div : Fld := ⟨16, 16⟩
def ACU_A_LO_value : Fld := ⟨0, 32⟩
def ACU_A_HI_value : Fld := ⟨0, 32⟩
def ACU_IDX_k : Fld := ⟨0, 16⟩
def ACU_B_len : Fld := ⟨0, 32⟩
def ACU_STATUS_level : Fld := ⟨0, 1⟩
def ACU_STATUS_armed : Fld := ⟨1, 1⟩
def ACU_STATUS_late : Fld := ⟨2, 1⟩
def ACU_STATUS_short : Fld := ⟨3, 1⟩
def ACU_COUNT_fired : Fld := ⟨0, 16⟩
def ACU_COUNT_late : Fld := ⟨16, 16⟩
def ANG_STAMP_ang : Fld := ⟨0, 2⟩
def WTICK_LO_tick : Fld := ⟨0, 32⟩
def WTICK_HI_tick : Fld := ⟨0, 32⟩
def WTICK_STATUS_aligned : Fld := ⟨0, 1⟩
def MT_TICK_LO_tick : Fld := ⟨0, 32⟩
def MT_TICK_HI_tick : Fld := ⟨0, 32⟩
def MT_ALIGN_aligned : Fld := ⟨0, 8⟩
def MT_ALIGN_err : Fld := ⟨8, 8⟩
def ASH_SRC_valid : Fld := ⟨0, 1⟩
def ASH_SRC_wall : Fld := ⟨1, 3⟩
def ASH_SRC_ang : Fld := ⟨4, 2⟩
def BOND_EPOCH_cur : Fld := ⟨0, 1⟩
def BOND_EPOCH_flip : Fld := ⟨1, 1⟩
def BOND_EPOCH_pending : Fld := ⟨2, 1⟩
def BOND_EPOCH_drained : Fld := ⟨3, 1⟩
def BOND_FRAME_slot : Fld := ⟨0, 6⟩
def BOND_DOMAIN_state0 : Fld := ⟨0, 2⟩
def BOND_DOMAIN_state1 : Fld := ⟨2, 2⟩
def BOND_DOMAIN_state2 : Fld := ⟨4, 2⟩
def BOND_DOMAIN_state3 : Fld := ⟨6, 2⟩
def BOND_DOMAIN_state4 : Fld := ⟨8, 2⟩
def BOND_DOMAIN_state5 : Fld := ⟨10, 2⟩
def BOND_DOMAIN_state6 : Fld := ⟨12, 2⟩
def BOND_DOMAIN_state7 : Fld := ⟨14, 2⟩
def BOND_DOMAIN_state8 : Fld := ⟨16, 2⟩
def BOND_DOMAIN_state9 : Fld := ⟨18, 2⟩
def BOND_DOMAIN_state10 : Fld := ⟨20, 2⟩
def BOND_DOMAIN_state11 : Fld := ⟨22, 2⟩
def BOND_DOMAIN_state12 : Fld := ⟨24, 2⟩
def BOND_DOMAIN_state13 : Fld := ⟨26, 2⟩
def BOND_DOMAIN_state14 : Fld := ⟨28, 2⟩
def BOND_DOMAIN_state15 : Fld := ⟨30, 2⟩
def BOND_EVENT_gmiss : Fld := ⟨0, 1⟩
def BOND_EVENT_gdrop : Fld := ⟨1, 1⟩
def BOND_EVENT_discard : Fld := ⟨2, 1⟩
def BOND_EVENT_lost : Fld := ⟨3, 1⟩
def BOND_NACK_COUNT_count : Fld := ⟨0, 32⟩
def BOND_GMISS_COUNT_count : Fld := ⟨0, 32⟩
def BOND_GDROP_COUNT_count : Fld := ⟨0, 32⟩
def BOND_DISCARD_COUNT_count : Fld := ⟨0, 32⟩
def BOND_LOST_COUNT_count : Fld := ⟨0, 32⟩
def BOND_ROUTE_open : Fld := ⟨0, 1⟩
def BOND_ROUTE_ports : Fld := ⟨16, 8⟩
def BI_RING_tmem : Fld := ⟨0, 2⟩
def BI_RING_base : Fld := ⟨2, 12⟩
def BI_RING_len : Fld := ⟨14, 12⟩
def BI_RING_en : Fld := ⟨26, 1⟩
def BI_WPTR_wptr : Fld := ⟨0, 12⟩
def BI_WPTR_msgs : Fld := ⟨16, 16⟩
def BI_STATUS_gdrop : Fld := ⟨0, 1⟩
def BI_STATUS_noring : Fld := ⟨1, 1⟩
def BI_STATUS_gdrops : Fld := ⟨16, 16⟩
def GC_CTRL_valid : Fld := ⟨0, 1⟩
def GC_CTRL_down : Fld := ⟨1, 1⟩
def GC_CTRL_slot : Fld := ⟨2, 6⟩
def GC_CTRL_width : Fld := ⟨8, 7⟩
def GC_CTRL_router : Fld := ⟨15, 5⟩
def GC_CTRL_port : Fld := ⟨20, 3⟩
def GC_DST_dst : Fld := ⟨0, 16⟩
def GC_STAT_status : Fld := ⟨0, 16⟩
def GC_STAT_packets : Fld := ⟨16, 16⟩
def BOND_SLOT_in0 : Fld := ⟨0, 4⟩
def BOND_SLOT_in1 : Fld := ⟨8, 4⟩
def BOND_SLOT_in2 : Fld := ⟨16, 4⟩
def BOND_SLOT_in3 : Fld := ⟨24, 4⟩
def BOND_SLOT_valid0 : Fld := ⟨4, 1⟩
def BOND_SLOT_valid1 : Fld := ⟨12, 1⟩
def BOND_SLOT_valid2 : Fld := ⟨20, 1⟩
def BOND_SLOT_valid3 : Fld := ⟨28, 1⟩
def XS_EPOCH_cur : Fld := ⟨0, 1⟩
def XS_EPOCH_flip : Fld := ⟨1, 1⟩
def XS_EPOCH_pending : Fld := ⟨2, 1⟩
def XS_EPOCH_drained : Fld := ⟨3, 1⟩
def XS_WSTATE_state0 : Fld := ⟨0, 2⟩
def XS_WSTATE_state1 : Fld := ⟨2, 2⟩
def XS_WSTATE_state2 : Fld := ⟨4, 2⟩
def XS_WSTATE_state3 : Fld := ⟨6, 2⟩
def XS_WSTATE_state4 : Fld := ⟨8, 2⟩
def XS_WSTATE_state5 : Fld := ⟨10, 2⟩
def XS_WSTATE_state6 : Fld := ⟨12, 2⟩
def XS_WSTATE_state7 : Fld := ⟨14, 2⟩
def XS_EVENT_degrade : Fld := ⟨0, 1⟩
def XS_EVENT_discard : Fld := ⟨1, 1⟩
def XS_EVENT_lost : Fld := ⟨2, 1⟩
def XS_NACK_COUNT_count : Fld := ⟨0, 32⟩
def XS_DEGRADE_COUNT_count : Fld := ⟨0, 32⟩
def XS_DISCARD_COUNT_count : Fld := ⟨0, 32⟩
def XS_LOST_COUNT_count : Fld := ⟨0, 32⟩
def XS_ROUTE_open : Fld := ⟨0, 11⟩
def XS_SLOT_in0 : Fld := ⟨0, 4⟩
def XS_SLOT_valid0 : Fld := ⟨4, 1⟩
def XS_SLOT_in1 : Fld := ⟨8, 4⟩
def XS_SLOT_valid1 : Fld := ⟨12, 1⟩
def XS_SLOT_in2 : Fld := ⟨16, 4⟩
def XS_SLOT_valid2 : Fld := ⟨20, 1⟩
def XS_SLOT_in3 : Fld := ⟨24, 4⟩
def XS_SLOT_valid3 : Fld := ⟨28, 1⟩
def XS_HWIN_LO_base : Fld := ⟨12, 20⟩
def XS_HWIN_HI_base : Fld := ⟨0, 32⟩
def XS_HWIN_SIZE_size : Fld := ⟨0, 21⟩
def SRAM_STATUS_online : Fld := ⟨0, 8⟩
def SRAM_STATUS_ret : Fld := ⟨8, 8⟩
def SRAM_STATUS_test : Fld := ⟨16, 8⟩
def SRAM_RET_req : Fld := ⟨0, 8⟩
def SRAM_PATROL_interval : Fld := ⟨0, 16⟩
def SRAM_EVENT_ue : Fld := ⟨0, 1⟩
def SRAM_EVENT_denied : Fld := ⟨1, 1⟩
def SRAM_CE_COUNT_count : Fld := ⟨0, 32⟩
def SRAM_UE_COUNT_count : Fld := ⟨0, 32⟩
def SRAM_DENY_COUNT_count : Fld := ⟨0, 32⟩
def SRAM_UE_ADDR_addr : Fld := ⟨0, 25⟩
def SRAM_UE_ADDR_valid : Fld := ⟨25, 1⟩
def SRAM_DENY_INFO_mid : Fld := ⟨0, 6⟩
def SRAM_DENY_INFO_bank : Fld := ⟨6, 3⟩
def SRAM_DENY_INFO_write : Fld := ⟨9, 1⟩
def SRAM_DENY_ADDR_offset : Fld := ⟨0, 22⟩
def SRAM_LOCK_lock : Fld := ⟨0, 1⟩
def SEC_STATUS_wiping : Fld := ⟨0, 1⟩
def SEC_STATUS_wiped : Fld := ⟨1, 1⟩
def SEC_STATUS_cause : Fld := ⟨2, 3⟩
def MARCH_CTRL_banks : Fld := ⟨0, 8⟩
def MARCH_CTRL_alg : Fld := ⟨8, 2⟩
def MARCH_CTRL_bg : Fld := ⟨10, 2⟩
def MARCH_CTRL_start : Fld := ⟨12, 1⟩
def MARCH_CTRL_abort : Fld := ⟨13, 1⟩
def MARCH_STATUS_busy : Fld := ⟨0, 8⟩
def MARCH_STATUS_done : Fld := ⟨8, 8⟩
def MARCH_STATUS_fail : Fld := ⟨16, 8⟩
def MARCH_BOOT_banks : Fld := ⟨0, 8⟩
def MARCH_BOOT_alg : Fld := ⟨8, 2⟩
def MARCH_BOOT_bg : Fld := ⟨10, 2⟩
def SRAM_ACC_A_acc : Fld := ⟨0, 32⟩
def SRAM_ACC_B_acc : Fld := ⟨0, 32⟩
def SRAM_ACC_C_acc : Fld := ⟨0, 32⟩
def SRAM_ACC_D_acc : Fld := ⟨0, 32⟩
def SRAM_PATROL_POS_line : Fld := ⟨0, 16⟩
def SRAM_PATROL_POS_passes : Fld := ⟨16, 16⟩
def MARCH_FAIL_ADDR_line : Fld := ⟨0, 16⟩
def MARCH_FAIL_ADDR_bit : Fld := ⟨16, 10⟩
def MARCH_FAIL_ADDR_elem : Fld := ⟨26, 4⟩
def MARCH_FAIL_ADDR_bgnd : Fld := ⟨30, 2⟩
def MARCH_FAIL_COUNT_count : Fld := ⟨0, 32⟩
def GD_CFG_ecc : Fld := ⟨0, 1⟩
def GD_CFG_patrol : Fld := ⟨1, 1⟩
def GD_CFG_crc_thresh : Fld := ⟨8, 8⟩
def GD_CFG_track : Fld := ⟨16, 8⟩
def GD_LOCK_lock : Fld := ⟨0, 1⟩
def GD_STATUS_state : Fld := ⟨0, 2⟩
def GD_STATUS_hot : Fld := ⟨2, 1⟩
def GD_STATUS_stale : Fld := ⟨3, 1⟩
def GD_STATUS_temp : Fld := ⟨8, 8⟩
def GD_CMD_unstale : Fld := ⟨0, 1⟩
def GD_CRC_COUNT_count : Fld := ⟨0, 32⟩
def GD_CE_COUNT_count : Fld := ⟨0, 32⟩
def GD_UE_COUNT_count : Fld := ⟨0, 32⟩
def GD_UE_ADDR_LO_offset : Fld := ⟨0, 32⟩
def GD_UE_ADDR_HI_offset : Fld := ⟨0, 2⟩
def GD_UE_ADDR_HI_valid : Fld := ⟨31, 1⟩
def GD_BI_COUNT_count : Fld := ⟨0, 32⟩
def GD_BI_MAXLAT_ticks : Fld := ⟨0, 32⟩
def GD_FILTER_used : Fld := ⟨0, 18⟩
def GD_EVENT_link : Fld := ⟨0, 1⟩
def GD_EVENT_ue : Fld := ⟨1, 1⟩
def GD_EVENT_retrain : Fld := ⟨2, 1⟩
def GD_EVENT_hot : Fld := ⟨3, 1⟩
def GD_EVENT_flushto : Fld := ⟨4, 1⟩
def GD_EVENT_denied : Fld := ⟨5, 1⟩
def GD_DENY_COUNT_count : Fld := ⟨0, 32⟩
def GD_DENY_INFO_mid : Fld := ⟨0, 6⟩
def GD_DENY_INFO_region : Fld := ⟨6, 6⟩
def GD_DENY_INFO_write : Fld := ⟨12, 1⟩
def GD_REGION_mode : Fld := ⟨0, 2⟩
def GD_REGION_busy : Fld := ⟨2, 1⟩
def GD_ACC_A_acc : Fld := ⟨0, 32⟩
def GD_ACC_B_acc : Fld := ⟨0, 32⟩
def GD_ACC_C_acc : Fld := ⟨0, 32⟩
def GD_ACC_D_acc : Fld := ⟨0, 32⟩
def LK_CTRL_mode : Fld := ⟨0, 3⟩
def LK_CTRL_rate : Fld := ⟨3, 5⟩
def LK_CTRL_en : Fld := ⟨8, 1⟩
def LK_CTRL_lpbk : Fld := ⟨9, 2⟩
def LK_CTRL_pol_tx : Fld := ⟨11, 1⟩
def LK_CTRL_pol_rx : Fld := ⟨12, 1⟩
def LK_STATUS_state : Fld := ⟨0, 3⟩
def LK_STATUS_eye : Fld := ⟨8, 8⟩
def LK_EVENT_down : Fld := ⟨0, 1⟩
def LK_EVENT_crc : Fld := ⟨1, 1⟩
def LK_EVENT_fmt : Fld := ⟨2, 1⟩
def LK_EVENT_ovf : Fld := ⟨3, 1⟩
def LK_RATE_mbps : Fld := ⟨0, 15⟩
def LK_RX_TIMEOUT_limit : Fld := ⟨0, 20⟩
def LK_PRBS_gen : Fld := ⟨0, 1⟩
def LK_PRBS_chk : Fld := ⟨1, 1⟩
def LK_PRBS_errors : Fld := ⟨16, 16⟩
def LK_SF_CFG_slots : Fld := ⟨0, 6⟩
def LK_SF_CFG_blocks : Fld := ⟨6, 3⟩
def LK_SF_CFG_txmode : Fld := ⟨9, 2⟩
def LK_SF_CFG_ang : Fld := ⟨11, 2⟩
def LK_SF_CFG_skip : Fld := ⟨13, 1⟩
def LK_SF_CFG_div : Fld := ⟨16, 16⟩
def LK_SF_OFS_value : Fld := ⟨0, 32⟩
def LK_SF_REV_value : Fld := ⟨0, 32⟩
def LK_SF_IDX_k : Fld := ⟨0, 16⟩
def LK_SF_PERIOD_blocks : Fld := ⟨0, 20⟩
def LK_SF_GO_go : Fld := ⟨0, 1⟩
def LK_LG_CFG_crc : Fld := ⟨0, 1⟩
def LK_LG_CFG_sel : Fld := ⟨1, 1⟩
def LK_ETH_CFG_fec : Fld := ⟨0, 2⟩
def LK_ETH_CFG_mcast : Fld := ⟨2, 1⟩
def LK_ETH_CFG_maxlen : Fld := ⟨16, 16⟩
def LK_ETH_MAC_LO_addr : Fld := ⟨0, 32⟩
def LK_ETH_MAC_HI_addr : Fld := ⟨0, 16⟩
def LK_ETH_DROP_COUNT_count : Fld := ⟨0, 32⟩
def LK_PTP_LAT_rx : Fld := ⟨0, 16⟩
def LK_PTP_LAT_tx : Fld := ⟨16, 16⟩
def LK_DOWN_COUNT_count : Fld := ⟨0, 32⟩
def LK_CRC_COUNT_count : Fld := ⟨0, 32⟩
def LK_FMT_COUNT_count : Fld := ⟨0, 32⟩
def LK_RXOVF_COUNT_count : Fld := ⟨0, 32⟩
def LK_RXDROP_COUNT_count : Fld := ⟨0, 32⟩
def LK_RXFRAME_COUNT_count : Fld := ⟨0, 32⟩
def LK_TXFRAME_COUNT_count : Fld := ⟨0, 32⟩
def LK_TXOVR_COUNT_count : Fld := ⟨0, 32⟩
def LK_ETH_RXBASE_bytes : Fld := ⟨0, 22⟩
def LK_ETH_RXSIZE_bytes : Fld := ⟨0, 22⟩
def LK_ETH_RXWR_offset : Fld := ⟨0, 20⟩
def LK_ETH_RXRD_offset : Fld := ⟨0, 20⟩
def LK_ETH_TXBASE_bytes : Fld := ⟨0, 22⟩
def LK_ETH_TXSIZE_bytes : Fld := ⟨0, 22⟩
def LK_ETH_TXWR_offset : Fld := ⟨0, 20⟩
def LK_ETH_TXRD_offset : Fld := ⟨0, 20⟩
def LK_RXS_DST_dst : Fld := ⟨0, 16⟩
def LK_RXS_DST_words : Fld := ⟨16, 5⟩
def LK_RXS_DST_en : Fld := ⟨21, 1⟩
def LK_RXS_ADDR_addr : Fld := ⟨0, 32⟩
def LK_TXS_CFG_en : Fld := ⟨0, 1⟩
def LK_TXS_CFG_bytes : Fld := ⟨1, 6⟩
def LK_SLOT_STAT_rxseq : Fld := ⟨0, 8⟩
def LK_SLOT_STAT_rxfresh : Fld := ⟨8, 1⟩
def LK_SLOT_STAT_txseq : Fld := ⟨16, 8⟩
def LK_SLOT_STAT_pending : Fld := ⟨24, 1⟩
def PTP_SEC_LO_value : Fld := ⟨0, 32⟩
def PTP_SEC_HI_value : Fld := ⟨0, 16⟩
def PTP_NS_value : Fld := ⟨0, 30⟩
def PTP_INC_value : Fld := ⟨0, 32⟩
def PTP_ADJ_value : Fld := ⟨0, 32⟩
def FP_CFG_func : Fld := ⟨0, 3⟩
def FP_CFG_pull : Fld := ⟨3, 2⟩
def FP_CFG_filt : Fld := ⟨5, 5⟩
def FP_CFG_inv : Fld := ⟨10, 1⟩
def FP_CFG_init : Fld := ⟨11, 1⟩
def FP_CFG_tedge : Fld := ⟨12, 2⟩
def FP_TRIP_set : Fld := ⟨0, 1⟩
def FP_TRIP_clr : Fld := ⟨1, 1⟩
def FP_TRIP_tripped : Fld := ⟨2, 1⟩
def FP_TRIP_src : Fld := ⟨3, 1⟩
def FP_TRIPMASK_mask : Fld := ⟨0, 24⟩
def FP_COUNT_edges : Fld := ⟨0, 32⟩
def FP_BANK_vio : Fld := ⟨0, 3⟩
def FP_BANK_valid : Fld := ⟨3, 1⟩
def FP_BANK_meas : Fld := ⟨8, 8⟩
def FP_LEVEL_level : Fld := ⟨0, 24⟩
def CHN_CFG_head : Fld := ⟨0, 1⟩
def CHN_STATUS_pos : Fld := ⟨0, 6⟩
def CHN_STATUS_pos_v : Fld := ⟨6, 1⟩
def CHN_STATUS_len : Fld := ⟨7, 7⟩
def CHN_STATUS_up : Fld := ⟨14, 1⟩
def CHN_STATUS_down : Fld := ⟨15, 1⟩
def CHN_STATUS_done : Fld := ⟨16, 1⟩
def CHN_STATUS_hold : Fld := ⟨17, 1⟩
def CHN_TICK_tick : Fld := ⟨0, 32⟩
def CHN_ERR_COUNT_count : Fld := ⟨0, 32⟩
def CHN_EVENT_err : Fld := ⟨0, 1⟩
def CHN_EVENT_long : Fld := ⟨1, 1⟩
def HUB_ID_walls : Fld := ⟨0, 4⟩
def HUB_ID_grade : Fld := ⟨4, 4⟩
def HUB_ID_speed : Fld := ⟨8, 8⟩
def HUB_VERSION_silicon : Fld := ⟨0, 32⟩
def UNIT_ID_LO_id : Fld := ⟨0, 32⟩
def UNIT_ID_HI_id : Fld := ⟨0, 32⟩
def SQ_BASE_LO_base : Fld := ⟨12, 20⟩
def SQ_BASE_HI_base : Fld := ⟨0, 32⟩
def SQ_CFG_lsize : Fld := ⟨0, 4⟩
def SQ_CFG_cq : Fld := ⟨4, 6⟩
def SQ_CFG_mid : Fld := ⟨10, 5⟩
def SQ_CFG_pasid_en : Fld := ⟨15, 1⟩
def SQ_CFG_en : Fld := ⟨16, 1⟩
def SQ_CFG_err : Fld := ⟨17, 1⟩
def SQ_PASID_pasid : Fld := ⟨0, 20⟩
def SQ_HEAD_head : Fld := ⟨0, 12⟩
def CQ_BASE_LO_base : Fld := ⟨12, 20⟩
def CQ_BASE_HI_base : Fld := ⟨0, 32⟩
def CQ_CFG_lsize : Fld := ⟨0, 4⟩
def CQ_CFG_vec : Fld := ⟨4, 7⟩
def CQ_CFG_ien : Fld := ⟨11, 1⟩
def CQ_CFG_pasid_en : Fld := ⟨12, 1⟩
def CQ_CFG_en : Fld := ⟨13, 1⟩
def CQ_CFG_full : Fld := ⟨14, 1⟩
def CQ_PASID_pasid : Fld := ⟨0, 20⟩
def CQ_TAIL_tail : Fld := ⟨0, 12⟩
def SQ_DB_tail : Fld := ⟨0, 12⟩
def CQ_DB_head : Fld := ⟨0, 12⟩
def CMD_STATUS_long : Fld := ⟨0, 9⟩
def EM_HUB_vec : Fld := ⟨0, 7⟩
def EM_HUB_en : Fld := ⟨7, 1⟩
def EM_HUB_ring : Fld := ⟨8, 1⟩
def EM_WALL_vec : Fld := ⟨0, 7⟩
def EM_WALL_en : Fld := ⟨7, 1⟩
def EM_WALL_ring : Fld := ⟨8, 1⟩
def MSIX_ADDR_LO_addr : Fld := ⟨0, 32⟩
def MSIX_ADDR_HI_addr : Fld := ⟨0, 32⟩
def MSIX_DATA_data : Fld := ⟨0, 32⟩
def MSIX_CTRL_mask : Fld := ⟨0, 1⟩
def MSIX_PBA_pending : Fld := ⟨0, 32⟩
def EVR_BASE_LO_base : Fld := ⟨12, 20⟩
def EVR_BASE_HI_base : Fld := ⟨0, 32⟩
def EVR_CFG_lsize : Fld := ⟨0, 5⟩
def EVR_CFG_pasid_en : Fld := ⟨5, 1⟩
def EVR_CFG_en : Fld := ⟨6, 1⟩
def EVR_PASID_pasid : Fld := ⟨0, 20⟩
def EVR_WR_index : Fld := ⟨0, 16⟩
def EVR_RD_index : Fld := ⟨0, 16⟩
def EVR_LOST_COUNT_count : Fld := ⟨0, 32⟩
def LOG_POS_LO_pos : Fld := ⟨0, 32⟩
def LOG_POS_HI_pos : Fld := ⟨0, 32⟩
def EV_RAISE_value : Fld := ⟨0, 32⟩
def RB_ACC_A_acc : Fld := ⟨0, 32⟩
def WB_ACC_A_acc : Fld := ⟨0, 32⟩
def LK_ACC_A_acc : Fld := ⟨0, 32⟩
def RB_ACC_B_acc : Fld := ⟨0, 32⟩
def WB_ACC_B_acc : Fld := ⟨0, 32⟩
def LK_ACC_B_acc : Fld := ⟨0, 32⟩
def RB_ACC_C_acc : Fld := ⟨0, 32⟩
def WB_ACC_C_acc : Fld := ⟨0, 32⟩
def LK_ACC_C_acc : Fld := ⟨0, 32⟩
def RB_ACC_D_acc : Fld := ⟨0, 32⟩
def WB_ACC_D_acc : Fld := ⟨0, 32⟩
def LK_ACC_D_acc : Fld := ⟨0, 32⟩
def HUB_ACC_LOCK_lock : Fld := ⟨0, 1⟩
def HG_MAP_pasid : Fld := ⟨0, 20⟩
def HG_MAP_valid : Fld := ⟨20, 1⟩
def REG_STAT_status : Fld := ⟨0, 16⟩
def REG_STAT_valid : Fld := ⟨16, 1⟩
def REG_STAT_ADDR_offset : Fld := ⟨0, 26⟩
def CLAIM_holder : Fld := ⟨0, 6⟩
def CLAIM_held : Fld := ⟨6, 1⟩
def CLAIM_take : Fld := ⟨7, 1⟩
def CLAIM_rel : Fld := ⟨8, 1⟩
def CLAIM_force : Fld := ⟨9, 1⟩
def CLAIM_SVC_holder : Fld := ⟨0, 6⟩
def CLAIM_SVC_held : Fld := ⟨6, 1⟩
def CLAIM_SVC_take : Fld := ⟨7, 1⟩
def CLAIM_SVC_rel : Fld := ⟨8, 1⟩
def CLAIM_SVC_force : Fld := ⟨9, 1⟩
def WEV_STATUS_fill : Fld := ⟨0, 9⟩
def WEV_SEQ_seq : Fld := ⟨0, 32⟩
def WEV_LOST_COUNT_count : Fld := ⟨0, 32⟩
def WEV_LOG_BASE_offset : Fld := ⟨0, 22⟩
def WEV_LOG_SIZE_bytes : Fld := ⟨0, 22⟩
def WEV_LOG_WR_offset : Fld := ⟨0, 22⟩
def KILN_STATUS_phase : Fld := ⟨0, 3⟩
def KILN_STATUS_cfg : Fld := ⟨3, 1⟩
def KILN_STATUS_stream : Fld := ⟨4, 1⟩
def KILN_STATUS_done_to : Fld := ⟨5, 1⟩
def KILN_STATUS_hold : Fld := ⟨6, 1⟩
def KILN_STATUS_donew : Fld := ⟨7, 1⟩
def KILN_STATUS_step : Fld := ⟨8, 2⟩
def STARTUP_ORDER_first : Fld := ⟨0, 2⟩
def STARTUP_ORDER_second : Fld := ⟨2, 2⟩
def STARTUP_ORDER_third : Fld := ⟨4, 2⟩
def STARTUP_ORDER_fourth : Fld := ⟨6, 2⟩
def STARTUP_ORDER_done_step : Fld := ⟨8, 2⟩
def STARTUP_ORDER_chain : Fld := ⟨10, 1⟩
def KILN_DONE_TO_ms : Fld := ⟨0, 16⟩
def KILN_IMAGE_id : Fld := ⟨0, 32⟩
def KILN_FRAME_COUNT_count : Fld := ⟨0, 32⟩
def KILN_SKIP_COUNT_count : Fld := ⟨0, 32⟩
def KILN_ERR_status : Fld := ⟨0, 16⟩
def KILN_ERR_valid : Fld := ⟨16, 1⟩
def KILN_ERR_LOC_floc : Fld := ⟨0, 32⟩
def KILN_BOOT_image : Fld := ⟨0, 2⟩
def KILN_BOOT_en : Fld := ⟨2, 1⟩
def KILN_LOAD_TIME_us : Fld := ⟨0, 32⟩
def KILN_REPLAY_frames : Fld := ⟨0, 10⟩
def PT_CFG_en : Fld := ⟨0, 1⟩
def PT_CFG_auto : Fld := ⟨1, 1⟩
def PT_CFG_ue_act : Fld := ⟨2, 2⟩
def PT_CFG_interval : Fld := ⟨16, 16⟩
def PT_POLICY_min : Fld := ⟨0, 16⟩
def PT_POLICY_max : Fld := ⟨16, 16⟩
def PT_STATUS_running : Fld := ⟨0, 1⟩
def PT_STATUS_interval : Fld := ⟨16, 16⟩
def PT_PASS_COUNT_count : Fld := ⟨0, 32⟩
def PT_PASS_TIME_cycles : Fld := ⟨0, 32⟩
def PT_CE_COUNT_count : Fld := ⟨0, 32⟩
def PT_UE_COUNT_count : Fld := ⟨0, 32⟩
def PT_UE_LOC_floc : Fld := ⟨0, 32⟩
def PT_EVENT_ue : Fld := ⟨0, 1⟩
def PT_EVENT_overrun : Fld := ⟨1, 1⟩
def PT_EVENT_hb : Fld := ⟨2, 1⟩
def PT_EVENT_rec : Fld := ⟨3, 1⟩
def PT_VOTE_COUNT_count : Fld := ⟨0, 32⟩
def PT_OVERRUN_COUNT_count : Fld := ⟨0, 32⟩
def PT_HB_COUNT_count : Fld := ⟨0, 32⟩
def TRW_STATUS_state : Fld := ⟨0, 3⟩
def TRW_STATUS_slot : Fld := ⟨3, 1⟩
def TRW_STATUS_version : Fld := ⟨8, 24⟩
def TRW_BOOT_fails : Fld := ⟨0, 2⟩
def TRW_BOOT_cause : Fld := ⟨4, 4⟩
def TRW_FWD_fwd : Fld := ⟨0, 1⟩
def TRW_FWD_accept : Fld := ⟨1, 1⟩
def TRW_ACT_when : Fld := ⟨0, 2⟩
def TRW_ACT_pending : Fld := ⟨2, 1⟩
def TRW_ACT_waiting : Fld := ⟨3, 1⟩
def TRW_ACT_AT_target : Fld := ⟨0, 32⟩
def TRW_RCV_SEND_pos : Fld := ⟨0, 6⟩
def TRW_RCV_SEND_go : Fld := ⟨6, 1⟩
def RCV_CTRL_len : Fld := ⟨0, 13⟩
def RCV_CTRL_push : Fld := ⟨13, 1⟩
def RCV_CTRL_done : Fld := ⟨14, 1⟩
def RCV_CTRL_abort : Fld := ⟨15, 1⟩
def RCV_STATUS_status : Fld := ⟨0, 16⟩
def RCV_STATUS_busy : Fld := ⟨16, 1⟩
def RCV_COUNT_bytes : Fld := ⟨0, 24⟩
def TRW_SLOT_state : Fld := ⟨0, 3⟩
def TRW_SLOT_version : Fld := ⟨8, 24⟩
def TRW_CHAIN_state : Fld := ⟨0, 3⟩
def TRW_CHAIN_valid : Fld := ⟨3, 1⟩
def TRW_CHAIN_version : Fld := ⟨8, 24⟩
def RCV_WIN_data : Fld := ⟨0, 32⟩
def SEC_LC_lc : Fld := ⟨0, 2⟩
def SEC_KEY_ID_id : Fld := ⟨0, 32⟩
def PWR_STATUS_vin_ok : Fld := ⟨0, 1⟩
def PWR_STATUS_safe : Fld := ⟨1, 1⟩
def PWR_STATUS_on : Fld := ⟨8, 8⟩
def PWR_CAUSE_cause : Fld := ⟨0, 4⟩
def PWR_CAUSE_mon : Fld := ⟨8, 7⟩
def PWR_WDT_ms : Fld := ⟨0, 16⟩
def PWR_WDT_count : Fld := ⟨16, 8⟩
def PWR_FAN_req : Fld := ⟨0, 7⟩
def PWR_FAN_auto : Fld := ⟨7, 1⟩
def PWR_FAN_manual : Fld := ⟨8, 7⟩
def PWR_FAN_lo : Fld := ⟨16, 8⟩
def PWR_FAN_hi : Fld := ⟨24, 8⟩
def TEL_VIN_mv : Fld := ⟨0, 16⟩
def TEL_IIN_ma : Fld := ⟨0, 20⟩
def TEL_PIN_cw : Fld := ⟨0, 16⟩
def TEL_COUNT_count : Fld := ⟨0, 32⟩
def MON_CFG_en : Fld := ⟨0, 1⟩
def MON_CFG_act : Fld := ⟨1, 2⟩
def MON_CFG_deb : Fld := ⟨3, 8⟩
def MON_CFG_active : Fld := ⟨11, 1⟩
def MON_CFG_seen : Fld := ⟨12, 1⟩
def MON_CFG_calfail : Fld := ⟨13, 1⟩
def MON_LIM_lo : Fld := ⟨0, 16⟩
def MON_LIM_hi : Fld := ⟨16, 16⟩
def MON_VALUE_value : Fld := ⟨0, 16⟩
def MON_VALUE_cur : Fld := ⟨16, 16⟩
def MON_PEAK_min : Fld := ⟨0, 16⟩
def MON_PEAK_max : Fld := ⟨16, 16⟩
def WPWR_CTRL_state : Fld := ⟨0, 2⟩
def WPWR_CTRL_mhold : Fld := ⟨2, 1⟩
def WPWR_CTRL_tsb : Fld := ⟨3, 1⟩
def WPWR_CTRL_ocp : Fld := ⟨4, 1⟩
def WPWR_GATE_req : Fld := ⟨0, 16⟩
def WPWR_GATE_gated : Fld := ⟨16, 16⟩
def WPWR_CLK_auto : Fld := ⟨0, 1⟩
def WPWR_CLK_hold : Fld := ⟨1, 2⟩
def WPWR_CLK_step : Fld := ⟨3, 2⟩
def WPWR_CLK_step1 : Fld := ⟨8, 8⟩
def WPWR_CLK_step2 : Fld := ⟨16, 8⟩
def WPWR_POWER_cw : Fld := ⟨0, 16⟩
def WPWR_POWER_tmax : Fld := ⟨16, 16⟩
def WPWR_STEP_COUNT_count : Fld := ⟨0, 32⟩
def SVC_METER_SEL_mode : Fld := ⟨0, 2⟩
def SVC_METER_SEL_qty : Fld := ⟨2, 6⟩
def SVC_METER_SEL_wall : Fld := ⟨8, 3⟩
def SVC_METER_SEL_hub : Fld := ⟨11, 1⟩
def SVC_METER_SEL_index : Fld := ⟨12, 6⟩
def SVC_METER_SEL_range : Fld := ⟨18, 2⟩
def SVC_METER_MV_mv : Fld := ⟨0, 12⟩
def SVC_VERDICT_stage : Fld := ⟨0, 4⟩
def SVC_VERDICT_test : Fld := ⟨4, 8⟩
def SVC_VERDICT_state : Fld := ⟨12, 3⟩
def SVC_CONSOLE_open : Fld := ⟨0, 1⟩
def SVC_CONSOLE_local : Fld := ⟨1, 1⟩
def SVC_SAFE_enter : Fld := ⟨0, 1⟩
def SVC_SAFE_exit : Fld := ⟨1, 1⟩

end F

/-- The register table of the kiln block. -/
def regsKiln : List RegDef := [
  -- CAP_CTRL
  ⟨0x20800, [], [⟨0, 1, .wo, 0⟩, ⟨1, 2, .rw, 0⟩, ⟨3, 2, .rw, 0⟩, ⟨5, 1, .wo, 0⟩]⟩,
  -- CAP_TRIG_LO
  ⟨0x20804, [], [⟨0, 32, .rw, 0⟩]⟩,
  -- CAP_TRIG_HI
  ⟨0x20808, [], [⟨0, 32, .rw, 0⟩]⟩,
  -- CAP_STATUS
  ⟨0x2080c, [], [⟨0, 2, .ro, 0⟩, ⟨2, 1, .w1c, 0⟩]⟩,
  -- CAP_EDGE_LO
  ⟨0x20810, [], [⟨0, 32, .ro, 0⟩]⟩,
  -- CAP_EDGE_HI
  ⟨0x20814, [], [⟨0, 32, .ro, 0⟩]⟩,
  -- KILN_STATUS
  ⟨0x20000, [], [⟨0, 3, .ro, 0⟩, ⟨3, 1, .ro, 0⟩, ⟨4, 1, .ro, 0⟩, ⟨5, 1, .w1c, 0⟩, ⟨6, 1, .ro, 0⟩, ⟨7, 1, .ro, 0⟩, ⟨8, 2, .ro, 0⟩]⟩,
  -- STARTUP_ORDER
  ⟨0x20004, [], [⟨0, 2, .rws, 0⟩, ⟨2, 2, .rws, 2⟩, ⟨4, 2, .rws, 3⟩, ⟨6, 2, .rws, 1⟩, ⟨8, 2, .rws, 2⟩, ⟨10, 1, .rws, 1⟩]⟩,
  -- KILN_DONE_TO
  ⟨0x20008, [], [⟨0, 16, .rws, 0⟩]⟩,
  -- KILN_IMAGE
  ⟨0x2000c, [], [⟨0, 32, .ro, 0⟩]⟩,
  -- KILN_FRAME_COUNT
  ⟨0x20010, [], [⟨0, 32, .ro, 0⟩]⟩,
  -- KILN_SKIP_COUNT
  ⟨0x20014, [], [⟨0, 32, .ro, 0⟩]⟩,
  -- KILN_ERR
  ⟨0x20018, [], [⟨0, 16, .ro, 0⟩, ⟨16, 1, .w1c, 0⟩]⟩,
  -- KILN_ERR_LOC
  ⟨0x2001c, [], [⟨0, 32, .ro, 0⟩]⟩,
  -- KILN_BOOT
  ⟨0x20020, [], [⟨0, 2, .ro, 0⟩, ⟨2, 1, .ro, 0⟩]⟩,
  -- KILN_LOAD_TIME
  ⟨0x20024, [], [⟨0, 32, .ro, 0⟩]⟩,
  -- KILN_REPLAY
  ⟨0x20028, [], [⟨0, 10, .ro, 0⟩]⟩]

/-- The register table of the tiles block. -/
def regsTiles : List RegDef := [
  -- TILE_ID
  ⟨0x100000, [(128, 0x400)], [⟨0, 3, .ro, 0⟩, ⟨3, 4, .ro, 0⟩, ⟨7, 3, .ro, 0⟩]⟩,
  -- PC_STATUS
  ⟨0x100004, [(128, 0x400)], [⟨0, 3, .ro, 0⟩, ⟨3, 7, .ro, 0⟩, ⟨10, 1, .ro, 0⟩, ⟨11, 1, .ro, 0⟩, ⟨12, 3, .ro, 0⟩, ⟨16, 8, .ro, 0⟩, ⟨24, 8, .ro, 0⟩]⟩,
  -- PC_WAYS_A
  ⟨0x100008, [(128, 0x400)], [⟨0, 7, .ro, 0⟩, ⟨8, 7, .ro, 0⟩, ⟨16, 7, .ro, 0⟩, ⟨24, 7, .ro, 0⟩, ⟨7, 1, .ro, 0⟩, ⟨15, 1, .ro, 0⟩, ⟨23, 1, .ro, 0⟩, ⟨31, 1, .ro, 0⟩]⟩,
  -- PC_WAYS_B
  ⟨0x10000c, [(128, 0x400)], [⟨0, 7, .ro, 0⟩, ⟨7, 1, .ro, 0⟩, ⟨8, 7, .ro, 0⟩, ⟨15, 1, .ro, 0⟩, ⟨16, 7, .ro, 0⟩, ⟨23, 1, .ro, 0⟩, ⟨24, 7, .ro, 0⟩, ⟨31, 1, .ro, 0⟩]⟩,
  -- PC_PIN_A
  ⟨0x100010, [(128, 0x400)], [⟨0, 7, .rw, 0⟩, ⟨8, 7, .rw, 0⟩, ⟨16, 7, .rw, 0⟩, ⟨24, 7, .rw, 0⟩, ⟨7, 1, .rw, 0⟩, ⟨15, 1, .rw, 0⟩, ⟨23, 1, .rw, 0⟩, ⟨31, 1, .rw, 0⟩]⟩,
  -- PC_PIN_B
  ⟨0x100014, [(128, 0x400)], [⟨0, 7, .rw, 0⟩, ⟨7, 1, .rw, 0⟩]⟩,
  -- PC_INVAL
  ⟨0x100018, [(128, 0x400)], [⟨0, 8, .wo, 0⟩]⟩,
  -- PC_MISS_COUNT
  ⟨0x10001c, [(128, 0x400)], [⟨0, 32, .ro, 0⟩]⟩,
  -- TMEM_CFG
  ⟨0x100020, [(128, 0x400)], [⟨0, 2, .ro, 0⟩, ⟨8, 2, .ro, 0⟩, ⟨16, 2, .ro, 0⟩, ⟨24, 2, .ro, 0⟩, ⟨2, 2, .ro, 0⟩, ⟨10, 2, .ro, 0⟩, ⟨18, 2, .ro, 0⟩, ⟨26, 2, .ro, 0⟩, ⟨4, 2, .ro, 0⟩, ⟨12, 2, .ro, 0⟩, ⟨20, 2, .ro, 0⟩, ⟨28, 2, .ro, 0⟩, ⟨6, 2, .ro, 0⟩, ⟨14, 2, .ro, 0⟩, ⟨22, 2, .ro, 0⟩, ⟨30, 2, .ro, 0⟩]⟩,
  -- TMEM_COLL
  ⟨0x100024, [(128, 0x400)], [⟨0, 4, .w1c, 0⟩]⟩,
  -- TMEM_COLL_COUNT
  ⟨0x100028, [(128, 0x400)], [⟨0, 32, .ro, 0⟩]⟩,
  -- SPINE_CFG
  ⟨0x10002c, [(128, 0x400)], [⟨0, 2, .ro, 0⟩, ⟨2, 2, .ro, 0⟩, ⟨4, 2, .ro, 0⟩, ⟨6, 2, .ro, 0⟩, ⟨8, 2, .ro, 0⟩, ⟨10, 2, .ro, 0⟩, ⟨12, 2, .ro, 0⟩, ⟨14, 2, .ro, 0⟩]⟩,
  -- SPINE_STATUS
  ⟨0x100030, [(128, 0x400)], [⟨0, 1, .w1c, 0⟩, ⟨1, 3, .ro, 0⟩, ⟨4, 7, .ro, 0⟩, ⟨11, 7, .ro, 0⟩]⟩,
  -- SPINE_COUNT
  ⟨0x100034, [(128, 0x400)], [⟨0, 32, .ro, 0⟩]⟩,
  -- FPORT_STATUS
  ⟨0x100038, [(128, 0x400)], [⟨0, 3, .ro, 0⟩, ⟨16, 16, .ro, 0⟩]⟩,
  -- SEQ_STATUS
  ⟨0x100040, [(128, 0x400)], [⟨0, 2, .ro, 3⟩, ⟨2, 3, .ro, 0⟩, ⟨5, 12, .ro, 0⟩, ⟨17, 3, .ro, 0⟩]⟩,
  -- SEQ_FAULT
  ⟨0x100044, [(128, 0x400)], [⟨0, 1, .w1c, 0⟩, ⟨1, 4, .ro, 0⟩, ⟨5, 2, .ro, 0⟩, ⟨7, 12, .ro, 0⟩]⟩,
  -- FPOWN
  ⟨0x100048, [(128, 0x400)], [⟨0, 12, .ro, 0⟩, ⟨31, 1, .ro, 0⟩]⟩,
  -- FP_SWAP_COUNT
  ⟨0x10004c, [(128, 0x400)], [⟨0, 32, .ro, 0⟩]⟩,
  -- WIN_SPILL_COUNT
  ⟨0x100050, [(128, 0x400)], [⟨0, 32, .ro, 0⟩]⟩,
  -- WIN_FILL_COUNT
  ⟨0x100054, [(128, 0x400)], [⟨0, 32, .ro, 0⟩]⟩,
  -- WHAND_CTRL
  ⟨0x100058, [(128, 0x400)], [⟨0, 1, .rw, 0⟩, ⟨1, 1, .rw, 0⟩, ⟨2, 12, .rw, 0⟩, ⟨14, 12, .rw, 0⟩]⟩,
  -- SEQ_STALL_COUNT
  ⟨0x10005c, [(128, 0x400)], [⟨0, 32, .ro, 0⟩]⟩,
  -- REPC_STATUS
  ⟨0x100060, [(128, 0x400)], [⟨0, 12, .ro, 0⟩, ⟨12, 12, .ro, 0⟩, ⟨24, 1, .ro, 0⟩]⟩]

/-- The register table of the dispatcher block. -/
def regsDispatcher : List RegDef := [
  -- FD_CTRL
  ⟨0x8000, [(512, 0x20)], [⟨0, 3, .ro, 0⟩, ⟨3, 2, .ro, 0⟩, ⟨5, 1, .rw, 0⟩, ⟨6, 1, .rw, 0⟩, ⟨7, 3, .rw, 0⟩, ⟨10, 1, .rw, 0⟩, ⟨11, 1, .ro, 0⟩, ⟨12, 1, .rw, 0⟩, ⟨13, 1, .rw, 0⟩, ⟨14, 1, .ro, 0⟩]⟩,
  -- FD_BIND
  ⟨0x8004, [(512, 0x20)], [⟨0, 4, .rw, 0⟩, ⟨4, 8, .rw, 0⟩, ⟨12, 12, .rw, 0⟩, ⟨24, 7, .rw, 0⟩]⟩,
  -- FD_SCHED
  ⟨0x8008, [(512, 0x20)], [⟨0, 2, .rw, 0⟩, ⟨2, 2, .rw, 0⟩, ⟨4, 1, .rw, 0⟩, ⟨5, 16, .rw, 0⟩]⟩,
  -- FD_WAKE
  ⟨0x800c, [(512, 0x20)], [⟨0, 3, .rw, 0⟩, ⟨3, 9, .rw, 0⟩, ⟨12, 2, .rw, 0⟩]⟩,
  -- FD_TGT_LO
  ⟨0x8010, [(512, 0x20)], [⟨0, 32, .rw, 0⟩]⟩,
  -- FD_TGT_HI
  ⟨0x8014, [(512, 0x20)], [⟨0, 32, .rw, 0⟩]⟩,
  -- FD_IDX
  ⟨0x8018, [(512, 0x20)], [⟨0, 16, .rw, 0⟩]⟩,
  -- FD_STAT
  ⟨0x801c, [(512, 0x20)], [⟨0, 16, .ro, 0⟩, ⟨16, 16, .ro, 0⟩]⟩,
  -- DISP_CFG
  ⟨0x0, [], [⟨0, 10, .rw, 0x40⟩, ⟨16, 12, .rw, 0x200⟩, ⟨28, 4, .rw, 0⟩]⟩,
  -- DISP_STATUS
  ⟨0x4, [], [⟨0, 10, .ro, 0⟩, ⟨10, 7, .ro, 0⟩, ⟨17, 6, .ro, 0⟩]⟩,
  -- DISP_CMD
  ⟨0x8, [], [⟨0, 9, .wo, 0⟩, ⟨9, 3, .wo, 0⟩]⟩,
  -- DISP_CMD_STATUS
  ⟨0xc, [], [⟨0, 16, .ro, 0⟩, ⟨16, 1, .ro, 0⟩, ⟨17, 9, .ro, 0⟩, ⟨26, 3, .ro, 0⟩]⟩,
  -- DISP_DOORBELL
  ⟨0x10, [], [⟨0, 32, .wo, 0⟩]⟩,
  -- DISP_LATE_COUNT
  ⟨0x14, [], [⟨0, 32, .ro, 0⟩]⟩,
  -- DISP_OVERRUN_COUNT
  ⟨0x18, [], [⟨0, 32, .ro, 0⟩]⟩,
  -- DISP_SKIP_COUNT
  ⟨0x1c, [], [⟨0, 32, .ro, 0⟩]⟩,
  -- DISP_EVENT
  ⟨0x20, [], [⟨0, 1, .w1c, 0⟩, ⟨1, 1, .w1c, 0⟩, ⟨2, 1, .w1c, 0⟩]⟩,
  -- DISP_NEAR_PEAK
  ⟨0x24, [], [⟨0, 7, .rw, 0⟩]⟩,
  -- FW_CTRL
  ⟨0x1000, [(64, 0x10)], [⟨0, 7, .rw, 0⟩, ⟨7, 2, .rw, 0⟩, ⟨9, 1, .rw, 0⟩, ⟨10, 1, .rw, 0⟩]⟩,
  -- FW_RANGE
  ⟨0x1004, [(64, 0x10)], [⟨0, 12, .rw, 0⟩, ⟨16, 12, .rw, 0⟩]⟩,
  -- FW_THRESH
  ⟨0x1008, [(64, 0x10)], [⟨0, 13, .rw, 0⟩]⟩,
  -- FW_COUNT
  ⟨0x100c, [(64, 0x10)], [⟨0, 13, .ro, 0⟩]⟩,
  -- LS_CTRL
  ⟨0x2000, [(16, 0x20)], [⟨0, 1, .rw, 0⟩, ⟨1, 6, .rw, 0⟩]⟩,
  -- LS_COURSES
  ⟨0x2004, [(16, 0x20)], [⟨0, 16, .rw, 0⟩]⟩,
  -- LS_SLOTS
  ⟨0x2008, [(16, 0x20)], [⟨0, 7, .rw, 0⟩, ⟨8, 7, .rw, 0⟩, ⟨16, 16, .rw, 0⟩]⟩,
  -- LS_FLOWS
  ⟨0x200c, [(16, 0x20)], [⟨0, 9, .rw, 0⟩, ⟨9, 10, .rw, 0⟩]⟩,
  -- LS_LINKS
  ⟨0x2010, [(16, 0x20)], [⟨0, 16, .rw, 0⟩]⟩,
  -- LS_SRAM
  ⟨0x2014, [(16, 0x20)], [⟨0, 16, .rw, 0⟩]⟩]

/-- The register table of the hod block. -/
def regsHod : List RegDef := [
  -- HOD_CFG
  ⟨0x10000, [], [⟨0, 13, .rw, 0⟩, ⟨16, 13, .rw, 0x1fff⟩]⟩,
  -- HOD_FREE
  ⟨0x10004, [], [⟨0, 14, .ro, 0x2000⟩]⟩,
  -- HOD_LOW
  ⟨0x10008, [], [⟨0, 14, .rw, 0x100⟩]⟩,
  -- HOD_EVENT
  ⟨0x1000c, [], [⟨0, 1, .w1c, 0⟩, ⟨1, 1, .w1c, 0⟩]⟩,
  -- HOD_RESTORE_COUNT
  ⟨0x10010, [], [⟨0, 32, .ro, 0⟩]⟩,
  -- HOD_SAVE_COUNT
  ⟨0x10014, [], [⟨0, 32, .ro, 0⟩]⟩,
  -- HOD_EVICT_COUNT
  ⟨0x10018, [], [⟨0, 32, .ro, 0⟩]⟩,
  -- HOD_HOME
  ⟨0x14000, [(512, 0x20), (8, 0x4)], [⟨0, 13, .ro, 0⟩, ⟨16, 13, .ro, 0⟩, ⟨31, 1, .ro, 0⟩]⟩]

/-- The register table of the angle block. -/
def regsAngle : List RegDef := [
  -- ANG_CFG
  ⟨0x70000, [(4, 0x40)], [⟨0, 3, .rw, 0⟩, ⟨3, 1, .rw, 0⟩, ⟨4, 1, .rw, 0⟩, ⟨5, 3, .rw, 0⟩, ⟨8, 1, .rw, 0⟩, ⟨9, 1, .rw, 0⟩, ⟨10, 1, .rw, 0⟩]⟩,
  -- ANG_SCALE
  ⟨0x70004, [(4, 0x40)], [⟨0, 20, .rw, 0⟩]⟩,
  -- ANG_PINS
  ⟨0x70008, [(4, 0x40)], [⟨0, 5, .rw, 0⟩, ⟨8, 5, .rw, 0⟩, ⟨16, 5, .rw, 0⟩]⟩,
  -- ANG_LOSS
  ⟨0x7000c, [(4, 0x40)], [⟨0, 20, .rw, 0⟩, ⟨20, 6, .rw, 0⟩]⟩,
  -- ANG_OVS
  ⟨0x70010, [(4, 0x40)], [⟨0, 32, .rw, 0⟩]⟩,
  -- ANG_VAL_LO
  ⟨0x70014, [(4, 0x40)], [⟨0, 32, .ro, 0⟩]⟩,
  -- ANG_VAL_HI
  ⟨0x70018, [(4, 0x40)], [⟨0, 32, .ro, 0⟩]⟩,
  -- ANG_VEL
  ⟨0x7001c, [(4, 0x40)], [⟨0, 32, .ro, 0⟩]⟩,
  -- ANG_EDGE_LO
  ⟨0x70020, [(4, 0x40)], [⟨0, 32, .ro, 0⟩]⟩,
  -- ANG_EDGE_HI
  ⟨0x70024, [(4, 0x40)], [⟨0, 32, .ro, 0⟩]⟩,
  -- ANG_STATUS
  ⟨0x70028, [(4, 0x40)], [⟨0, 1, .ro, 0⟩, ⟨1, 1, .ro, 0⟩, ⟨2, 1, .ro, 0⟩, ⟨3, 1, .ro, 0⟩, ⟨4, 1, .ro, 0⟩, ⟨5, 1, .w1c, 0⟩, ⟨6, 1, .w1c, 0⟩, ⟨7, 1, .w1c, 0⟩, ⟨8, 1, .w1c, 0⟩, ⟨9, 1, .ro, 0⟩, ⟨10, 1, .ro, 0⟩]⟩,
  -- ANG_ERR_COUNT
  ⟨0x7002c, [(4, 0x40)], [⟨0, 32, .ro, 0⟩]⟩,
  -- ANG_SET_LO
  ⟨0x70030, [(4, 0x40)], [⟨0, 32, .rw, 0⟩]⟩,
  -- ANG_SET_HI
  ⟨0x70034, [(4, 0x40)], [⟨0, 32, .rw, 0⟩]⟩,
  -- ANG_CMD
  ⟨0x70038, [(4, 0x40)], [⟨0, 1, .wo, 0⟩]⟩,
  -- ACU_CTRL
  ⟨0x70400, [(16, 0x20)], [⟨0, 1, .rw, 0⟩, ⟨1, 2, .rw, 0⟩, ⟨3, 2, .rw, 0⟩, ⟨5, 3, .rw, 0⟩, ⟨8, 5, .rw, 0⟩, ⟨13, 1, .rw, 0⟩, ⟨16, 16, .rw, 0⟩]⟩,
  -- ACU_A_LO
  ⟨0x70404, [(16, 0x20)], [⟨0, 32, .rw, 0⟩]⟩,
  -- ACU_A_HI
  ⟨0x70408, [(16, 0x20)], [⟨0, 32, .rw, 0⟩]⟩,
  -- ACU_IDX
  ⟨0x7040c, [(16, 0x20)], [⟨0, 16, .rw, 0⟩]⟩,
  -- ACU_B
  ⟨0x70410, [(16, 0x20)], [⟨0, 32, .rw, 0⟩]⟩,
  -- ACU_STATUS
  ⟨0x70414, [(16, 0x20)], [⟨0, 1, .ro, 0⟩, ⟨1, 1, .ro, 0⟩, ⟨2, 1, .w1c, 0⟩, ⟨3, 1, .w1c, 0⟩]⟩,
  -- ACU_COUNT
  ⟨0x70418, [(16, 0x20)], [⟨0, 16, .ro, 0⟩, ⟨16, 16, .ro, 0⟩]⟩,
  -- ANG_STAMP
  ⟨0x70800, [], [⟨0, 2, .rw, 0⟩]⟩,
  -- WTICK_LO
  ⟨0x70804, [], [⟨0, 32, .ro, 0⟩]⟩,
  -- WTICK_HI
  ⟨0x70808, [], [⟨0, 32, .ro, 0⟩]⟩,
  -- WTICK_STATUS
  ⟨0x7080c, [], [⟨0, 1, .ro, 0⟩]⟩]

/-- The register table of the tick block. -/
def regsTick : List RegDef := [
  -- MT_TICK_LO
  ⟨0x30000, [], [⟨0, 32, .ro, 0⟩]⟩,
  -- MT_TICK_HI
  ⟨0x30004, [], [⟨0, 32, .ro, 0⟩]⟩,
  -- MT_ALIGN
  ⟨0x30008, [], [⟨0, 8, .ro, 0⟩, ⟨8, 8, .w1c, 0⟩]⟩,
  -- ASH_SRC
  ⟨0x30100, [(8, 0x10), (4, 0x4)], [⟨0, 1, .rw, 0⟩, ⟨1, 3, .rw, 0⟩, ⟨4, 2, .rw, 0⟩]⟩]

/-- The register table of the bond block. -/
def regsBond : List RegDef := [
  -- BOND_EPOCH
  ⟨0x40000, [], [⟨0, 1, .ro, 0⟩, ⟨1, 1, .wo, 0⟩, ⟨2, 1, .ro, 0⟩, ⟨3, 1, .ro, 1⟩]⟩,
  -- BOND_FRAME
  ⟨0x40004, [], [⟨0, 6, .ro, 0⟩]⟩,
  -- BOND_DOMAIN
  ⟨0x40008, [], [⟨0, 2, .ro, 0⟩, ⟨2, 2, .ro, 0⟩, ⟨4, 2, .ro, 0⟩, ⟨6, 2, .ro, 0⟩, ⟨8, 2, .ro, 0⟩, ⟨10, 2, .ro, 0⟩, ⟨12, 2, .ro, 0⟩, ⟨14, 2, .ro, 0⟩, ⟨16, 2, .ro, 0⟩, ⟨18, 2, .ro, 0⟩, ⟨20, 2, .ro, 0⟩, ⟨22, 2, .ro, 0⟩, ⟨24, 2, .ro, 0⟩, ⟨26, 2, .ro, 0⟩, ⟨28, 2, .ro, 0⟩, ⟨30, 2, .ro, 0⟩]⟩,
  -- BOND_EVENT
  ⟨0x4000c, [], [⟨0, 1, .w1c, 0⟩, ⟨1, 1, .w1c, 0⟩, ⟨2, 1, .w1c, 0⟩, ⟨3, 1, .w1c, 0⟩]⟩,
  -- BOND_NACK_COUNT
  ⟨0x40010, [], [⟨0, 32, .ro, 0⟩]⟩,
  -- BOND_GMISS_COUNT
  ⟨0x40014, [], [⟨0, 32, .ro, 0⟩]⟩,
  -- BOND_GDROP_COUNT
  ⟨0x40018, [], [⟨0, 32, .ro, 0⟩]⟩,
  -- BOND_DISCARD_COUNT
  ⟨0x4001c, [], [⟨0, 32, .ro, 0⟩]⟩,
  -- BOND_LOST_COUNT
  ⟨0x40020, [], [⟨0, 32, .ro, 0⟩]⟩,
  -- BOND_ROUTE
  ⟨0x41000, [(2, 0x1000), (24, 0x80), (25, 0x4)], [⟨0, 1, .rw, 1⟩, ⟨16, 8, .rw, 0xff⟩]⟩,
  -- BI_RING
  ⟨0x44000, [(128, 0x10)], [⟨0, 2, .rw, 0⟩, ⟨2, 12, .rw, 0⟩, ⟨14, 12, .rw, 0⟩, ⟨26, 1, .rw, 0⟩]⟩,
  -- BI_WPTR
  ⟨0x44004, [(128, 0x10)], [⟨0, 12, .ro, 0⟩, ⟨16, 16, .ro, 0⟩]⟩,
  -- BI_STATUS
  ⟨0x44008, [(128, 0x10)], [⟨0, 1, .w1c, 0⟩, ⟨1, 1, .w1c, 0⟩, ⟨16, 16, .ro, 0⟩]⟩,
  -- GC_CTRL
  ⟨0x45000, [(64, 0x10)], [⟨0, 1, .rw, 0⟩, ⟨1, 1, .ro, 0⟩, ⟨2, 6, .rw, 0⟩, ⟨8, 7, .rw, 1⟩, ⟨15, 5, .rw, 0⟩, ⟨20, 3, .rw, 0⟩]⟩,
  -- GC_DST
  ⟨0x45004, [(64, 0x10)], [⟨0, 16, .rw, 0⟩]⟩,
  -- GC_STAT
  ⟨0x45008, [(64, 0x10)], [⟨0, 16, .ro, 0⟩, ⟨16, 16, .ro, 0⟩]⟩,
  -- BOND_SLOT
  ⟨0x46000, [(2, 0x4800), (24, 0x300), (12, 0x40), (16, 0x4)], [⟨0, 4, .rw, 0⟩, ⟨8, 4, .rw, 0⟩, ⟨16, 4, .rw, 0⟩, ⟨24, 4, .rw, 0⟩, ⟨4, 1, .rw, 0⟩, ⟨12, 1, .rw, 0⟩, ⟨20, 1, .rw, 0⟩, ⟨28, 1, .rw, 0⟩]⟩]

/-- The register table of the crossing block. -/
def regsCrossing : List RegDef := [
  -- XS_EPOCH
  ⟨0x80000, [], [⟨0, 1, .ro, 0⟩, ⟨1, 1, .wo, 0⟩, ⟨2, 1, .ro, 0⟩, ⟨3, 1, .ro, 1⟩]⟩,
  -- XS_WSTATE
  ⟨0x80004, [], [⟨0, 2, .ro, 0⟩, ⟨2, 2, .ro, 0⟩, ⟨4, 2, .ro, 0⟩, ⟨6, 2, .ro, 0⟩, ⟨8, 2, .ro, 0⟩, ⟨10, 2, .ro, 0⟩, ⟨12, 2, .ro, 0⟩, ⟨14, 2, .ro, 0⟩]⟩,
  -- XS_EVENT
  ⟨0x80008, [], [⟨0, 1, .w1c, 0⟩, ⟨1, 1, .w1c, 0⟩, ⟨2, 1, .w1c, 0⟩]⟩,
  -- XS_NACK_COUNT
  ⟨0x8000c, [], [⟨0, 32, .ro, 0⟩]⟩,
  -- XS_DEGRADE_COUNT
  ⟨0x80010, [], [⟨0, 32, .ro, 0⟩]⟩,
  -- XS_DISCARD_COUNT
  ⟨0x80014, [], [⟨0, 32, .ro, 0⟩]⟩,
  -- XS_LOST_COUNT
  ⟨0x80018, [], [⟨0, 32, .ro, 0⟩]⟩,
  -- XS_ROUTE
  ⟨0x80800, [(2, 0x40), (11, 0x4)], [⟨0, 11, .rw, 0x7ff⟩]⟩,
  -- XS_SLOT
  ⟨0x81000, [(2, 0x400), (11, 0x40), (16, 0x4)], [⟨0, 4, .rw, 0⟩, ⟨4, 1, .rw, 0⟩, ⟨8, 4, .rw, 0⟩, ⟨12, 1, .rw, 0⟩, ⟨16, 4, .rw, 0⟩, ⟨20, 1, .rw, 0⟩, ⟨24, 4, .rw, 0⟩, ⟨28, 1, .rw, 0⟩]⟩,
  -- XS_HWIN_LO
  ⟨0x82000, [(32, 0x10)], [⟨12, 20, .rw, 0⟩]⟩,
  -- XS_HWIN_HI
  ⟨0x82004, [(32, 0x10)], [⟨0, 32, .rw, 0⟩]⟩,
  -- XS_HWIN_SIZE
  ⟨0x82008, [(32, 0x10)], [⟨0, 21, .rw, 0⟩]⟩]

/-- The register table of the sram block. -/
def regsSram : List RegDef := [
  -- SRAM_STATUS
  ⟨0x50000, [], [⟨0, 8, .ro, 0xff⟩, ⟨8, 8, .ro, 0⟩, ⟨16, 8, .ro, 0⟩]⟩,
  -- SRAM_RET
  ⟨0x50004, [], [⟨0, 8, .rw, 0⟩]⟩,
  -- SRAM_PATROL
  ⟨0x50008, [], [⟨0, 16, .rw, 0x400⟩]⟩,
  -- SRAM_EVENT
  ⟨0x5000c, [], [⟨0, 1, .w1c, 0⟩, ⟨1, 1, .w1c, 0⟩]⟩,
  -- SRAM_CE_COUNT
  ⟨0x50010, [], [⟨0, 32, .ro, 0⟩]⟩,
  -- SRAM_UE_COUNT
  ⟨0x50014, [], [⟨0, 32, .ro, 0⟩]⟩,
  -- SRAM_DENY_COUNT
  ⟨0x50018, [], [⟨0, 32, .ro, 0⟩]⟩,
  -- SRAM_UE_ADDR
  ⟨0x5001c, [], [⟨0, 25, .ro, 0⟩, ⟨25, 1, .w1c, 0⟩]⟩,
  -- SRAM_DENY_INFO
  ⟨0x50020, [], [⟨0, 6, .ro, 0⟩, ⟨6, 3, .ro, 0⟩, ⟨9, 1, .ro, 0⟩]⟩,
  -- SRAM_DENY_ADDR
  ⟨0x50024, [], [⟨0, 22, .ro, 0⟩]⟩,
  -- SRAM_LOCK
  ⟨0x50028, [], [⟨0, 1, .rwl, 0⟩]⟩,
  -- SEC_STATUS
  ⟨0x50030, [], [⟨0, 1, .ro, 0⟩, ⟨1, 1, .rws, 0⟩, ⟨2, 3, .ro, 0⟩]⟩,
  -- MARCH_CTRL
  ⟨0x50200, [], [⟨0, 8, .rw, 0⟩, ⟨8, 2, .rw, 0⟩, ⟨10, 2, .rw, 0⟩, ⟨12, 1, .wo, 0⟩, ⟨13, 1, .wo, 0⟩]⟩,
  -- MARCH_STATUS
  ⟨0x50204, [], [⟨0, 8, .ro, 0⟩, ⟨8, 8, .w1c, 0⟩, ⟨16, 8, .w1c, 0⟩]⟩,
  -- MARCH_BOOT
  ⟨0x50208, [], [⟨0, 8, .rws, 0⟩, ⟨8, 2, .rws, 2⟩, ⟨10, 2, .rws, 0⟩]⟩,
  -- SRAM_ACC_A
  ⟨0x50100, [(8, 0x20)], [⟨0, 32, .rwl, 0⟩]⟩,
  -- SRAM_ACC_B
  ⟨0x50104, [(8, 0x20)], [⟨0, 32, .rwl, 0⟩]⟩,
  -- SRAM_ACC_C
  ⟨0x50108, [(8, 0x20)], [⟨0, 32, .rwl, 0⟩]⟩,
  -- SRAM_ACC_D
  ⟨0x5010c, [(8, 0x20)], [⟨0, 32, .rwl, 0⟩]⟩,
  -- SRAM_PATROL_POS
  ⟨0x50110, [(8, 0x20)], [⟨0, 16, .ro, 0⟩, ⟨16, 16, .ro, 0⟩]⟩,
  -- MARCH_FAIL_ADDR
  ⟨0x50240, [(8, 0x10)], [⟨0, 16, .ro, 0⟩, ⟨16, 10, .ro, 0⟩, ⟨26, 4, .ro, 0⟩, ⟨30, 2, .ro, 0⟩]⟩,
  -- MARCH_FAIL_COUNT
  ⟨0x50244, [(8, 0x10)], [⟨0, 32, .ro, 0⟩]⟩]

/-- The register table of the gddr block. -/
def regsGddr : List RegDef := [
  -- GD_CFG
  ⟨0x60000, [], [⟨0, 1, .ro, 0⟩, ⟨1, 1, .rw, 1⟩, ⟨8, 8, .rw, 0x10⟩, ⟨16, 8, .rw, 0xa⟩]⟩,
  -- GD_LOCK
  ⟨0x60004, [], [⟨0, 1, .rwl, 0⟩]⟩,
  -- GD_STATUS
  ⟨0x60100, [(2, 0x40)], [⟨0, 2, .ro, 0⟩, ⟨2, 1, .ro, 0⟩, ⟨3, 1, .ro, 0⟩, ⟨8, 8, .ro, 0⟩]⟩,
  -- GD_CMD
  ⟨0x60104, [(2, 0x40)], [⟨0, 1, .wo, 0⟩]⟩,
  -- GD_CRC_COUNT
  ⟨0x60108, [(2, 0x40)], [⟨0, 32, .ro, 0⟩]⟩,
  -- GD_CE_COUNT
  ⟨0x6010c, [(2, 0x40)], [⟨0, 32, .ro, 0⟩]⟩,
  -- GD_UE_COUNT
  ⟨0x60110, [(2, 0x40)], [⟨0, 32, .ro, 0⟩]⟩,
  -- GD_UE_ADDR_LO
  ⟨0x60114, [(2, 0x40)], [⟨0, 32, .ro, 0⟩]⟩,
  -- GD_UE_ADDR_HI
  ⟨0x60118, [(2, 0x40)], [⟨0, 2, .ro, 0⟩, ⟨31, 1, .w1c, 0⟩]⟩,
  -- GD_BI_COUNT
  ⟨0x6011c, [(2, 0x40)], [⟨0, 32, .ro, 0⟩]⟩,
  -- GD_BI_MAXLAT
  ⟨0x60120, [(2, 0x40)], [⟨0, 32, .rw, 0⟩]⟩,
  -- GD_FILTER
  ⟨0x60124, [(2, 0x40)], [⟨0, 18, .ro, 0⟩]⟩,
  -- GD_EVENT
  ⟨0x60128, [(2, 0x40)], [⟨0, 1, .w1c, 0⟩, ⟨1, 1, .w1c, 0⟩, ⟨2, 1, .w1c, 0⟩, ⟨3, 1, .w1c, 0⟩, ⟨4, 1, .w1c, 0⟩, ⟨5, 1, .w1c, 0⟩]⟩,
  -- GD_DENY_COUNT
  ⟨0x6012c, [(2, 0x40)], [⟨0, 32, .ro, 0⟩]⟩,
  -- GD_DENY_INFO
  ⟨0x60130, [(2, 0x40)], [⟨0, 6, .ro, 0⟩, ⟨6, 6, .ro, 0⟩, ⟨12, 1, .ro, 0⟩]⟩,
  -- GD_REGION
  ⟨0x61000, [(2, 0x600), (48, 0x20)], [⟨0, 2, .rw, 0⟩, ⟨2, 1, .ro, 0⟩]⟩,
  -- GD_ACC_A
  ⟨0x61004, [(2, 0x600), (48, 0x20)], [⟨0, 32, .rwl, 0⟩]⟩,
  -- GD_ACC_B
  ⟨0x61008, [(2, 0x600), (48, 0x20)], [⟨0, 32, .rwl, 0⟩]⟩,
  -- GD_ACC_C
  ⟨0x6100c, [(2, 0x600), (48, 0x20)], [⟨0, 32, .rwl, 0⟩]⟩,
  -- GD_ACC_D
  ⟨0x61010, [(2, 0x600), (48, 0x20)], [⟨0, 32, .rwl, 0⟩]⟩]

/-- The register table of the links block. -/
def regsLinks : List RegDef := [
  -- LK_CTRL
  ⟨0x80000, [(16, 0x1000)], [⟨0, 3, .rw, 0⟩, ⟨3, 5, .rw, 0⟩, ⟨8, 1, .rw, 0⟩, ⟨9, 2, .rw, 0⟩, ⟨11, 1, .rw, 0⟩, ⟨12, 1, .rw, 0⟩]⟩,
  -- LK_STATUS
  ⟨0x80004, [(16, 0x1000)], [⟨0, 3, .ro, 0⟩, ⟨8, 8, .ro, 0⟩]⟩,
  -- LK_EVENT
  ⟨0x80008, [(16, 0x1000)], [⟨0, 1, .w1c, 0⟩, ⟨1, 1, .w1c, 0⟩, ⟨2, 1, .w1c, 0⟩, ⟨3, 1, .w1c, 0⟩]⟩,
  -- LK_RATE
  ⟨0x8000c, [(16, 0x1000)], [⟨0, 15, .rw, 0⟩]⟩,
  -- LK_RX_TIMEOUT
  ⟨0x80010, [(16, 0x1000)], [⟨0, 20, .rw, 0⟩]⟩,
  -- LK_PRBS
  ⟨0x80014, [(16, 0x1000)], [⟨0, 1, .rw, 0⟩, ⟨1, 1, .rw, 0⟩, ⟨16, 16, .ro, 0⟩]⟩,
  -- LK_SF_CFG
  ⟨0x80040, [(16, 0x1000)], [⟨0, 6, .rw, 0⟩, ⟨6, 3, .rw, 0⟩, ⟨9, 2, .rw, 0⟩, ⟨11, 2, .rw, 0⟩, ⟨13, 1, .rw, 0⟩, ⟨16, 16, .rw, 0⟩]⟩,
  -- LK_SF_OFS
  ⟨0x80044, [(16, 0x1000)], [⟨0, 32, .rw, 0⟩]⟩,
  -- LK_SF_REV
  ⟨0x80048, [(16, 0x1000)], [⟨0, 32, .rw, 0⟩]⟩,
  -- LK_SF_IDX
  ⟨0x8004c, [(16, 0x1000)], [⟨0, 16, .rw, 0⟩]⟩,
  -- LK_SF_PERIOD
  ⟨0x80050, [(16, 0x1000)], [⟨0, 20, .rw, 0⟩]⟩,
  -- LK_SF_GO
  ⟨0x80054, [(16, 0x1000)], [⟨0, 1, .wo, 0⟩]⟩,
  -- LK_LG_CFG
  ⟨0x80060, [(16, 0x1000)], [⟨0, 1, .rw, 0⟩, ⟨1, 1, .rw, 0⟩]⟩,
  -- LK_ETH_CFG
  ⟨0x80080, [(16, 0x1000)], [⟨0, 2, .rw, 0⟩, ⟨2, 1, .rw, 0⟩, ⟨16, 16, .rw, 0x5f2⟩]⟩,
  -- LK_ETH_MAC_LO
  ⟨0x80084, [(16, 0x1000)], [⟨0, 32, .rw, 0⟩]⟩,
  -- LK_ETH_MAC_HI
  ⟨0x80088, [(16, 0x1000)], [⟨0, 16, .rw, 0⟩]⟩,
  -- LK_ETH_DROP_COUNT
  ⟨0x800ac, [(16, 0x1000)], [⟨0, 32, .ro, 0⟩]⟩,
  -- LK_PTP_LAT
  ⟨0x800b0, [(16, 0x1000)], [⟨0, 16, .rw, 0⟩, ⟨16, 16, .rw, 0⟩]⟩,
  -- LK_DOWN_COUNT
  ⟨0x80020, [(16, 0x1000)], [⟨0, 32, .ro, 0⟩]⟩,
  -- LK_CRC_COUNT
  ⟨0x80024, [(16, 0x1000)], [⟨0, 32, .ro, 0⟩]⟩,
  -- LK_FMT_COUNT
  ⟨0x80028, [(16, 0x1000)], [⟨0, 32, .ro, 0⟩]⟩,
  -- LK_RXOVF_COUNT
  ⟨0x8002c, [(16, 0x1000)], [⟨0, 32, .ro, 0⟩]⟩,
  -- LK_RXDROP_COUNT
  ⟨0x80030, [(16, 0x1000)], [⟨0, 32, .ro, 0⟩]⟩,
  -- LK_RXFRAME_COUNT
  ⟨0x80034, [(16, 0x1000)], [⟨0, 32, .ro, 0⟩]⟩,
  -- LK_TXFRAME_COUNT
  ⟨0x80038, [(16, 0x1000)], [⟨0, 32, .ro, 0⟩]⟩,
  -- LK_TXOVR_COUNT
  ⟨0x8003c, [(16, 0x1000)], [⟨0, 32, .ro, 0⟩]⟩,
  -- LK_ETH_RXBASE
  ⟨0x8008c, [(16, 0x1000)], [⟨0, 22, .rw, 0⟩]⟩,
  -- LK_ETH_RXSIZE
  ⟨0x80090, [(16, 0x1000)], [⟨0, 22, .rw, 0⟩]⟩,
  -- LK_ETH_RXWR
  ⟨0x80094, [(16, 0x1000)], [⟨0, 20, .ro, 0⟩]⟩,
  -- LK_ETH_RXRD
  ⟨0x80098, [(16, 0x1000)], [⟨0, 20, .rw, 0⟩]⟩,
  -- LK_ETH_TXBASE
  ⟨0x8009c, [(16, 0x1000)], [⟨0, 22, .rw, 0⟩]⟩,
  -- LK_ETH_TXSIZE
  ⟨0x800a0, [(16, 0x1000)], [⟨0, 22, .rw, 0⟩]⟩,
  -- LK_ETH_TXWR
  ⟨0x800a4, [(16, 0x1000)], [⟨0, 20, .rw, 0⟩]⟩,
  -- LK_ETH_TXRD
  ⟨0x800a8, [(16, 0x1000)], [⟨0, 20, .ro, 0⟩]⟩,
  -- LK_RXS_DST
  ⟨0x80400, [(16, 0x1000), (64, 0x10)], [⟨0, 16, .rw, 0⟩, ⟨16, 5, .rw, 0⟩, ⟨21, 1, .rw, 0⟩]⟩,
  -- LK_RXS_ADDR
  ⟨0x80404, [(16, 0x1000), (64, 0x10)], [⟨0, 32, .rw, 0⟩]⟩,
  -- LK_TXS_CFG
  ⟨0x80408, [(16, 0x1000), (64, 0x10)], [⟨0, 1, .rw, 0⟩, ⟨1, 6, .rw, 0⟩]⟩,
  -- LK_SLOT_STAT
  ⟨0x8040c, [(16, 0x1000), (64, 0x10)], [⟨0, 8, .ro, 0⟩, ⟨8, 1, .ro, 0⟩, ⟨16, 8, .ro, 0⟩, ⟨24, 1, .ro, 0⟩]⟩]

/-- The register table of the ptp block. -/
def regsPtp : List RegDef := [
  -- PTP_SEC_LO
  ⟨0x90000, [], [⟨0, 32, .ro, 0⟩]⟩,
  -- PTP_SEC_HI
  ⟨0x90004, [], [⟨0, 16, .ro, 0⟩]⟩,
  -- PTP_NS
  ⟨0x90008, [], [⟨0, 30, .ro, 0⟩]⟩,
  -- PTP_INC
  ⟨0x9000c, [], [⟨0, 32, .rw, 0xcccccd⟩]⟩,
  -- PTP_ADJ
  ⟨0x90010, [], [⟨0, 32, .wo, 0⟩]⟩]

/-- The register table of the pins block. -/
def regsPins : List RegDef := [
  -- FP_CFG
  ⟨0xa0000, [(24, 0x10)], [⟨0, 3, .rw, 0⟩, ⟨3, 2, .rw, 1⟩, ⟨5, 5, .rw, 0⟩, ⟨10, 1, .rw, 0⟩, ⟨11, 1, .rw, 0⟩, ⟨12, 2, .rw, 1⟩]⟩,
  -- FP_TRIP
  ⟨0xa0004, [(24, 0x10)], [⟨0, 1, .wo, 0⟩, ⟨1, 1, .wo, 0⟩, ⟨2, 1, .ro, 0⟩, ⟨3, 1, .ro, 0⟩]⟩,
  -- FP_TRIPMASK
  ⟨0xa0008, [(24, 0x10)], [⟨0, 24, .rw, 0⟩]⟩,
  -- FP_COUNT
  ⟨0xa000c, [(24, 0x10)], [⟨0, 32, .ro, 0⟩]⟩,
  -- FP_BANK
  ⟨0xa0200, [], [⟨0, 3, .rw, 4⟩, ⟨3, 1, .ro, 0⟩, ⟨8, 8, .ro, 0⟩]⟩,
  -- FP_LEVEL
  ⟨0xa0204, [], [⟨0, 24, .ro, 0⟩]⟩]

/-- The register table of the service block. -/
def regsService : List RegDef := [
  -- CHN_CFG
  ⟨0x90400, [], [⟨0, 1, .rws, 0⟩]⟩,
  -- CHN_STATUS
  ⟨0x90404, [], [⟨0, 6, .ro, 0⟩, ⟨6, 1, .ro, 0⟩, ⟨7, 7, .ro, 0⟩, ⟨14, 1, .ro, 0⟩, ⟨15, 1, .ro, 0⟩, ⟨16, 1, .ro, 0⟩, ⟨17, 1, .ro, 0⟩]⟩,
  -- CHN_TICK
  ⟨0x90408, [], [⟨0, 32, .ro, 0⟩]⟩,
  -- CHN_ERR_COUNT
  ⟨0x9040c, [], [⟨0, 32, .ro, 0⟩]⟩,
  -- CHN_EVENT
  ⟨0x90410, [], [⟨0, 1, .w1c, 0⟩, ⟨1, 1, .w1c, 0⟩]⟩,
  -- SVC_METER_SEL
  ⟨0x90000, [], [⟨0, 2, .rw, 0⟩, ⟨2, 6, .rw, 0⟩, ⟨8, 3, .rw, 0⟩, ⟨11, 1, .rw, 0⟩, ⟨12, 6, .rw, 0⟩, ⟨18, 2, .rw, 0⟩]⟩,
  -- SVC_METER_MV
  ⟨0x90004, [], [⟨0, 12, .ro, 0⟩]⟩,
  -- SVC_VERDICT
  ⟨0x90008, [], [⟨0, 4, .ro, 0⟩, ⟨4, 8, .ro, 0⟩, ⟨12, 3, .ro, 0⟩]⟩,
  -- SVC_CONSOLE
  ⟨0x9000c, [], [⟨0, 1, .ro, 0⟩, ⟨1, 1, .ro, 0⟩]⟩,
  -- SVC_SAFE
  ⟨0x90010, [], [⟨0, 1, .wo, 0⟩, ⟨1, 1, .wo, 0⟩]⟩]

/-- The register table of the id block. -/
def regsId : List RegDef := [
  -- HUB_ID
  ⟨0x0, [], [⟨0, 4, .ro, 0⟩, ⟨4, 4, .ro, 0⟩, ⟨8, 8, .ro, 0x7d⟩]⟩,
  -- HUB_VERSION
  ⟨0x4, [], [⟨0, 32, .ro, 0⟩]⟩,
  -- UNIT_ID_LO
  ⟨0x8, [], [⟨0, 32, .ro, 0⟩]⟩,
  -- UNIT_ID_HI
  ⟨0xc, [], [⟨0, 32, .ro, 0⟩]⟩]

/-- The register table of the queues block. -/
def regsQueues : List RegDef := [
  -- SQ_BASE_LO
  ⟨0x10000, [(64, 0x20)], [⟨12, 20, .rw, 0⟩]⟩,
  -- SQ_BASE_HI
  ⟨0x10004, [(64, 0x20)], [⟨0, 32, .rw, 0⟩]⟩,
  -- SQ_CFG
  ⟨0x10008, [(64, 0x20)], [⟨0, 4, .rw, 0⟩, ⟨4, 6, .rw, 0⟩, ⟨10, 5, .rw, 0⟩, ⟨15, 1, .rw, 0⟩, ⟨16, 1, .rw, 0⟩, ⟨17, 1, .w1c, 0⟩]⟩,
  -- SQ_PASID
  ⟨0x1000c, [(64, 0x20)], [⟨0, 20, .rw, 0⟩]⟩,
  -- SQ_HEAD
  ⟨0x10010, [(64, 0x20)], [⟨0, 12, .ro, 0⟩]⟩,
  -- CQ_BASE_LO
  ⟨0x10800, [(64, 0x20)], [⟨12, 20, .rw, 0⟩]⟩,
  -- CQ_BASE_HI
  ⟨0x10804, [(64, 0x20)], [⟨0, 32, .rw, 0⟩]⟩,
  -- CQ_CFG
  ⟨0x10808, [(64, 0x20)], [⟨0, 4, .rw, 0⟩, ⟨4, 7, .rw, 0⟩, ⟨11, 1, .rw, 0⟩, ⟨12, 1, .rw, 0⟩, ⟨13, 1, .rw, 0⟩, ⟨14, 1, .ro, 0⟩]⟩,
  -- CQ_PASID
  ⟨0x1080c, [(64, 0x20)], [⟨0, 20, .rw, 0⟩]⟩,
  -- CQ_TAIL
  ⟨0x10810, [(64, 0x20)], [⟨0, 12, .ro, 0⟩]⟩,
  -- SQ_DB
  ⟨0x18000, [(64, 0x8)], [⟨0, 12, .wo, 0⟩]⟩,
  -- CQ_DB
  ⟨0x18004, [(64, 0x8)], [⟨0, 12, .wo, 0⟩]⟩,
  -- CMD_STATUS
  ⟨0x1c000, [], [⟨0, 9, .ro, 0⟩]⟩]

/-- The register table of the events block. -/
def regsEvents : List RegDef := [
  -- EM_HUB
  ⟨0x20000, [(32, 0x4)], [⟨0, 7, .rw, 0⟩, ⟨7, 1, .rw, 0⟩, ⟨8, 1, .rw, 1⟩]⟩,
  -- EM_WALL
  ⟨0x20100, [(8, 0x80), (32, 0x4)], [⟨0, 7, .rw, 0⟩, ⟨7, 1, .rw, 0⟩, ⟨8, 1, .rw, 1⟩]⟩,
  -- MSIX_ADDR_LO
  ⟨0x21000, [(128, 0x10)], [⟨0, 32, .rw, 0⟩]⟩,
  -- MSIX_ADDR_HI
  ⟨0x21004, [(128, 0x10)], [⟨0, 32, .rw, 0⟩]⟩,
  -- MSIX_DATA
  ⟨0x21008, [(128, 0x10)], [⟨0, 32, .rw, 0⟩]⟩,
  -- MSIX_CTRL
  ⟨0x2100c, [(128, 0x10)], [⟨0, 1, .rw, 1⟩]⟩,
  -- MSIX_PBA
  ⟨0x21800, [(4, 0x4)], [⟨0, 32, .ro, 0⟩]⟩,
  -- EVR_BASE_LO
  ⟨0x22000, [], [⟨12, 20, .rw, 0⟩]⟩,
  -- EVR_BASE_HI
  ⟨0x22004, [], [⟨0, 32, .rw, 0⟩]⟩,
  -- EVR_CFG
  ⟨0x22008, [], [⟨0, 5, .rw, 0⟩, ⟨5, 1, .rw, 0⟩, ⟨6, 1, .rw, 0⟩]⟩,
  -- EVR_PASID
  ⟨0x2200c, [], [⟨0, 20, .rw, 0⟩]⟩,
  -- EVR_WR
  ⟨0x22010, [], [⟨0, 16, .ro, 0⟩]⟩,
  -- EVR_RD
  ⟨0x22014, [], [⟨0, 16, .rw, 0⟩]⟩,
  -- EVR_LOST_COUNT
  ⟨0x22018, [], [⟨0, 32, .ro, 0⟩]⟩,
  -- LOG_POS_LO
  ⟨0x22020, [], [⟨0, 32, .ro, 0⟩]⟩,
  -- LOG_POS_HI
  ⟨0x22024, [], [⟨0, 32, .ro, 0⟩]⟩,
  -- EV_RAISE
  ⟨0x22028, [], [⟨0, 32, .wo, 0⟩]⟩]

/-- The register table of the access block. -/
def regsAccess : List RegDef := [
  -- RB_ACC_A
  ⟨0x70000, [(16, 0x10)], [⟨0, 32, .rwl, 2⟩]⟩,
  -- WB_ACC_A
  ⟨0x70100, [(8, 0xc0), (12, 0x10)], [⟨0, 32, .rwl, 2⟩]⟩,
  -- LK_ACC_A
  ⟨0x71000, [(128, 0x10)], [⟨0, 32, .rwl, 2⟩]⟩,
  -- RB_ACC_B
  ⟨0x70004, [(16, 0x10)], [⟨0, 32, .rwl, 0⟩]⟩,
  -- WB_ACC_B
  ⟨0x70104, [(8, 0xc0), (12, 0x10)], [⟨0, 32, .rwl, 0⟩]⟩,
  -- LK_ACC_B
  ⟨0x71004, [(128, 0x10)], [⟨0, 32, .rwl, 0⟩]⟩,
  -- RB_ACC_C
  ⟨0x70008, [(16, 0x10)], [⟨0, 32, .rwl, 0⟩]⟩,
  -- WB_ACC_C
  ⟨0x70108, [(8, 0xc0), (12, 0x10)], [⟨0, 32, .rwl, 0⟩]⟩,
  -- LK_ACC_C
  ⟨0x71008, [(128, 0x10)], [⟨0, 32, .rwl, 0⟩]⟩,
  -- RB_ACC_D
  ⟨0x7000c, [(16, 0x10)], [⟨0, 32, .rwl, 0⟩]⟩,
  -- WB_ACC_D
  ⟨0x7010c, [(8, 0xc0), (12, 0x10)], [⟨0, 32, .rwl, 0⟩]⟩,
  -- LK_ACC_D
  ⟨0x7100c, [(128, 0x10)], [⟨0, 32, .rwl, 0⟩]⟩,
  -- HUB_ACC_LOCK
  ⟨0x70f00, [], [⟨0, 1, .rwl, 0⟩]⟩,
  -- HG_MAP
  ⟨0x76000, [(32, 0x4)], [⟨0, 20, .rwl, 0⟩, ⟨20, 1, .rwl, 0⟩]⟩,
  -- REG_STAT
  ⟨0x77000, [(32, 0x8)], [⟨0, 16, .ro, 0⟩, ⟨16, 1, .w1c, 0⟩]⟩,
  -- REG_STAT_ADDR
  ⟨0x77004, [(32, 0x8)], [⟨0, 26, .ro, 0⟩]⟩,
  -- CLAIM
  ⟨0x78000, [(8, 0x100), (57, 0x4)], [⟨0, 6, .ro, 0⟩, ⟨6, 1, .ro, 0⟩, ⟨7, 1, .wo, 0⟩, ⟨8, 1, .wo, 0⟩, ⟨9, 1, .wo, 0⟩]⟩,
  -- CLAIM_SVC
  ⟨0x78800, [(2, 0x4)], [⟨0, 6, .ro, 0⟩, ⟨6, 1, .ro, 0⟩, ⟨7, 1, .wo, 0⟩, ⟨8, 1, .wo, 0⟩, ⟨9, 1, .wo, 0⟩]⟩]

/-- The register table of the wallevents block. -/
def regsWallEvents : List RegDef := [
  -- WEV_STATUS
  ⟨0xf0000, [], [⟨0, 9, .ro, 0⟩]⟩,
  -- WEV_SEQ
  ⟨0xf0004, [], [⟨0, 32, .ro, 0⟩]⟩,
  -- WEV_LOST_COUNT
  ⟨0xf0008, [], [⟨0, 32, .ro, 0⟩]⟩,
  -- WEV_LOG_BASE
  ⟨0xf000c, [], [⟨0, 22, .rws, 0⟩]⟩,
  -- WEV_LOG_SIZE
  ⟨0xf0010, [], [⟨0, 22, .rws, 0⟩]⟩,
  -- WEV_LOG_WR
  ⟨0xf0014, [], [⟨0, 22, .ro, 0⟩]⟩]

/-- The register table of the pointing block. -/
def regsPointing : List RegDef := [
  -- PT_CFG
  ⟨0x30000, [], [⟨0, 1, .rw, 1⟩, ⟨1, 1, .rw, 1⟩, ⟨2, 2, .rw, 0⟩, ⟨16, 16, .rw, 0x64⟩]⟩,
  -- PT_POLICY
  ⟨0x30004, [], [⟨0, 16, .rw, 0xa⟩, ⟨16, 16, .rw, 0x3e8⟩]⟩,
  -- PT_STATUS
  ⟨0x30008, [], [⟨0, 1, .ro, 0⟩, ⟨16, 16, .ro, 0⟩]⟩,
  -- PT_PASS_COUNT
  ⟨0x3000c, [], [⟨0, 32, .ro, 0⟩]⟩,
  -- PT_PASS_TIME
  ⟨0x30010, [], [⟨0, 32, .ro, 0⟩]⟩,
  -- PT_CE_COUNT
  ⟨0x30014, [], [⟨0, 32, .ro, 0⟩]⟩,
  -- PT_UE_COUNT
  ⟨0x30018, [], [⟨0, 32, .ro, 0⟩]⟩,
  -- PT_UE_LOC
  ⟨0x3001c, [], [⟨0, 32, .ro, 0⟩]⟩,
  -- PT_EVENT
  ⟨0x30020, [], [⟨0, 1, .w1c, 0⟩, ⟨1, 1, .w1c, 0⟩, ⟨2, 1, .w1c, 0⟩, ⟨3, 1, .w1c, 0⟩]⟩,
  -- PT_VOTE_COUNT
  ⟨0x30024, [], [⟨0, 32, .ro, 0⟩]⟩,
  -- PT_OVERRUN_COUNT
  ⟨0x30028, [], [⟨0, 32, .ro, 0⟩]⟩,
  -- PT_HB_COUNT
  ⟨0x3002c, [], [⟨0, 32, .ro, 0⟩]⟩]

/-- The register table of the trowel block. -/
def regsTrowel : List RegDef := [
  -- TRW_STATUS
  ⟨0x40000, [], [⟨0, 3, .ro, 0⟩, ⟨3, 1, .ro, 0⟩, ⟨8, 24, .ro, 0⟩]⟩,
  -- TRW_BOOT
  ⟨0x4000c, [], [⟨0, 2, .ro, 0⟩, ⟨4, 4, .ro, 0⟩]⟩,
  -- TRW_FWD
  ⟨0x40010, [], [⟨0, 1, .rw, 0⟩, ⟨1, 1, .rws, 1⟩]⟩,
  -- TRW_ACT
  ⟨0x40014, [], [⟨0, 2, .ro, 0⟩, ⟨2, 1, .ro, 0⟩, ⟨3, 1, .ro, 0⟩]⟩,
  -- TRW_ACT_AT
  ⟨0x40018, [], [⟨0, 32, .ro, 0⟩]⟩,
  -- TRW_RCV_SEND
  ⟨0x4001c, [], [⟨0, 6, .wo, 0⟩, ⟨6, 1, .wo, 0⟩]⟩,
  -- RCV_CTRL
  ⟨0x49000, [], [⟨0, 13, .wo, 0⟩, ⟨13, 1, .wo, 0⟩, ⟨14, 1, .wo, 0⟩, ⟨15, 1, .wo, 0⟩]⟩,
  -- RCV_STATUS
  ⟨0x49004, [], [⟨0, 16, .ro, 0⟩, ⟨16, 1, .ro, 0⟩]⟩,
  -- RCV_COUNT
  ⟨0x49008, [], [⟨0, 24, .ro, 0⟩]⟩,
  -- TRW_SLOT
  ⟨0x40004, [(2, 0x4)], [⟨0, 3, .ro, 0⟩, ⟨8, 24, .ro, 0⟩]⟩,
  -- TRW_CHAIN
  ⟨0x40100, [(64, 0x4)], [⟨0, 3, .ro, 0⟩, ⟨3, 1, .ro, 0⟩, ⟨8, 24, .ro, 0⟩]⟩,
  -- RCV_WIN
  ⟨0x48000, [(1024, 0x4)], [⟨0, 32, .wo, 0⟩]⟩]

/-- The register table of the secure block. -/
def regsSecure : List RegDef := [
  -- SEC_LC
  ⟨0x60000, [], [⟨0, 2, .ro, 0⟩]⟩,
  -- SEC_KEY_ID
  ⟨0x60004, [], [⟨0, 32, .ro, 0⟩]⟩]

/-- The register table of the power block. -/
def regsPower : List RegDef := [
  -- PWR_STATUS
  ⟨0x50000, [], [⟨0, 1, .ro, 0⟩, ⟨1, 1, .ro, 0⟩, ⟨8, 8, .ro, 0⟩]⟩,
  -- PWR_CAUSE
  ⟨0x50004, [], [⟨0, 4, .ro, 0⟩, ⟨8, 7, .ro, 0⟩]⟩,
  -- PWR_WDT
  ⟨0x50008, [], [⟨0, 16, .rw, 0x3e8⟩, ⟨16, 8, .ro, 0⟩]⟩,
  -- PWR_FAN
  ⟨0x5000c, [], [⟨0, 7, .ro, 0⟩, ⟨7, 1, .rw, 1⟩, ⟨8, 7, .rw, 0x64⟩, ⟨16, 8, .rw, 0x3c⟩, ⟨24, 8, .rw, 0x5a⟩]⟩,
  -- TEL_VIN
  ⟨0x50010, [], [⟨0, 16, .ro, 0⟩]⟩,
  -- TEL_IIN
  ⟨0x50014, [], [⟨0, 20, .ro, 0⟩]⟩,
  -- TEL_PIN
  ⟨0x50018, [], [⟨0, 16, .ro, 0⟩]⟩,
  -- TEL_COUNT
  ⟨0x5001c, [], [⟨0, 32, .ro, 0⟩]⟩,
  -- MON_CFG
  ⟨0x50100, [(88, 0x10)], [⟨0, 1, .rw, 1⟩, ⟨1, 2, .rw, 0⟩, ⟨3, 8, .rw, 0⟩, ⟨11, 1, .ro, 0⟩, ⟨12, 1, .w1c, 0⟩, ⟨13, 1, .ro, 0⟩]⟩,
  -- MON_LIM
  ⟨0x50104, [(88, 0x10)], [⟨0, 16, .rw, 0⟩, ⟨16, 16, .rw, 0⟩]⟩,
  -- MON_VALUE
  ⟨0x50108, [(88, 0x10)], [⟨0, 16, .ro, 0⟩, ⟨16, 16, .ro, 0⟩]⟩,
  -- MON_PEAK
  ⟨0x5010c, [(88, 0x10)], [⟨0, 16, .rw, 0⟩, ⟨16, 16, .rw, 0⟩]⟩,
  -- WPWR_CTRL
  ⟨0x51000, [(8, 0x40)], [⟨0, 2, .ro, 0⟩, ⟨2, 1, .ro, 0⟩, ⟨3, 1, .rw, 0⟩, ⟨4, 1, .w1c, 0⟩]⟩,
  -- WPWR_GATE
  ⟨0x51004, [(8, 0x40)], [⟨0, 16, .rw, 0⟩, ⟨16, 16, .ro, 0⟩]⟩,
  -- WPWR_CLK
  ⟨0x51008, [(8, 0x40)], [⟨0, 1, .rw, 1⟩, ⟨1, 2, .rw, 0⟩, ⟨3, 2, .ro, 0⟩, ⟨8, 8, .rw, 0⟩, ⟨16, 8, .rw, 0⟩]⟩,
  -- WPWR_POWER
  ⟨0x5100c, [(8, 0x40)], [⟨0, 16, .ro, 0⟩, ⟨16, 16, .ro, 0⟩]⟩,
  -- WPWR_STEP_COUNT
  ⟨0x51010, [(8, 0x40)], [⟨0, 32, .ro, 0⟩]⟩]

/-- The table of the hub block that holds a BAR0 offset. -/
def hubBlock (b : Nat) : List RegDef :=
  match b with
  | 0 => regsId
  | 1 => regsQueues
  | 2 => regsEvents
  | 3 => regsTick
  | 4 => regsTrowel
  | 5 => regsPower
  | 6 => regsSecure
  | 7 => regsAccess
  | 8 => regsCrossing
  | 9 => regsService
  | _ => []

/-- The table of the wall block that holds an offset of a wall's region. -/
def wallBlock (b : Nat) : List RegDef :=
  match b with
  | 0 => regsDispatcher
  | 1 => regsHod
  | 2 => regsKiln
  | 3 => regsPointing
  | 4 => regsBond
  | 5 => regsSram
  | 6 => regsGddr
  | 7 => regsAngle
  | 8 => regsLinks
  | 9 => regsPtp
  | 10 => regsPins
  | 15 => regsWallEvents
  | _ => if 16 ≤ b then regsTiles else []

/-- Whether offset `a` (from a row's first instance) is an instance of the row. -/
def inDims : List (Nat × Nat) → Nat → Bool
  | [], a => a == 0
  | (c, s) :: r, a => decide (a / s < c) && inDims r (a % s)

/-- Whether a row holds an offset of its region. -/
def RegDef.holds (d : RegDef) (a : Nat) : Bool := decide (d.off ≤ a) && inDims d.dims (a - d.off)

/-- The first row of a table that holds an offset. -/
def findReg : List RegDef → Nat → Option RegDef
  | [], _ => none
  | d :: r, a => if d.holds a then some d else findReg r a

/-- The wall whose region holds a BAR0 offset, and the offset in it. -/
def wallOfAddr (a : Nat) : Option (Nat × Nat) :=
  if 0x01000000 ≤ a then
    (if (a - 0x01000000) / 0x00400000 < 8 then some ((a - 0x01000000) / 0x00400000, (a - 0x01000000) % 0x00400000) else none)
  else none

/-- The links block spans 0x8_0000 to 0x8_FFFF and the PTP block follows it (R386, R387); tiles start at 0x10_0000. -/
def regDef (a : Nat) : Option RegDef :=
  match wallOfAddr a with
  | some (_, o) => findReg (wallBlock (o / 0x10000)) o
  | none => if a < 0x01000000 then findReg (hubBlock (a / 0x10000)) a else none

def fieldsReset : List FieldDef → Nat
  | [] => 0
  | f :: r => f.rst * 2 ^ f.lo + fieldsReset r

/-- The word a register table gives at reset; 0 at unassigned offsets (R10). -/
def tableReset (a : Nat) : Word :=
  match regDef a with
  | some d => BitVec.ofNat 32 (fieldsReset d.fields)
  | none => 0

/-- The mask of a row's fields whose type satisfies `p`. -/
def fieldMask (p : RTy → Bool) : List FieldDef → Nat
  | [] => 0
  | f :: r => (if p f.ty then (2 ^ f.wd - 1) * 2 ^ f.lo else 0) + fieldMask p r

/-- A write of `v` to a register that holds `old`, by the type codes of its fields (R13): RW, RWL and RWS fields
take the value, a 1 clears a W1C bit, RO and WO fields keep what they hold. -/
def plainWrite (d : RegDef) (old v : Word) : Word :=
  let rw : Word := BitVec.ofNat 32 (fieldMask (fun t => t = .rw || t = .rwl || t = .rws) d.fields)
  let c : Word := BitVec.ofNat 32 (fieldMask (fun t => t = .w1c) d.fields)
  ((old &&& ~~~rw) ||| (v &&& rw)) &&& ~~~(v &&& c)

end Sys2Proof.Machine
end

