-- ==== Sys2Proof/Machine/Defaults.lean ====
section
/-!
DEFINITION. Machine/Defaults.lean: the reset word of every register: the register tables', and the values that R528
and R527 give by monitor and by temperature grade.
-/
namespace Sys2Proof.Machine
open Sys2Proof

/-- Nominal millivolts of a rail (R506): hub rails 0 to 2, wall rails 0 to 5. -/
def hubNominal (r : Nat) : Nat := if r = 0 then 750 else if r = 1 then 1800 else 3300
def wallNominal (r : Nat) : Nat :=
  if r = 0 then 750 else if r = 1 then 800 else if r = 2 then 900 else if r = 3 then 1200
  else if r = 4 then 1200 else 1800

/-- Nominal - 5 % rounded down and nominal + 5 % rounded up, as a MON_LIM word (R528). -/
def fivePercent (n : Nat) : Word := BitVec.ofNat 32 ((n * 95) / 100 + ((n * 105 + 99) / 100) * 65536)

def limWord (lo hi : Int) : Word := BitVec.ofNat 32 (wrapN 16 lo + wrapN 16 hi * 65536)

/-- The kind of a monitor (R508): 0 none, 1 VIN, 2 hub rail, 3 hub sensor, 4 wall rail, 5 wall sensor. -/
def monKind (m : Nat) : Nat :=
  if m = 0 then 1 else if m ≤ 3 then 2 else if m ≤ 5 then 3 else if m ≤ 7 then 0
  else if (m - 8) % 10 ≤ 5 then 4 else 5

/-- MON_LIM at reset (R528). -/
def monLimReset (gradeE : Bool) (m : Nat) : Word :=
  match monKind m with
  | 1 => limWord 4400 18900
  | 2 => if m = 3 then limWord 3135 3465 else fivePercent (hubNominal (m - 1))
  | 3 => if gradeE then limWord (-45) 115 else limWord (-5) 105
  | 4 => fivePercent (wallNominal ((m - 8) % 10))
  | 5 => if gradeE then limWord (-45) 115 else limWord (-5) 105
  | _ => 0

/-- MON_CFG at reset (R528): enabled, with the action and debounce of the table. -/
def monCfgReset (m : Nat) : Word :=
  let cfg (deb act : Nat) : Word := BitVec.ofNat 32 (1 + act * 2 + deb * 8)
  match monKind m with
  | 1 => cfg 9 1
  | 2 => if m = 3 then cfg 3 1 else cfg 3 3
  | 3 => cfg 0 2
  | 4 => if (m - 8) % 10 = 2 || (m - 8) % 10 = 3 then cfg 3 1 else cfg 3 2
  | 5 => cfg 0 2
  | _ => 0

/-- WPWR_CLK at reset (R527). -/
def wpwrClkReset (gradeE : Bool) : Word :=
  BitVec.ofNat 32 (1 + (if gradeE then 100 else 90) * 256 + (if gradeE then 105 else 95) * 65536)

/-- XS_WSTATE at reset: 0b11 for each unpopulated wall (R316). -/
def xsWstateReset (walls : Nat) : Word :=
  BitVec.ofNat 32 (((List.range 8).map (fun w => if w < walls then 0 else 3 * 4 ^ w)).foldl (· + ·) 0)

/-- The word a register holds after the reset that clears it. -/
def regReset (walls : Nat) (gradeE : Bool) (a : Nat) : Word :=
  if 0x50100 ≤ a && a < 0x50680 then
    let m := (a - 0x50100) / 16
    if (a - 0x50100) % 16 = 0 then monCfgReset m
    else if (a - 0x50100) % 16 = 4 then monLimReset gradeE m else tableReset a
  else if 0x51000 ≤ a && a < 0x51200 && (a - 0x51000) % 64 = 8 then wpwrClkReset gradeE
  else if 0x51000 ≤ a && a < 0x51200 && (a - 0x51000) % 64 = 0 then 2
  else if a = 0x80004 then xsWstateReset walls
  else tableReset a

end Sys2Proof.Machine
end

