-- ==== Sys2Proof/Machine/Sparse.lean ====
section
/-!
DEFINITION. Machine/Sparse.lean: sparse data by key. A list of (key, value) pairs with keys strictly rising; a key
that is not listed holds the default value of that key, and no listed value equals the default (the canonical form).
-/
namespace Sys2Proof.Machine

/-- Sparse data by natural key. -/
abbrev Sp (α : Type) := List (Nat × α)

/-- The value listed at a key, or `d`. -/
def Sp.getD {α : Type} (m : Sp α) (k : Nat) (d : α) : α :=
  match m with
  | [] => d
  | (a, v) :: r => if a = k then v else Sp.getD r k d

/-- The list without any entry at a key. -/
def Sp.drop {α : Type} (m : Sp α) (k : Nat) : Sp α :=
  match m with
  | [] => []
  | (a, v) :: r => if a = k then Sp.drop r k else (a, v) :: Sp.drop r k

/-- The list with `v` at a key, keys kept rising. -/
def Sp.put {α : Type} (m : Sp α) (k : Nat) (v : α) : Sp α :=
  match m with
  | [] => [(k, v)]
  | (a, w) :: r => if a = k then (k, v) :: r else if k < a then (k, v) :: (a, w) :: r else (a, w) :: Sp.put r k v

/-- Writing a value: the default of the key removes the entry, so that equal contents are equal lists. -/
def Sp.set {α : Type} [DecidableEq α] (m : Sp α) (k : Nat) (v d : α) : Sp α :=
  if v = d then Sp.drop m k else Sp.put m k v

/-- Keys strictly rising above `lo`, no listed value equal to its key's default. -/
def Sp.wfFrom {α : Type} [DecidableEq α] (d : Nat → α) : Option Nat → Sp α → Bool
  | _, [] => true
  | lo, (a, v) :: r =>
    (match lo with | none => true | some b => decide (b < a)) && decide (v ≠ d a) && Sp.wfFrom d (some a) r

/-- The canonical form. -/
def Sp.wf {α : Type} [DecidableEq α] (d : Nat → α) (m : Sp α) : Bool := Sp.wfFrom d none m

end Sys2Proof.Machine
end

