-- ==== Sys2Proof/Machine/State.lean ====
section
/-!
DEFINITION. Machine/State.lean: everything the spec gives the machine, as plain data. Every register of the register
tables lives in `regs` under its BAR0 address (its word at reset is `regReset`); the state the chapters describe that
no register holds lives in the typed fields. A few registers are views of typed state: Machine/RegRead.lean says which.
-/
namespace Sys2Proof.Machine
open Sys2Proof

/-- The banks of a tile (R116): resident banks 0 and 1, and the fast bank. -/
inductive Bank where
  | b0 | b1 | fast
  deriving DecidableEq, Repr

/-- One accumulator with its carry tally and sticky flags (R47). -/
structure Acc where
  value : BitVec 56 := 0
  tally : BitVec 8 := 0
  g : Bool := false
  tv : Bool := false
  deriving DecidableEq, Repr

/-- One brick's state for one bank (R51). -/
structure BrickRec where
  acc0 : Acc := {}
  acc1 : Acc := {}
  z : Bool := false
  n : Bool := false
  p : Bool := false
  ds : Bool := false
  dx : Bool := false
  v : Bool := false
  dz : Bool := false
  deriving DecidableEq, Repr

/-- An operation in flight in a brick's pipeline (R21, R22): its word, operands, bank and slot as taken at the issue
edge, P as the word saw it, the tile-memory words a lookup read, and ROUND_DEFAULT as its ALU stage took it. `fin`: its
flags and accumulator are in the flow's context already, and O is still to show this. -/
structure Flight where
  word : BitVec 112 := 0
  a : W24 := 0
  b : W24 := 0
  c : W24 := 0
  bank : Bank := .b0
  slot : BitVec 7 := 0
  p : Bool := false
  y0 : W48 := 0
  y1 : W48 := 0
  rd : BitVec 2 := 0
  fin : Option (Option W24) := none
  deriving DecidableEq, Repr

/-- A change of the flow-wide fields of FSW (R121): a sequencer write of `bexp`, `round_default` and `exponent_limit`, an
autoscale raise of `bexp` to an exponent, or EXPONENT_LIMIT set by a move. -/
inductive FswChange where
  | write (bexp : BitVec 4) (rdef : BitVec 2) (lim : Bool)
  | raise (k : Nat)
  | limit
  deriving DecidableEq, Repr

/-- A change with the cycle and the tile in which it was made. -/
structure FswMsg where
  org : Nat
  tile : Nat
  chg : FswChange
  deriving DecidableEq, Repr

/-- An entry of a loop stack (R161). -/
structure LoopEnt where
  start : BitVec 12
  fin : BitVec 12
  count : Nat
  /-- The first iteration is under way and is being captured by the repeat cache (R164). -/
  cap : Bool := false
  deriving DecidableEq, Repr

/-- What a tile has told the dispatcher in the present run of a flow (R120, R122, R184). -/
inductive Mark where
  | none | done | yield | waite | sync
  deriving DecidableEq, Repr

/-- A window instruction or an fp32 instruction that waits for the hod engine (R131, R132, R157). -/
inductive PendIns where
  | savew | callw (target : BitVec 12) | restw | retw
  | fpu (op : Nat) (f : FpuF)
  | none
  deriving DecidableEq, Repr

/-- The context of one flow in one bank of a tile (R123 to R129, R169, R171). -/
structure Ctx where
  flow : Option Nat := none
  moving : Bool := false
  gen : Sp Word := []
  p : Sp (BitVec 16) := []
  b : Sp (BitVec 16) := []
  l : Sp (BitVec 16) := []
  lsh : Sp (BitVec 16) := []
  lpend : BitVec 8 := 0
  m : Sp (BitVec 16) := []
  agcfg : Word := 0
  buscfg : Word := 0
  busA : W24 := 0
  busB : W24 := 0
  busC : W24 := 0
  csp : BitVec 12 := 0
  slot : BitVec 7 := 0
  bexp : BitVec 4 := 0
  rdef : BitVec 2 := 0
  explim : Bool := false
  tp : Bool := false
  wix : BitVec 3 := 0
  sz : Bool := false
  sn : Bool := false
  sc : Bool := false
  sv : Bool := false
  aoob : Bool := false
  sendStat : Word := 0
  depth : Nat := 0
  wres : Nat := 0
  spillHead : BitVec 16 := 0
  spilled : BitVec 16 := 0
  saveHead : BitVec 16 := 0
  saveDepth : BitVec 16 := 0
  pc : BitVec 12 := 0
  hold : Nat := 0
  heldPat : Option PatF := none
  loops : List LoopEnt := []
  mark : Mark := .none
  pend : PendIns := .none
  /-- The sequencer waits at a FENCE (R152). The tile is not stalled (R118): its bricks go on. -/
  fence : Bool := false
  /-- The first cycle after a taken branch (R119), and the first cycle after a SYNC or a pattern miss (R118), in which the
  bank issues; the cycle in which it issued SYNC (R120); the instruction at the PC has waited for the program stream. -/
  readyAt : Nat := 0
  resumeAt : Nat := 0
  syncAt : Option Nat := none
  waited : Bool := false
  /-- Changes of the flow-wide fields on their way from other tiles (R55, R121); the raises and limits that the copy has
  taken lately; the cycle and tile of the sequencer write in force. -/
  fswIn : List FswMsg := []
  fswRec : List FswMsg := []
  fswBy : Option (Nat × Nat) := none
  brk : Sp BrickRec := []
  deriving DecidableEq, Repr

/-- A way of the pattern cache (R85, R89, R92). -/
structure Way where
  slot : BitVec 7 := 0
  valid : Bool := false
  stale : Bool := false
  prot : Bool := false
  /-- The flow whose pre-stage protects the way. -/
  forFlow : Option Nat := none
  pat : BitVec 3072 := 0
  code : BitVec 16 := 0
  used : Nat := 0
  deriving DecidableEq, Repr

/-- The kinds of refill request, in order of precedence (R82). -/
inductive RefillKind where
  | prestage | demand | pin | hint
  deriving DecidableEq, Repr

/-- A refill request: its kind, its slot, the flow of a pre-stage (R82, R83, R86). -/
structure RefillReq where
  kind : RefillKind
  slot : BitVec 7
  flow : Option Nat := none
  deriving DecidableEq, Repr

/-- A refill in progress (R81). -/
structure Refill where
  req : RefillReq
  way : Nat
  deriving DecidableEq, Repr

/-- Whether a tile is stalled on a pattern miss (R80). The other stalls that another step ends follow from what waits:
an operation of the hod engine, or the mark of a SYNC (R118). -/
inductive Stall where
  | none | pattern
  deriving DecidableEq, Repr

/-- The operations of a hod channel (R209). -/
inductive HodKind where
  | restore | makeCold | spill | fill | savel | saveu | loadl | loadu | fpSwap | areas
  deriving DecidableEq, Repr

/-- An operation of a hod channel: its kind, its flow, the bank it works on, its class (R210), and the save areas it
releases (area housekeeping, R209) or has taken for its spills (make cold, R212). `dead`: its flow has been destroyed; it
runs to completion (R210) and changes nothing. -/
structure HodOp where
  kind : HodKind
  flow : Nat
  bank : Bank := .b0
  cls : Nat := 2
  evict : Bool := false
  ret : List Nat := []
  dead : Bool := false
  deriving DecidableEq, Repr

/-- A drive of a spine track: its cycle, its side (1 west tile, 2 east tile), its value, and the slot of the pattern in
force on the driving tile. -/
structure Drive where
  cyc : Nat
  side : Nat
  v : W24
  slot : Nat := 0
  deriving DecidableEq, Repr

/-- A track of the course spine, the segment east of a tile (R72): its drives, oldest first, from the last one that both
tiles have passed. -/
structure Track where
  drives : List Drive := []
  deriving DecidableEq, Repr

/-- Words of a flit held in a tile's bond interface: tile memory, word address, data (R103, R281). -/
structure BondFlit where
  g : Bool
  words : List (Nat × Nat × W48)
  deriving DecidableEq, Repr

/-- A tile. -/
structure Tile where
  cyc : Nat := 0
  nextIns : Nat := 0
  /-- What the sequencer waited for in the last cycle: 4 the program stream, 5 the fp32 unit, 0 neither (R118, R180). -/
  seqWait : Nat := 0
  cur : Option Bank := none
  interrupted : Option Bank := none
  handlerOf : Option Nat := none
  stall : Stall := .none
  /-- The way in force; the way that was in force until the selection made in cycle `selAt` (R79). -/
  curWay : Option Nat := none
  prevWay : Option Nat := none
  selAt : Nat := 0
  /-- The start slot of a presented run, selected in the cycle of its first instruction; whether its words are still to
  issue, and a selection held back until they have (R206). -/
  startSel : Option (BitVec 7) := none
  starting : Bool := false
  deferSel : Option (BitVec 7) := none
  ways : Sp Way := []
  useCtr : Nat := 0
  refill : Option Refill := none
  waitq : List RefillReq := []
  o : Sp W24 := []
  s : Sp W24 := []
  p1 : Sp Flight := []
  p2 : Sp Flight := []
  taps : Sp W24 := []
  latch : Sp W48 := []
  /-- The cycle of the last pattern issue, and what the taps, latches and current context held before it: an
  instruction of the same cycle reads those (R63, R98, R151). -/
  patCyc : Option Nat := none
  tapsPrev : Sp W24 := []
  latchPrev : Sp W48 := []
  ctxPrev : Ctx := {}
  /-- The holding latch of TICK_LO and TICK_HI (R11, R127). -/
  tickHi : Option Word := none
  east : Sp Track := []
  /-- Port A writes of the last cycle: memory, word, data, contents before; the memories whose port B the pattern used in
  it (R101, R103 with the bond interface). -/
  aWrites : List (Nat × Nat × W48 × W48) := []
  portBs : List Nat := []
  tmem : Sp (BitVec 6) := []
  /-- The bond interface's two flits, and those that the course router holds for the tile (R103). -/
  bbuf : List BondFlit := []
  bwait : List BondFlit := []
  c0 : Ctx := {}
  c1 : Ctx := {}
  cf : Ctx := {}
  f : Sp Word := []
  fpstat : BitVec 5 := 0
  fpown : Option Nat := none
  fpBusy : Sp Nat := []
  fdivUntil : Nat := 0
  repStart : BitVec 12 := 0
  repEnd : BitVec 12 := 0
  repValid : Bool := false
  pmem : Sp Word := []
  chan : Option HodOp := none
  chanq : List HodOp := []
  sendCnt : BitVec 8 := 0
  /-- Sends not finished: tag and flow (R153, R285). -/
  outst : List (BitVec 8 × Nat) := []
  /-- Pin entries the dispatcher holds: PC_PIN_A entry 3 and PC_PIN_B entry 4 (R192). -/
  pinA : Option Nat := none
  pinB : Option Nat := none
  /-- How far a scrub of a cache way has been abandoned is in FPORT_STATUS; the way a scrub is reading (R95). -/
  scrubWay : Option Nat := none
  /-- The cycle in which a run was last presented to the tile (R193). -/
  startAt : Option Nat := none
  deriving DecidableEq, Repr

/-- What the spec gives a flow beside its descriptor (R182 to R202). -/
structure FlowX where
  placed : Bool := false
  /-- The schedule is armed: its next target, and whether that target was passed when it was armed. -/
  armed : Option W64 := none
  passed : Bool := false
  near : Bool := false
  prestaged : Bool := false
  prot : Bool := false
  trigTick : Nat := 0
  /-- The run to come resumes (true) or starts at entry_pc (false). -/
  resume : Bool := false
  waitWhenDisabled : Bool := false
  /-- The run to come was triggered by a schedule match: cycle of the match, and whether it counts as late anyway. -/
  nextSched : Option (Nat × Bool) := none
  /-- The same for the run that `pending` will start, and the tick of its trigger. -/
  pendSched : Option (Nat × Bool) := none
  pendTick : Nat := 0
  /-- The same for the run that has started and whose first words have not issued (R201). -/
  schedRun : Option (Nat × Bool) := none
  /-- While cold: how the run had ended its part on each tile, or that it waited there at SYNC (R120, R122, R184), and the
  PAT that it held there (R177). -/
  parked : List (Nat × Mark × Option PatF) := []
  illSeen : Bool := false
  lastRan : Nat := 0
  /-- An ENABLE waits for the flow's restore (R188). -/
  enabling : Bool := false
  deriving DecidableEq, Repr

/-- An angle base (R223 to R244). -/
structure AngBase where
  v : W64 := 0
  frac : BitVec 16 := 0
  vel : Word := 0
  edge : W64 := 0
  /-- Accepted edges since `valid` was cleared, newest first: tick and angle (R234). -/
  hist : List (Nat × W64) := []
  aLast : Bool := false
  bLast : Bool := false
  /-- An edge has been accepted since the base left off: its direction is ANG_STATUS.`rev`. -/
  moved : Bool := false
  posTick : Option Nat := none
  negTick : Option Nat := none
  posPeriod : Option Nat := none
  negPeriod : Option Nat := none
  slew : Option (Int × Nat × Nat) := none
  /-- Shortfall kept by the monotonic rule (R240), in fraction units of 2^-16. -/
  short : Nat := 0
  coasted : Bool := false
  expPred : Bool := false
  /-- The latest report: the exporter's value with its 16 bits below, and the tick it belongs to (R257). -/
  repTick : Nat := 0
  rep : BitVec 80 := 0
  /-- The base waits at the clamp of R235, until its next edge. -/
  waits : Bool := false
  /-- The tick of the last accepted edge, and V, the bits below and the shortfall as they were before it (R230). -/
  before : Option (Nat × W64 × BitVec 16 × Nat) := none
  /-- The wall cycle in which targets of the base were last pre-staged, and how many were (R251). -/
  stagedAt : Nat := 0
  staged : Nat := 0
  /-- The wall tick up to which the base has advanced, and that of the last edge, feed, report or start (R233, R241). -/
  lastTick : Nat := 0
  lastRef : Nat := 0
  deriving DecidableEq, Repr

/-- An angle compare unit (R245 to R249): whether it waits for B, B's stamp, and whether its A target was passed. -/
structure Acu where
  waitB : Bool := false
  bAt : W64 := 0
  passed : Bool := false
  pulseEnd : Option Nat := none
  /-- The wall cycle at which A was armed, or at which an angle pulse rose (R247 to R249). -/
  at_ : Nat := 0
  owner : Mid := 0
  deriving DecidableEq, Repr

/-- A 24-byte stamp block (R260). -/
structure Stamp where
  tick : Nat := 0
  seq : Nat := 0
  source : Nat := 8
  ang : Nat := 0
  av : Bool := false
  ap : Bool := false
  angle : W64 := 0
  deriving DecidableEq, Repr

/-- An event record (R429). -/
structure EvRec where
  code : Nat
  args : List Word
  stamp : Stamp
  lost : Bool := false
  late : Bool := false
  deriving DecidableEq, Repr

/-- A packet in flight and where its head stands (R286, R298). -/
inductive At where
  | queue (w r j : Nat)    -- waiting for injection at local port j of router r
  | router (w r : Nat)     -- in router r of a wall
  | toSwitch (w : Nat)     -- left the gateway of a wall for the crossing switch
  | toWall (w : Nat)       -- left the crossing switch for a wall
  | atPort (w r j : Nat)   -- about to be accepted by local port j of router r
  | hub (port : Nat)       -- about to be accepted by a hub port
  deriving DecidableEq, Repr

/-- A router that a packet's head has left by an output which its later flits still need (R288, R291). -/
structure Hop where
  w : Nat
  r : Nat
  out : Nat
  /-- The epoch that the packet carries in this wall (R307). -/
  epoch : Bool := false
  /-- The flits pass in reserved slots, one a cycle from `at_` on (R291); else they follow as the buffers allow. -/
  g : Bool := false
  /-- The wall cycle in which the head left. -/
  at_ : Nat := 0
  /-- Flits that stand in this router's input buffer; of a guaranteed packet, all its flits. -/
  n : Nat := 0
  deriving DecidableEq, Repr

/-- A packet, its place, and the first cycle of the place (a wall's fabric cycle, or a module tick on the way through
the hub) in which its head can enter. -/
structure InFlight where
  at_ : At
  pkt : Packet
  due : Nat := 0
  /-- Flits that stand in the input buffer of the head's router, the head among them (R288). -/
  got : Nat := 1
  /-- The routers that the head has left and whose output the packet still holds, the latest first (R288). -/
  trail : List Hop := []
  /-- The wall whose mesh the packet entered last, the router and its input there, and the flits still to enter. -/
  seg : Nat := 0
  entR : Nat := 0
  entI : Nat := 0
  rest : Nat := 0
  deriving DecidableEq, Repr

/-- A request that awaits its answer, without its payload (R571): one of an on-chip master at host memory, and whether it
went out on the CXL.io path (R405), or one of a hub port. -/
structure Await where
  pkt : Packet
  io : Bool := false
  deriving DecidableEq, Repr

/-- A line of the host-holding filter: the line, and whether the host may hold it modified (R352, R353). -/
structure HostLine where
  line : Nat
  excl : Bool
  deriving DecidableEq, Repr

/-- A request that has arrived at a GDDR7 controller and waits in its queue (R354): a wall packet, or a host read or write
of a line; a host read with the back-invalidations that were unanswered when it arrived (R356). -/
inductive GdReq where
  | wall (p : Packet)
  | read (line : Nat) (excl : Bool) (after : List (Nat × Bool × Nat))
  | write (line : Nat) (data : Bytes)
  deriving DecidableEq, Repr

/-- A GDDR7 device with its controller (R344 to R358). -/
structure GddrX where
  /-- The controller's queue: the requests that wait, in order of arrival (R354). -/
  queue : List GdReq := []
  filter : List HostLine := []
  /-- Back-invalidations that the host has not answered: line, whether it asks for data only (BISnpData), tick sent. -/
  pendingBi : List (Nat × Bool × Nat) := []
  /-- The mode that a region keeps while its `busy` is 1 (R355). -/
  oldMode : Sp Nat := []
  /-- A flush before a reset, load or power-down: the tick at which it began (R357). -/
  flushing : Option Nat := none
  crcRetries : Nat := 0
  patrolPos : Nat := 0
  /-- The tick of the last patrol read (R345). -/
  patrolAt : Nat := 0
  accesses : Nat := 0
  deriving DecidableEq, Repr

/-- A received frame whose arrival has not been signalled (R374, R375): whether its last slot has been checked, and the
tags of its writes that have not been answered. A frame that was given up (`dead`) signals nothing. -/
structure RxFrame where
  closed : Bool := false
  dead : Bool := false
  tags : List (BitVec 8) := []
  deriving DecidableEq, Repr

/-- A link unit (R362 to R385). -/
structure LinkX where
  /-- Received frames that wait for their arrival, oldest first; the last is open while `rxOpen`. -/
  rx : List RxFrame := []
  rxOpen : Bool := false
  /-- The position of the next slot of the open frame. -/
  rxNext : Nat := 0
  /-- The open frame's slots are not written (R375). -/
  rxDrop : Bool := false
  rxTag : BitVec 8 := 0
  lastRx : Nat := 0
  /-- Transmit buffer and pending copy: 20 words a slot, at 20 * slot + word (R376). -/
  txBuf : Sp Word := []
  txPend : Sp Word := []
  /-- The tick at which the frame being sent ends (R379). -/
  sendingUntil : Nat := 0
  armed : Option W64 := none
  passed : Bool := false
  nextFree : Nat := 0
  /-- What the last trigger put on the wire: start block and slots, or legacy or Ethernet frames. -/
  txWire : List Bytes := []
  deriving DecidableEq, Repr

/-- The open frame is given up. -/
def LinkX.dropOpen (x : LinkX) : LinkX :=
  if x.rxOpen then
    { x with
      rxOpen := false
      rx := x.rx.dropLast ++ (match x.rx.getLast? with
        | some f => if f.tags.isEmpty then [] else [{ f with closed := true, dead := true }]
        | none => []) }
  else x

/-- A field pin (R388 to R394). -/
structure PinX where
  sampled : Bool := false
  outReg : Bool := false
  /-- One more than the wall cycle of the last trip (R392). -/
  tripAt : Nat := 0
  deriving DecidableEq, Repr

/-- The capture cells of a wall (R107, R113): the trigger that was armed, the 4 KB record of each tile at the capture
edge, by wall-local tile index, and the tiles read back. -/
structure CapX where
  trig : Nat := 0
  ang : Nat := 0
  target : Nat := 0
  held : Sp Words := []
  read : List Nat := []
  owner : Mid := 0
  deriving DecidableEq, Repr

/-- The pointing engine of a wall (R471 to R478). -/
structure PointX where
  active : Bool := false
  /-- The tick and the wall cycle at which the present or last pass started; the tick at which the last pass ended. -/
  start : Option Nat := none
  startCycle : Nat := 0
  endAt : Nat := 0
  /-- The pass has made no correction and found no uncorrectable frame; passes in a row without either (R475). -/
  clean : Bool := true
  cleanPasses : Nat := 0
  /-- The next frame: tile index * 55, then 4 foundation frames, 43 program frames, 8 cache ways (R471). -/
  frame : Nat := 0
  /-- A scrub of a cache way has begun and is paused by a refill (R93, R473). -/
  reading : Bool := false
  /-- The three copies of the settings word (R476, R477). -/
  set1 : Word := 0
  set2 : Word := 0
  set3 : Word := 0
  lastHb : Nat := 0
  deriving DecidableEq, Repr

/-- The kiln of a wall (R441 to R470): the start-up under way, the stream being taken, and the stores. -/
structure KilnX where
  /-- The start-up is a load (with or without a stream yet), rather than a wall reset. -/
  isLoad : Bool := false
  /-- The start-up takes part in the chain wait (R463). -/
  chainWait : Bool := false
  /-- Every frame of the stream is taken, whatever wall it names (R453). -/
  bcast : Bool := false
  open_ : Bool := false
  /-- The load master (R449). -/
  master : Mid := 0
  /-- Words of the stream that have been taken in and not yet used; whether the last of them has come. -/
  got : Words := []
  fin : Bool := false
  /-- The header, once it has been checked. -/
  header : Option Words := none
  /-- Records taken from the stream before END. -/
  records : Nat := 0
  /-- LOAD's zeroing is done and frames are written (R457). -/
  zeroed : Bool := false
  /-- The wall's part of the stream has ended, by END or by a failure: what follows is dropped. -/
  ended : Bool := false
  /-- Wall-level frames of the present load: FLOC and data words. -/
  frames : List (Word × Words) := []
  /-- The master of the load whose frames the replay store in bank 6 holds (R449, R470). -/
  replayMaster : Mid := 0
  /-- The tick at which LOAD or REPLAY began. -/
  startedAt : Nat := 0
  /-- Position of the next start-up step, 1 to 3; 4 is READY. The cycle of the last frame boundary that was used. -/
  pos : Nat := 1
  stepAt : Option Nat := none
  /-- The DONE_OD wait (R465): the tick at which it began, and whether it is over. -/
  waitFrom : Option Nat := none
  waited : Bool := false
  /-- `done_to` was set in this start-up (R466). -/
  timedOut : Bool := false
  /-- What the present or last start-up ended with: 0, or the failing status. -/
  result : Nat := 0
  /-- Slots of a pattern image still to be written: tile, slot, data words. -/
  slots : List (Nat × Nat × Words) := []
  deriving DecidableEq, Repr

/-- A march of a bank (R337): its algorithm and backgrounds, whether the start-up runs it (R342), whether it keeps the bank's
contents whatever its algorithm (self-test 4, R537), and the wall cycle in which it began. -/
structure March where
  alg : Nat
  bg : Nat
  boot : Bool := false
  keep : Bool := false
  start : Nat := 0
  deriving DecidableEq, Repr

/-- The rest of a wall. -/
structure WallX where
  cycle : Nat := 0
  gsr : Bool := true
  tmemWe : Bool := false
  /-- Fabric frame slot offset: slot = (cycle + frameOfs) mod 64 (R291, R301). -/
  frameOfs : Nat := 0
  realigning : Bool := false
  /-- The wall's tick copy less the module tick (R255, R256). -/
  tickErr : Int := 0
  /-- A correction of the copy in the tick to come: 1 skips a tick, -1 holds it (R256). -/
  tickFix : Int := 0
  /-- The number of the wall's next record (R262). -/
  seq : Nat := 0
  /-- The wall event unit's buffer, oldest first (R430), the records lost since the last EVENT_LOST record, and whether
  the next record sent carries `lost`. -/
  raised : List EvRec := []
  lostPend : Nat := 0
  lostFlag : Bool := false
  lastReport : Nat := 0
  silent : Bool := false
  /-- Banks under a march (R340). -/
  march : Sp March := []
  /-- The wall cycle of each bank's last patrol read (R331). -/
  patrolAt : Sp Nat := []
  /-- Banks that wake from retention: the tick of the write that began the wake (R335). -/
  wakeAt : Sp Nat := []
  /-- A wipe of bank 7 in progress, with its cause (R333). -/
  wipe : Option Nat := none
  /-- The wall cycle in which the wipe began. -/
  wipeAt : Nat := 0
  cap : CapX := {}
  kiln : KilnX := {}
  point : PointX := {}
  ptpSec : Nat := 0
  ptpNs : Nat := 0
  ptpFrac : Nat := 0
  /-- The seconds that the last read of PTP_NS latched (R383). -/
  ptpLatch : Nat := 0
  /-- The PINS step of the start-up has been taken (R458). -/
  pinsOn : Bool := false
  /-- Field pins: whether the bank's outputs drive and edges are accepted, and the tick at which VIO became valid (R394). -/
  vioLive : Bool := false
  vioAt : Nat := 0
  /-- The free list of save areas (R215): areas returned, head first, then those never taken. -/
  free : List Nat := []
  freeLo : Nat := 0
  freeEnd : Nat := 8192
  closing : Sp Nat := []
  /-- Held in RESET by WALL_SCAN (R542). -/
  scan : Bool := false
  /-- Held in RESET by a sensor at or above 125 °C (R513). -/
  hot : Bool := false
  /-- A clock step that waits for the frame boundary, and whether the policy chose it (R523, R524). -/
  pendStep : Option (Nat × Bool) := none
  /-- Since when the wall has been cool enough for the next step up, hot enough for standby, cool enough to return
  (R523, R525); in STANDBY by the policy. -/
  stepCool : Option Nat := none
  hotSince : Option Nat := none
  coolSince : Option Nat := none
  tsbBy : Bool := false
  /-- The power state that the wall is changing to (R515): 1 STANDBY, 2 OFF. -/
  goal : Option Nat := none
  /-- Courses that wake: the tick of the write that began the wake (R517). -/
  gateWake : Sp Nat := []
  /-- The input that was last granted an output of a router, at (router * 12 + output) * 2 + virtual channel (R288). -/
  granted : Sp Nat := []
  /-- The cycle after the one in which a packet of a connection was last injected (R292). -/
  sentAt : Sp Nat := []
  /-- Domains whose slots and connections are still to be released (R311): the tick at which each entered closing. -/
  release : Sp Nat := []
  /-- The eight targets that the next sweep checks (R200). -/
  sweepPos : Nat := 0
  /-- The trowel has boot-loaded the wall since its last power-up (R455, R507). -/
  bootLoaded : Bool := false
  deriving DecidableEq, Repr

/-- A long command in progress (R424). -/
structure LongCmd where
  op : Nat
  ctx : CmdCtx
  /-- Its result, once it has one: status, `res0`, `res1`. -/
  done : Option (Nat × Word × Word) := none
  /-- The claim that it took for its duration (R418). -/
  claim : Option Nat := none
  /-- Its final completion is discarded (R407). -/
  orphan : Bool := false
  /-- The tick at which it started. -/
  start : Nat := 0
  /-- It was given at the console (R530): its result is printed, and no completion is posted. -/
  console : Bool := false
  /-- Banks still under its march, and banks whose march failed (R341). -/
  left : Nat := 0
  fails : Nat := 0
  /-- The image that FW_STAGE brings (R488). -/
  img : Option Image := none
  deriving DecidableEq, Repr

/-- A completion record waiting for room in its completion queue (R423, R425). -/
structure Cpl where
  handle : Word
  cid : BitVec 16
  status : Nat
  final : Bool
  q : Nat
  res0 : Word
  res1 : Word
  deriving DecidableEq, Repr

/-- What the hardware holds of a command queue beside its registers (R420 to R425). -/
structure QueueX where
  /-- The tail that the host last wrote to SQ_DB. -/
  tail : Nat := 0
  /-- The head that the host last wrote to CQ_DB of the completion queue of this number. -/
  chead : Nat := 0
  /-- Entries fetched since enable. -/
  fetched : Nat := 0
  /-- Fetching stopped until `en` is cleared and set again (R422). -/
  stopped : Bool := false
  phase : Bool := true
  held : List Cpl := []
  /-- A fenced entry waiting for earlier commands of its queue. -/
  fenced : Option (CmdCtx × Nat × Bytes) := none
  deriving DecidableEq, Repr

/-- A write that the module makes to host memory, or a message it sends to the host (R405, R433, R434). -/
inductive HostOut where
  | mem (addr : Nat) (pasid : Option Nat) (data : Bytes)
  /-- A host-window access (R405, R406): 0 RdCurr, 1 ItoMWr, 2 CXL.io memory read, 3 CXL.io memory write; its bytes. -/
  | win (kind addr n : Nat) (data : Bytes)
  | msi (vec : Nat) (addr : Nat) (data : Word)
  | reply (pkt : Packet)
  | bi (w d line : Nat) (data : Bool)
  | data (dpa : Nat) (poison : Bool) (bytes : Bytes)
  deriving DecidableEq, Repr

/-- One of the trowel's image slots, or a store entry (R484, R487). -/
structure ImgSlot where
  state : Nat := 0
  version : Nat := 0
  image : Option Image := none
  deriving DecidableEq, Repr

/-- An image that arrives over the chain (R490, R501): its sender, header CRC, block count, whether it is a recovery
download, its blocks by index, and the resend rounds that have passed. -/
structure ChainRx where
  src : Nat
  crc : Nat
  count : Nat
  recovery : Bool
  blocks : Sp Bytes := []
  rounds : Nat := 0
  deriving DecidableEq, Repr

/-- The Rueramo chain (R396 to R402, R489 to R499). -/
structure ChainX where
  upPartner : Bool := false
  downPartner : Bool := false
  pos : Option Nat := none
  len : Nat := 1
  /-- Frames sent: out of the downstream port (true) or the upstream port. -/
  sent : List (Bool × ChainFrame) := []
  txSeq : Nat := 0
  /-- The module tick at which the latest chain tick occurs (R401), and at which the head sent its last. -/
  tickAt : Option Nat := none
  tickSent : Option Nat := none
  lastHealth : Option Nat := none
  /-- The header CRC that each position last reported (R499). -/
  crcs : Sp Nat := []
  /-- The blocks of an image being sent, in index order; the (position, index) pairs acknowledged OK; resend rounds. -/
  txFrames : List ChainFrame := []
  txOk : List (Nat × Nat) := []
  txRounds : Nat := 0
  rx : Option ChainRx := none
  /-- The image refused last at its block 0: header CRC and status (R490). -/
  refused : Option (Nat × Nat) := none
  deriving DecidableEq, Repr

/-- An activation (R493 to R498): the slot (true: B), when, its target, wall and base; the tick of its point once that
has come; held by R497 and the chain tick of the last look; whether the trowel has restarted into it, the walls that
were READY then, and whether the CXL link was up. -/
structure Activation where
  slot : Bool
  when_ : Nat
  target : Nat
  wall : Nat
  ang : Nat
  reached : Option Nat := none
  waiting : Bool := false
  waitTick : Nat := 0
  restarted : Bool := false
  ready : List Nat := []
  cxlUp : Bool := false
  deriving DecidableEq, Repr

/-- The trowel (R481 to R503). -/
structure TrowelX where
  slotA : ImgSlot := {}
  slotB : ImgSlot := {}
  /-- The default fabric image store, by entry. -/
  store : Sp ImgSlot := []
  /-- The settings that have been written, by number; the number of the generation in force; its schema; the lines of the
  settings store written so far (R482, R495). -/
  settings : Sp Word := []
  settingsGen : Nat := 0
  schema : Nat := 0
  settingLines : Nat := 0
  /-- The boot record (R483): consecutive failed boots and the cause of the last. -/
  bootFails : Nat := 0
  bootCause : Nat := 0
  /-- The sequence number of the boot record in force (R483). -/
  bootSeq : Nat := 0
  /-- The slot that the loader tried last (true: B) (R501). -/
  lastBoot : Bool := false
  lifecycle : Nat := 0
  /-- Firmware runs. Else the loader is booting it, since the tick `bootAt`, or the recovery ROM runs. -/
  running : Bool := false
  recovery : Bool := false
  bootAt : Nat := 0
  /-- Firmware has run since the module reset (R464). -/
  booted : Bool := false
  /-- The slot that runs or ran last (true: B), and whether the PREVIOUS slot is to be tried next (R500). -/
  runSlot : Bool := false
  tryPrevious : Bool := false
  /-- The last trial was reverted (TRW_STATUS). The cause for which the recovery ROM was entered (R500). -/
  reverted : Bool := false
  recCause : Nat := 0
  act : Option Activation := none
  /-- The tick at which a trial began to run. -/
  trialSince : Option Nat := none
  /-- The recovery mailbox (R501): window, and bytes taken so far by each path. -/
  rcvWin : Sp Word := []
  rcvGot : Bytes := []
  xmodem : Bytes := []
  /-- The next wall to power up after a module reset, and when the one before it was (R507). -/
  upNext : Nat := 0
  upAt : Option Nat := none
  /-- The monitor whose measurement is calibrated next (R522). -/
  calNext : Nat := 0
  deriving DecidableEq, Repr

/-- One voltage or temperature monitor (R508): its run of compares outside (or inside) the limits. -/
structure MonX where
  run : Nat := 0
  fresh : Bool := true
  deriving DecidableEq, Repr

/-- A self-test in progress (R537, R538): its number, its wall, its arguments a, b and c (W6 to W8), and the long command
that it is, by handle. -/
structure SelfTest where
  num : Nat
  wall : Nat
  a : Nat
  b : Nat
  c : Nat
  handle : Word
  console : Bool
  deriving DecidableEq, Repr

/-- The service port (R529 to R547). -/
structure ServiceX where
  open_ : Bool := false
  lastInput : Nat := 0
  /-- Lines that the console has printed. -/
  out : List String := []
  tests : List SelfTest := []
  /-- The self-test whose verdict SVC_VERDICT shows while it runs: its handle, and whether it is the console's (R535). -/
  verdict : Option (Word × Bool) := none
  safeCause : Nat := 0
  safe : Bool := false
  /-- The boundary-scan instruction register (R540): IDCODE after Test-Logic-Reset. An instruction that stops the module
  has been loaded since the module reset (R541). -/
  ir : Nat := 2
  scanHold : Bool := false
  wdtLast : Nat := 0
  /-- The tick of the last telemetry sample, voltage compare, calibration and meter update (R508, R521, R522, R533). -/
  telAt : Option Nat := none
  cmpAt : Option Nat := none
  calAt : Option Nat := none
  meterAt : Option Nat := none
  deriving DecidableEq, Repr

/-- The CXL link (R403 to R406). -/
structure CxlX where
  up : Bool := false
  flit256 : Bool := false
  width : Nat := 0
  rate : Nat := 0
  deriving DecidableEq, Repr

/-- The part (R1, R436): walls populated and temperature grade. -/
structure Part where
  walls : Nat
  gradeE : Bool
  deriving DecidableEq, Repr

/-- The status of the last register access that a command made, and what it read (R409). -/
structure LastAccess where
  mid : Mid := 0
  addr : Nat := 0
  value : Word := 0
  status : Nat := 0
  deriving DecidableEq, Repr

structure State where
  part : Part
  /-- MODEL's own: advanced by every step that takes a free value. -/
  fresh : Nat
  tick : Nat
  /-- Register words by BAR0 address; an address not listed holds its reset word. -/
  regs : Sp Word
  /-- Waiting captures of the pair latches, by the address of the _LO register (R11). -/
  pairs : Sp (Option Word)
  /-- MODEL's own: what the last register access of a command answered. -/
  last : LastAccess
  walls : Sp WallX
  tiles : Sp Tile
  flows : Sp FlowX
  bases : Sp AngBase
  acus : Sp Acu
  links : Sp LinkX
  pins : Sp PinX
  gddrx : Sp GddrX
  /-- Wall SRAM: the byte at offset a of wall w's SRAM is at w * 2^25 + a (R317). -/
  sram : List Host.Cell
  /-- Words of wall SRAM with a bit error: 1 single, 2 uncorrectable, by 64-bit word number (R328). -/
  sramErr : Sp Nat
  gddr : List Host.Cell
  gddrErr : Sp Nat
  /-- Foundation frames (R441): word i of sub-frame k of a tile at (tile key * 4 + k) * 96 + i. -/
  found : Sp Word
  /-- The code stored beside each FOUNDATION and PROGRAM frame (R443, R444), at tile key * 64 + k for foundation
  sub-frame k, and + 4 + k for program sub-frame k. -/
  frameCode : Sp (BitVec 16)
  flight : List InFlight
  /-- Requests that a hub port or the CXL endpoint holds until their answers come (R406, R571). -/
  awaiting : List Await
  /-- Hub event records not yet appended, and the hub log kept in MRAM (R263). -/
  hubSeq : Nat
  hubWait : List EvRec
  log : List EvRec
  logCount : Nat
  ringLostSeen : Bool
  queues : Sp QueueX
  /-- The submission queue that the hub fetched from last (R422). -/
  sqTurn : Nat
  longs : List LongCmd
  hostOut : List HostOut
  cxl : CxlX
  chain : ChainX
  doneOd : Bool
  holdN : Bool
  trowel : TrowelX
  mons : Sp MonX
  service : ServiceX
  powered : Bool
  /-- Commands that wait, first in, first out. -/
  pending : List Instr
  deriving DecidableEq, Repr

/-- Why the block stops. -/
inductive Fault where
  /-- Raised by an event of a wall that the part does not populate (R2): no such wall exists. Safe. -/
  | unpopulatedWall
  deriving DecidableEq, Repr

/-- Why a command has no meaning. -/
inductive Refusal where
  /-- Raised by an arm of exec whose command is not modelled. Safe. -/
  | notModelled (mnemonic : String)
  deriving DecidableEq, Repr

/-- The machine right after the module reset: every register at its reset word (`regs` lists none), nothing stored,
every wall off, no command waiting. -/
def State.reset : State :=
  { part := { walls := 8, gradeE := false }, fresh := 0, tick := 0, regs := [], pairs := [], last := {}, walls := [],
    tiles := [], flows := [], bases := [], acus := [], links := [], pins := [], gddrx := [], sram := [], sramErr := [],
    gddr := [], gddrErr := [], found := [], frameCode := [], flight := [],
    awaiting := [], hubSeq := 0, hubWait := [], log := [], logCount := 0, ringLostSeen := false, queues := [], sqTurn := 63,
    longs := [], hostOut := [], cxl := {}, chain := {}, doneOd := false, holdN := false, trowel := {}, mons := [],
    service := {}, powered := true, pending := [] }

end Sys2Proof.Machine
end

