-- ==== Sys2Proof/Machine/Ops.lean ====
section
/-!
DEFINITION. Machine/Ops.lean: the named operations over the state that every family shares: registers, tiles, flows,
bases, the byte stores, event records and the answer of a register access.
-/
namespace Sys2Proof.Machine
open Sys2Proof

/-- The outcome of a command or an event. -/
abbrev Out := Host.Outcome State Fault Refusal

/-! ### Status codes (the status-code table of 10_host_interface) -/
def stOk : Nat := 0x0000
def stAccepted : Nat := 0x0001
def stAccessDenied : Nat := 0x0010
def stBusy : Nat := 0x0011
def stBadArg : Nat := 0x0012
def stCancelled : Nat := 0x0013
def stFrameCrc : Nat := 0x0020
def stOutOfRegion : Nat := 0x0021
def stDriveConflict : Nat := 0x0022
def stDomainOff : Nat := 0x0030
def stRouteWithdrawn : Nat := 0x0031
def stWallLoading : Nat := 0x0032
def stFlowDepth : Nat := 0x0040
def stSaveExhausted : Nat := 0x0041
def stTypeMismatch : Nat := 0x0023
def stUnitMismatch : Nat := 0x0024
def stSignature : Nat := 0x0025
def stCollision : Nat := 0x0042
def stSpineConflict : Nat := 0x0043
def stDataError : Nat := 0x0044
def stSettings : Nat := 0x0050
def stTestFail : Nat := 0x0060

/-! ### Registers -/
def State.rd (s : State) (a : Nat) : Word := Sp.getD s.regs a (regReset s.part.walls s.part.gradeE a)

def State.wr (s : State) (a : Nat) (v : Word) : State :=
  { s with regs := Sp.set s.regs a v (regReset s.part.walls s.part.gradeE a) }

/-- The value of a field of a register. -/
def State.fl (s : State) (a : Nat) (f : Fld) : Nat := fld (s.rd a) f

/-- A field of a register replaced. -/
def State.setFl (s : State) (a : Nat) (f : Fld) (v : Nat) : State := s.wr a (setFld (s.rd a) f v)

/-- A saturating counter register takes one more. -/
def State.bump (s : State) (a : Nat) : State := s.wr a (satInc (s.rd a))

def State.bumpBy (s : State) (a n : Nat) : State := s.wr a (satAdd (s.rd a) n)

/-- A field counter that saturates at its width takes one more. -/
def State.bumpFl (s : State) (a : Nat) (f : Fld) : State := s.setFl a f (min (s.fl a f + 1) (2 ^ f.wd - 1))

/-- A field counter that wraps takes one more. -/
def State.wrapFl (s : State) (a : Nat) (f : Fld) : State := s.setFl a f ((s.fl a f + 1) % 2 ^ f.wd)

/-! ### Typed parts -/
def tileKey (w t : Nat) : Nat := w * 128 + t
def State.wall (s : State) (w : Nat) : WallX := Sp.getD s.walls w {}
def State.setWall (s : State) (w : Nat) (x : WallX) : State := { s with walls := Sp.put s.walls w x }
def State.tile (s : State) (w t : Nat) : Tile := Sp.getD s.tiles (tileKey w t) {}
def State.setTile (s : State) (w t : Nat) (x : Tile) : State := { s with tiles := Sp.put s.tiles (tileKey w t) x }
def State.flow (s : State) (w f : Nat) : FlowX := Sp.getD s.flows (w * 512 + f) {}
def State.setFlow (s : State) (w f : Nat) (x : FlowX) : State := { s with flows := Sp.put s.flows (w * 512 + f) x }
def State.base (s : State) (w n : Nat) : AngBase := Sp.getD s.bases (w * 4 + n) {}
def State.setBase (s : State) (w n : Nat) (x : AngBase) : State := { s with bases := Sp.put s.bases (w * 4 + n) x }
def State.acu (s : State) (w u : Nat) : Acu := Sp.getD s.acus (w * 16 + u) {}
def State.setAcu (s : State) (w u : Nat) (x : Acu) : State := { s with acus := Sp.put s.acus (w * 16 + u) x }
def State.link (s : State) (w n : Nat) : LinkX := Sp.getD s.links (w * 16 + n) {}
def State.setLink (s : State) (w n : Nat) (x : LinkX) : State := { s with links := Sp.put s.links (w * 16 + n) x }
def State.pin (s : State) (w p : Nat) : PinX := Sp.getD s.pins (w * 24 + p) {}
def State.setPin (s : State) (w p : Nat) (x : PinX) : State := { s with pins := Sp.put s.pins (w * 24 + p) x }
def State.gdx (s : State) (w d : Nat) : GddrX := Sp.getD s.gddrx (w * 2 + d) {}
def State.setGdx (s : State) (w d : Nat) (x : GddrX) : State := { s with gddrx := Sp.put s.gddrx (w * 2 + d) x }
def State.queue (s : State) (q : Nat) : QueueX := Sp.getD s.queues q {}
def State.setQueue (s : State) (q : Nat) (x : QueueX) : State := { s with queues := Sp.put s.queues q x }
def State.mon (s : State) (m : Nat) : MonX := Sp.getD s.mons m {}
def State.setMon (s : State) (m : Nat) (x : MonX) : State := { s with mons := Sp.put s.mons m x }

/-- One bank's context of a tile. -/
def Tile.bank (x : Tile) : Bank → Ctx
  | .b0 => x.c0
  | .b1 => x.c1
  | .fast => x.cf

def Tile.setBank (x : Tile) (b : Bank) (c : Ctx) : Tile :=
  match b with
  | .b0 => { x with c0 := c }
  | .b1 => { x with c1 := c }
  | .fast => { x with cf := c }

def Ctx.brick (c : Ctx) (b : Nat) : BrickRec := Sp.getD c.brk b {}
def Ctx.setBrick (c : Ctx) (b : Nat) (r : BrickRec) : Ctx := { c with brk := Sp.set c.brk b r {} }
def Tile.way (x : Tile) (k : Nat) : Way := Sp.getD x.ways k {}
def Tile.setWay (x : Tile) (k : Nat) (y : Way) : Tile := { x with ways := Sp.put x.ways k y }

/-! ### Byte stores: a byte that nothing has written reads 0 (log entry on memory contents) -/
/-- What an unlisted byte of wall SRAM or GDDR7 reads as. -/
def memDefault (_ : Nat) : Byte := 0

def memByte (m : List Host.Cell) (a : Nat) : Byte := Sp.getD m a (memDefault a)
def memSetByte (m : List Host.Cell) (a : Nat) (v : Byte) : List Host.Cell := Sp.set m a v (memDefault a)

def memBytes (m : List Host.Cell) (a : Nat) : Nat → List Byte
  | 0 => []
  | k + 1 => memByte m a :: memBytes m (a + 1) k

def memSetBytes (m : List Host.Cell) (a : Nat) : List Byte → List Host.Cell
  | [] => m
  | b :: bs => memSetBytes (memSetByte m a b) (a + 1) bs

/-- The canonical form of a byte store. -/
def Memory.wf (m : List Host.Cell) : Bool := Sp.wf memDefault m

/-- The key of byte `off` of bank `b` of wall `w` in `sram` (R317: 8 banks of 4 MB). -/
def sramKey (w b off : Nat) : Nat := w * 0x2000000 + b * 0x400000 + off
/-- The key of byte `off` of device `d` of wall `w` in `gddr` (3 GB a device). -/
def gddrKey (w d off : Nat) : Nat := (w * 2 + d) * 0xC0000000 + off

def State.sramBytes (s : State) (w b off n : Nat) : List Byte := memBytes s.sram (sramKey w b off) n
def State.setSram (s : State) (w b off : Nat) (bs : List Byte) : State :=
  { s with sram := memSetBytes s.sram (sramKey w b off) bs }
def State.sramWord (s : State) (w b off : Nat) : Word := BitVec.ofNat 32 (ofLeBytes (s.sramBytes w b off 4))
def State.setSramWord (s : State) (w b off : Nat) (v : Word) : State := s.setSram w b off (leBytes 4 v.toNat)

/-! ### Populated walls -/
def State.populated (s : State) (w : Nat) : Bool := decide (w < s.part.walls)

/-- An event of a wall happens on a populated wall only (R2), and only while the module has its supply (R505). -/
def onWall (w : Nat) (s : State) (f : State → State) : Out :=
  if s.populated w then .next (if s.powered then f s else s) else .fault .unpopulatedWall

/-! ### Fabric time -/
/-- Module ticks per fabric cycle, in quarters of a sixteenth: R250 gives 1, 1.25 and 1.5625 (here times 64). -/
def tickRatio64 (step : Nat) : Nat := if step = 1 then 80 else if step = 2 then 100 else 64

def State.clockStep (s : State) (w : Nat) : Nat := s.fl (R.WPWR_CLK w) F.WPWR_CLK_step

/-- A wall's copy of the module tick (R255). -/
def State.wtick (s : State) (w : Nat) : Nat := ((s.tick : Int) + (s.wall w).tickErr).toNat

/-- A wall's tick copy is aligned, or not (R255, R256, R270, R271). -/
def State.setAligned (s : State) (w : Nat) (b : Bool) : State :=
  (s.setFl (R.WTICK_STATUS w) F.WTICK_STATUS_aligned (b2n b)).setFl R.MT_ALIGN ⟨w, 1⟩ (b2n b)

/-- The current slot of a wall's TDMA frame (R291). -/
def State.slotNow (s : State) (w : Nat) : Nat := ((s.wall w).cycle + (s.wall w).frameOfs) % 64

/-! ### Event records (R260 to R262, R429) -/
/-- The stamp block of a record that arises now in a wall (R260, R261). -/
def State.wallStamp (s : State) (w : Nat) : Stamp :=
  let n := s.fl (R.ANG_STAMP w) F.ANG_STAMP_ang
  let on := s.fl (R.ANG_CFG w n) F.ANG_CFG_src ≠ 0
  { tick := s.wtick w, seq := (s.wall w).seq, source := w, ang := n, av := on,
    ap := s.fl (R.ANG_STATUS w n) F.ANG_STATUS_pred = 1, angle := (s.base w n).v }

/-- The 24 bytes of a stamp block (R260). -/
def Stamp.bytes (x : Stamp) : Bytes :=
  leBytes 8 x.tick ++ leBytes 4 x.seq ++ leBytes 4 (x.source + x.ang * 16 + b2n x.av * 64 + b2n x.ap * 128) ++ leBytes 8 x.angle.toNat

/-- A record of a wall takes the wall's next number (R262). -/
def State.takeSeq (s : State) (w : Nat) : State :=
  let x := s.wall w
  s.setWall w { x with seq := (x.seq + 1) % 4294967296 }

/-- A wall raises an event: source, variant and arguments (R429, R432). It takes the wall's next number (R262); a record
that finds the buffer of 256 full is lost (R430). -/
def State.raiseWall (s : State) (w src var : Nat) (args : List Nat) : State :=
  let x := s.wall w
  let r : EvRec := { code := src * 8 + var, args := args.map (BitVec.ofNat 32), stamp := s.wallStamp w }
  if x.raised.length < 256 then
    s.setWall w { x with raised := x.raised ++ [r], seq := (x.seq + 1) % 4294967296 }
  else
    (s.setWall w { x with lostPend := x.lostPend + 1, lostFlag := true, seq := (x.seq + 1) % 4294967296 }).bump (R.WEV_LOST_COUNT w)

/-- The hub raises an event (R431). Hub records carry no angle (R261). -/
def State.raiseHub (s : State) (src var : Nat) (args : List Nat) : State :=
  let r : EvRec := { code := src * 8 + var, args := args.map (BitVec.ofNat 32),
                     stamp := { tick := s.tick, seq := s.hubSeq, source := 8 } }
  { s with hubWait := s.hubWait ++ [r], hubSeq := (s.hubSeq + 1) % 4294967296 }

/-- A sticky bit is set; on its transition from 0 to 1 a wall event is raised. -/
def State.stickyWall (s : State) (a : Nat) (f : Fld) (w src var : Nat) (args : List Nat) : State :=
  if s.fl a f = 0 then (s.setFl a f 1).raiseWall w src var args else s

/-- A sticky bit is set; on its transition from 0 to 1 a hub event is raised. -/
def State.stickyHub (s : State) (a : Nat) (f : Fld) (src var : Nat) (args : List Nat) : State :=
  if s.fl a f = 0 then (s.setFl a f 1).raiseHub src var args else s

/-! ### The answer of a register access (R409) -/
/-- A register access completes: the model keeps its master, address, value and status. A status other than OK is
recorded in REG_STAT of a host group whose record is free; ACCESS_DENIED raises the hub event (R409, R431). -/
def State.answer (s : State) (m : Mid) (a : Nat) (isWrite : Bool) (status : Nat) (v : Word) : State :=
  let s1 := { s with last := { mid := m, addr := a, value := (if status = 0 then v else 0), status := status } }
  let g := m.toNat
  if status = 0 then s1
  else
    let s2 := if g < 32 && s1.fl (R.REG_STAT g) F.REG_STAT_valid = 0 then
        ((s1.setFl (R.REG_STAT g) F.REG_STAT_status status).setFl (R.REG_STAT g) F.REG_STAT_valid 1).setFl
          (R.REG_STAT_ADDR g) F.REG_STAT_ADDR_offset a
      else s1
    if status = 0x0010 then s2.raiseHub 4 0 [g, a, b2n isWrite] else s2

/-- The module-wide number of a wall's local flow (R5). -/
def flowNo (w f : Nat) : Nat := 512 * w + f

/-! ### Master IDs of on-chip sources (the master-ID table of 10_host_interface) -/
def midTile (w : Nat) : Nat := 40 + 3 * w
def midLinks (w : Nat) : Nat := 41 + 3 * w
def midKiln (w : Nat) : Nat := 42 + 3 * w

/-- `n` free bytes. -/
def State.freeBytes (s : State) (from_ n : Nat) : Bytes := (List.range n).map (fun i => Config.freeByte (s.fresh * 65536 + from_ + i))

/-- Fold over a range of indices. -/
def foldN {σ : Type} (n : Nat) (s : σ) (f : σ → Nat → σ) : σ := (List.range n).foldl f s

end Sys2Proof.Machine
end

