-- ==== Sys2Proof/Machine/Bricks.lean ====
section
/-!
DEFINITION. Machine/Bricks.lean: the brick word (R26 to R31), every operation (R33 to R46), the accumulator with its
carry tally (R47 to R49), moves, rounding and autoscale (R52 to R57), as functions of one operation in flight.
-/
namespace Sys2Proof.Machine
open Sys2Proof

/-- The operations of R33. -/
inductive BrickOp where
  | nop | mul | mla | mls | sqr | tap | taps | add | sub | add3 | neg | abs | avg | min | max | cmp | sel | csel | clamp
  | and | or | xor | andn | shl | shr | sra | norm | rdl | rdm | rdh | wra | lut | luti | crx | cry | crz | divi | divs | divf
  deriving DecidableEq, Repr

/-- The operation codes of R33; the codes not listed are reserved. -/
def brickOp (c : Nat) : Option BrickOp :=
  match c with
  | 0x00 => some .nop | 0x01 => some .mul | 0x02 => some .mla | 0x03 => some .mls | 0x04 => some .sqr
  | 0x05 => some .tap | 0x06 => some .taps | 0x08 => some .add | 0x09 => some .sub | 0x0A => some .add3
  | 0x0B => some .neg | 0x0C => some .abs | 0x0D => some .avg | 0x0E => some .min | 0x0F => some .max
  | 0x10 => some .cmp | 0x11 => some .sel | 0x12 => some .csel | 0x13 => some .clamp | 0x14 => some .and
  | 0x15 => some .or | 0x16 => some .xor | 0x17 => some .andn | 0x18 => some .shl | 0x19 => some .shr
  | 0x1A => some .sra | 0x1B => some .norm | 0x20 => some .rdl | 0x21 => some .rdm | 0x22 => some .rdh
  | 0x23 => some .wra | 0x28 => some .lut | 0x29 => some .luti | 0x30 => some .crx | 0x31 => some .cry
  | 0x32 => some .crz | 0x34 => some .divi | 0x35 => some .divs | 0x36 => some .divf
  | _ => none

/-! ### Fields of a brick word (R26) -/
def bwOp (w : BitVec 112) : Nat := bvf w 0 6
def bwSrcA (w : BitVec 112) : Nat := bvf w 6 5
def bwSrcB (w : BitVec 112) : Nat := bvf w 11 5
def bwSrcC (w : BitVec 112) : Nat := bvf w 16 5
def bwDst (w : BitVec 112) : Nat := bvf w 21 3
def bwShift (w : BitVec 112) : Int := sInt 5 (bvf w 24 5)
def bwRound (w : BitVec 112) : Nat := bvf w 29 2
def bwSat (w : BitVec 112) : Bool := bvf w 31 1 = 1
def bwAccm (w : BitVec 112) : Nat := bvf w 32 2
def bwGuard (w : BitVec 112) : Bool := bvf w 34 1 = 1
def bwAuto (w : BitVec 112) : Bool := bvf w 35 1 = 1
def bwShiftout (w : BitVec 112) : Bool := bvf w 36 1 = 1
def bwPred (w : BitVec 112) : Nat := bvf w 37 3
def bwImm (w : BitVec 112) : W24 := BitVec.ofNat 24 (bvf w 40 24)
def bwAcc (w : BitVec 112) : Bool := bvf w 64 1 = 1
def bwFold (w : BitVec 112) : Bool := bvf w 65 1 = 1
def bwUnsA (w : BitVec 112) : Bool := bvf w 66 1 = 1
def bwUnsB (w : BitVec 112) : Bool := bvf w 67 1 = 1
def bwCond (w : BitVec 112) : Nat := bvf w 68 4
def bwPwr (w : BitVec 112) : Bool := bvf w 72 1 = 1
def bwTm (w : BitVec 112) : Nat := bvf w 73 2
def bwIxw (w : BitVec 112) : Nat := bvf w 75 4 + 1
def bwCmode (w : BitVec 112) : Bool := bvf w 79 1 = 1
def bwCstep (w : BitVec 112) : Nat := bvf w 80 5
def bwNoexp (w : BitVec 112) : Bool := bvf w 85 1 = 1

/-- The comparison that a condition code names (R31). -/
def brickCond (c : Nat) (x y : W24) : Bool :=
  match c with
  | 0 => x = y
  | 1 => x ≠ y
  | 2 => decide (x.toInt < y.toInt)
  | 3 => decide (y.toInt ≤ x.toInt)
  | 4 => decide (x.toInt ≤ y.toInt)
  | 5 => decide (y.toInt < x.toInt)
  | 6 => decide (x.toNat < y.toNat)
  | 7 => decide (y.toNat ≤ x.toNat)
  | 8 => true
  | _ => false

/-- Whether an operation reads A, B and C (R33). -/
def opUsesA (o : BrickOp) : Bool :=
  match o with
  | .nop | .rdl | .rdm | .rdh | .divs | .divf => false
  | _ => true
def opUsesB (o : BrickOp) : Bool :=
  match o with
  | .mul | .mla | .mls | .tap | .taps | .add | .sub | .add3 | .avg | .min | .max | .cmp | .sel | .csel | .clamp
  | .and | .or | .xor | .andn | .shl | .shr | .sra | .wra | .crx | .cry | .divi | .divs => true
  | _ => false
def opUsesC (o : BrickOp) : Bool :=
  match o with
  | .mla | .mls | .taps | .add3 | .csel | .clamp | .wra | .crx | .cry | .crz => true
  | _ => false

/-- Multiply-group operations (R33). -/
def opIsMul (o : BrickOp) : Bool :=
  match o with
  | .mul | .mla | .mls | .sqr | .tap | .taps => true
  | _ => false

/-- Operations that manage the accumulator themselves, for which `accm` is ignored (R33). -/
def opIgnoresAccm (o : BrickOp) : Bool :=
  match o with
  | .nop | .norm | .rdl | .rdm | .rdh | .wra | .divi | .divs | .divf => true
  | _ => false

def opIsCordic (o : BrickOp) : Bool :=
  match o with
  | .crx | .cry | .crz => true
  | _ => false

def opIsLookup (o : BrickOp) : Bool :=
  match o with
  | .lut | .luti => true
  | _ => false

/-- Operations that produce a result r (R33): those for which `pwr` uses `cond` (R32). -/
def opHasResult (o : BrickOp) : Bool :=
  match o with
  | .nop | .wra | .divi | .divs => false
  | _ => true

/-- A source code is reserved from 0x0F on (R28). -/
def srcReserved (c : Nat) : Bool := decide (0x0F ≤ c)

/-- R59: whether a brick word is illegal, given whether its lookup found its ports and an allowed aspect. -/
def wordIllegal (w : BitVec 112) (lookupOk : Bool) : Bool :=
  match brickOp (bwOp w) with
  | none => true
  | some o =>
    (opUsesA o && srcReserved (bwSrcA w)) || (opUsesB o && srcReserved (bwSrcB w)) ||
    (opUsesC o && srcReserved (bwSrcC w)) || decide (4 ≤ bwDst w) ||
    (decide (9 ≤ bwCond w) && (o = .cmp || o = .csel || (bwPwr w && opHasResult o))) ||
    (opIsCordic o && decide (23 < bwCstep w)) || (opIsLookup o && !lookupOk)

/-- The condition under which a word takes effect (R30). -/
def predHolds (w : BitVec 112) (r : BrickRec) (tp : Bool) : Bool :=
  match bwPred w with
  | 0 => true
  | 1 => r.p
  | 2 => !r.p
  | 3 => tp
  | 4 => !tp
  | 5 => r.z
  | 6 => r.n
  | _ => false

/-! ### The multiply group (R33, R35, R36) -/
def opA (fl : Flight) : Int := if bwUnsA fl.word then (fl.a.toNat : Int) else fl.a.toInt
def opB (fl : Flight) : Int := if bwUnsB fl.word then (fl.b.toNat : Int) else fl.b.toInt

/-- The product p of a multiply-group operation. -/
def prodOf (o : BrickOp) (fl : Flight) : Int :=
  match o with
  | .mla => opA fl * opB fl + fl.c.toInt * 8388608
  | .mls => fl.c.toInt * 8388608 - opA fl * opB fl
  | .sqr => opA fl * opA fl
  | .taps => (opA fl + fl.c.toInt) * opB fl
  | _ => opA fl * opB fl

/-! ### CORDIC (R42, R43) -/
/-- atan(2^-i) in the angle format of R43, rounded to nearest, for i = 0 to 23. -/
def atanTable : List Nat :=
  [2097152, 1238021, 654136, 332050, 166669, 83416, 41718, 20860, 10430, 5215, 2608, 1304, 652, 326, 163, 81, 41,
   20, 10, 5, 3, 1, 1, 0]

def cordicD (fl : Flight) : Int :=
  if bwCmode fl.word then (if fl.c.toInt < 0 then 1 else -1) else (if fl.c.toInt < 0 then -1 else 1)

/-! ### Lookup (R39 to R41) -/
/-- A biased by 2^23, or read as unsigned. -/
def lutArg (w : BitVec 112) (a : W24) : Nat :=
  if bwUnsA w then a.toNat else (a.toInt + 8388608).toNat

def lutIndex (w : BitVec 112) (a : W24) : Nat := lutArg w a / 2 ^ (24 - bwIxw w)
def lutAddr (w : BitVec 112) (a : W24) : Nat := bvf w 40 13 + lutIndex w a

/-- A result: the 24-bit word and whether the operation saturated it. -/
structure BRes where
  r : W24
  v : Bool := false
  deriving DecidableEq, Repr

/-- Wrap/sat (R33, R34). -/
def wrapSat (w : BitVec 112) (x : Int) : BRes :=
  if fits24 x then ⟨w24 x, false⟩ else if bwSat w then ⟨w24 (clamp24 x), true⟩ else ⟨w24 x, false⟩

/-- The rounding mode of a word (R26, R53): `round`, or the flow's default. -/
def modeOf (w : BitVec 112) (rdef : Nat) : Nat := if bwRound w = 3 then rdef else bwRound w

def shCount (fl : Flight) : Nat := fl.b.toNat % 32

/-- The count of redundant sign bits of A (R37). -/
def normOf (a : W24) : Nat :=
  let s := nbit a.toNat 23
  (([22, 21, 20, 19, 18, 17, 16, 15, 14, 13, 12, 11, 10, 9, 8, 7, 6, 5, 4, 3, 2, 1, 0] : List Nat).takeWhile
    (fun i => nbit a.toNat i = s)).length

/-- The result r of the operations whose result does not depend on an accumulator (R33, R37, R40 to R43), with the
rounding default of the issuing flow. `none`: the operation produces no such result. -/
def aluRes (o : BrickOp) (fl : Flight) (rdef : Nat) : Option BRes :=
  let w := fl.word
  let a := fl.a.toInt
  let b := fl.b.toInt
  let c := fl.c.toInt
  let n := shCount fl
  let i := bwCstep w
  let full (x : Int) : Option BRes := some (wrapSat w x)
  let exact (x : W24) : Option BRes := some ⟨x, false⟩
  match o with
  | .taps => exact fl.c
  | .add => full (a + b)
  | .sub => full (a - b)
  | .add3 => full (a + b + c)
  | .neg => full (-a)
  | .abs => full (if a < 0 then -a else a)
  | .avg => full (roundShift (a + b) 1 (modeOf w rdef))
  | .min => exact (if b < a then fl.b else fl.a)
  | .max => exact (if a < b then fl.b else fl.a)
  | .cmp => exact (if brickCond (bwCond w) fl.a fl.b then 0xFFFFFF else 0)
  -- SEL reads P as the word saw it at its issue edge (DESIGN CHOICE, log entry 121).
  | .sel => exact (if fl.p then fl.a else fl.b)
  | .csel => exact (if brickCond (bwCond w) fl.c 0 then fl.a else fl.b)
  | .clamp => exact (let m := if a < b then fl.b else fl.a; if m.toInt < c then m else fl.c)
  | .and => exact (fl.a &&& fl.b)
  | .or => exact (fl.a ||| fl.b)
  | .xor => exact (fl.a ^^^ fl.b)
  | .andn => exact (fl.a &&& ~~~fl.b)
  | .shl => full (a * (2 ^ n : Nat))
  | .shr => exact (BitVec.ofNat 24 (fl.a.toNat / 2 ^ n))
  | .sra => full (roundShift a n (modeOf w rdef))
  | .norm => exact (BitVec.ofNat 24 (normOf fl.a))
  | .lut => exact (BitVec.ofNat 24 (fl.y0.toNat / 2 ^ 24))
  | .luti =>
    let k := 24 - bwIxw w
    let f : Int := (lutArg w fl.a % 2 ^ k : Nat)
    let y0 := sInt 24 (fl.y0.toNat / 2 ^ 24)
    let y1 := sInt 24 (fl.y1.toNat / 2 ^ 24)
    full (y0 + roundShift ((y1 - y0) * f) k (modeOf w rdef))
  | .crx => full (a - cordicD fl * (b / (2 ^ i : Nat)))
  | .cry => full (a + cordicD fl * (b / (2 ^ i : Nat)))
  | .crz => full (a - cordicD fl * (atanTable.getD i 0 : Nat))
  | _ => none

/-- Bits shifted out of A (R37). -/
def shiftedOut (left : Bool) (a : W24) (n : Nat) : W24 :=
  if n = 0 then 0 else if 24 ≤ n then a
  else if left then BitVec.ofNat 24 (a.toNat / 2 ^ (24 - n))
  else BitVec.ofNat 24 ((a.toNat % 2 ^ n) * 2 ^ (24 - n))

def getAcc (r : BrickRec) (one : Bool) : Acc := if one then r.acc1 else r.acc0
def putAcc (r : BrickRec) (one : Bool) (a : Acc) : BrickRec := if one then { r with acc1 := a } else { r with acc0 := a }

/-- The folded value F of an accumulator (R38). -/
def Acc.folded (a : Acc) : Int := a.tally.toInt * 72057594037927936 + a.value.toInt

/-- The secondary output of an operation, from its operands and the accumulator it works on (R33); `none`: S holds. -/
def secondary (o : BrickOp) (fl : Flight) (acc : Acc) : Option W24 :=
  match o with
  | .nop => none
  | .shl => some (shiftedOut true fl.a (shCount fl))
  | .shr => some (shiftedOut false fl.a (shCount fl))
  | .sra => some (shiftedOut false fl.a (shCount fl))
  | .lut => some (BitVec.ofNat 24 fl.y0.toNat)
  | .divf => some (BitVec.ofNat 24 (bvf acc.value 24 24))
  | _ => some 0

/-! ### The accumulator stage (R47 to R49, R44, R45) -/
/-- The update of R48: mode 1 loads, 2 adds, 3 subtracts, 0 holds. -/
def accUpdate (a : Acc) (mode : Nat) (sat : Bool) (v : Int) : Acc :=
  match mode with
  | 0 => a
  | 1 => { a with value := BitVec.ofInt 56 v, tally := 0 }
  | m =>
    let x := if m = 2 then a.value.toInt + v else a.value.toInt - v
    if x < -36028797018963968 then
      if sat then { a with value := BitVec.ofInt 56 (-36028797018963968), g := true }
      else { a with value := BitVec.ofInt 56 x, g := true,
                    tally := (if a.tally.toInt ≤ -127 then a.tally else a.tally - 1),
                    tv := a.tv || decide (a.tally.toInt ≤ -127) }
    else if 36028797018963967 < x then
      if sat then { a with value := BitVec.ofInt 56 36028797018963967, g := true }
      else { a with value := BitVec.ofInt 56 x, g := true,
                    tally := (if 127 ≤ a.tally.toInt then a.tally else a.tally + 1),
                    tv := a.tv || decide (127 ≤ a.tally.toInt) }
    else { a with value := BitVec.ofInt 56 x }

def absW (x : W24) : Nat := x.toInt.natAbs

/-- One step of the restoring divider on bits [47:0] (R45). -/
def divStep (v : BitVec 56) (b : W24) : BitVec 56 :=
  let hi := bvf v 48 8
  let x := (bvf v 0 48 * 2) % 2 ^ 48
  let r := x / 2 ^ 24
  let x' := if absW b ≤ r then (r - absW b) * 2 ^ 24 + x % 2 ^ 24 + 1 else x
  BitVec.ofNat 56 (hi * 2 ^ 48 + x')

/-- What an operation does to the accumulator it selects, at the end of its accumulator stage (R22, R48). -/
def accStage (o : BrickOp) (fl : Flight) (a : Acc) (rdef : Nat) : Acc :=
  match o with
  | .wra => { a with value := BitVec.ofNat 56 ((fl.c.toNat % 256) * 2 ^ 48 + fl.b.toNat * 2 ^ 24 + fl.a.toNat), tally := 0 }
  | .divi => { a with value := BitVec.ofNat 56 (absW fl.a * 2 ^ 24) }
  | .divs => { a with value := divStep a.value fl.b }
  | _ =>
    if opIgnoresAccm o then a
    else
      let v : Int := if opIsMul o then prodOf o fl
        else match aluRes o fl rdef with
          | some r => r.r.toInt * 8388608
          | none => 0
      accUpdate a (bwAccm fl.word) (bwGuard fl.word) v

/-! ### Moves (R52 to R57) -/
/-- What a move gives: the word, and what a delivered move does to the flow: V, a raise of BEXP, EXPONENT_LIMIT. -/
structure MoveOut where
  r : W24
  v : Bool := false
  raise : Option Nat := none
  limit : Bool := false
  deriving DecidableEq, Repr

/-- The move of a wide value (R52, R53, R54, R57). -/
def moveOf (w : BitVec 112) (x : Int) (bexp rdef : Nat) (delivered : Bool) : MoveOut :=
  let e := if bwNoexp w then 0 else bexp
  let p := (23 - bwShift w + (e : Int)).toNat
  let mode := modeOf w rdef
  let t := roundShift x p mode
  let auto := delivered && bwAuto w && !bwNoexp w && !fits24 t
  let t' := if auto && decide (e < 15) then roundShift x (p + 1) mode else t
  let r := if fits24 t' then w24 t' else if bwSat w then w24 (clamp24 t') else w24 t'
  { r := r
    v := delivered && !fits24 t' && bwSat w
    raise := if auto && decide (e < 15) then some (e + 1) else none
    limit := auto && decide (15 ≤ e) }

/-- A final move or a folded peek of an accumulator whose tally has overrun (R49): full scale of the tally's sign. TV is
sticky and a load or a final move clears the tally, and R49 gives no value for a tally of 0: a free value (DESIGN CHOICE,
log entry 119). -/
def tvWord (a : Acc) : W24 :=
  if 0 < a.tally.toInt then 0x7FFFFF else if a.tally.toInt < 0 then 0x800000 else Config.freeTv a.value

/-- What the move stage of an operation delivers: what O receives, the result r that Z, N and P describe, the flags
and the flow effects, and the accumulator after the word (R29, R32, R44, R46). -/
structure StageOut where
  o : Option W24 := none
  brick : BrickRec
  raise : Option Nat := none
  limit : Bool := false
  deriving DecidableEq, Repr

/-- The result r of an operation at its move stage, with the saturation it made and its flow effects: a product moves now,
under the flow's exponent and rounding default (R52, R58); any other result was made in the ALU stage (R22). -/
def resultOf (o : BrickOp) (fl : Flight) (r : BrickRec) (bexp rdef : Nat) : Option MoveOut :=
  let a := getAcc r (bwAcc fl.word)
  let third (lo : Nat) : W24 := BitVec.ofNat 24 (wrapN 64 a.folded / 2 ^ lo)
  match o with
  | .mul | .mla | .mls | .sqr | .tap => some (moveOf fl.word (prodOf o fl) bexp rdef (bwDst fl.word = 1))
  | .rdl => some { r := third 0 }
  | .rdm => some { r := third 24 }
  | .rdh => some { r := w24 (sInt 16 (wrapN 64 a.folded / 2 ^ 48)) }
  | .divf =>
    let q := bvf a.value 0 24
    if r.dx then some { r := (if r.ds then 0x800000 else 0x7FFFFF), v := true }
    else some { r := (if r.ds then w24 (-(q : Int)) else BitVec.ofNat 24 q) }
  | _ => (aluRes o fl fl.rd.toNat).map (fun b => { r := b.r, v := b.v })

/-- The move stage of one operation in flight (R22): O, the flags and the flow effects. A word that delivers nothing and
has no result r (NOP, WRA, DIVI, DIVS, whatever its `dst`) leaves O, Z and N as they are; R33 says so of NOP's O alone
(DESIGN CHOICE, log entry 120). -/
def moveStage (fl : Flight) (r : BrickRec) (bexp rdef : Nat) : StageOut :=
  match brickOp (bwOp fl.word) with
  | none => { brick := r }
  | some o =>
    let w := fl.word
    let one := bwAcc w
    let a := getAcc r one
    let dst := bwDst w
    let res := resultOf o fl r bexp rdef
    let fold := dst = 3 || bwFold w
    let accMove : MoveOut :=
      if fold && a.tv then { r := tvWord a, v := true }
      else moveOf w (if fold then a.folded else a.value.toInt) bexp rdef true
    let out : Option MoveOut := if dst = 1 then res else if dst = 2 || dst = 3 then some accMove else none
    let desc : Option W24 := if dst = 0 then res.map (·.r) else out.map (·.r)
    let resV := match res with | some m => m.v | none => false
    let outV := match out with | some m => m.v | none => false
    let p := if !bwPwr w then r.p
      else if o = .cmp then brickCond (bwCond w) fl.a fl.b
      else match res with
        | some m => brickCond (bwCond w) m.r 0
        | none => r.p
    let r1 : BrickRec := if dst = 3 then putAcc r one { a with value := 0, tally := 0 } else r
    let r2 : BrickRec := { r1 with
      z := (match desc with | some x => x = 0 | none => r.z)
      n := (match desc with | some x => decide (x.toInt < 0) | none => r.n)
      p := p
      v := r.v || resV || outV }
    let r3 : BrickRec := if o = .divi then
        { r2 with ds := (decide (fl.a.toInt < 0)) != (decide (fl.b.toInt < 0))
                  dx := fl.b = 0 || decide (absW fl.b ≤ absW fl.a)
                  dz := r.dz || decide (fl.b = 0) }
      else r2
    { o := out.map (·.r), brick := r3
      raise := (match out with | some m => m.raise | none => none)
      limit := (match out with | some m => m.limit | none => false) }

/-- The accumulator stage of one operation in flight (R22, R23). -/
def accumStage (fl : Flight) (r : BrickRec) (rdef : Nat) : BrickRec :=
  match brickOp (bwOp fl.word) with
  | none => r
  | some o => putAcc r (bwAcc fl.word) (accStage o fl (getAcc r (bwAcc fl.word)) rdef)

end Sys2Proof.Machine
end

