-- ==== Sys2Proof/Machine/Cache.lean ====
section
/-!
DEFINITION. Machine/Cache.lean: the pattern cache of a tile (R79 to R92): pins, hits, requests, victims; the register
views it feeds; and the prediction of a flow's next match that victims and pre-stages use (R250).
-/
namespace Sys2Proof.Machine
open Sys2Proof

/-! ### Flow registers that the cache needs -/
def State.fdTarget (s : State) (w f : Nat) : Option W64 := (s.flow w f).armed

/-- Whether a base predicts (R243). -/
def State.basePred (s : State) (w n : Nat) : Bool := s.fl (R.ANG_STATUS w n) F.ANG_STATUS_pred = 1

/-- The angle base of a flow's schedule. -/
def State.schedAng (s : State) (w f : Nat) : Nat := s.fl (R.FD_SCHED w f) F.FD_SCHED_ang

/-- (T - V) mod 2^64 for a flow's armed target. -/
def State.angDist (s : State) (w f : Nat) : Option Nat :=
  match (s.flow w f).armed with
  | none => none
  | some t => some (t - (s.base w (s.schedAng w f)).v).toNat

/-- The predicted number of cycles to a flow's match (R250); none when its base does not predict. -/
def State.predicted (s : State) (w f : Nat) : Option Nat :=
  match s.angDist w f with
  | none => none
  | some d =>
    let n := s.schedAng w f
    let v := (s.base w n).vel.toInt
    if s.basePred w n && decide (0 < v) then some (d * 4194304 / (tickRatio64 (s.clockStep w) * v.toNat)) else none

/-! ### Pins (R86) -/
/-- The slot of valid pin entry e (0 to 3 in PC_PIN_A, 4 in PC_PIN_B). -/
def State.pinEntry (s : State) (w t e : Nat) : Option Nat :=
  let v := (if e < 4 then s.rd (R.PC_PIN_A w t) else s.rd (R.PC_PIN_B w t)).toNat >>> (8 * (e % 4))
  if nbit v 7 then some (v % 128) else none

/-- Whether any valid entry pins a slot. -/
def State.pinned (s : State) (w t : Nat) (slot : BitVec 7) : Bool :=
  [0, 1, 2, 3, 4].any (fun e => s.pinEntry w t e = some slot.toNat)

/-! ### Ways -/
/-- The valid way that holds a slot. -/
def Tile.findWay (x : Tile) (slot : BitVec 7) : Option Nat :=
  firstIdx (fun k => (x.way k).valid && (x.way k).slot = slot) (List.range 8)

/-- Current ways (R79): the way in force and a way that a selection has found, and, in the cycle of the selection, the way
that was in force before it. -/
def Tile.isCurrent (x : Tile) (k : Nat) : Bool := x.curWay = some k || (x.prevWay = some k && decide (x.selAt = x.cyc))

/-- The least recently selected of the valid ways that may be filled (R85). -/
def State.lruWay (s : State) (w t : Nat) (x : Tile) : Option Nat :=
  (List.range 8).foldl (fun (best : Option Nat) k =>
    let y := x.way k
    if y.valid && !x.isCurrent k && !s.pinned w t y.slot && !y.prot then
      match best with
      | none => some k
      | some j => if y.used < (x.way j).used then some k else some j
    else best) none

/-- The way that a refill fills (R85): the lowest invalid way not being filled, else the least recently selected. -/
def State.victimWay (s : State) (w t : Nat) (x : Tile) : Option Nat :=
  match firstIdx (fun k => !(x.way k).valid && !(match x.refill with | some r => r.way = k | none => false)) (List.range 8) with
  | some k => some k
  | none => s.lruWay w t x

/-- The protected way whose pre-stage has the latest predicted match (R87), of those that are not pinned (R86). -/
def State.latestProtected (s : State) (w t : Nat) (x : Tile) : Option Nat :=
  (List.range 8).foldl (fun (best : Option Nat) k =>
    let y := x.way k
    let due (z : Way) : Nat := match z.forFlow with
      | some f => (s.predicted w f).getD 0
      | none => 0
    if y.valid && y.prot && !x.isCurrent k && !s.pinned w t y.slot then
      match best with
      | none => some k
      | some j => if due (x.way j) < due y then some k else some j
    else best) none

/-! ### Requests (R82) -/
def refillRank (k : RefillKind) : Nat :=
  match k with
  | .prestage => 0 | .demand => 1 | .pin => 2 | .hint => 3

def isUrgent (k : RefillKind) : Bool := decide (refillRank k ≤ 1)

/-- A request joins the waiting requests; one waiting for the same slot counts from then on as the more urgent. -/
def enqueueReq (q : List RefillReq) (r : RefillReq) : List RefillReq :=
  if q.any (fun y => y.slot = r.slot) then
    q.map (fun y => if y.slot = r.slot && decide (refillRank r.kind < refillRank y.kind)
      then { r with flow := (match r.flow with | some f => some f | none => y.flow) } else y)
  else q ++ [r]

/-- A refill request arrives at a tile (R82, R208): a pin or hint refill in progress is taken over when it fills the
same slot, and abandoned when an urgent request for another slot arrives; an abandoned pin is requested again. -/
def Tile.request (x : Tile) (r : RefillReq) : Tile :=
  match x.refill with
  | none => { x with waitq := enqueueReq x.waitq r }
  | some p =>
    if p.req.slot = r.slot then
      if refillRank r.kind < refillRank p.req.kind && !(isUrgent p.req.kind) then
        { x with refill := some { p with req := r } }
      else if r.kind = RefillKind.prestage && p.req.flow = none then
        { x with refill := some { p with req := { p.req with flow := r.flow } } }
      else x
    else if isUrgent r.kind && !isUrgent p.req.kind then
      let x1 := { (x.setWay p.way { (x.way p.way) with valid := false }) with refill := none }
      let q := enqueueReq x1.waitq r
      { x1 with waitq := if p.req.kind = RefillKind.pin then enqueueReq q p.req else q }
    else { x with waitq := enqueueReq x.waitq r }

/-- The pattern control word's hint (R68, R83). -/
def patHint (pat : BitVec 3072) : Option (BitVec 7) :=
  if bvf pat (2944 + 64) 1 = 1 then some (BitVec.ofNat 7 (bvf pat (2944 + 65) 7)) else none

/-- R83: a hint is requested only when its slot is not cached, the refill path is idle and nothing waits. -/
def Tile.hintRequest (x : Tile) (pat : BitVec 3072) : Tile :=
  match patHint pat with
  | none => x
  | some h =>
    if (x.findWay h).isNone && x.refill.isNone && x.waitq.isEmpty then x.request { kind := .hint, slot := h } else x

/-- Pinned slots that are not cached are requested (R86). -/
def State.requestPins (s : State) (w t : Nat) : State :=
  [0, 1, 2, 3, 4].foldl (fun (a : State) e =>
    match a.pinEntry w t e with
    | none => a
    | some n =>
      let x := a.tile w t
      if (x.findWay (BitVec.ofNat 7 n)).isSome then a
      else a.setTile w t (x.request { kind := .pin, slot := BitVec.ofNat 7 n })) s

/-- The current bank's context names a slot. -/
def Tile.markSlot (x : Tile) (slot : BitVec 7) : Tile :=
  match x.cur with
  | some b => x.setBank b { (x.bank b) with slot := slot }
  | none => x

/-- The stall of a pattern miss ends. -/
def Tile.unstall (x : Tile) : Tile := { x with stall := if x.stall = Stall.pattern then Stall.none else x.stall }

/-- Way k is selected (R79): it is in force from the next cycle, the way in force until then stays current in this one, its
protection ends (R85), and its hint is requested (R83). -/
def Tile.selectWay (x : Tile) (k : Nat) : Tile :=
  let y := x.way k
  ({ (x.setWay k { y with prot := false, forFlow := none, used := x.useCtr + 1 }).unstall with
      curWay := some k, prevWay := x.curWay, selAt := x.cyc, useCtr := x.useCtr + 1 } : Tile).hintRequest y.pat

/-- A selection of a library slot by the sequencer (R79, R80, R92, R145): a stale current way is invalidated; a cached
slot takes effect at the next issue edge; a slot not cached stalls the tile, the way in force staying current, and is
requested as a demand. -/
def State.selectSlot (s : State) (w t : Nat) (slot : BitVec 7) : State :=
  let x0 := s.tile w t
  let cur := match x0.curWay with | some k => some (x0.way k) | none => none
  let same := match cur with | some y => y.valid && !y.stale && y.slot = slot | none => false
  if same && decide (x0.stall ≠ Stall.pattern) then s.setTile w t (x0.markSlot slot)
  else
    let old := match cur with | some y => y.stale | none => false
    let x1 : Tile := match x0.curWay with
      | some k => if (x0.way k).stale then { (x0.setWay k { (x0.way k) with valid := false, stale := false }) with curWay := none } else x0
      | none => x0
    let s1 := match x1.findWay slot with
      | some k => s.setTile w t ((x1.selectWay k).markSlot slot)
      | none =>
        (s.setTile w t (({ x1 with stall := Stall.pattern, prevWay := none, selAt := x0.cyc } : Tile).markSlot slot |>.request { kind := .demand, slot := slot })).bump
          (R.PC_MISS_COUNT w t)
    if old then s1.requestPins w t else s1

/-- A library slot has been written (R92): ways that hold it become stale, and one not current is invalidated. -/
def Tile.slotWritten (x : Tile) (slot : BitVec 7) : Tile :=
  (List.range 8).foldl (fun (x : Tile) k =>
    let y := x.way k
    if y.valid && y.slot = slot then
      if x.isCurrent k then x.setWay k { y with stale := true }
      else x.setWay k { y with valid := false, stale := false, prot := false, forFlow := none }
    else x) x

/-- The tile that owns a written library slot follows R92, and requests the slot again when it is pinned (R86). -/
def State.slotWritten (s : State) (w t : Nat) (slot : BitVec 7) : State :=
  (s.setTile w t ((s.tile w t).slotWritten slot)).requestPins w t

/-! ### The pattern library (R91) -/
/-- Byte offset of library slot `n` of tile `i` from the base of bank 0. -/
def libOffset (i n : Nat) : Nat := (i * 128 + n) * 512

end Sys2Proof.Machine
end

