-- ==== Sys2Proof/Machine/Pattern.lean ====
section
/-!
DEFINITION. Machine/Pattern.lean: one cycle of a tile under its current pattern (R60 to R78, R96 to R102): mortar,
ports of the tile memories, the course spine, result taps, and the bricks' pipeline.
-/
namespace Sys2Proof.Machine
open Sys2Proof

/-! ### Fields of a pattern (R65 to R69) -/
def patWord (p : BitVec 3072) (b : Nat) : BitVec 112 := BitVec.ofNat 112 (bvf p (112 * b) 112)
def mortar (p : BitVec 3072) (i n : Nat) : Nat := bvf p (1792 + i) n
def control (p : BitVec 3072) (i n : Nat) : Nat := bvf p (2944 + i) n
def laneSel (p : BitVec 3072) (b l : Nat) : Nat := mortar p (48 * b + 6 * l) 6
def spineSrc (p : BitVec 3072) (j : Nat) : Nat := mortar p (768 + 7 * j) 6
def spineEn (p : BitVec 3072) (j : Nat) : Bool := mortar p (768 + 7 * j + 6) 1 = 1
def portAddrSrc (p : BitVec 3072) (q : Nat) : Nat := mortar p (880 + 19 * q) 7
def portDataSrc (p : BitVec 3072) (q : Nat) : Nat := mortar p (880 + 19 * q + 7) 6
def portHighSrc (p : BitVec 3072) (q : Nat) : Nat := mortar p (880 + 19 * q + 13) 6
def chainSel (p : BitVec 3072) : Nat := mortar p 1032 6
def tapSel (p : BitVec 3072) (k : Nat) : Nat := mortar p (1038 + 6 * k) 6
def portOwner (p : BitVec 3072) (q : Nat) : Nat := control p (8 * q) 2
def portBrick (p : BitVec 3072) (q : Nat) : Nat := control p (8 * q + 2) 4
def portWe (p : BitVec 3072) (q : Nat) : Bool := control p (8 * q + 6) 1 = 1
def portWq (p : BitVec 3072) (q : Nat) : Bool := control p (8 * q + 7) 1 = 1
def brickOn (p : BitVec 3072) (b : Nat) : Bool := control p (72 + b) 1 = 1
def patTag (p : BitVec 3072) : Nat := control p 88 8

/-- The role of a port under a pattern (R69, R70): 1 mortar-owned, 2 lookup-owned, 0 idle; owner 0b11 and a reserved
address source make a port idle. -/
def portRole (p : BitVec 3072) (q : Nat) : Nat :=
  if portOwner p q = 3 || decide (0x48 ≤ portAddrSrc p q) then 0 else portOwner p q
def portMortar (p : BitVec 3072) (q : Nat) : Bool := portRole p q = 1
/-- The port is a lookup port of brick b. -/
def portLookup (p : BitVec 3072) (q b : Nat) : Bool := portRole p q = 2 && portBrick p q = b

/-! ### Tile memories (R96) -/
def State.aspect (s : State) (w t m : Nat) : Nat := nbits (s.rd (R.TMEM_CFG w t)).toNat (8 * m) 2
def aspectDepth (a : Nat) : Nat := if a = 0 then 1024 else if a = 1 then 2048 else if a = 2 then 4096 else 512
/-- Six-bit units in a word of an aspect. -/
def aspectUnits (a : Nat) : Nat := if a = 0 then 4 else if a = 1 then 2 else if a = 2 then 1 else 8

/-- The read-during-write mode of port q (R115); 0b11 acts as 0b00 (R445). -/
def State.rdwMode (s : State) (w t q : Nat) : Nat :=
  let v := nbits (s.rd (R.TMEM_CFG w t)).toNat (8 * (q / 2) + 2 + 2 * (q % 2)) 2
  if v = 3 then 0 else v
def State.collPolicy (s : State) (w t m : Nat) : Nat :=
  let v := nbits (s.rd (R.TMEM_CFG w t)).toNat (8 * m + 6) 2
  if v = 3 then 0 else v

/-- The bits of a word of a tile memory, as a number (R447: bit i of word a is memory bit aW + i). -/
def tmemRaw (mem : Sp (BitVec 6)) (m a units : Nat) : Nat → Nat
  | 0 => 0
  | k + 1 => (Sp.getD mem (m * 4096 + a * units + k) 0).toNat * 64 ^ k + tmemRaw mem m a units k

/-- A word as its port returns it: narrow words in the top bits of 24 (R97), 48-bit words whole. -/
def tmemRead (mem : Sp (BitVec 6)) (asp m a : Nat) : W48 :=
  let u := aspectUnits asp
  let v := tmemRaw mem m a u u
  BitVec.ofNat 48 (if u = 2 then v * 4096 else if u = 1 then v * 262144 else v)

def tmemPutUnits (mem : Sp (BitVec 6)) (base v : Nat) : Nat → Sp (BitVec 6)
  | 0 => mem
  | k + 1 => Sp.set (tmemPutUnits mem base v k) (base + k) (BitVec.ofNat 6 (v / 64 ^ k)) 0

/-- A write of a word given as its port takes it: narrow words from the top bits of 24 (R97). -/
def tmemWrite (mem : Sp (BitVec 6)) (asp m a : Nat) (d : W48) : Sp (BitVec 6) :=
  let u := aspectUnits asp
  let x := d.toNat
  let v := if u = 4 then x % 16777216 else if u = 2 then (x % 16777216) / 4096 else if u = 1 then (x % 16777216) / 262144 else x
  tmemPutUnits mem (m * 4096 + a * u) v u

/-! ### The course spine (R72 to R78) -/
/-- Whether one drive decides a track's value over another: the later cycle, and in one cycle the west tile (R76). -/
def Drive.over (d e : Drive) : Bool := decide (e.cyc < d.cyc) || (e.cyc = d.cyc && decide (d.side ≤ e.side))

/-- The drive that decides what a track holds at cycle n (R72): of the drives of earlier cycles. -/
def Track.lastDrive (r : Track) (n : Nat) : Option Drive :=
  r.drives.foldl (fun best d => if d.cyc < n then (match best with
    | none => some d
    | some e => if d.over e then some d else some e) else best) none

/-- What a track holds at cycle n (R72). -/
def Track.at_ (r : Track) (n : Nat) : W24 := match r.lastDrive n with | some d => d.v | none => 0

/-- The mode of the track k east of tile t: 0 arbitrated, 1 static west, 2 static east, 3 off (R73). -/
def State.spineMode (s : State) (w t k : Nat) : Nat := nbits (s.rd (R.SPINE_CFG w t)).toNat (2 * k) 2

/-- Source 0x30 to 0x3F: a track as a tile reads it; a missing segment and an off track read 0 (R61, R73). -/
def State.trackRead (s : State) (w t n : Nat) (east : Bool) (k : Nat) : W24 :=
  if east then
    if t % 8 = 7 || s.spineMode w t k = 3 then 0 else (Sp.getD (s.tile w t).east k {}).at_ n
  else if t % 8 = 0 || s.spineMode w (t - 1) k = 3 then 0 else (Sp.getD (s.tile w (t - 1)).east k {}).at_ n

/-- The value of a tile source in cycle n (R61, R62). -/
def State.source (s : State) (w t : Nat) (x : Tile) (n c : Nat) : W24 :=
  if c < 0x10 then Sp.getD x.o c 0
  else if c < 0x20 then Sp.getD x.s (c - 0x10) 0
  else if c < 0x28 then BitVec.ofNat 24 (Sp.getD x.latch (c - 0x20) 0).toNat
  else if c < 0x30 then
    (if s.aspect w t ((c - 0x28) / 2) = 3 then BitVec.ofNat 24 ((Sp.getD x.latch (c - 0x28) 0).toNat / 16777216) else 0)
  else if c < 0x38 then s.trackRead w t n false (c - 0x30)
  else s.trackRead w t n true (c - 0x38)

/-- A drive joins a track; drives before cycle `lo`, which no tile reads any more, are forgotten but for the one in force. -/
def Track.drive (r : Track) (lo : Nat) (d : Drive) : Track :=
  { drives := r.drives.filter (fun e => decide (lo ≤ e.cyc) || decide (r.lastDrive lo = some e)) ++ [d] }

/-- The drive of the same cycle by the other side, if there is one (R76). -/
def Track.rival (r : Track) (d : Drive) : Option Drive := r.drives.find? (fun e => e.cyc = d.cyc && e.side ≠ d.side)

/-- The slot of the pattern in force on a tile. -/
def Tile.slotNow (x : Tile) : Nat := match x.curWay with | some y => (x.way y).slot.toNat | none => 0

/-- Both tiles of the segment east of tile t drove tracks in one cycle (R77): the tracks with the slots of the winning and
the losing pattern, in ascending track. -/
def State.spineConflict (s : State) (w t : Nat) (ks : List (Nat × Nat × Nat)) : State :=
  match ks with
  | [] => s
  | (k, win, lose) :: _ =>
    let s1 := s.bump (R.SPINE_COUNT w t)
    if s1.fl (R.SPINE_STATUS w t) F.SPINE_STATUS_conflict = 1 then s1
    else
      (s1.wr (R.SPINE_STATUS w t) (BitVec.ofNat 32 (1 + k * 2 + win * 16 + lose * 2048))).raiseWall w 5 0
        [0, t, k, win + lose * 256]

/-- The first cycle that a tile may still read tracks in. -/
def State.tileFront (s : State) (w t : Nat) : Nat := max ((s.tile w t).cyc) ((s.wall w).cycle - 4)

/-- The pattern drives of tile t on one side in cycle n: west tracks (side 2 of segment t - 1) or east tracks. -/
def State.driveSide (s : State) (w t n : Nat) (x : Tile) (pat : BitVec 3072) (east : Bool) : State :=
  if (if east then t % 8 = 7 else t % 8 = 0) then s
  else
    let seg := if east then t else t - 1
    let lo := min (s.tileFront w seg) (s.tileFront w (seg + 1))
    let step := fun (acc : State × List (Nat × Nat × Nat)) (k : Nat) =>
      let j := if east then 8 + k else k
      if spineEn pat j && acc.1.spineMode w seg k = 0 then
        let y := acc.1.tile w seg
        let r := Sp.getD y.east k {}
        let d : Drive := { cyc := n, side := if east then 1 else 2, v := s.source w t x n (spineSrc pat j), slot := x.slotNow }
        (acc.1.setTile w seg { y with east := Sp.put y.east k (r.drive lo d) },
          match r.rival d with
          | some e => acc.2 ++ [(k, if east then (d.slot, e.slot) else (e.slot, d.slot))]
          | none => acc.2)
      else acc
    let r := (List.range 8).foldl step (s, [])
    r.1.spineConflict w seg r.2

/-- Entry j (0 to 7 west, 8 to 15 east) of a tile's static drives, from its foundation frame (R445). -/
def State.staticEntry (s : State) (w t j : Nat) : Nat :=
  nbits (Sp.getD s.found (((w * 128 + t) * 4) * 96 + j / 4) 0).toNat (8 * (j % 4)) 8

/-- Static drives act in every cycle, whatever the pattern (R73). -/
def State.driveStatic (s : State) (w t n : Nat) (x : Tile) : State :=
  (List.range 16).foldl (fun (acc : State) j =>
    let east := decide (8 ≤ j)
    let k := j % 8
    if (if east then t % 8 = 7 else t % 8 = 0) then acc
    else
      let seg := if east then t else t - 1
      if acc.spineMode w seg k = (if east then 1 else 2) then
        let y := acc.tile w seg
        let d : Drive := { cyc := n, side := if east then 1 else 2, v := s.source w t x n (acc.staticEntry w t j % 64) }
        let lo := min (acc.tileFront w seg) (acc.tileFront w (seg + 1))
        acc.setTile w seg { y with east := Sp.put y.east k ((Sp.getD y.east k {}).drive lo d) }
      else acc) s

/-! ### Ports (R97 to R101) -/
/-- What a mortar-owned port does in a cycle. -/
structure PortAcc where
  q : Nat
  m : Nat
  addr : Nat
  we : Bool
  data : W48
  deriving DecidableEq, Repr

/-- The access of port q, or none when it is idle or lookup-owned (R67, R69, R97). -/
def State.portAcc (s : State) (w t : Nat) (x : Tile) (c : Ctx) (n : Nat) (pat : BitVec 3072) (q : Nat) : Option PortAcc :=
  if portMortar pat q then
    let m := q / 2
    let asp := s.aspect w t m
    let src := portAddrSrc pat q
    let a := if src < 0x40 then (s.source w t x n src).toNat % 4096 else (Sp.getD c.p (src - 0x40) 0).toNat
    let lo := (s.source w t x n (portDataSrc pat q)).toNat
    let hi := (s.source w t x n (portHighSrc pat q)).toNat
    some { q := q, m := m, addr := a % aspectDepth asp
           we := portWe pat q && (!portWq pat q || c.tp)
           data := BitVec.ofNat 48 (if asp = 3 then hi * 16777216 + lo else lo) }
  else none

/-- The bits of port data that reach the word in an aspect. -/
def dataBits (asp : Nat) (d : W48) : Nat :=
  if asp = 0 then d.toNat % 16777216 else if asp = 1 then (d.toNat % 16777216) / 4096
  else if asp = 2 then (d.toNat % 16777216) / 262144 else d.toNat

/-- The outcome of the writes of one memory in a cycle (R101): the contents, and whether the ports collided. -/
def writeBoth (asp m pol : Nat) (mem : Sp (BitVec 6)) (a b : Option PortAcc) : Sp (BitVec 6) × Bool :=
  match a, b with
  | some p, some r =>
    if p.addr = r.addr && dataBits asp p.data ≠ dataBits asp r.data then
      if pol = 0 then (tmemWrite mem asp m p.addr p.data, true)
      else if pol = 1 then (tmemWrite mem asp m r.addr r.data, true)
      else (mem, true)
    else (tmemWrite (tmemWrite mem asp m p.addr p.data) asp m r.addr r.data, false)
  | some p, none => (tmemWrite mem asp m p.addr p.data, false)
  | none, some r => (tmemWrite mem asp m r.addr r.data, false)
  | none, none => (mem, false)

/-- R101, R102: a collision is counted; under the neither policy it is recorded and reported. -/
def State.collided (s : State) (w t m addr : Nat) : State :=
  let s1 := s.bump (R.TMEM_COLL_COUNT w t)
  if s.collPolicy w t m = 2 then s1.stickyWall (R.TMEM_COLL w t) ⟨m, 1⟩ w 6 0 [0, t, m, addr] else s1

/-- The ports of memory m in one cycle: contents, latches, and any collision. -/
def State.memCycle (s : State) (w t m : Nat) (x : Tile) (c : Ctx) (n : Nat) (pat : BitVec 3072) : State :=
  let asp := s.aspect w t m
  let pa := s.portAcc w t x c n pat (2 * m)
  let pb := s.portAcc w t x c n pat (2 * m + 1)
  let live := (s.wall w).tmemWe
  let wr (p : Option PortAcc) : Option PortAcc := match p with
    | some y => if y.we && live then p else none
    | none => none
  let y0 := s.tile w t
  let r := writeBoth asp m (s.collPolicy w t m) y0.tmem (wr pa) (wr pb)
  let latchOf (y : Tile) (p : Option PortAcc) : Tile := match p with
    | none => y
    | some a =>
      let mode := s.rdwMode w t a.q
      if a.we && mode = 2 then y
      else { y with latch := Sp.put y.latch a.q (tmemRead (if a.we && mode = 1 then r.1 else y0.tmem) asp m a.addr) }
  let aw : List (Nat × Nat × W48 × W48) := match wr pa with
    | some a => [(m, a.addr, a.data, tmemRead y0.tmem asp m a.addr)]
    | none => []
  let y1 := latchOf (latchOf { y0 with tmem := r.1, aWrites := y0.aWrites ++ aw } pa) pb
  let s1 := s.setTile w t y1
  if r.2 then s1.collided w t m (match pa with | some a => a.addr | none => 0) else s1

/-! ### Bricks: operands and issue -/
/-- Whether a lookup finds the ports and the aspect it needs (R59, R70). -/
def State.lookupOk (s : State) (w t b : Nat) (pat : BitVec 3072) (word : BitVec 112) : Bool :=
  let m := bwTm word
  let own (q : Nat) : Bool := portLookup pat q b
  match brickOp (bwOp word) with
  | some .lut => own (2 * m) || own (2 * m + 1)
  | some .luti => own (2 * m) && own (2 * m + 1) && decide (s.aspect w t m ≤ 1)
  | _ => true

/-- A lookup's word, left-aligned in 48 bits so that its top 24 bits are r (R40). -/
def lookupWord (mem : Sp (BitVec 6)) (asp m a : Nat) : W48 :=
  let v := (tmemRead mem asp m (a % aspectDepth asp)).toNat
  BitVec.ofNat 48 (if asp = 3 then v else v * 16777216)

/-- An operand of brick b (R28). A reserved code reads a free value. -/
def State.operand (s : State) (w t : Nat) (x : Tile) (c : Ctx) (n : Nat) (pat : BitVec 3072) (b code : Nat) (word : BitVec 112)
    (k : Nat) : W24 :=
  if code < 8 then s.source w t x n (laneSel pat b code)
  else match code with
    | 0x08 => c.busA
    | 0x09 => c.busB
    | 0x0A => c.busC
    | 0x0B => Sp.getD x.o b 0
    | 0x0C => bwImm word
    | 0x0D => 0
    | 0x0E => if b = 0 then s.source w t x n (chainSel pat) else Sp.getD x.s (b - 1) 0
    | _ => Config.freeSource (s.fresh * 48 + b * 3 + k)

/-- What brick b issues under a pattern: the operation in flight, whether it takes effect, and whether its word is
illegal. The word after the last of a memory, which LUTI reads as y1, is word 0 (DESIGN CHOICE, log entry 122). -/
def State.issueBrick (s : State) (w t : Nat) (x : Tile) (bk : Bank) (n : Nat) (pat : BitVec 3072) (slot : BitVec 7) (b : Nat) :
    Flight × Bool × Bool :=
  let c := x.bank bk
  let word := patWord pat b
  let m := bwTm word
  let asp := s.aspect w t m
  let opnd (code k : Nat) : W24 := s.operand w t x c n pat b code word k
  let av := opnd (bwSrcA word) 0
  let r := c.brick b
  let ad := lutAddr word av
  let fl : Flight := { word := word, a := av, b := opnd (bwSrcB word) 1, c := opnd (bwSrcC word) 2, bank := bk, slot := slot,
                       p := r.p, y0 := lookupWord x.tmem asp m ad, y1 := lookupWord x.tmem asp m (ad + 1) }
  let ill := wordIllegal word (s.lookupOk w t b pat word)
  (fl, !ill && predHolds word r c.tp, ill)

/-! ### The pipeline (R21 to R23) -/
/-- A change of the flow-wide fields takes effect on one copy (R54 to R57, R121), whatever order the changes of neighbouring
cycles reach it in: of two sequencer writes the later one counts, and of one cycle the lower-numbered tile's; a raise or
EXPONENT_LIMIT of a write's cycle or before it is discarded (R56), and one after it is kept. -/
def Ctx.applyFsw (c : Ctx) (m : FswMsg) : Ctx :=
  let put (c : Ctx) (m : FswMsg) : Ctx := match m.chg with
    | .write b r l => { c with bexp := b, rdef := r, explim := l }
    | .raise k => { c with bexp := BitVec.ofNat 4 (max c.bexp.toNat k) }
    | .limit => { c with explim := true }
  match m.chg with
  | .write _ _ _ =>
    if (match c.fswBy with | some (o, t) => decide (m.org < o) || (m.org = o && decide (t ≤ m.tile)) | none => false) then c
    else (c.fswRec.filter (fun e => decide (m.org < e.org))).foldl put { (put c m) with fswBy := some (m.org, m.tile) }
  | _ =>
    if (match c.fswBy with | some (o, _) => decide (m.org ≤ o) | none => false) then c
    else { (put c m) with fswRec := c.fswRec ++ [m] }

/-- Changes made in other tiles take effect one cycle later than there (R55, R121); old ones need not be kept. -/
def Ctx.takeFsw (c : Ctx) (n : Nat) : Ctx :=
  let c1 := (c.fswIn.filter (fun m => decide (m.org + 2 ≤ n))).foldl (fun (a : Ctx) m => a.applyFsw m) c
  { c1 with fswIn := c.fswIn.filter (fun m => decide (n < m.org + 2))
            fswRec := c1.fswRec.filter (fun m => decide (n < m.org + 4)) }

def Tile.takeFsw (x : Tile) (n : Nat) : Tile := { x with c0 := x.c0.takeFsw n, c1 := x.c1.takeFsw n, cf := x.cf.takeFsw n }

/-- Changes that moves of cycle n made take effect on the tile's own copies. -/
def Tile.ownFsw (x : Tile) (t n : Nat) (l : List (Bank × FswChange)) : Tile :=
  l.foldl (fun (y : Tile) e => y.setBank e.1 ((y.bank e.1).applyFsw { org := n, tile := t, chg := e.2 })) x

/-- The move stage of one operation on its bank's context, under the exponent that `x0` holds: the tile, what O receives,
and the changes of the flow-wide fields. -/
def Tile.moveFlight (y x0 : Tile) (e : Nat × Flight) : Tile × Option W24 × List (Bank × FswChange) :=
  let b := e.2.bank
  let c := y.bank b
  let c0 := x0.bank b
  let o := moveStage e.2 (c.brick e.1) c0.bexp.toNat c0.rdef.toNat
  (y.setBank b (c.setBrick e.1 o.brick), o.o,
    (match o.raise with | some k => [(b, .raise k)] | none => []) ++ (if o.limit then [(b, .limit)] else []))

/-- The accumulator stage of one operation on its bank's context. -/
def Tile.accFlight (y : Tile) (e : Nat × Flight) : Tile :=
  let c := y.bank e.2.bank
  y.setBank e.2.bank (c.setBrick e.1 (accumStage e.2 (c.brick e.1) c.rdef.toNat))

/-- The operation as it leaves its ALU stage: with the rounding default that the stage took (R22, R58). -/
def Tile.aluTaken (y : Tile) (e : Nat × Flight) : Nat × Flight := (e.1, { e.2 with rd := (y.bank e.2.bank).rdef })

/-- The move stages of cycle n, then the accumulator stages (a move sees no later update, R23). Changes of the flow-wide
fields take effect at the end of the stage (R54, R55). Returned: the tile and those changes. -/
def Tile.pipeEnd (x : Tile) (t n : Nat) : Tile × List (Bank × FswChange) :=
  let mv := x.p2.foldl (fun (acc : Tile × List (Bank × FswChange)) (e : Nat × Flight) =>
    let r : Tile × Option W24 × List (Bank × FswChange) := match e.2.fin with
      | some o => (acc.1, o, [])
      | none => acc.1.moveFlight x e
    (match r.2.1 with | some v => { r.1 with o := Sp.set r.1.o e.1 v 0 } | none => r.1, acc.2 ++ r.2.2)) (x, [])
  let y := mv.1.ownFsw t n mv.2
  let ac := y.p1.foldl (fun (z : Tile) (e : Nat × Flight) => if e.2.fin.isSome then z else z.accFlight e) y
  ({ ac with p2 := y.p1.map y.aluTaken, p1 := [] }, mv.2)

/-- One further stage of the operations of bank b in a list, whose results O has still to show. -/
def Tile.finish (x : Tile) (b : Bank) (l : List (Nat × Flight)) : Tile × List (Nat × Flight) × List (Bank × FswChange) :=
  l.foldl (fun (acc : Tile × List (Nat × Flight) × List (Bank × FswChange)) (e : Nat × Flight) =>
    if e.2.bank = b && e.2.fin.isNone then
      let r := acc.1.moveFlight x e
      (r.1, acc.2.1 ++ [(e.1, { e.2 with fin := some r.2.1 })], acc.2.2 ++ r.2.2)
    else (acc.1, acc.2.1 ++ [e], acc.2.2)) (x, [], [])

/-- The operations that bank b has in flight complete as far as its context goes (R21, R58): accumulators, flags and
flow-wide fields take now what the next two cycles bring; O shows the results in their own cycles. Returned: the tile and
the changes of the flow-wide fields with their cycles. -/
def Tile.drainBank (x : Tile) (t : Nat) (b : Bank) : Tile × List FswMsg :=
  let r := x.finish b x.p2
  let y := ({ r.1 with p2 := r.2.1 } : Tile).ownFsw t (x.cyc + 1) r.2.2
  let live := y.p1.filter (fun e => e.2.bank = b && e.2.fin.isNone)
  let z := live.foldl (fun (a : Tile) e => a.accFlight e) y
  let r2 := z.finish b (z.p1.map (fun e => if e.2.bank = b then z.aluTaken e else e))
  (({ r2.1 with p1 := r2.2.1 } : Tile).ownFsw t (x.cyc + 2) r2.2.2,
    r.2.2.map (fun e => { org := x.cyc + 1, tile := t, chg := e.2 }) ++ r2.2.2.map (fun e => { org := x.cyc + 2, tile := t, chg := e.2 }))

/-- S after a brick's issue (R22, R30, R36): A for a tap or `shiftout`, else the secondary output; a squashed word
drives S only with A. -/
def sAfter (fl : Flight) (live : Bool) (acc : Acc) (old : W24) : W24 :=
  match brickOp (bwOp fl.word) with
  | none => if bwShiftout fl.word then fl.a else old
  | some o =>
    if bwShiftout fl.word || o = .tap || o = .taps then fl.a
    else if live then (secondary o fl acc).getD old else old

/-- The tiles of a flow's set (R186): wall-local tile indices. -/
def State.tileSet (s : State) (w f : Nat) : List Nat :=
  let b := s.rd (R.FD_BIND w f)
  ((List.range 8).filter (fun t => nbit (fld b F.FD_BIND_tiles) t)).map (fun t => fld b F.FD_BIND_course * 8 + t)

/-- The bank of a tile that holds a flow. -/
def Tile.bankOf (x : Tile) (f : Nat) : Option Bank :=
  if x.c0.flow = some f then some .b0 else if x.c1.flow = some f then some .b1
  else if x.cf.flow = some f then some .fast else none

/-- A change of the flow-wide fields is on its way to the other tiles of the flow's set (R55, R121). -/
def State.tellFsw (s : State) (w t f : Nat) (m : FswMsg) : State :=
  (s.tileSet w f).foldl (fun (acc : State) i =>
    if i = t then acc
    else
      let y := acc.tile w i
      match y.bankOf f with
      | some b => acc.setTile w i (y.setBank b { (y.bank b) with fswIn := (y.bank b).fswIn ++ [m] })
      | none => acc) s

/-- The changes that the moves of cycle n made reach the other tiles of their flows. -/
def State.spread (s : State) (w t n : Nat) (l : List (Bank × FswChange)) : State :=
  l.foldl (fun (a : State) e => match ((a.tile w t).bank e.1).flow with
    | some f => a.tellFsw w t f { org := n, tile := t, chg := e.2 }
    | none => a) s

/-- The operations that a bank of a tile has in flight complete, for every tile of its flow's set (R21, R55, R58). -/
def State.drainBank (s : State) (w t : Nat) (b : Bank) : State :=
  let r := (s.tile w t).drainBank t b
  let s1 := s.setTile w t r.1
  match ((s.tile w t).bank b).flow with
  | some f => r.2.foldl (fun (a : State) m => a.tellFsw w t f m) s1
  | none => s1

/-- Whether a bank of a tile has a flow that runs on the tile, or a window handler (R137, R181). -/
def State.bankRuns (s : State) (w : Nat) (x : Tile) (b : Bank) : Bool :=
  (x.bank b).mark = .none &&
  ((b = .fast && x.handlerOf.isSome) ||
   match (x.bank b).flow with
   | some f => s.fl (R.FD_CTRL w f) F.FD_CTRL_state = 4
   | none => false)

/-- Whether a hod operation that stalls the tile waits or runs for a bank (R118). -/
def Tile.hodWaits (x : Tile) (b : Bank) : Bool :=
  decide ((x.bank b).pend ≠ .none) ||
  (x.chanq ++ x.chan.toList).any (fun o => o.bank = b &&
    (o.kind = .savel || o.kind = .saveu || o.kind = .loadl || o.kind = .loadu))

/-- Whether bricks issue in cycle n (R80, R116, R118): the tile has a current bank that runs, a pattern, and no stall. -/
def State.issues (s : State) (w : Nat) (x : Tile) (n : Nat) : Bool :=
  x.stall = .none && x.curWay.isSome && !(s.wall w).gsr &&
  (match x.cur with | some b => decide ((x.bank b).resumeAt ≤ n) && s.bankRuns w x b && !x.hodWaits b | none => false)

/-- Whether the current bank belongs to a RUNNING flow, or to a window handler. -/
def State.seqLive (s : State) (w : Nat) (x : Tile) (b : Bank) : Bool :=
  match (x.bank b).flow with
  | some f => decide (s.fl (R.FD_CTRL w f) F.FD_CTRL_state = 4)
  | none => x.handlerOf.isSome

/-- Whether the current bank is held in cycle n by a hod operation, a SYNC or the cycles after one (R118). -/
def State.seqStalled (s : State) (w : Nat) (x : Tile) (n : Nat) : Bool :=
  match x.cur with
  | none => false
  | some b => decide (x.stall ≠ .pattern) && s.seqLive w x b &&
      (x.hodWaits b || decide ((x.bank b).mark = .sync) || decide (n < (x.bank b).resumeAt))

/-- The cycles between a tile's last one and cycle n that such a wait has stalled (R180). -/
def State.gapStalls (s : State) (w : Nat) (x : Tile) (n : Nat) : Nat :=
  match x.cur with
  | none => 0
  | some b =>
    if x.stall = .pattern || !s.seqLive w x b then 0
    else if x.hodWaits b || decide ((x.bank b).mark = .sync) then n - (x.cyc + 1)
    else min n (x.bank b).resumeAt - (x.cyc + 1)

/-- The flow on whose behalf a bank issues: its own, or the flow whose spill or fill entered the window handler. -/
def Tile.owner (x : Tile) (b : Bank) : Option Nat :=
  if b = .fast && x.handlerOf.isSome then x.handlerOf else (x.bank b).flow

/-- R59: the first illegal word of a flow's run raises BRICK_ILLEGAL once. -/
def State.illegalSeen (s : State) (w t : Nat) (fl : Option Nat) (b : Nat) (slot : BitVec 7) : State :=
  match fl with
  | none => s
  | some f =>
    if (s.flow w f).illSeen then s
    else (s.setFlow w f { (s.flow w f) with illSeen := true }).raiseWall w 1 0 [flowNo w f, t, b + slot.toNat * 256]

/-- The ports that a brick's lookup reads (R98): port A before port B for LUT, both for LUTI. -/
def lookupPorts (pat : BitVec 3072) (b : Nat) (word : BitVec 112) : List Nat :=
  let m := bwTm word
  let own := [2 * m, 2 * m + 1].filter (fun q => portLookup pat q b)
  match brickOp (bwOp word) with
  | some .lut => own.take 1
  | some .luti => own
  | _ => []

/-- The output latches of the ports that a lookup has read (R98). -/
def State.lookupRead (s : State) (w t : Nat) (x : Tile) (pat : BitVec 3072) (b : Nat) (fl : Flight) : State :=
  let m := bwTm fl.word
  let asp := s.aspect w t m
  let ad := lutAddr fl.word fl.a
  let y := s.tile w t
  let put (l : Sp W48) (q i : Nat) : Sp W48 := Sp.put l q (tmemRead x.tmem asp m ((ad + i) % aspectDepth asp))
  match lookupPorts pat b fl.word with
  | [] => s
  | [q] => s.setTile w t { y with latch := put y.latch q 0 }
  | q :: r :: _ => s.setTile w t { y with latch := put (put y.latch q 0) r 1 }

/-- The memories whose port B the pattern uses in a cycle in which these operations issue (R67, R98, R103). -/
def portBsOf (pat : BitVec 3072) (iss : List (Nat × Flight × Bool × Bool)) : List Nat :=
  (List.range 4).filter (fun m => portMortar pat (2 * m + 1) ||
    iss.any (fun e => e.2.2.1 && (lookupPorts pat e.1 e.2.1.word).contains (2 * m + 1)))

/-- The issue part of a cycle (R71): bricks, ports, spine and taps of the current pattern, all from the values that
sources hold in cycle n. -/
def State.issueCycle (s : State) (w t n : Nat) (bk : Bank) (way : Nat) : State :=
  let x := s.tile w t
  let y := x.way way
  let pat := y.pat
  let c := x.bank bk
  let on := (List.range 16).filter (fun b => brickOn pat b)
  let iss := on.map (fun b => (b, s.issueBrick w t x bk n pat y.slot b))
  let s1 := (List.range 4).foldl (fun (a : State) m => a.memCycle w t m x c n pat)
    (s.setTile w t { x with aWrites := [], portBs := portBsOf pat iss })
  let s1 := iss.foldl (fun (a : State) e => if e.2.2.1 then a.lookupRead w t x pat e.1 e.2.1 else a) s1
  let s2 := (s1.driveSide w t n x pat true).driveSide w t n x pat false
  let pe := (s2.tile w t).pipeEnd t n
  let z1 := iss.foldl (fun (a : Tile) (e : Nat × Flight × Bool × Bool) =>
    let acc := getAcc ((a.bank bk).brick e.1) (bwAcc e.2.1.word)
    { a with s := Sp.set a.s e.1 (sAfter e.2.1 e.2.2.1 acc (Sp.getD a.s e.1 0)) 0
             p1 := if e.2.2.1 then a.p1 ++ [(e.1, e.2.1)] else a.p1 }) pe.1
  let z2 := { z1 with taps := (List.range 4).foldl (fun (m : Sp W24) k => Sp.set m k (s.source w t x n (tapSel pat k)) 0) z1.taps }
  let s4 := (s2.setTile w t z2).spread w t n pe.2
  match iss.find? (fun e => e.2.2.2) with
  | some e => s4.illegalSeen w t (x.owner bk) e.1 y.slot
  | none => s4

/-- A cycle in which nothing issues: operations in flight go on. -/
def State.stallCycle (s : State) (w t n : Nat) : State :=
  let pe := (s.tile w t).pipeEnd t n
  (s.setTile w t { pe.1 with aWrites := [], portBs := [] }).spread w t n pe.2

/-- Cycle n begins on a tile: changes from other tiles are taken, static drives act. -/
def State.beginCycle (s : State) (w t n : Nat) : State :=
  let x := { ((s.tile w t).takeFsw n) with cyc := n }
  (s.setTile w t x).driveStatic w t n x

/-- The last `k` cycles before cycle n, in which nothing issues. -/
def State.passCycles (s : State) (w t n : Nat) : Nat → State
  | 0 => s
  | k + 1 => ((s.beginCycle w t (n - (k + 1))).stallCycle w t (n - (k + 1))).passCycles w t n k

/-- A tile enters cycle n: the cycles since its last one have passed without an issue (three of them are all that the
pipeline can show). -/
def State.enterCycle (s : State) (w t n : Nat) : State :=
  (s.passCycles w t n (min 3 (n - (s.tile w t).cyc - 1))).beginCycle w t n

/-- The tile's datapath has come to cycle n, the cycles since its last one having passed without an issue. -/
def State.passTo (s : State) (w t n : Nat) : State :=
  if (s.tile w t).cyc < n then (s.enterCycle w t n).stallCycle w t n else s

/-- What an instruction of this cycle may read is kept (R63, R98, R151). -/
def State.keepPrev (s : State) (w t n : Nat) : State :=
  let x := s.tile w t
  let c : Ctx := match x.cur with | some b => x.bank b | none => {}
  s.setTile w t { x with patCyc := some n, tapsPrev := x.taps, latchPrev := x.latch, ctxPrev := c }

end Sys2Proof.Machine
end

