-- ==== Sys2Proof/Machine/Sram.lean ====
section
/-!
DEFINITION. Machine/Sram.lean: checked reads and writes of wall SRAM (R327 to R330).
-/
namespace Sys2Proof.Machine
open Sys2Proof

/-! ### What a bank serves (R333, R335, R340) -/
/-- Whether a bank serves accesses (SRAM_STATUS.online). -/
def State.bankOn (s : State) (w b : Nat) : Bool := nbit (s.fl (R.SRAM_STATUS w) F.SRAM_STATUS_online) b
def State.setBankOn (s : State) (w b : Nat) (on : Bool) : State :=
  s.setFl (R.SRAM_STATUS w) F.SRAM_STATUS_online (setNbit (s.fl (R.SRAM_STATUS w) F.SRAM_STATUS_online) b on)
def State.inRet (s : State) (w b : Nat) : Bool := nbit (s.fl (R.SRAM_STATUS w) F.SRAM_STATUS_ret) b
def State.inTest (s : State) (w b : Nat) : Bool := nbit (s.fl (R.SRAM_STATUS w) F.SRAM_STATUS_test) b

/-- Whether the secure bank admits its built-in masters: while it is wiped or under test it admits none (R333, R340). -/
def State.secureOpen (s : State) (w : Nat) : Bool := (s.wall w).wipe.isNone && !s.inTest w 7

/-! ### Checked accesses -/
/-- A read met an uncorrectable word at wall SRAM byte address `addr`. -/
def State.sramUe (s : State) (w addr : Nat) : State :=
  let s1 := s.bump (R.SRAM_UE_COUNT w)
  let s2 := if s1.fl (R.SRAM_UE_ADDR w) F.SRAM_UE_ADDR_valid = 1 then s1
    else s1.wr (R.SRAM_UE_ADDR w) (BitVec.ofNat 32 (addr + 33554432))
  s2.stickyWall (R.SRAM_EVENT w) F.SRAM_EVENT_ue w 18 0 [(s2.rd (R.SRAM_UE_ADDR w)).toNat]

/-- The marked words that bytes [off, off + n) of bank b touch, as word numbers of `sramErr`. -/
def State.errWords (s : State) (w b off n : Nat) : List (Nat × Nat) :=
  s.sramErr.filter (fun e => decide (sramKey w b off ≤ e.1 * 8 + 7) && decide (e.1 * 8 < sramKey w b off + n))

/-- A read of bytes [off, off + n) of bank b: single errors are corrected and written back, uncorrectable words are
reported; true: an uncorrectable word was met. -/
def State.sramRead (s : State) (w b off n : Nat) : State × Bool :=
  (s.errWords w b off n).foldl (fun (a : State × Bool) e =>
    if e.2 = 1 then ({ (a.1.bump (R.SRAM_CE_COUNT w)) with sramErr := Sp.drop a.1.sramErr e.1 }, a.2)
    else (a.1.sramUe w (e.1 * 8 - w * 0x2000000), true)) (s, false)

/-- A write of bytes to bank b: a wholly covered word loses its error; a partly covered word is merged, and when one is
uncorrectable the write changes nothing (R327, R330); true: the write took place. -/
def State.sramWrite (s : State) (w b off : Nat) (bs : List Byte) : State × Bool :=
  let k := sramKey w b off
  let part (e : Nat × Nat) : Bool := decide (e.1 * 8 < k) || decide (k + bs.length < e.1 * 8 + 8)
  let es := s.errWords w b off bs.length
  if es.any (fun e => part e && e.2 ≠ 1) then
    (match es.find? (fun e => part e && e.2 ≠ 1) with
      | some e => s.sramUe w (e.1 * 8 - w * 0x2000000)
      | none => s, false)
  else
    let s1 := es.foldl (fun (a : State) e =>
      let a1 := { a with sramErr := Sp.drop a.sramErr e.1 }
      if part e then a1.bump (R.SRAM_CE_COUNT w) else a1) s
    (s1.setSram w b off bs, true)

end Sys2Proof.Machine
end

