-- ==== Sys2Proof/Machine/SaveArea.lean ====
section
/-!
DEFINITION. Machine/SaveArea.lean: the save areas of wall SRAM bank 2 (R168 to R174): the free list, headers, and the
halves of a context as bytes.
-/
namespace Sys2Proof.Machine
open Sys2Proof

/-- Save area i starts at byte i * 512 of bank 2. -/
def areaOff (i : Nat) : Nat := i * 512

def State.areaWord (s : State) (w i off : Nat) : Word := s.sramWord w 2 (areaOff i + off)
/-- The hod engine writes words into an area: a checked write (R327, R330). -/
def State.setAreaWords (s : State) (w i off : Nat) (ws : List Word) : State :=
  (s.sramWrite w 2 (areaOff i + off) (bytesOfWords ws)).1
def State.setAreaWord (s : State) (w i off : Nat) (v : Word) : State := s.setAreaWords w i off [v]

/-- Bytes [off, off + n) of save area `i` are read; true: an uncorrectable word was met (R214, R330). -/
def State.areaRead (s : State) (w i off n : Nat) : State × Bool := s.sramRead w 2 (areaOff i + off) n

/-! ### The free list (R215) -/
def WallX.freeCount (x : WallX) : Nat := x.free.length + (x.freeEnd - x.freeLo)
def WallX.freeHead (x : WallX) : Option Nat :=
  match x.free with
  | a :: _ => some a
  | [] => if x.freeLo < x.freeEnd then some x.freeLo else none
def WallX.popFree (x : WallX) : WallX :=
  match x.free with
  | _ :: r => { x with free := r }
  | [] => { x with freeLo := x.freeLo + 1 }

/-- The free count fell (R215): SAVE_AREA_LOW on the transition of the bit, when it falls from HOD_LOW or more. -/
def State.checkLow (s : State) (w before : Nat) : State :=
  let low := s.fl (R.HOD_LOW w) F.HOD_LOW_thresh
  let now := (s.wall w).freeCount
  if low ≤ before && decide (now < low) then s.stickyWall (R.HOD_EVENT w) F.HOD_EVENT_low w 8 0 [now] else s

/-- Take an area from the free list. -/
def State.takeArea (s : State) (w : Nat) : Option (Nat × State) :=
  let x := s.wall w
  match x.freeHead with
  | none => none
  | some a => some (a, (s.setWall w x.popFree).checkLow w x.freeCount)

/-- Take `n` areas; none when the list holds fewer. -/
def State.takeAreas (s : State) (w : Nat) : Nat → Option (List Nat × State)
  | 0 => some ([], s)
  | k + 1 =>
    match s.takeArea w with
    | none => none
    | some (a, s1) => match State.takeAreas s1 w k with
      | none => none
      | some (as, s2) => some (a :: as, s2)

/-- Return an area to the free list; its header links to the old head. -/
def State.returnArea (s : State) (w i : Nat) : State :=
  let x := s.wall w
  let nx := match x.freeHead with | some a => a | none => 0xFFFF
  let s1 := s.setWall w { x with free := i :: x.free }
  let h := s1.areaWord w i 0
  s1.setAreaWord w i 0 (setFld h ⟨0, 16⟩ nx)

/-! ### Headers (R168) -/
def State.writeHeader (s : State) (w i next kind : Nat) (home : Bool) (count flow tile : Nat) (fastb : Bool) : State :=
  s.setAreaWords w i 0 [
    BitVec.ofNat 32 (next + kind * 65536 + b2n home * 1048576 + count * 16777216),
    BitVec.ofNat 32 (flowNo w flow + tile * 4096 + b2n fastb * 524288),
    BitVec.ofNat 32 s.tick, 0]

/-! ### General registers by code (R123, R124) -/
def genIdx (bk : Bank) (wix : Nat) (code : Nat) : Nat :=
  match bk with
  | .fast => code
  | _ =>
    if code < 8 then code
    else if code < 24 then 8 + 16 * wix + (code - 8)
    else 8 + 16 * ((wix + 1) % 8) + (code - 24)

def Ctx.reg (c : Ctx) (bk : Bank) (code : Nat) : Word := Sp.getD c.gen (genIdx bk c.wix.toNat code) 0
def Ctx.setReg (c : Ctx) (bk : Bank) (code : Nat) (v : Word) : Ctx :=
  { c with gen := Sp.set c.gen (genIdx bk c.wix.toNat code) v 0 }

/-! ### The flow status word (R126) -/
def Ctx.fsw (c : Ctx) (fixed fast own : Bool) : Word :=
  BitVec.ofNat 32 (c.bexp.toNat + c.rdef.toNat * 16 + b2n c.explim * 64 + b2n c.tp * 128 + c.wix.toNat * 256
    + b2n c.sz * 2048 + b2n c.sn * 4096 + b2n c.sc * 8192 + b2n c.sv * 16384 + b2n c.aoob * 32768
    + b2n fixed * 65536 + b2n fast * 131072 + b2n own * 262144)

/-- The writable fields of FSW taken from a word. -/
def Ctx.setFsw (c : Ctx) (v : Word) : Ctx :=
  let x := v.toNat
  { c with bexp := BitVec.ofNat 4 x, rdef := BitVec.ofNat 2 (x / 16), explim := nbit x 6, tp := nbit x 7,
           sz := nbit x 11, sn := nbit x 12, sc := nbit x 13, sv := nbit x 14, aoob := nbit x 15 }

/-! ### The control state block (R169) -/
def reg16 (m : Sp (BitVec 16)) (k : Nat) : Nat := (Sp.getD m k 0).toNat

def loopWords (ls : List LoopEnt) : List Word :=
  (List.range 4).flatMap (fun k =>
    match (ls.reverse)[k]? with
    | some e => [BitVec.ofNat 32 (e.start.toNat + e.fin.toNat * 4096), BitVec.ofNat 32 e.count]
    | none => [0, 0])

def Ctx.control (c : Ctx) (fsw : Word) : List Word :=
  (List.range 8).map (fun k => BitVec.ofNat 32 (reg16 c.p k)) ++
  (List.range 8).map (fun k => BitVec.ofNat 32 (reg16 c.b k)) ++
  (List.range 8).map (fun k => BitVec.ofNat 32 (reg16 c.l k + reg16 c.lsh k * 65536)) ++
  (List.range 4).map (fun k => BitVec.ofNat 32 (reg16 c.m k)) ++
  loopWords c.loops ++
  [fsw, BitVec.ofNat 32 (c.pc.toNat + c.hold * 4096 + c.loops.length * 65536), c.agcfg, c.buscfg,
   BitVec.ofNat 32 c.busA.toNat, BitVec.ofNat 32 c.busB.toNat, BitVec.ofNat 32 c.busC.toNat,
   BitVec.ofNat 32 (c.csp.toNat + c.lpend.toNat * 65536), BitVec.ofNat 32 c.slot.toNat, c.sendStat, 0, 0]

def spOf (n : Nat) (f : Nat → BitVec 16) : Sp (BitVec 16) :=
  (List.range n).foldl (fun m k => Sp.set m k (f k) 0) []

def loopsOf (g : Nat → Nat) (depth : Nat) : List LoopEnt :=
  ((List.range depth).map (fun k =>
    ({ start := BitVec.ofNat 12 (g (28 + 2 * k)), fin := BitVec.ofNat 12 (g (28 + 2 * k) / 4096),
       count := g (29 + 2 * k) % 65536 } : LoopEnt))).reverse

/-- The loop stack depth that a lower half holds (R169, R174). -/
def controlDepth (ws : List Word) : Nat := nbits (ws.getD 37 0).toNat 16 3

/-- A control state block loaded: every field except the resume PC, `wix` and the RO bits (R174). -/
def Ctx.loadControl (c : Ctx) (ws : List Word) : Ctx :=
  let g (k : Nat) : Nat := (ws.getD k 0).toNat
  let c1 := c.setFsw (ws.getD 36 0)
  { c1 with
    p := spOf 8 (fun k => BitVec.ofNat 16 (g k)), b := spOf 8 (fun k => BitVec.ofNat 16 (g (8 + k))),
    l := spOf 8 (fun k => BitVec.ofNat 16 (g (16 + k))), lsh := spOf 8 (fun k => BitVec.ofNat 16 (g (16 + k) / 65536)),
    m := spOf 4 (fun k => BitVec.ofNat 16 (g (24 + k))), loops := loopsOf g (controlDepth ws)
    hold := nbits (g 37) 12 4, agcfg := ws.getD 38 0, buscfg := ws.getD 39 0
    busA := BitVec.ofNat 24 (g 40), busB := BitVec.ofNat 24 (g 41), busC := BitVec.ofNat 24 (g 42)
    csp := BitVec.ofNat 12 (g 43), lpend := BitVec.ofNat 8 (g 43 / 65536), slot := BitVec.ofNat 7 (g 44)
    sendStat := ws.getD 45 0 }

/-! ### Lower and upper halves (R170, R171) -/
def Ctx.lowerWords (c : Ctx) (bk : Bank) (fsw : Word) : List Word :=
  (List.range 32).map (fun k => c.reg bk k) ++ c.control fsw

def Ctx.loadGen (c : Ctx) (bk : Bank) (ws : List Word) : Ctx :=
  (List.range 32).foldl (fun (a : Ctx) k => a.setReg bk k (ws.getD k 0)) c

/-- LOADL (R174). -/
def Ctx.loadLower (c : Ctx) (bk : Bank) (ws : List Word) : Ctx := (c.loadGen bk ws).loadControl (ws.drop 32)

/-- The 64-bit words of a brick state record (R51), as 32-bit words. -/
def brickWords (r : BrickRec) : List Word :=
  let acc (a : Acc) : List Word := toWords 2 (a.value.toNat + a.tally.toNat * 2 ^ 56)
  acc r.acc0 ++ acc r.acc1 ++
  [BitVec.ofNat 32 (b2n r.z + b2n r.n * 2 + b2n r.p * 4 + b2n r.ds * 8 + b2n r.dx * 16 + b2n r.v * 32 + b2n r.dz * 64
    + b2n r.acc0.g * 128 + b2n r.acc1.g * 256 + b2n r.acc0.tv * 512 + b2n r.acc1.tv * 1024), 0]

def brickOfWords (ws : List Word) : BrickRec :=
  let q (k : Nat) : Nat := (ws.getD k 0).toNat + (ws.getD (k + 1) 0).toNat * 4294967296
  let f := (ws.getD 4 0).toNat
  { acc0 := { value := BitVec.ofNat 56 (q 0), tally := BitVec.ofNat 8 (q 0 / 2 ^ 56), g := nbit f 7, tv := nbit f 9 }
    acc1 := { value := BitVec.ofNat 56 (q 2), tally := BitVec.ofNat 8 (q 2 / 2 ^ 56), g := nbit f 8, tv := nbit f 10 }
    z := nbit f 0, n := nbit f 1, p := nbit f 2, ds := nbit f 3, dx := nbit f 4, v := nbit f 5, dz := nbit f 6 }

def Ctx.allBricks (c : Ctx) : List Word := (List.range 16).flatMap (fun b => brickWords (c.brick b))
def Ctx.loadBricks (c : Ctx) (ws : List Word) : Ctx :=
  (List.range 16).foldl (fun (a : Ctx) b => a.setBrick b (brickOfWords (ws.drop (6 * b)))) c

def Ctx.bookWords (c : Ctx) : List Word :=
  [BitVec.ofNat 32 (c.spillHead.toNat + c.spilled.toNat * 65536), BitVec.ofNat 32 (c.saveHead.toNat + c.saveDepth.toNat * 65536),
   BitVec.ofNat 32 (c.depth % 65536 + (c.wres % 16) * 65536)]

/-- The last 32 bytes of an upper half: the bookkeeping words, then reserved zeros (R171). -/
def Ctx.bookTail (c : Ctx) : List Word := c.bookWords ++ List.replicate 5 0

def Ctx.loadBook (c : Ctx) (ws : List Word) : Ctx :=
  let g (k : Nat) : Nat := (ws.getD k 0).toNat
  { c with spillHead := BitVec.ofNat 16 (g 0), spilled := BitVec.ofNat 16 (g 0 / 65536)
           saveHead := BitVec.ofNat 16 (g 1), saveDepth := BitVec.ofNat 16 (g 1 / 65536)
           depth := g 2 % 65536, wres := nbits (g 2) 16 4 }

def State.areaWords (s : State) (w i off n : Nat) : List Word := wordsOfBytes (s.sramBytes w 2 (areaOff i + off) (4 * n))

/-! ### Spill records (R131, R132, R172) -/
/-- The 16 registers of frame `fr` of a window file. -/
def Ctx.frame (c : Ctx) (fr : Nat) : List Word := (List.range 16).map (fun k => Sp.getD c.gen (8 + 16 * fr + k) 0)
def Ctx.setFrame (c : Ctx) (fr : Nat) (ws : List Word) : Ctx :=
  { c with gen := (List.range 16).foldl (fun (m : Sp Word) k => Sp.set m (8 + 16 * fr + k) (ws.getD k 0) 0) c.gen }

/-- The records held by the head of a spill chain; a missing head counts as full. -/
def State.spillCount (s : State) (w : Nat) (c : Ctx) : Nat :=
  if c.spilled = 0 then 7 else nbits (s.areaWord w c.spillHead.toNat 0).toNat 24 8

/-- A frame is written as the next record of a spill chain whose head has room (R172). -/
def State.spillOnto (s : State) (w : Nat) (c : Ctx) (fr : Nat) : State × Ctx :=
  let h := c.spillHead.toNat
  let cnt := s.spillCount w c
  let s1 := (s.setAreaWords w h (16 + 64 * cnt) (c.frame fr)).setAreaWord w h 8 (BitVec.ofNat 32 s.tick)
  (s1.setAreaWord w h 0 (setFld (s1.areaWord w h 0) ⟨24, 8⟩ (cnt + 1)), { c with spilled := c.spilled + 1 })

/-- A frame is written as the first record of area `a`, which becomes the head of the chain (R172). -/
def State.spillNew (s : State) (w t f : Nat) (c : Ctx) (fr a : Nat) : State × Ctx :=
  let s2 := s.writeHeader w a (if c.spilled = 0 then 0xFFFF else c.spillHead.toNat) 3 false 1 f t false
  (s2.setAreaWords w a 16 (c.frame fr), { c with spillHead := BitVec.ofNat 16 a, spilled := c.spilled + 1 })

/-- A frame is written to a flow's spill chain; a new head area is taken when the head is full or absent (R172). -/
def State.spillFrame (s : State) (w t f : Nat) (c : Ctx) (fr : Nat) : Option (State × Ctx) :=
  if s.spillCount w c < 7 then some (s.spillOnto w c fr)
  else match s.takeArea w with
    | none => none
    | some (a, s1) => some (s1.spillNew w t f c fr a)

/-- A frame is spilled into a chain with areas taken before (R212); the areas left are returned. -/
def State.spillReserved (s : State) (w t f : Nat) (c : Ctx) (fr : Nat) (as : List Nat) : State × Ctx × List Nat :=
  if s.spillCount w c < 7 then let r := s.spillOnto w c fr; (r.1, r.2, as)
  else match as with
    | [] => (s, c, [])
    | a :: rest => let r := s.spillNew w t f c fr a; (r.1, r.2, rest)

/-- The most recent spill record fills a frame; an emptied area returns to the free list (R172). -/
def State.fillFrame (s : State) (w : Nat) (c : Ctx) (fr : Nat) : State × Ctx :=
  let h := c.spillHead.toNat
  let cnt := nbits (s.areaWord w h 0).toNat 24 8
  let c1 := { (c.setFrame fr (s.areaWords w h (16 + 64 * (cnt - 1)) 16)) with spilled := c.spilled - 1 }
  if cnt ≤ 1 then
    let nx := nbits (s.areaWord w h 0).toNat 0 16
    (s.returnArea w h, { c1 with spillHead := BitVec.ofNat 16 nx })
  else (s.setAreaWord w h 0 (setFld (s.areaWord w h 0) ⟨24, 8⟩ (cnt - 1)), c1)

/-- New areas that the spills of a make-cold need (R212). -/
def State.spillNeed (s : State) (w : Nat) (c : Ctx) : Nat :=
  let cnt := s.spillCount w c
  let n := c.wres - 1
  if n ≤ 7 - cnt then 0 else (n - (7 - cnt) + 6) / 7

/-- The areas of a chain from its head (at most `k` links). -/
def State.chainAreas (s : State) (w head : Nat) : Nat → List Nat
  | 0 => []
  | k + 1 => if head = 0xFFFF then [] else head :: s.chainAreas w (nbits (s.areaWord w head 0).toNat 0 16) k

end Sys2Proof.Machine
end

