-- ==== Sys2Proof/Machine/FlowOps.lean ====
section
/-!
DEFINITION. Machine/FlowOps.lean: the shared operations on flows (R181 to R185, R199 to R207, R209 to R214): triggers,
halts, pre-stages and their withdrawal, restore requests, victims, and the start of a run.
-/
namespace Sys2Proof.Machine
open Sys2Proof

/-! ### Flow states (R181) -/
def fFree : Nat := 0
def fStopped : Nat := 1
def fIdle : Nat := 2
def fRunnable : Nat := 3
def fRunning : Nat := 4
def fWaiting : Nat := 5
def fHalted : Nat := 6

def State.fstate (s : State) (w f : Nat) : Nat := s.fl (R.FD_CTRL w f) F.FD_CTRL_state
def State.setFstate (s : State) (w f v : Nat) : State := s.setFl (R.FD_CTRL w f) F.FD_CTRL_state v
def State.fixedFlow (s : State) (w f : Nat) : Bool := s.fl (R.FD_CTRL w f) F.FD_CTRL_fixed = 1
def State.fastFlow (s : State) (w f : Nat) : Bool := s.fl (R.FD_CTRL w f) F.FD_CTRL_fastb = 1
def State.prio (s : State) (w f : Nat) : Nat := s.fl (R.FD_CTRL w f) F.FD_CTRL_prio
def State.firstSlot (s : State) (w f : Nat) : BitVec 7 := BitVec.ofNat 7 (s.fl (R.FD_BIND w f) F.FD_BIND_first_slot)
def State.entryPc (s : State) (w f : Nat) : BitVec 12 := BitVec.ofNat 12 (s.fl (R.FD_BIND w f) F.FD_BIND_entry_pc)

/-- A flow is resident on every tile of its set (R194): in the fast bank when it is fast-bound, else in a resident bank
(R190), and none of them moving. -/
def State.residentAll (s : State) (w f : Nat) : Bool :=
  (s.tileSet w f).all (fun t => match (s.tile w t).bankOf f with
    | some b => !((s.tile w t).bank b).moving && decide ((b = Bank.fast) = (s.fastFlow w f = true))
    | none => false)

/-- A make-cold of a flow waits or runs on a tile's channel. -/
def Tile.makesCold (x : Tile) (f : Nat) : Bool := (x.chanq ++ x.chan.toList).any (fun o => o.kind = .makeCold && o.flow = f)

/-- FD_CTRL.`res` follows the flow's residency: cold, moving, resident, fast bank (R186). -/
def State.refreshRes (s : State) (w f : Nat) : State :=
  let on := s.residentAll w f
  let any := (s.tileSet w f).any (fun t => (((s.tile w t).bankOf f).isSome) ||
    (s.tile w t).chanq.any (fun o => o.kind = .restore && o.flow = f))
  s.setFl (R.FD_CTRL w f) F.FD_CTRL_res (if on then (if s.fastFlow w f then 3 else 2) else if any then 1 else 0)

/-- The home areas of a flow on a tile (HOD_HOME). -/
def State.homeLower (s : State) (w f t : Nat) : Nat := s.fl (R.HOD_HOME w f (t % 8)) F.HOD_HOME_lower
def State.homeUpper (s : State) (w f t : Nat) : Nat := s.fl (R.HOD_HOME w f (t % 8)) F.HOD_HOME_upper

/-- The start slot of a flow's next run on a tile: the slot saved in its context, or `first_slot` (R199). -/
def State.startSlot (s : State) (w f t : Nat) (saved : Bool) : BitVec 7 :=
  if saved then
    match (s.tile w t).bankOf f with
    | some b => ((s.tile w t).bank b).slot
    | none => BitVec.ofNat 7 (s.areaWord w (s.homeLower w f t) (0x90 + 0xB0)).toNat
  else s.firstSlot w f

/-! ### Pre-stages and their withdrawal (R199, R202) -/
/-- The pre-stage of a flow is withdrawn: its near comparator, the protection of its ways and of the flow end. -/
def State.withdraw (s : State) (w f : Nat) : State :=
  let s1 := s.setFlow w f { (s.flow w f) with near := false, prestaged := false, prot := false }
  (s.tileSet w f).foldl (fun (a : State) t =>
    let x := a.tile w t
    let x1 := (List.range 8).foldl (fun (x : Tile) k =>
      let y := x.way k
      if y.prot && y.forFlow = some f then x.setWay k { y with prot := false, forFlow := none } else x) x
    a.setTile w t { x1 with
      waitq := x1.waitq.filter (fun r => !(r.kind = .prestage && r.flow = some f))
      refill := x1.refill.map (fun r => if r.req.flow = some f then { r with req := { r.req with flow := none } } else r) }) s1

/-- A pre-stage refill of a flow's start slot is requested on a tile; a slot already cached is protected at once (R85). -/
def State.prestageRefill (s : State) (w f t : Nat) (saved : Bool) : State :=
  let x := s.tile w t
  let sl := s.startSlot w f t saved
  match x.findWay sl with
  | some k => s.setTile w t (x.setWay k { (x.way k) with prot := true, forFlow := some f })
  | none => s.setTile w t (x.request { kind := .prestage, slot := sl, flow := some f })

/-- A restore of a flow is requested on every tile of its set that does not hold it (R199, R207, R188), and on a tile whose
make-cold of the flow is waiting or under way: it starts when that is over. -/
def State.requestRestore (s : State) (w f : Nat) : State :=
  ((s.tileSet w f).foldl (fun (a : State) t =>
    let x := a.tile w t
    let leaving := match x.bankOf f with | some b => (x.bank b).moving && x.makesCold f | none => false
    if ((x.bankOf f).isSome && !leaving) || x.chanq.any (fun o => o.kind = .restore && o.flow = f) then a
    else a.setTile w t { x with chanq := x.chanq ++ [{ kind := .restore, flow := f, cls := 1,
                                                       bank := if a.fastFlow w f then .fast else .b0 }] }) s).refreshRes w f

/-- R207: a RUNNABLE flow that is cold has its restore and the refill of its start slot requested. -/
def State.wantRun (s : State) (w f : Nat) : State :=
  if s.residentAll w f then s
  else (s.tileSet w f).foldl (fun (a : State) t => a.prestageRefill w f t (s.flow w f).resume) (s.requestRestore w f)

/-! ### Triggers (R182) -/
def State.trigger (s : State) (w f : Nat) : State :=
  let st := s.fstate w f
  let x := s.flow w f
  if st = 2 then
    ((s.setFstate w f 3).setFlow w f { x with resume := false, trigTick := s.tick }).wantRun w f
  else if st = 5 then
    ((s.setFstate w f 3).setFlow w f { x with resume := true, trigTick := s.tick }).wantRun w f
  else if st = 3 || st = 4 then
    if s.fl (R.FD_CTRL w f) F.FD_CTRL_pending = 0 then
      (s.setFlow w f { x with pendTick := s.tick }).setFl (R.FD_CTRL w f) F.FD_CTRL_pending 1
    else
      let s1 := (s.bump (R.DISP_OVERRUN_COUNT w)).setFl (R.DISP_EVENT w) F.DISP_EVENT_overrun 1
      if s.fl (R.FD_CTRL w f) F.FD_CTRL_ovr_ev = 1 then s1.raiseWall w 7 0 [flowNo w f, 0] else s1
  else s

/-- Every flow whose wake source is of a kind and index is triggered (R204), in order of local index. -/
def State.wakeFlows (s : State) (w kind index : Nat) : State :=
  foldN 512 s (fun a f =>
    let r := s.rd (R.FD_WAKE w f)
    if fld r F.FD_WAKE_kind = kind && fld r F.FD_WAKE_index = index then a.trigger w f else a)

/-! ### Leaving the fast bank (R141, R573) -/
/-- The tile leaves its fast bank: the interrupted bank resumes and its pattern slot is selected; with none, the tile has
no current bank, and the pattern stays in force until the next selection (R116). -/
def State.leaveFast (s : State) (w t : Nat) : State :=
  let x := (s.tile w t).unstall
  let y : Tile := { x with cur := x.interrupted, interrupted := none, handlerOf := none, starting := false, startSel := none, deferSel := none }
  match x.interrupted with
  | some b => (s.setTile w t y).selectSlot w t (x.bank b).slot
  | none => s.setTile w t y

/-- A flow stops on its tiles: a tile whose fast bank runs it leaves the fast bank. Its stalls end. -/
def State.stopOnTiles (s : State) (w f : Nat) : State :=
  (s.tileSet w f).foldl (fun (a : State) t =>
    let x := a.tile w t
    if x.cur = some .fast && (x.cf.flow = some f || x.handlerOf = some f) then a.leaveFast w t
    else if (match x.cur with | some b => decide ((x.bank b).flow = some f) | none => false) then
      a.setTile w t { x with stall := Stall.none }
    else a) s

/-! ### The eager rule (R213) -/
/-- When a flow of a tile is next needed (R212): 0 now (RUNNABLE), its predicted match, or never (none). -/
def State.nextNeed (s : State) (w f : Nat) : Option Nat :=
  if s.fstate w f = 3 then some 0
  else match (s.flow w f).armed with
    | some _ => s.predicted w f
    | none => none

/-- Whether a flow can be made cold (R212). -/
def State.canEvict (s : State) (w f : Nat) : Bool :=
  !(s.fstate w f = 4) && !(s.flow w f).prot && !s.fixedFlow w f && !s.fastFlow w f && !(s.flow w f).placed && s.residentAll w f &&
  decide (((s.tileSet w f).map (fun t => match (s.tile w t).bankOf f with
    | some b => s.spillNeed w ((s.tile w t).bank b)
    | none => 0)).foldl (· + ·) 0 ≤ (s.wall w).freeCount) &&
  (s.tileSet w f).all (fun t => match (s.tile w t).bankOf f with
    | some b => ((s.tile w t).bank b).pend = .none &&
        !((s.tile w t).chanq.any (fun o => o.flow = f)) && !(match (s.tile w t).chan with | some o => o.flow = f | none => false)
    | none => true)

/-- Whether a resident is needed later than another; ties to the one that ran longest ago, then the higher index. -/
def State.laterNeed (s : State) (w a b : Nat) : Bool :=
  match s.nextNeed w a, s.nextNeed w b with
  | none, some _ => true
  | some _, none => false
  | some x, some y => decide (y < x) || (x = y && (decide ((s.flow w a).lastRan < (s.flow w b).lastRan) ||
      ((s.flow w a).lastRan = (s.flow w b).lastRan && decide (b < a))))
  | none, none => decide ((s.flow w a).lastRan < (s.flow w b).lastRan) ||
      ((s.flow w a).lastRan = (s.flow w b).lastRan && decide (b < a))

/-- The victim of a tile (R212), if any flow can be one. -/
def State.victim (s : State) (w t : Nat) : Option Nat :=
  let x := s.tile w t
  let cand (c : Ctx) : Option Nat := match c.flow with
    | some f => if s.canEvict w f && !c.moving then some f else none
    | none => none
  match cand x.c0, cand x.c1 with
  | some a, some b => if a = b then some a else if s.laterNeed w a b then some a else some b
  | some a, none => some a
  | none, some b => some b
  | none, none => none

/-- A victim is chosen: the areas that its spills need are taken, and its make-cold joins the channel of every tile of
its set (R212). -/
def State.evict (s : State) (w f cls : Nat) (evict : Bool) : State :=
  ((s.tileSet w f).foldl (fun (a : State) t =>
    match (a.tile w t).bankOf f with
    | some b =>
      match a.takeAreas w (a.spillNeed w ((a.tile w t).bank b)) with
      | none => a
      | some (as, a1) =>
        let x := a1.tile w t
        let x1 : Tile := { x with chanq := x.chanq ++ [{ kind := .makeCold, flow := f, bank := b, cls := cls, evict := evict, ret := as }] }
        a1.setTile w t (x1.setBank b { (x.bank b) with moving := true })
    | none => a) s).refreshRes w f

/-- No resident bank of a tile is free. -/
def Tile.banksFull (x : Tile) : Bool := x.c0.flow.isSome && x.c1.flow.isSome

/-- R213: on a tile with no free resident bank for which a cold flow is due, a victim is made cold at once. -/
def State.eager (s : State) (w t : Nat) : State :=
  let x := s.tile w t
  let hor := s.fl (R.DISP_CFG w) F.DISP_CFG_horizon * 16
  let due := (List.range 512).any (fun f => s.fstate w f ≠ 0 && (s.tileSet w f).contains t && (x.bankOf f).isNone &&
    (s.fstate w f = 3 || match s.predicted w f with | some n => decide (n ≤ hor) | none => false))
  if x.banksFull && due then
    match s.victim w t with
    | some v => s.evict w v 3 false
    | none => s
  else s

def State.eagerAll (s : State) (w f : Nat) : State := (s.tileSet w f).foldl (fun (a : State) t => a.eager w t) s

/-! ### Halts (R179, R185) -/
/-- A flow enters HALTED. -/
def State.halt (s : State) (w f : Nat) : State :=
  let x := s.flow w f
  let s0 := s.setFlow w f { x with pendSched := none, nextSched := none, lastRan := if s.fstate w f = 4 then s.tick else x.lastRan }
  let s1 := (s0.setFstate w f 6).setFl (R.FD_CTRL w f) F.FD_CTRL_pending 0
  ((s1.withdraw w f).stopOnTiles w f).eagerAll w f

/-- A sequencer fault of a flow on a tile (R179): the first is recorded with its bank; the flow halts; the event of its
cause. -/
def State.seqFault (s : State) (w t f : Nat) (b : Bank) (pc cause : Nat) : State :=
  let bn := match ((s.tile w t).bankOf f).getD b with | .b0 => 0 | .b1 => 1 | .fast => 2
  let s1 := if s.fl (R.SEQ_FAULT w t) F.SEQ_FAULT_valid = 1 then s
    else s.wr (R.SEQ_FAULT w t) (BitVec.ofNat 32 (1 + cause * 2 + bn * 32 + pc * 128))
  let s2 := s1.raiseWall w 0 (if cause = 0xE then 1 else if cause = 0xF then 2 else 0) [flowNo w f, t, pc + cause * 4096]
  s2.halt w f

/-- CONTEXT_LOST (R214). -/
def State.contextLost (s : State) (w t f area : Nat) : State :=
  ((s.setFl (R.HOD_EVENT w) F.HOD_EVENT_lost 1).raiseWall w 0 3 [flowNo w f, t, area]).halt w f

/-! ### Runs -/
/-- The areas of a context's save stack and spill chain go to area housekeeping (R129, R188). -/
def State.chainsOf (s : State) (w : Nat) (c : Ctx) : List Nat :=
  (if c.spilled = 0 then [] else s.chainAreas w c.spillHead.toNat (c.spilled.toNat + 1)) ++
  (if c.saveDepth = 0 then [] else s.chainAreas w c.saveHead.toNat c.saveDepth.toNat)

/-- The run state of R129 on one tile of a flow's set. -/
def State.freshRun (s : State) (w f t : Nat) : State :=
  let x := s.tile w t
  match x.bankOf f with
  | none => s
  | some b =>
    let c := x.bank b
    let old := s.chainsOf w c
    let c1 := { c with wix := 0, depth := 1, wres := 1, loops := [], hold := 0, heldPat := none, spillHead := 0xFFFF, spilled := 0,
                       saveHead := 0xFFFF, saveDepth := 0, pc := s.entryPc w f, pend := .none, fence := false,
                       readyAt := 0, resumeAt := 0, waited := false }
    let q : List HodOp := if old.isEmpty then [] else [{ kind := .areas, flow := f, cls := 4, ret := old }]
    let x1 : Tile := { x with chanq := x.chanq ++ q }
    s.setTile w t (x1.setBank b c1)

/-- Changes of the flow-wide fields that are on their way between a flow's tiles arrive (R121: every copy then holds the
same value). -/
def State.settleFsw (s : State) (w f : Nat) : State :=
  (s.tileSet w f).foldl (fun (a : State) t =>
    let x := a.tile w t
    match x.bankOf f with
    | some b =>
      let c := x.bank b
      a.setTile w t (x.setBank b { (c.fswIn.foldl (fun (c : Ctx) m => c.applyFsw m) c) with fswIn := [], fswRec := [], fswBy := none })
    | none => a) s

/-- The end of a run (R50, R57): GUARD_OVERFLOW and EXPONENT_LIMIT once for the flow, and the sticky flags cleared. Every
copy holds the flow's exponent_limit, and R57 names no tile and brick: the event gives the lowest tile whose copy is set,
and brick 0 (DESIGN CHOICE, log entry 123). -/
def State.completionChecks (s0 : State) (w f : Nat) : State :=
  let s := s0.settleFsw w f
  let ts := s.tileSet w f
  let guard := ts.findSome? (fun t => match (s.tile w t).bankOf f with
    | none => none
    | some b =>
      (firstIdx (fun k => let r := ((s.tile w t).bank b).brick k
        r.acc0.g || r.acc1.g || r.acc0.tv || r.acc1.tv) (List.range 16)).map (fun k => (t, k)))
  let lim := ts.find? (fun t => match (s.tile w t).bankOf f with
    | some b => ((s.tile w t).bank b).explim
    | none => false)
  let s1 := match guard with
    | some (t, k) => s.raiseWall w 2 0 [flowNo w f, t, k]
    | none => s
  let s2 := match lim with
    | some t => s1.raiseWall w 2 1 [flowNo w f, t, 0]
    | none => s1
  ts.foldl (fun (a : State) t =>
    let x := a.tile w t
    match x.bankOf f with
    | none => a
    | some b =>
      let c := x.bank b
      let c1 := (List.range 16).foldl (fun (c : Ctx) k =>
        let r := c.brick k
        c.setBrick k { r with acc0 := { r.acc0 with g := false, tv := false }, acc1 := { r.acc1 with g := false, tv := false },
                              v := false, dz := false }) c
      a.setTile w t (x.setBank b { c1 with explim := false })) s2

/-- FPOWN becomes invalid when its owner completes (R158). -/
def State.dropFp (s : State) (w f : Nat) : State :=
  (s.tileSet w f).foldl (fun (a : State) t =>
    let x := a.tile w t
    if x.fpown = some f then a.setTile w t { x with fpown := none, f := [], fpstat := 0 } else a) s

/-- Operations of a flow in flight on its tiles complete (R21). -/
def State.drainTiles (s : State) (w f : Nat) : State :=
  (s.tileSet w f).foldl (fun (a : State) t => match (a.tile w t).bankOf f with
    | some b => a.drainBank w t b
    | none => a) s

/-- The resume PC of a flow becomes `entry_pc` on every tile (R183). -/
def State.rewind (s : State) (w f : Nat) : State :=
  (s.tileSet w f).foldl (fun (a : State) t =>
    let x := a.tile w t
    match x.bankOf f with
    | some b => a.setTile w t (x.setBank b { (x.bank b) with pc := a.entryPc w f })
    | none => a) s

/-- The ends of parts that a flow's tiles have marked are forgotten, on cold tiles too. -/
def State.clearMarks (s : State) (w f : Nat) : State :=
  (s.tileSet w f).foldl (fun (a : State) t =>
    let x := a.tile w t
    match x.bankOf f with
    | some b => a.setTile w t (x.setBank b { (x.bank b) with mark := .none })
    | none => a) (s.setFlow w f { (s.flow w f) with parked := [] })

/-- A flow completes (R183). The flags of operations still in flight at the last DONE belong to the run (DESIGN CHOICE, log
entry 124). -/
def State.complete (s : State) (w f : Nat) : State :=
  let s1 := ((((s.drainTiles w f).completionChecks w f).rewind w f).dropFp w f)
  let s2 := (s1.wrapFl (R.FD_STAT w f) F.FD_STAT_runs).clearMarks w f
  let again := s2.fl (R.FD_CTRL w f) F.FD_CTRL_pending = 1
  let x := s2.flow w f
  let s3 := s2.setFlow w f { x with resume := false, illSeen := false, nextSched := (if again then x.pendSched else none),
                                    pendSched := none, lastRan := s2.tick,
                                    trigTick := (if again then x.pendTick else x.trigTick) }
  let s4 := (s3.setFstate w f (if again then 3 else 2)).setFl (R.FD_CTRL w f) F.FD_CTRL_pending 0
  let s5 := (s4.stopOnTiles w f).wakeFlows w 3 f
  s5.eagerAll w f

/-- YIELD and WAITE on every tile of the set (R183, R184). -/
def State.endPart (s : State) (w f : Nat) (waits : Bool) : State :=
  let s1 := s.clearMarks w f
  let x := s1.flow w f
  let taken := waits && s1.fl (R.FD_CTRL w f) F.FD_CTRL_pending = 1
  let s2 := s1.setFlow w f { x with resume := true, lastRan := s1.tick, nextSched := (if taken then x.pendSched else none)
                                    trigTick := (if taken then x.pendTick else x.trigTick)
                                    pendSched := (if taken then none else x.pendSched) }
  let pend := s2.fl (R.FD_CTRL w f) F.FD_CTRL_pending = 1
  let s3 := if waits then
      if pend then (s2.setFstate w f 3).setFl (R.FD_CTRL w f) F.FD_CTRL_pending 0 else s2.setFstate w f 5
    else s2.setFstate w f 3
  let s4 := s3.stopOnTiles w f
  if waits then s4.eagerAll w f else s4

/-- A tile has marked the end of its part: when every tile has, the flow completes or gives up its tiles (R122, R184). -/
def State.markTile (s : State) (w t f : Nat) (m : Mark) : State :=
  let x := s.tile w t
  match x.bankOf f with
  | none => s
  | some b =>
    let s1 := s.setTile w t (x.setBank b { (x.bank b) with mark := m })
    let marks := (s1.tileSet w f).map (fun i => match (s1.tile w i).bankOf f with
      | some bb => ((s1.tile w i).bank bb).mark
      | none => Mark.none)
    if marks.all (fun k => k = .done) then s1.complete w f
    else if marks.all (fun k => k = .yield || k = .waite) then s1.endPart w f (marks.any (fun k => k = .waite))
    else s1

/-- The first two conditions of R84's way protection: a pre-stage refill has ended, or was found cached. -/
def Tile.fastEntryRegs (x : Tile) (f d spilled : Nat) (under : Bool) : Tile :=
  let c := x.cf
  { x with cf := ((((c.setReg .fast 0 (BitVec.ofNat 32 f)).setReg .fast 1 (BitVec.ofNat 32 d)).setReg .fast 2
      (BitVec.ofNat 32 spilled)).setReg .fast 3 (BitVec.ofNat 32 (b2n under))) }

/-- The long command that a self-test is. -/
def SelfTest.is (t : SelfTest) (l : LongCmd) : Bool := l.op = 32 && l.ctx.handle = t.handle && l.console = t.console

/-- The self-tests in progress. -/
def State.runningTests (s : State) : List SelfTest := s.service.tests.filter (fun t => s.longs.any (fun l => t.is l && l.done.isNone))

/-- Whether a self-test in progress refuses packets for an endpoint: its scope is a tile, a course, a device or the
wall (R537, R538). -/
def State.testShuts (s : State) (w r j : Nat) : Bool :=
  s.runningTests.any (fun t => t.wall = w &&
    (match t.num with
      | 1 => decide (r < 16) && r * 8 + j = t.a
      | 3 => decide (r < 16) && r * 8 + j = t.a
      | 2 => decide (r < 16) && r = t.a
      | 5 => r = 16 + t.a && j = 0
      | 8 => true
      | _ => false))

end Sys2Proof.Machine
end

