-- ==== Sys2Proof/Machine/MemOps.lean ====
section
/-!
DEFINITION. Machine/MemOps.lean: access tables (R321 to R323), and wipes of the secure bank (R332, R333).
-/
namespace Sys2Proof.Machine
open Sys2Proof

/-! ### Access tables (R321, R322) -/
/-- Entry of master `m` in a table whose ACC_A register is at `a`. -/
def State.accEntry (s : State) (a m : Nat) : Nat := nbits (s.rd (a + 4 * (m / 16))).toNat (2 * (m % 16)) 2

/-- Whether a bank's table lets a master read or write; lease of the region apart. -/
def State.sramAllows (s : State) (w b m : Nat) (write : Bool) : Bool :=
  let e := s.accEntry (R.SRAM_ACC_A w b) m
  if b = 7 then false
  else if b ≤ 1 then !write && (e = 1 || e = 2)
  else if write then e = 2 else (e = 1 || e = 2)

/-- Whether some valid lease of a master on a wall satisfies `p` (of the lease's number). -/
def State.hasLease (s : State) (w m : Nat) (p : Nat → Bool) : Bool :=
  (List.range 16).any (fun l =>
    s.fl (R.LS_CTRL w l) F.LS_CTRL_valid = 1 && s.fl (R.LS_CTRL w l) F.LS_CTRL_holder = m && p l)

/-- A write to bank 4 or 5 needs a lease of every region that it touches (R322). -/
def State.regionLease (s : State) (w b m off n : Nat) : Bool :=
  let o := (b - 4) * 0x400000 + off
  let lo := o / 0x80000
  let hi := (o + n - 1) / 0x80000
  (List.range 16).all (fun r => !(decide (lo ≤ r) && decide (r ≤ hi)) ||
    s.hasLease w m (fun l => nbit (s.fl (R.LS_SRAM w l) F.LS_SRAM_regions) r))

/-- A denied access to a bank is counted, recorded and reported (R323). -/
def State.sramDeny (s : State) (w b m off : Nat) (write : Bool) : State :=
  let s1 := s.bump (R.SRAM_DENY_COUNT w)
  if s1.fl (R.SRAM_EVENT w) F.SRAM_EVENT_denied = 1 then s1
  else
    let s2 := (s1.wr (R.SRAM_DENY_INFO w) (BitVec.ofNat 32 (m + b * 64 + b2n write * 512))).wr (R.SRAM_DENY_ADDR w)
      (BitVec.ofNat 32 (off % 0x400000))
    (s2.setFl (R.SRAM_EVENT w) F.SRAM_EVENT_denied 1).raiseWall w 17 0 [m, b, off, b2n write]

/-! ### The secure bank -/
/-- The wipe of bank 7 starts (R333). A wipe in progress goes on. -/
def State.startWipe (s : State) (w cause : Nat) : State :=
  let x := s.wall w
  if x.wipe.isSome then s
  else (s.setWall w { x with wipe := some cause, wipeAt := x.cycle }).setFl (R.SEC_STATUS w) F.SEC_STATUS_wiping 1

/-- Zeros in a range of a byte store: entries of the range are dropped, an unlisted byte being 0. -/
def zeroRange (m : List Host.Cell) (lo n : Nat) : List Host.Cell :=
  m.filter (fun e => decide (e.1 < lo) || decide (lo + n ≤ e.1))

def zeroMarks (m : Sp Nat) (lo n : Nat) : Sp Nat := m.filter (fun e => decide (e.1 < lo) || decide (lo + n ≤ e.1))

/-- A whole bank reads zero with valid codes. -/
def State.zeroBank (s : State) (w b : Nat) : State :=
  { s with sram := zeroRange s.sram (sramKey w b 0) 0x400000, sramErr := zeroMarks s.sramErr (sramKey w b 0 / 8) 0x80000 }

end Sys2Proof.Machine
end

