-- ==== Sys2Proof/Machine/Access.lean ====
section
/-!
DEFINITION. Machine/Access.lean: the checks that a register access passes before it acts (R3, R10, R409 to R415, R460,
R516, R544) and the shape of a row that writes a register.
-/
namespace Sys2Proof.Machine
open Sys2Proof

/-- The phase of a wall (R456): 0 OFF, 1 RESET, 2 LOCK, 3 LOAD, 4 REPLAY, 5 RELEASE, 6 READY, 7 FAILED. -/
def State.phase (s : State) (w : Nat) : Nat := s.fl (R.KILN_STATUS w) F.KILN_STATUS_phase
def State.setPhase (s : State) (w p : Nat) : State := s.setFl (R.KILN_STATUS w) F.KILN_STATUS_phase p
def State.isReady (s : State) (w : Nat) : Bool := s.phase w = 6

/-- The wall power state (R514, R527): 0 ON, 1 STANDBY, 2 OFF, 3 changing. -/
def State.wallPower (s : State) (w : Nat) : Nat := s.fl (R.WPWR_CTRL w) F.WPWR_CTRL_state

/-- A wall in STANDBY or OFF (R516). -/
def State.wallOff (s : State) (w : Nat) : Bool := s.wallPower w = 1 || s.wallPower w = 2

/-- The master ID of a host request (R410, R411): the group whose valid HG_MAP entry holds its PASID, else the group of
its BAR2 copy, or group 0 through BAR0. A row of a host access carries the master that this gives. -/
def State.hostMaster (s : State) (pasid bar2 : Option Nat) : Nat :=
  let byPasid (p : Nat) : Option Nat :=
    (List.range 32).find? (fun g => s.fl (R.HG_MAP g) F.HG_MAP_valid = 1 && s.fl (R.HG_MAP g) F.HG_MAP_pasid = p)
  ((pasid.bind byPasid).orElse (fun _ => bar2)).getD 0

/-- Number k of a wall block in the access tables (R438), from the block's number in the wall's region. -/
def wallTable (b : Nat) : Nat := if b ≤ 8 then b else if b = 9 then 8 else if b = 10 then 9 else if b = 15 then 10 else 11

/-- The address of the ACC_A register of the table that governs a register (R412, R413). -/
def tableAddr (a : Nat) : Nat :=
  match wallOfAddr a with
  | some (w, o) =>
    if o / 0x10000 = 8 then R.LK_ACC_A (16 * w + (o - 0x80000) / 0x1000)
    else R.WB_ACC_A w (wallTable (o / 0x10000))
  | none => R.RB_ACC_A (a / 0x10000)

/-- SQ_DB and CQ_DB are checked against the queue's `mid`, with group 0 always allowed (R413). -/
def doorbellQueue (a : Nat) : Option Nat := if 0x18000 ≤ a && a < 0x18200 then some ((a - 0x18000) / 8) else none

/-- Whether the tables let a master access a register (R412, R413). -/
def State.tableAllows (s : State) (m a : Nat) (write : Bool) : Bool :=
  match doorbellQueue a with
  | some q => m = 0 || s.fl (R.SQ_CFG q) F.SQ_CFG_mid = m
  | none =>
    let e := s.accEntry (tableAddr a) m
    if write then e = 2 else (e = 1 || e = 2)

/-- The tables, their lock and HG_MAP are written by master 0 only (R412). -/
def masterZeroOnly (a : Nat) : Bool := (0x70000 ≤ a && a < 0x71800) || (0x76000 ≤ a && a < 0x76080)

/-- The state of a wall's domain at the crossing switch (R309). -/
def wallState (s : State) (w : Nat) : Nat := s.fl R.XS_WSTATE ⟨2 * w, 2⟩

/-- The switch's answer to an access of a hub master to a wall's registers (R16, R19, R308): a wall that is closing refuses
it, and so does a route that the tables have withdrawn. A wall in STANDBY or OFF is treated as R516 lays down. -/
def State.crossing (s : State) (m w : Nat) : Nat :=
  if 40 ≤ m then 0
  else if wallState s w = 2 then stDomainOff
  else if !nbit (s.fl (R.XS_ROUTE (s.fl R.XS_EPOCH F.XS_EPOCH_cur) (if m < 32 then 8 else 9)) F.XS_ROUTE_open) w then stRouteWithdrawn
  else 0

/-- The status that the general checks give an access: 0 when it may act. -/
def State.regCheck (s : State) (m a : Nat) (write : Bool) : Nat :=
  if a % 4 ≠ 0 || 0x4000000 ≤ a then stBadArg
  else match wallOfAddr a with
    | some (w, o) =>
      let b := o / 0x10000
      if !s.populated w then stAccessDenied
      else if !s.tableAllows m a write then stAccessDenied
      else if s.crossing m w ≠ 0 then s.crossing m w
      else if write && s.service.safe then stDomainOff
      else if write && s.wallOff w then stDomainOff
      else if write && !s.isReady w && b ≠ 2 && b ≠ 3 && b ≠ 15 then stWallLoading
      else 0
    | none =>
      if !s.tableAllows m a write then stAccessDenied
      else if write && masterZeroOnly a && m ≠ 0 then stAccessDenied
      else if write && s.service.safe && a / 0x10000 ≠ 4 && a / 0x10000 ≠ 9 && a / 0x10000 ≠ 7 then stDomainOff
      else 0

/-- A register write: the general checks, then the register's own effect, which changes nothing unless it is OK (a
doorbell apart, which records a bad tail, R422). A module without its supply answers nothing. -/
def State.regWrite (s : State) (m a : Nat) (eff : State → State × Nat) : State :=
  let st := s.regCheck m a true
  if !s.powered then s
  else if st ≠ 0 then s.answer m a true st 0
  else
    let r := eff s
    if r.2 = 0 then r.1.answer m a true 0 0
    else if (doorbellQueue a).isSome then r.1.answer m a true r.2 0
    else s.answer m a true r.2 0

/-- A row that writes a register. -/
def regRow (s : State) (m : Mid) (a : Nat) (eff : State → State × Nat) : Out := .next (s.regWrite m.toNat a eff)

/-- The plain effect of a write (R13). -/
def State.plain (s : State) (a : Nat) (v : Word) : State :=
  match regDef a with
  | some d => s.wr a (plainWrite d (s.rd a) v)
  | none => s

/-- An effect that changes nothing and completes with a status. -/
def refuse (s : State) (st : Nat) : State × Nat := (s, st)

/-! ### Claims (R415) -/
def claimPin (w p : Nat) : Nat := R.CLAIM w p
def claimAcu (w u : Nat) : Nat := R.CLAIM w (24 + u)
def claimLink (w n : Nat) : Nat := R.CLAIM w (40 + n)
def claimCap (w : Nat) : Nat := R.CLAIM w 56

def State.claimed (s : State) (a : Nat) : Bool := s.fl a F.CLAIM_held = 1
def State.holds (s : State) (a m : Nat) : Bool := s.claimed a && s.fl a F.CLAIM_holder = m

end Sys2Proof.Machine
end

