-- ==== Sys2Proof/Machine/Fp.lean ====
section
/-!
DEFINITION. Machine/Fp.lean: the fp32 unit (R154, R155): exact arithmetic on integers, then one rounding to nearest
with ties to even, subnormal inputs and results flushed to zero with the sign kept.
-/
namespace Sys2Proof.Machine
open Sys2Proof

/-- The value of an F register: a finite value is (-1)^s * m * 2^e with m > 0. -/
inductive FVal where
  | nan (signaling : Bool)
  | inf (s : Bool)
  | zero (s : Bool)
  | fin (s : Bool) (m : Nat) (e : Int)
  deriving DecidableEq, Repr

def fpDecode (w : Word) : FVal :=
  let x := w.toNat
  let s := nbit x 31
  let ex := nbits x 23 8
  let m := nbits x 0 23
  if ex = 255 then (if m = 0 then .inf s else .nan (!nbit m 22))
  else if ex = 0 then .zero s
  else .fin s (m + 8388608) ((ex : Int) - 150)

/-- The result of an fp32 operation: the word, the flags it raises, and flags that the spec leaves open. Flag bits are
those of FPSTAT: 0 invalid, 1 divzero, 2 overflow, 3 underflow, 4 inexact. -/
structure FpRes where
  r : Word
  flags : BitVec 5 := 0
  maybe : BitVec 5 := 0
  deriving DecidableEq, Repr

def fpNan : Word := 0x7FC00000
def fpSign (s : Bool) : Nat := if s then 2147483648 else 0
def fpInf (s : Bool) : Word := BitVec.ofNat 32 (fpSign s + 0x7F800000)
def fpZero (s : Bool) : Word := BitVec.ofNat 32 (fpSign s)

/-- The number of bits of a positive number (at most `k`). -/
def bitLen (x : Nat) : Nat → Nat
  | 0 => 0
  | k + 1 => if x = 0 then 0 else 1 + bitLen (x / 2) k

/-- Nearest, ties to even, of (m + tail) / 2^p, where `tail` says that a part below one unit is not 0. -/
def rne (m p : Nat) (tail : Bool) : Nat :=
  let q := m / 2 ^ p
  let r := 2 * (m % 2 ^ p)
  let d := 2 ^ p
  if r < d then q
  else if d < r || tail then q + 1
  else if q % 2 = 0 then q else q + 1

/-- The binary32 word of (-1)^s * (m + tail) * 2^e, m > 0 (R155). -/
def fpRound (s : Bool) (m : Nat) (e : Int) (tail : Bool) : FpRes :=
  let len := bitLen m 1024
  let p := len - 24
  let up := 24 - len
  let q0 := if 24 ≤ len then rne m p tail else m * 2 ^ up
  let e0 : Int := if 24 ≤ len then e + (p : Int) else e - (up : Int)
  let q := if q0 = 16777216 then 8388608 else q0
  let e1 := if q0 = 16777216 then e0 + 1 else e0
  let ex := e1 + 150
  let inexact := tail || (decide (24 ≤ len) && decide (m % 2 ^ p ≠ 0))
  if 255 ≤ ex then { r := fpInf s, flags := 0b10100 }
  else if ex ≤ 0 then { r := fpZero s, flags := 0b11000 }
  else { r := BitVec.ofNat 32 (fpSign s + ex.toNat * 8388608 + (q - 8388608)), flags := if inexact then 0b10000 else 0 }

def isSnan (v : FVal) : Bool := match v with | .nan q => q | _ => false
def isNan (v : FVal) : Bool := match v with | .nan _ => true | _ => false

/-- A NaN result of an operation on NaN operands; a signaling operand is invalid (IEEE 754). -/
def nanRes (vs : List FVal) : FpRes := { r := fpNan, flags := if vs.any isSnan then 1 else 0 }
def invalidRes : FpRes := { r := fpNan, flags := 1 }

def sgn (s : Bool) (m : Nat) : Int := if s then -(m : Int) else (m : Int)

/-- Exact sum of two finite values, rounded once. -/
def fpAddFin (s1 : Bool) (m1 : Nat) (e1 : Int) (s2 : Bool) (m2 : Nat) (e2 : Int) : FpRes :=
  let e := min e1 e2
  let x := sgn s1 (m1 * 2 ^ (e1 - e).toNat) + sgn s2 (m2 * 2 ^ (e2 - e).toNat)
  if x = 0 then { r := fpZero false } else fpRound (decide (x < 0)) x.natAbs e false

def FVal.neg : FVal → FVal
  | .nan q => .nan q
  | .inf s => .inf (!s)
  | .zero s => .zero (!s)
  | .fin s m e => .fin (!s) m e

def fpAddV (a b : FVal) : FpRes :=
  match a, b with
  | .nan p, v => nanRes [.nan p, v]
  | v, .nan p => nanRes [v, .nan p]
  | .inf s, .inf t => if s = t then { r := fpInf s } else invalidRes
  | .inf s, _ => { r := fpInf s }
  | _, .inf t => { r := fpInf t }
  | .zero s, .zero t => { r := fpZero (s && t) }
  | .zero _, .fin t m e => fpRound t m e false
  | .fin s m e, .zero _ => fpRound s m e false
  | .fin s m e, .fin t n f => fpAddFin s m e t n f

/-- The exact product as a value; `none` for an invalid product. -/
def fpMulV (a b : FVal) : Option FVal :=
  match a, b with
  | .nan q, _ => some (.nan q)
  | _, .nan q => some (.nan q)
  | .inf _, .zero _ => none
  | .zero _, .inf _ => none
  | .inf s, .inf t => some (.inf (s != t))
  | .inf s, .fin t _ _ => some (.inf (s != t))
  | .fin s _ _, .inf t => some (.inf (s != t))
  | .zero s, .zero t => some (.zero (s != t))
  | .zero s, .fin t _ _ => some (.zero (s != t))
  | .fin s _ _, .zero t => some (.zero (s != t))
  | .fin s m e, .fin t n f => some (.fin (s != t) (m * n) (e + f))

def fpMul (x y : Word) : FpRes :=
  let a := fpDecode x
  let b := fpDecode y
  if isNan a || isNan b then nanRes [a, b]
  else match fpMulV a b with
    | none => invalidRes
    | some (.inf s) => { r := fpInf s }
    | some (.zero s) => { r := fpZero s }
    | some (.fin s m e) => fpRound s m e false
    | some (.nan _) => invalidRes

def fpAdd (x y : Word) : FpRes := fpAddV (fpDecode x) (fpDecode y)
def fpSub (x y : Word) : FpRes := fpAddV (fpDecode x) (fpDecode y).neg

/-- FMA: x y + z, rounded once. An infinity times zero with a quiet NaN addend gives the NaN and raises no invalid flag; R155
does not say (DESIGN CHOICE, log entry 131). -/
def fpFma (x y z : Word) : FpRes :=
  let a := fpDecode x
  let b := fpDecode y
  let c := fpDecode z
  if isNan a || isNan b || isNan c then nanRes [a, b, c]
  else match fpMulV a b with
    | none => invalidRes
    | some p => fpAddV p c

/-- Whether one value is below another; neither is a NaN. -/
def fpLt (a b : FVal) : Bool :=
  match a, b with
  | .inf s, .inf t => s && !t
  | .inf s, _ => s
  | _, .inf t => !t
  | .zero _, .zero _ => false
  | .zero _, .fin t _ _ => !t
  | .fin s _ _, .zero _ => s
  | .fin s m e, .fin t n f =>
    let k := min e f
    decide (sgn s (m * 2 ^ (e - k).toNat) < sgn t (n * 2 ^ (f - k).toNat))
  | _, _ => false

def fpEq (a b : FVal) : Bool := !isNan a && !isNan b && !fpLt a b && !fpLt b a

/-- An F register's value as a word: subnormals flushed, every NaN the one NaN (R155). -/
def fpCanon (x : Word) : Word :=
  match fpDecode x with
  | .nan _ => fpNan
  | .inf s => fpInf s
  | .zero s => fpZero s
  | .fin _ _ _ => x

/-- FMIN and FMAX. Of two zeros of opposite sign, and of a NaN and a number, the spec does not say which is delivered. -/
def fpPick (x y : Word) (max : Bool) (zsign pick : BitVec 1) : FpRes :=
  let a := fpDecode x
  let b := fpDecode y
  let fl : BitVec 5 := if isSnan a || isSnan b then 1 else 0
  if isNan a && isNan b then { r := fpNan, flags := fl }
  else if isNan a then { r := if pick = 1 then fpCanon y else fpNan, flags := fl }
  else if isNan b then { r := if pick = 1 then fpCanon x else fpNan, flags := fl }
  else if fpLt a b then { r := fpCanon (if max then y else x) }
  else if fpLt b a then { r := fpCanon (if max then x else y) }
  else match a, b with
    | .zero s, .zero t => { r := fpZero (if s = t then s else decide (zsign = 1)) }
    | _, _ => { r := fpCanon x }

/-- The integer square root, bit by bit from bit k - 1. -/
def isqrt (n : Nat) : Nat → Nat → Nat
  | 0, r => r
  | k + 1, r => if (r + 2 ^ k) * (r + 2 ^ k) ≤ n then isqrt n k (r + 2 ^ k) else isqrt n k r

def fpDiv (x y : Word) : FpRes :=
  match fpDecode x, fpDecode y with
  | .nan p, v => nanRes [.nan p, v]
  | v, .nan p => nanRes [v, .nan p]
  | .inf _, .inf _ => invalidRes
  | .zero _, .zero _ => invalidRes
  | .inf s, .zero t => { r := fpInf (s != t) }
  | .inf s, .fin t _ _ => { r := fpInf (s != t) }
  | .fin s _ _, .zero t => { r := fpInf (s != t), flags := 0b00010 }
  | .zero s, .inf t => { r := fpZero (s != t) }
  | .zero s, .fin t _ _ => { r := fpZero (s != t) }
  | .fin s _ _, .inf t => { r := fpZero (s != t) }
  | .fin s m e, .fin t n f =>
    let a := m * 2 ^ 40
    fpRound (s != t) (a / n) (e - f - 40) (decide (a % n ≠ 0))

def fpSqrt (x : Word) : FpRes :=
  match fpDecode x with
  | .nan p => nanRes [.nan p]
  | .zero s => { r := fpZero s }
  | .inf s => if s then invalidRes else { r := fpInf false }
  | .fin s m e =>
    if s then invalidRes
    else
      let k : Nat := if e % 2 = 0 then 40 else 41
      let a := m * 2 ^ k
      let r := isqrt a 40 0
      fpRound false r ((e - k) / 2) (decide (r * r ≠ a))

/-- A finite value times 2^k rounded to an integer, and whether it was inexact. -/
def fpToInt (v : FVal) (k : Nat) : Int × Bool :=
  match v with
  | .fin s m e =>
    let p := e + (k : Int)
    if 0 ≤ p then (sgn s (m * 2 ^ (min p.toNat 200)), false)
    else
      let d := min (-p).toNat 400
      (sgn s (rne m d false), decide (m % 2 ^ d ≠ 0))
  | _ => (0, false)

/-- FTOQ and FTOI: rounded and saturated to [lo, hi]; a NaN gives 0 and invalid (R155). Which flags a saturation raises
is not stated. -/
def fpConv (x : Word) (k : Nat) (lo hi : Int) : FpRes :=
  match fpDecode x with
  | .nan _ => { r := 0, flags := 1 }
  | .inf s => { r := w32 (if s then lo else hi), maybe := 0b10101 }
  | .zero _ => { r := 0 }
  | v =>
    let i := fpToInt v k
    if i.1 < lo then { r := w32 lo, maybe := 0b10101 }
    else if hi < i.1 then { r := w32 hi, maybe := 0b10101 }
    else { r := w32 i.1, flags := if i.2 then 0b10000 else 0 }

/-- QTOF and ITOF: the float nearest to n / 2^k. -/
def fpOfInt (n : Int) (k : Nat) : FpRes :=
  if n = 0 then { r := 0 } else fpRound (decide (n < 0)) n.natAbs (-(k : Int)) false

end Sys2Proof.Machine
end

