-- ==== Sys2Proof/Machine/Flags.lean ====
section
/-!
DEFINITION. Machine/Flags.lean: the scalar flags of the tile sequencer (R126, R146, R147, R154) and the condition codes
(R143).
-/
namespace Sys2Proof.Machine
open Sys2Proof

/-- A scalar result with the carry and overflow of its operation (R146). -/
structure AluRes where
  r : Word
  sc : Bool := false
  sv : Bool := false
  deriving DecidableEq, Repr

/-- a + b: carry out and signed overflow. -/
def addRes (a b : Word) : AluRes :=
  { r := a + b, sc := decide (4294967296 ≤ a.toNat + b.toNat)
    sv := decide (a.toInt + b.toInt < -2147483648) || decide (2147483647 < a.toInt + b.toInt) }

/-- a - b: no borrow and signed overflow. -/
def subRes (a b : Word) : AluRes :=
  { r := a - b, sc := decide (b.toNat ≤ a.toNat)
    sv := decide (a.toInt - b.toInt < -2147483648) || decide (2147483647 < a.toInt - b.toInt) }

/-- The flags `sz`, `sn`, `sc`, `sv` of a result. -/
def Ctx.setFlags (c : Ctx) (x : AluRes) : Ctx :=
  { c with sz := decide (x.r = 0), sn := decide (x.r.toInt < 0), sc := x.sc, sv := x.sv }

/-- A shift's last bit shifted out; with a count of 0 nothing is shifted out and R146 states no value (a free value). -/
def lastOut (a : Word) (n : Nat) (left : Bool) (free : BitVec 1) : Bool :=
  if n = 0 then decide (free = 1) else if left then nbit a.toNat (32 - n) else nbit a.toNat (n - 1)

def shlRes (a b : Word) (free : BitVec 1) : AluRes :=
  { r := a <<< (b.toNat % 32), sc := lastOut a (b.toNat % 32) true free }
def shrRes (a b : Word) (free : BitVec 1) : AluRes :=
  { r := a >>> (b.toNat % 32), sc := lastOut a (b.toNat % 32) false free }
def sraRes (a b : Word) (free : BitVec 1) : AluRes :=
  { r := a.sshiftRight (b.toNat % 32), sc := lastOut a (b.toNat % 32) false free }

/-- The condition that a code names (R143); the codes from 0xB on are reserved. -/
def Ctx.condHolds (c : Ctx) (k : Cond4) : Bool :=
  match k.toNat with
  | 0 => true
  | 1 => c.sz
  | 2 => !c.sz
  | 3 => c.sn != c.sv
  | 4 => c.sn == c.sv
  | 5 => !c.sc
  | 6 => c.sc
  | 7 => !c.sz && (c.sn == c.sv)
  | 8 => c.sz || (c.sn != c.sv)
  | 9 => c.tp
  | 10 => !c.tp
  | _ => false

def condLegal (k : Cond4) : Bool := decide (k.toNat ≤ 10)

end Sys2Proof.Machine
end

