-- ==== Sys2Proof/Machine/Operands.lean ====
section
/-!
DEFINITION. Machine/Operands.lean: the operand forms of the tile sequencer: general registers by code (R123), the values
an address-unit instruction takes (R148), circular steps (R165 to R167), bus sources (R159), taps, latches and brick
flags as an instruction of a cycle reads them, and the special registers (R127).
-/
namespace Sys2Proof.Machine
open Sys2Proof

def State.ctx (s : State) (w t : Nat) (b : Bank) : Ctx := (s.tile w t).bank b

def State.onCtx (s : State) (w t : Nat) (b : Bank) (g : Ctx → Ctx) : State :=
  let x := s.tile w t
  s.setTile w t (x.setBank b (g (x.bank b)))

/-! ### What an instruction of cycle n reads of the datapath (R63, R98, R151) -/
def Tile.tapAt (x : Tile) (n k : Nat) : W24 := Sp.getD (if x.patCyc = some n then x.tapsPrev else x.taps) k 0
def Tile.latchAt (x : Tile) (n q : Nat) : W24 :=
  BitVec.ofNat 24 (Sp.getD (if x.patCyc = some n then x.latchPrev else x.latch) q 0).toNat
/-- The context that holds the brick flags and the exponent as they stood at the end of the previous cycle. -/
def Tile.flagCtx (x : Tile) (b : Bank) (n : Nat) : Ctx := if x.patCyc = some n then x.ctxPrev else x.bank b

/-- A vector of one flag of the 16 bricks. -/
def flagVec (c : Ctx) (p : BrickRec → Bool) : Nat :=
  ((List.range 16).map (fun k => if p (c.brick k) then 2 ^ k else 0)).foldl (· + ·) 0

/-- FLAG_Z, FLAG_N, FLAG_P, FLAG_V, FLAG_G, FLAG_TV, FLAG_DZ (R127), in that order. -/
def flagSel (k : Nat) (r : BrickRec) : Bool :=
  match k with
  | 0 => r.z
  | 1 => r.n
  | 2 => r.p
  | 3 => r.v
  | 4 => r.acc0.g || r.acc1.g
  | 5 => r.acc0.tv || r.acc1.tv
  | _ => r.dz

/-! ### Address unit (R125, R148) -/
def Ctx.ptr (c : Ctx) (k : Nat) : BitVec 16 := Sp.getD c.p k 0
def Ctx.base (c : Ctx) (k : Nat) : BitVec 16 := Sp.getD c.b k 0
def Ctx.len (c : Ctx) (k : Nat) : BitVec 16 := Sp.getD c.l k 0
def Ctx.shadow (c : Ctx) (k : Nat) : BitVec 16 := Sp.getD c.lsh k 0
def Ctx.modif (c : Ctx) (m : Nat) : BitVec 16 := Sp.getD c.m m 0
def Ctx.setPtr (c : Ctx) (k : Nat) (v : BitVec 16) : Ctx := { c with p := Sp.set c.p k v 0 }
def Ctx.setBase (c : Ctx) (k : Nat) (v : BitVec 16) : Ctx := { c with b := Sp.set c.b k v 0 }
def Ctx.setLen (c : Ctx) (k : Nat) (v : BitVec 16) : Ctx := { c with l := Sp.set c.l k v 0 }
def Ctx.setShadow (c : Ctx) (k : Nat) (v : BitVec 16) : Ctx :=
  { c with lsh := Sp.set c.lsh k v 0, lpend := BitVec.ofNat 8 (setNbit c.lpend.toNat k true) }
def Ctx.setModif (c : Ctx) (m : Nat) (v : BitVec 16) : Ctx := { c with m := Sp.set c.m m v 0 }
def Ctx.pendShadow (c : Ctx) (k : Nat) : Bool := nbit c.lpend.toNat k
def Ctx.clearShadow (c : Ctx) (k : Nat) : Ctx := { c with lpend := BitVec.ofNat 8 (setNbit c.lpend.toNat k false) }

/-- AGCFG field `sel`k. -/
def Ctx.selOf (c : Ctx) (k : Nat) : Nat := nbits c.agcfg.toNat (2 * k) 2

/-- The value v of an AGU instruction (R148): imm14 zero-extended, or `reg`[15:0]. -/
def aguV (c : Ctx) (b : Bank) (f : AguF) : BitVec 16 :=
  if f.i then BitVec.ofNat 16 f.imm.toNat else BitVec.ofNat 16 (c.reg b f.reg.toNat).toNat
/-- The value v with imm14 sign-extended (LDM). -/
def aguVs (c : Ctx) (b : Bank) (f : AguF) : BitVec 16 :=
  if f.i then f.imm.signExtend 16 else BitVec.ofNat 16 (c.reg b f.reg.toNat).toNat

/-- An offset wrapped once by a length, then folded (R165): the offset, whether it left the buffer, whether it folded. -/
def wrapOnce (o len : Int) : Int × Bool × Bool :=
  let out := decide (o < 0) || decide (len ≤ o)
  let o1 := if len ≤ o then o - len else if o < 0 then o + len else o
  if o1 < 0 || len ≤ o1 then (o1 % len, out, true) else (o1, out, false)

/-- A circular step of Pk by m (R165, R166). -/
def Ctx.stepPtr (c : Ctx) (k : Nat) (m : Int) : Ctx :=
  let len : Int := (c.len k).toNat
  let base : Int := (c.base k).toNat
  let o : Int := (c.ptr k).toNat - base + m
  let linear : Int := ((c.ptr k + BitVec.ofInt 16 m).toNat : Int) - base
  let r : Int × Bool × Bool := if len = 0 then (linear, true, false) else wrapOnce o len
  let c1 := { (c.setPtr k (BitVec.ofInt 16 (base + r.1))) with aoob := c.aoob || r.2.2 }
  if c.pendShadow k && r.2.1 then
    let nl : Int := (c.shadow k).toNat
    let c2 := (c1.setLen k (c.shadow k)).clearShadow k
    if nl ≠ 0 && (decide (r.1 < 0) || decide (nl ≤ r.1)) then
      { (c2.setPtr k (BitVec.ofInt 16 (base + r.1 % nl))) with aoob := true }
    else c2
  else c1

/-- LDLI (R167): the length at once; a non-zero one folds Pk. -/
def Ctx.lengthNow (c : Ctx) (k : Nat) (v : BitVec 16) : Ctx :=
  let c1 := (c.setLen k v).clearShadow k
  if v = 0 then c1
  else
    let base : Int := (c.base k).toNat
    c1.setPtr k (BitVec.ofInt 16 (base + (((c.ptr k).toNat : Int) - base) % (v.toNat : Int)))

/-! ### Operand buses (R159) -/
def busByte (c : Ctx) (i : Nat) : Nat := nbits c.buscfg.toNat (8 * i) 8
def busKind (c : Ctx) (i : Nat) : Nat := busByte c i / 32

/-- Whether a load of bus i (0 A, 1 B, 2 C) from its BUSCFG source takes place. -/
def busLegal (c : Ctx) (i : Nat) : Bool := decide (busKind c i ≤ 4) && !(busKind c i = 3 && decide (i ≠ 2))

/-- The value that a load of bus i takes in cycle n. -/
def busValue (x : Tile) (b : Bank) (n i : Nat) : W24 :=
  let c := x.bank b
  let ix := busByte c i % 32
  match busKind c i with
  | 0 => BitVec.ofNat 24 (c.reg b ix).toNat
  | 1 => x.tapAt n (ix % 4)
  | 2 => x.latchAt n (ix % 8)
  | 3 => BitVec.ofNat 24 (Sp.getD x.pmem c.csp.toNat 0).toNat
  | _ => 0

def Ctx.setBus (c : Ctx) (i : Nat) (v : W24) : Ctx :=
  match i with
  | 0 => { c with busA := v }
  | 1 => { c with busB := v }
  | _ => { c with busC := v }

/-- The bus actions and the steps of a PAT in one of its cycles (R144, R145). -/
def patActs (x : Tile) (b : Bank) (n : Nat) (f : PatF) : Ctx :=
  let c := x.bank b
  let act (i : Nat) (code : BitVec 2) (c1 : Ctx) : Ctx :=
    if code = 1 then c1.setBus i (busValue x b n i) else if code = 2 then c1.setBus i 0 else c1
  let c3 := act 2 f.bc (act 1 f.bb (act 0 f.ba c))
  let c4 := if f.bc = 1 && busKind c 2 = 3 then { c3 with csp := c3.csp + 1 } else c3
  (List.range 8).foldl (fun (a : Ctx) k =>
    if nbit f.step.toNat k then a.stepPtr k (c.modif (c.selOf k)).toInt else a) c4

/-- Whether every bus load of a PAT takes place. -/
def patLoadsLegal (c : Ctx) (f : PatF) : Bool :=
  (f.ba ≠ 1 || busLegal c 0) && (f.bb ≠ 1 || busLegal c 1) && (f.bc ≠ 1 || busLegal c 2)

def patLegal (f : PatF) : Bool := decide (f.ba ≠ 3) && decide (f.bb ≠ 3) && decide (f.bc ≠ 3) && condLegal f.cond

/-! ### Special registers (R127) -/
/-- FSW as an instruction of cycle n reads it. -/
def State.fswAt (s : State) (w t : Nat) (b : Bank) (n : Nat) : Word :=
  let x := s.tile w t
  let c := x.bank b
  let p := x.flagCtx b n
  let f := x.owner b
  { c with bexp := p.bexp, explim := p.explim }.fsw
    (match f with | some k => s.fixedFlow w k | none => false) (decide (b = Bank.fast)) (f.isSome && x.fpown = f)

/-- The value of special register k (RDS). FPSTAT is the tile's, whichever flow reads it (DESIGN CHOICE, log entry 125). -/
def State.special (s : State) (w t : Nat) (b : Bank) (n k : Nat) : Word :=
  let x := s.tile w t
  let c := x.bank b
  let vec (i : Nat) : Word := BitVec.ofNat 32 (flagVec (x.flagCtx b n) (flagSel i))
  match k with
  | 0x00 => s.fswAt w t b n
  | 0x01 => BitVec.ofNat 32 (c.depth % 65536 + c.wres % 16 * 65536)
  | 0x02 => (x.tapAt n 0).signExtend 32
  | 0x03 => (x.tapAt n 1).signExtend 32
  | 0x04 => (x.tapAt n 2).signExtend 32
  | 0x05 => (x.tapAt n 3).signExtend 32
  | 0x06 => vec 0
  | 0x07 => vec 1
  | 0x08 => vec 2
  | 0x09 => vec 3
  | 0x0A => vec 4
  | 0x0B => vec 5
  | 0x0C => vec 6
  | 0x0D => c.busA.setWidth 32
  | 0x0E => c.busB.setWidth 32
  | 0x0F => c.busC.setWidth 32
  | 0x10 => c.buscfg
  | 0x11 => c.agcfg
  | 0x12 => c.lpend.setWidth 32
  | 0x13 => c.csp.setWidth 32
  | 0x14 => BitVec.ofNat 32 (s.wtick w)
  | 0x15 => match x.tickHi with | some v => v | none => BitVec.ofNat 32 (s.wtick w / 4294967296)
  | 0x16 => match x.owner b with | some f => BitVec.ofNat 32 (flowNo w f) | none => 0
  | 0x17 => x.fpstat.setWidth 32
  | 0x18 => c.sendStat
  | 0x19 => c.saveDepth.setWidth 32
  | _ => 0

/-- What a read of a special register does beside returning its value (R11). -/
def State.specialRead (s : State) (w t k : Nat) : State :=
  let x := s.tile w t
  if k = 0x14 then s.setTile w t { x with tickHi := some (BitVec.ofNat 32 (s.wtick w / 4294967296)) }
  else if k = 0x15 then s.setTile w t { x with tickHi := none }
  else s

/-- A sequencer write of the flow-wide fields of FSW in cycle n, as the bank's context now holds them: it counts over the
changes of its cycle, and is on its way to the other tiles of the flow's set (R56, R121). -/
def State.tellWrite (s : State) (w t : Nat) (b : Bank) (n : Nat) : State :=
  let c := s.ctx w t b
  let m : FswMsg := { org := n, tile := t, chg := .write c.bexp c.rdef c.explim }
  let s1 := s.onCtx w t b (fun c => c.applyFsw m)
  match c.flow with
  | some f => s1.tellFsw w t f m
  | none => s1

/-- A write of special register k in cycle n (WRS); RO and reserved numbers ignore it. FPSTAT is the tile's, whichever flow
writes it: the swap of R157 is for FPU instructions (DESIGN CHOICE, log entry 125). -/
def State.setSpecial (s : State) (w t : Nat) (b : Bank) (n k : Nat) (v : Word) : State :=
  let on (g : Ctx → Ctx) : State := s.onCtx w t b g
  match k with
  | 0x00 => (on (fun c => c.setFsw v)).tellWrite w t b n
  | 0x0D => on (fun c => { c with busA := BitVec.ofNat 24 v.toNat })
  | 0x0E => on (fun c => { c with busB := BitVec.ofNat 24 v.toNat })
  | 0x0F => on (fun c => { c with busC := BitVec.ofNat 24 v.toNat })
  | 0x10 => on (fun c => { c with buscfg := BitVec.ofNat 32 (v.toNat % 16777216) })
  | 0x11 => on (fun c => { c with agcfg := BitVec.ofNat 32 (v.toNat % 65536) })
  | 0x13 => on (fun c => { c with csp := BitVec.ofNat 12 v.toNat })
  | 0x17 => s.setTile w t { (s.tile w t) with fpstat := BitVec.ofNat 5 v.toNat }
  | 0x18 => on (fun c => { c with sendStat := v })
  | _ => s

end Sys2Proof.Machine
end

