-- ==== Sys2Proof/Machine/SeqWord.lean ====
section
/-!
DEFINITION. Machine/SeqWord.lean: the 32-bit words of the tile sequencer (R142 to R154): which words are illegal, the
instruction that a word spells, and the word of an instruction. Bits that the layouts name reserved are not decoded
(R142 makes reserved codes and values illegal, not reserved bits; DEDUCED, log entry 118).
-/
namespace Sys2Proof.Machine
open Sys2Proof

/-! ### The fields of a word -/
def patFields (x : Nat) : PatF :=
  { slot := BitVec.ofNat 7 (nbits x 22 7), ba := BitVec.ofNat 2 (nbits x 20 2), bb := BitVec.ofNat 2 (nbits x 18 2)
    bc := BitVec.ofNat 2 (nbits x 16 2), step := BitVec.ofNat 8 (nbits x 8 8), hold := BitVec.ofNat 4 (nbits x 4 4)
    cond := BitVec.ofNat 4 (nbits x 0 4) }

def aluFields (x : Nat) : AluF :=
  { rd := BitVec.ofNat 5 (nbits x 19 5), ra := BitVec.ofNat 5 (nbits x 14 5), rb := BitVec.ofNat 5 (nbits x 9 5)
    cond := BitVec.ofNat 4 (nbits x 5 4), setf := nbit x 4 }

def aliFields (x : Nat) : AliF :=
  { rd := BitVec.ofNat 5 (nbits x 21 5), imm := BitVec.ofNat 16 (nbits x 5 16), setf := nbit x 4
    cond := BitVec.ofNat 4 (nbits x 0 4) }

def aguFields (x : Nat) : AguF :=
  { k := BitVec.ofNat 3 (nbits x 22 3), m := BitVec.ofNat 2 (nbits x 20 2), reg := BitVec.ofNat 5 (nbits x 15 5)
    i := nbit x 14, imm := BitVec.ofNat 14 (nbits x 0 14) }

/-- REP: `count` - 1 when `src` is 0, `ra` when it is 1; the field that the form does not have is 0. -/
def repFields (x : Nat) : RepF :=
  { src := nbit x 24, count := if nbit x 24 then 0 else BitVec.ofNat 12 (nbits x 12 12)
    ra := if nbit x 24 then BitVec.ofNat 5 (nbits x 19 5) else 0, fin := BitVec.ofNat 12 (nbits x 0 12) }

def tpFields (x : Nat) : TpF :=
  { flag := BitVec.ofNat 3 (nbits x 22 3), mode := BitVec.ofNat 2 (nbits x 20 2), mask := BitVec.ofNat 16 (nbits x 4 16)
    cond := BitVec.ofNat 4 (nbits x 0 4) }

def sendFields (x : Nat) : SendF :=
  { ra := BitVec.ofNat 5 (nbits x 19 5), rb := BitVec.ofNat 5 (nbits x 14 5), kind := BitVec.ofNat 2 (nbits x 2 2)
    len := BitVec.ofNat 3 (nbits x 4 3), gen := nbit x 7 }

def fpuFields (x : Nat) : FpuF :=
  { fd := BitVec.ofNat 4 (nbits x 20 4), fa := BitVec.ofNat 4 (nbits x 16 4), fb := BitVec.ofNat 4 (nbits x 12 4)
    fc := BitVec.ofNat 4 (nbits x 8 4), reg := BitVec.ofNat 5 (nbits x 3 5) }

/-! ### Illegal words (R142) -/
/-- Whether a 32-bit instruction word at address pc is illegal: a reserved class, operation code or field value. -/
def wordIllegalSeq (i : Word) (pc : Nat) : Bool :=
  let x := i.toNat
  let cond (lo : Nat) : Bool := decide (11 ≤ nbits x lo 4)
  match nbits x 29 3 with
  | 0 => nbits x 20 2 = 3 || nbits x 18 2 = 3 || nbits x 16 2 = 3 || cond 0
  | 1 => decide (0x12 ≤ nbits x 24 5) || cond 5
  | 2 => nbits x 26 3 = 7 || cond 0
  | 3 => decide (0xC ≤ nbits x 25 4)
  | 4 =>
    match nbits x 25 4 with
    | 0 | 1 | 2 | 3 => cond 21
    | 4 => decide (nbits x 0 12 < pc + 1)
    | 9 => nbits x 22 3 = 7 || nbits x 20 2 = 3 || cond 0
    | k => decide (0xC ≤ k)
  | 5 => decide (0xB ≤ nbits x 24 5) || (nbits x 24 5 = 8 && decide (2 ≤ nbits x 2 2))
  | 6 => decide (0x11 ≤ nbits x 24 5)
  | _ => true

/-! ### The instruction that a word spells -/
def decodeAlu (t : TileRef) (x : Nat) : Option Instr :=
  let f := aluFields x
  match nbits x 24 5 with
  | 0x00 => some (.aluAdd t f) | 0x01 => some (.aluSub t f) | 0x02 => some (.aluAnd t f) | 0x03 => some (.aluOr t f)
  | 0x04 => some (.aluXor t f) | 0x05 => some (.aluShl t f) | 0x06 => some (.aluShr t f) | 0x07 => some (.aluSra t f)
  | 0x08 => some (.aluMov t f) | 0x09 => some (.aluMin t f) | 0x0A => some (.aluMax t f) | 0x0B => some (.aluMinu t f)
  | 0x0C => some (.aluMaxu t f) | 0x0D => some (.aluMul t f) | 0x0E => some (.aluMulh t f) | 0x0F => some (.aluCmp t f)
  | 0x10 => some (.aluSx24 t f) | 0x11 => some (.aluClz t f)
  | _ => none

def decodeAli (t : TileRef) (x : Nat) : Option Instr :=
  let f := aliFields x
  match nbits x 26 3 with
  | 0 => some (.ldi t f) | 1 => some (.lui t f) | 2 => some (.addi t f) | 3 => some (.andi t f)
  | 4 => some (.ori t f) | 5 => some (.xori t f) | 6 => some (.cmpi t f)
  | _ => none

def decodeAgu (t : TileRef) (x : Nat) : Option Instr :=
  let f := aguFields x
  match nbits x 25 4 with
  | 0x0 => some (.ldp t f) | 0x1 => some (.ldb t f) | 0x2 => some (.ldl t f) | 0x3 => some (.ldli t f)
  | 0x4 => some (.ldm t f) | 0x5 => some (.step t f) | 0x6 => some (.stepi t f) | 0x7 => some (.rdp t f)
  | 0x8 => some (.rdb t f) | 0x9 => some (.aguRdl t f) | 0xA => some (.aguRdm t f) | 0xB => some (.agsel t f)
  | _ => none

def decodeCtl (t : TileRef) (x : Nat) : Option Instr :=
  let cond : Cond4 := BitVec.ofNat 4 (nbits x 21 4)
  let target : PC12 := BitVec.ofNat 12 (nbits x 0 12)
  match nbits x 25 4 with
  | 0x0 => some (.br t cond target) | 0x1 => some (.callw t cond target) | 0x2 => some (.retw t cond)
  | 0x3 => some (.jmp t cond (BitVec.ofNat 5 (nbits x 16 5))) | 0x4 => some (.rep t (repFields x))
  | 0x5 => some (.done t) | 0x6 => some (.yield t) | 0x7 => some (.waite t) | 0x8 => some (.retf t)
  | 0x9 => some (.tpset t (tpFields x)) | 0xA => some (.sync t) | 0xB => some (.signal t (BitVec.ofNat 16 (nbits x 0 16)))
  | _ => none

def decodeSys (t : TileRef) (x : Nat) : Option Instr :=
  let ra : RegCode := BitVec.ofNat 5 (nbits x 19 5)
  let n : BitVec 6 := BitVec.ofNat 6 (nbits x 8 6)
  match nbits x 24 5 with
  | 0x00 => some (.savew t) | 0x01 => some (.restw t) | 0x02 => some (.savel t) | 0x03 => some (.saveu t)
  | 0x04 => some (.loadl t) | 0x05 => some (.loadu t) | 0x06 => some (.rds t ra n) | 0x07 => some (.wrs t ra n)
  | 0x08 => some (.send t (sendFields x)) | 0x09 => some (.fence t) | 0x0A => some (.sysNop t)
  | _ => none

def decodeFpu (t : TileRef) (x : Nat) : Option Instr :=
  let f := fpuFields x
  match nbits x 24 5 with
  | 0x00 => some (.fadd t f) | 0x01 => some (.fsub t f) | 0x02 => some (.fmul t f) | 0x03 => some (.fma t f)
  | 0x04 => some (.fmin t f) | 0x05 => some (.fmax t f) | 0x06 => some (.fabs t f) | 0x07 => some (.fneg t f)
  | 0x08 => some (.fcmp t f) | 0x09 => some (.fdiv t f) | 0x0A => some (.fsqrt t f) | 0x0B => some (.ftoq t f)
  | 0x0C => some (.qtof t f) | 0x0D => some (.ftoi t f) | 0x0E => some (.itof t f) | 0x0F => some (.fmvr t f)
  | 0x10 => some (.fmvf t f)
  | _ => none

/-- The instruction of a tile that a word at address pc of its program memory spells (R142 to R154); none: the word is
illegal, and the tile's command is ILLEGAL_INSTRUCTION. -/
def seqDecode (t : TileRef) (pc : Nat) (i : Word) : Option Instr :=
  let x := i.toNat
  if wordIllegalSeq i pc then none
  else match nbits x 29 3 with
    | 0 => some (.pat t (patFields x))
    | 1 => decodeAlu t x
    | 2 => decodeAli t x
    | 3 => decodeAgu t x
    | 4 => decodeCtl t x
    | 5 => decodeSys t x
    | 6 => decodeFpu t x
    | _ => none

/-! ### The word of an instruction -/
/-- The class in [31:29] and an operation code at bit `lo`. -/
def wordOf (cls lo op rest : Nat) : Word := BitVec.ofNat 32 (cls * 2 ^ 29 + op * 2 ^ lo + rest)

def encodePat (f : PatF) : Word :=
  wordOf 0 29 0 (f.slot.toNat * 2 ^ 22 + f.ba.toNat * 2 ^ 20 + f.bb.toNat * 2 ^ 18 + f.bc.toNat * 2 ^ 16 + f.step.toNat * 2 ^ 8 +
    f.hold.toNat * 16 + f.cond.toNat)
def encodeAlu (op : Nat) (f : AluF) : Word :=
  wordOf 1 24 op (f.rd.toNat * 2 ^ 19 + f.ra.toNat * 2 ^ 14 + f.rb.toNat * 2 ^ 9 + f.cond.toNat * 32 + b2n f.setf * 16)
def encodeAli (op : Nat) (f : AliF) : Word :=
  wordOf 2 26 op (f.rd.toNat * 2 ^ 21 + f.imm.toNat * 32 + b2n f.setf * 16 + f.cond.toNat)
def encodeAgu (op : Nat) (f : AguF) : Word :=
  wordOf 3 25 op (f.k.toNat * 2 ^ 22 + f.m.toNat * 2 ^ 20 + f.reg.toNat * 2 ^ 15 + b2n f.i * 2 ^ 14 + f.imm.toNat)
def encodeRep (f : RepF) : Word :=
  wordOf 4 25 4 (b2n f.src * 2 ^ 24 + (if f.src then f.ra.toNat * 2 ^ 19 else f.count.toNat * 2 ^ 12) + f.fin.toNat)
def encodeTp (f : TpF) : Word :=
  wordOf 4 25 9 (f.flag.toNat * 2 ^ 22 + f.mode.toNat * 2 ^ 20 + f.mask.toNat * 16 + f.cond.toNat)
def encodeSend (f : SendF) : Word :=
  wordOf 5 24 8 (f.ra.toNat * 2 ^ 19 + f.rb.toNat * 2 ^ 14 + b2n f.gen * 128 + f.len.toNat * 16 + f.kind.toNat * 4)
def encodeFpu (op : Nat) (f : FpuF) : Word :=
  wordOf 6 24 op (f.fd.toNat * 2 ^ 20 + f.fa.toNat * 2 ^ 16 + f.fb.toNat * 2 ^ 12 + f.fc.toNat * 2 ^ 8 + f.reg.toNat * 8)

/-- The word of a sequencer instruction, reserved bits 0; none for a command that is no instruction of a tile. -/
def seqEncode (i : Instr) : Option Word :=
  match i with
  | .pat _ f => some (encodePat f)
  | .aluAdd _ f => some (encodeAlu 0x00 f) | .aluSub _ f => some (encodeAlu 0x01 f) | .aluAnd _ f => some (encodeAlu 0x02 f)
  | .aluOr _ f => some (encodeAlu 0x03 f) | .aluXor _ f => some (encodeAlu 0x04 f) | .aluShl _ f => some (encodeAlu 0x05 f)
  | .aluShr _ f => some (encodeAlu 0x06 f) | .aluSra _ f => some (encodeAlu 0x07 f) | .aluMov _ f => some (encodeAlu 0x08 f)
  | .aluMin _ f => some (encodeAlu 0x09 f) | .aluMax _ f => some (encodeAlu 0x0A f) | .aluMinu _ f => some (encodeAlu 0x0B f)
  | .aluMaxu _ f => some (encodeAlu 0x0C f) | .aluMul _ f => some (encodeAlu 0x0D f) | .aluMulh _ f => some (encodeAlu 0x0E f)
  | .aluCmp _ f => some (encodeAlu 0x0F f) | .aluSx24 _ f => some (encodeAlu 0x10 f) | .aluClz _ f => some (encodeAlu 0x11 f)
  | .ldi _ f => some (encodeAli 0 f) | .lui _ f => some (encodeAli 1 f) | .addi _ f => some (encodeAli 2 f)
  | .andi _ f => some (encodeAli 3 f) | .ori _ f => some (encodeAli 4 f) | .xori _ f => some (encodeAli 5 f)
  | .cmpi _ f => some (encodeAli 6 f)
  | .ldp _ f => some (encodeAgu 0x0 f) | .ldb _ f => some (encodeAgu 0x1 f) | .ldl _ f => some (encodeAgu 0x2 f)
  | .ldli _ f => some (encodeAgu 0x3 f) | .ldm _ f => some (encodeAgu 0x4 f) | .step _ f => some (encodeAgu 0x5 f)
  | .stepi _ f => some (encodeAgu 0x6 f) | .rdp _ f => some (encodeAgu 0x7 f) | .rdb _ f => some (encodeAgu 0x8 f)
  | .aguRdl _ f => some (encodeAgu 0x9 f) | .aguRdm _ f => some (encodeAgu 0xA f) | .agsel _ f => some (encodeAgu 0xB f)
  | .br _ c a => some (wordOf 4 25 0 (c.toNat * 2 ^ 21 + a.toNat))
  | .callw _ c a => some (wordOf 4 25 1 (c.toNat * 2 ^ 21 + a.toNat))
  | .retw _ c => some (wordOf 4 25 2 (c.toNat * 2 ^ 21))
  | .jmp _ c r => some (wordOf 4 25 3 (c.toNat * 2 ^ 21 + r.toNat * 2 ^ 16))
  | .rep _ f => some (encodeRep f)
  | .done _ => some (wordOf 4 25 5 0) | .yield _ => some (wordOf 4 25 6 0) | .waite _ => some (wordOf 4 25 7 0)
  | .retf _ => some (wordOf 4 25 8 0)
  | .tpset _ f => some (encodeTp f)
  | .sync _ => some (wordOf 4 25 0xA 0)
  | .signal _ k => some (wordOf 4 25 0xB k.toNat)
  | .savew _ => some (wordOf 5 24 0 0) | .restw _ => some (wordOf 5 24 1 0) | .savel _ => some (wordOf 5 24 2 0)
  | .saveu _ => some (wordOf 5 24 3 0) | .loadl _ => some (wordOf 5 24 4 0) | .loadu _ => some (wordOf 5 24 5 0)
  | .rds _ r n => some (wordOf 5 24 6 (r.toNat * 2 ^ 19 + n.toNat * 2 ^ 8))
  | .wrs _ r n => some (wordOf 5 24 7 (r.toNat * 2 ^ 19 + n.toNat * 2 ^ 8))
  | .send _ f => some (encodeSend f)
  | .fence _ => some (wordOf 5 24 9 0) | .sysNop _ => some (wordOf 5 24 0xA 0)
  | .fadd _ f => some (encodeFpu 0x00 f) | .fsub _ f => some (encodeFpu 0x01 f) | .fmul _ f => some (encodeFpu 0x02 f)
  | .fma _ f => some (encodeFpu 0x03 f) | .fmin _ f => some (encodeFpu 0x04 f) | .fmax _ f => some (encodeFpu 0x05 f)
  | .fabs _ f => some (encodeFpu 0x06 f) | .fneg _ f => some (encodeFpu 0x07 f) | .fcmp _ f => some (encodeFpu 0x08 f)
  | .fdiv _ f => some (encodeFpu 0x09 f) | .fsqrt _ f => some (encodeFpu 0x0A f) | .ftoq _ f => some (encodeFpu 0x0B f)
  | .qtof _ f => some (encodeFpu 0x0C f) | .ftoi _ f => some (encodeFpu 0x0D f) | .itof _ f => some (encodeFpu 0x0E f)
  | .fmvr _ f => some (encodeFpu 0x0F f) | .fmvf _ f => some (encodeFpu 0x10 f)
  | _ => none

end Sys2Proof.Machine
end

