-- ==== Sys2Proof/Machine/Seq.lean ====
section
/-!
DEFINITION. Machine/Seq.lean: the issue of one instruction of a tile sequencer (R116 to R119): when it issues, how the PC
and the loop stack move (R161 to R164), sequencer faults (R179), the shape that every instruction's meaning has, and the
cycle of a tile's datapath with the sequencer's stalls in it (R116, R118).
-/
namespace Sys2Proof.Machine
open Sys2Proof

/-- The first cycle in which the next instruction of bank b may issue. -/
def Tile.nextCycle (x : Tile) (b : Bank) : Nat := max (max x.cyc x.nextIns) (max (x.bank b).readyAt (x.bank b).resumeAt)

/-- The bank whose next instruction issues on a tile; `none`: the tile issues no instruction. A pattern miss stalls the
tile from the cycle after the selection on (R80, R206). -/
def State.seqBank (s : State) (w t : Nat) : Option Bank :=
  let x := s.tile w t
  match x.cur with
  | some b =>
    if s.bankRuns w x b && !x.hodWaits b && !(x.bank b).fence && !(s.wall w).gsr &&
        !(x.stall = .pattern && decide (x.selAt < x.nextCycle b)) then some b else none
  | none => none

/-- Whether the instruction at the PC issues from the repeat cache (R164). -/
def Tile.cached (x : Tile) (c : Ctx) : Bool :=
  x.repValid && c.loops.any (fun e => !e.cap && decide (e.start ≤ c.pc) && decide (c.pc ≤ e.fin) &&
    decide (x.repStart ≤ e.start) && decide (e.fin ≤ x.repEnd))

/-! ### What an instruction waits for (R156, R160) -/
/-- The F registers that operation `op` reads. -/
def fpReads (op : Nat) (f : FpuF) : List Nat :=
  if op ≤ 2 || op = 4 || op = 5 || op = 8 || op = 9 then [f.fa.toNat, f.fb.toNat]
  else if op = 3 then [f.fa.toNat, f.fb.toNat, f.fc.toNat]
  else if op = 12 || op = 14 || op = 16 then []
  else [f.fa.toNat]

def fpIterative (op : Nat) : Bool := op = 9 || op = 10

/-- The first cycle in which operation `op` finds its operands and its unit ready (R156). -/
def fpReady (op : Nat) (f : FpuF) (y : Tile) : Nat :=
  max ((fpReads op f).foldl (fun m k => max m (Sp.getD y.fpBusy k 0)) 0) (if fpIterative op then y.fdivUntil else 0)

/-- The first cycle in which an access of special register k finds it ready: FPSTAT waits for operations under way. -/
def specialReady (k : BitVec 6) (y : Tile) : Nat := if k = 0x17 then Sp.getD y.fpBusy 16 0 else 0

/-- Whether a PAT loads bus C from the program stream (R160). -/
def Ctx.streams (c : Ctx) (f : PatF) : Bool := c.condHolds f.cond && f.bc = 1 && busKind c 2 = 3

/-- The operation number and the fields of an fp32 instruction. -/
def fpuOf (i : Instr) : Option (Nat × FpuF) :=
  match i with
  | .fadd _ f => some (0, f) | .fsub _ f => some (1, f) | .fmul _ f => some (2, f) | .fma _ f => some (3, f)
  | .fmin _ f => some (4, f) | .fmax _ f => some (5, f) | .fabs _ f => some (6, f) | .fneg _ f => some (7, f)
  | .fcmp _ f => some (8, f) | .fdiv _ f => some (9, f) | .fsqrt _ f => some (10, f) | .ftoq _ f => some (11, f)
  | .qtof _ f => some (12, f) | .ftoi _ f => some (13, f) | .itof _ f => some (14, f) | .fmvr _ f => some (15, f)
  | .fmvf _ f => some (16, f)
  | _ => none

/-- The first cycle in which an instruction finds the fp32 unit ready. -/
def insReady (i : Instr) (y : Tile) : Nat :=
  match i with
  | .rds _ _ k => specialReady k y
  | .wrs _ _ k => specialReady k y
  | _ => match fpuOf i with
    | some (op, f) => fpReady op f y
    | none => 0

/-- What the instruction at the PC of program memory waits for in cycle n: 4 the program stream (one cycle, R160), 5 the
fp32 unit (R156), 0 nothing. -/
def State.seqWaits (s : State) (w : Nat) (t : Fin 128) (n : Nat) : Nat :=
  match s.seqBank w t.val with
  | none => 0
  | some b =>
    let x := s.tile w t.val
    let c := x.bank b
    if n < x.nextCycle b || c.heldPat.isSome then 0
    else match seqDecode { w := 0, t := t } c.pc.toNat (Sp.getD x.pmem c.pc.toNat 0) with
      | some (.pat _ f) => if c.streams f && !x.cached c && !c.waited then 4 else 0
      | some i => if n < insReady i x then 5 else 0
      | none => 0

/-! ### One cycle of the datapath -/
/-- What the cycle's end selects: the start slot in the cycle of a run's first instruction, and, once the start slot's words
have issued, a selection held back (R206). -/
def State.endSelect (s : State) (w t n : Nat) (issued : Bool) : State :=
  let x := s.tile w t
  match x.startSel with
  | some sl => if x.nextIns ≤ n then (s.setTile w t { x with startSel := none }).selectSlot w t sl else s
  | none =>
    if issued && x.starting then
      let s1 := s.setTile w t { x with starting := false, deferSel := none }
      match x.deferSel with
      | some sl => s1.selectSlot w t sl
      | none => s1
    else s

/-- Cycle n of a tile's datapath. `force`: what the sequencer waits for, where the caller knows it; else the instruction at
the PC tells. In a stall cycle nothing issues, and the cycle is counted (R118, R180). -/
def State.cycleAt (s : State) (w : Nat) (t : Fin 128) (n : Nat) (force : Option Nat) : State :=
  let g := s.gapStalls w (s.tile w t.val) n
  let s0 := ((if g = 0 then s else s.bumpBy (R.SEQ_STALL_COUNT w t.val) g).enterCycle w t.val n).keepPrev w t.val n
  let wait := match force with | some k => k | none => s0.seqWaits w t n
  let x1 := s0.tile w t.val
  let x2 : Tile := { x1 with seqWait := wait }
  let s1 := s0.setTile w t.val (match x1.cur with
    | some b => if wait = 4 then x2.setBank b { (x2.bank b) with waited := true } else x2
    | none => x2)
  match x2.cur, x2.curWay with
  | some bk, some way =>
    if wait = 0 && s0.issues w x2 n then (s1.issueCycle w t.val n bk way).endSelect w t.val n true
    else
      let s2 := s1.stallCycle w t.val n
      (if wait ≠ 0 || s0.seqStalled w x1 n then s2.bump (R.SEQ_STALL_COUNT w t.val) else s2).endSelect w t.val n false
  | _, _ =>
    let s2 := s1.stallCycle w t.val n
    (if wait ≠ 0 || s0.seqStalled w x1 n then s2.bump (R.SEQ_STALL_COUNT w t.val) else s2).endSelect w t.val n false

/-- One cycle of a tile's datapath: the next cycle of its own clock, no earlier than the wall's. -/
def State.tileCycle (s : State) (w : Nat) (t : Fin 128) : State :=
  s.cycleAt w t (max ((s.tile w t.val).cyc + 1) (s.wall w).cycle) none

/-- The datapath comes to cycle n, through at most `k` cycles of its own: it waits with `code` in the cycles from n0 on, and not in n. -/
def State.runTo (s : State) (w : Nat) (t : Fin 128) (n0 n code : Nat) : Nat → State
  | 0 => s
  | k + 1 =>
    let c := (s.tile w t.val).cyc
    if n ≤ c then s
    else
      let m := max (c + 1) (n - k)
      (s.cycleAt w t m (some (if n0 ≤ m && m < n then code else 0))).runTo w t n0 n code k

/-! ### The issue of an instruction -/
/-- One further cycle of a held PAT (R145). -/
def State.holdCycle (s : State) (w t : Nat) (b : Bank) (n : Nat) (f : PatF) : State :=
  let x := s.tile w t
  let c := patActs x b n f
  s.setTile w t { (x.setBank b { c with hold := c.hold - 1, heldPat := (if c.hold ≤ 1 then none else some f) }) with nextIns := n + 1 }

/-- The cycles that a PAT still holds pass (R119). -/
def State.flushHold (s : State) (w : Nat) (t : Fin 128) (b : Bank) : Nat → State
  | 0 => s
  | k + 1 =>
    match (s.ctx w t.val b).heldPat with
    | none => s
    | some f =>
      let n := (s.tile w t.val).nextCycle b
      ((s.runTo w t n n 0 16).holdCycle w t.val b n f).flushHold w t b k

/-- An instruction issues: held cycles pass, then it waits one cycle for the program stream (R160) and until `ready` for
the fp32 unit (R156), as far as the tile has not done so already. The state at its cycle, and the cycle. -/
def State.issueIns (s : State) (w : Nat) (t : Fin 128) (b : Bank) (stream : Bool) (ready : Nat) : State × Nat :=
  let s1 := s.flushHold w t b 16
  let x := s1.tile w t.val
  let c := x.bank b
  let n0 := x.nextCycle b
  let wait := stream && !x.cached c && !c.waited
  let n := max (if wait then n0 + 1 else n0) ready
  let y := (s1.runTo w t n0 n (if wait then 4 else 5) 16)
  let z := y.tile w t.val
  (y.setTile w t.val { (z.setBank b { (z.bank b) with waited := false }) with nextIns := n + 1 }, n)

/-! ### PC and loops -/
/-- The instruction at the PC has issued and the next follows (R161): at the `end` of the innermost repeat the body
starts again or the entry is popped. The first iteration of a captured body leaves it in the repeat cache (R164). -/
def Tile.advance (x : Tile) (b : Bank) : Tile :=
  let c := x.bank b
  match c.loops with
  | [] => x.setBank b { c with pc := c.pc + 1 }
  | e :: r =>
    if c.pc = e.fin then
      let x1 := if e.cap then { x with repStart := e.start, repEnd := e.fin, repValid := true } else x
      if 1 < e.count then x1.setBank b { c with pc := e.start, loops := { e with count := e.count - 1, cap := false } :: r }
      else x1.setBank b { c with pc := c.pc + 1, loops := r }
    else x.setBank b { c with pc := c.pc + 1 }

def State.advance (s : State) (w t : Nat) (b : Bank) : State := s.setTile w t ((s.tile w t).advance b)

/-- A taken branch (R119, R163): it leaves the innermost repeat when its target lies outside the body. -/
def Ctx.branch (c : Ctx) (target : BitVec 12) (pops : Bool) : Ctx :=
  match c.loops with
  | e :: r => if pops && (decide (target < e.start) || decide (e.fin < target)) then { c with pc := target, loops := r }
              else { c with pc := target }
  | [] => { c with pc := target }

/-- A branch at the `end` of a captured body: the first iteration has issued (R164). -/
def Tile.captureEnd (x : Tile) (b : Bank) : Tile :=
  let c := x.bank b
  match c.loops with
  | e :: r =>
    if e.cap && c.pc = e.fin then
      { (x.setBank b { c with loops := { e with cap := false } :: r }) with repStart := e.start, repEnd := e.fin, repValid := true }
    else x
  | [] => x

/-- A branch taken in cycle n: one cycle follows in which the bank issues no instruction (R119). -/
def State.branch (s : State) (w t : Nat) (b : Bank) (n : Nat) (target : BitVec 12) (pops : Bool) : State :=
  let x := (s.tile w t).captureEnd b
  s.setTile w t (x.setBank b { ((x.bank b).branch target pops) with readyAt := n + 2 })

/-! ### Faults -/
/-- A sequencer fault of the instruction at the PC (R179). -/
def State.faultAt (s : State) (w t : Nat) (b : Bank) (cause : Nat) : State :=
  let x := s.tile w t
  match x.owner b with
  | some f => s.seqFault w t f b (x.bank b).pc.toNat cause
  | none => s

/-! ### The shape of a meaning -/
/-- An instruction on a tile: nothing happens where the tile issues none; a reserved field value is the fault of R142;
otherwise `run` is its effect at its bank and cycle. -/
def seqRow (x : TileRef) (s : State) (legal : Bool) (stream : Bool) (ready : Tile → Nat)
    (run : Bank → Nat → State → State) : Out :=
  onWall x.w.val s (fun s =>
    match s.seqBank x.w.val x.t.val with
    | none => s
    | some b =>
      let r := s.issueIns x.w.val x.t b stream (ready (s.tile x.w.val x.t.val))
      if legal then run b r.2 r.1 else r.1.faultAt x.w.val x.t.val b 1)

/-- A plain instruction: an effect on the bank's context, then the next instruction. -/
def seqPlain (x : TileRef) (s : State) (legal : Bool) (run : Bank → Ctx → Ctx) : Out :=
  seqRow x s legal false (fun _ => 0) (fun b _ s => (s.onCtx x.w.val x.t.val b (run b)).advance x.w.val x.t.val b)

/-! ### SEQ_STATUS (R180) -/
/-- SEQ_STATUS.`state`: 0 idle, 1 issuing, 2 pattern miss, 3 hod stall, 4 stream stall, 5 FP interlock, 6 SYNC wait, 7 halted. -/
def State.seqState (s : State) (w t : Nat) : Nat :=
  let x := s.tile w t
  match x.cur with
  | none => 0
  | some b =>
    let st := match x.owner b with | some f => s.fl (R.FD_CTRL w f) F.FD_CTRL_state | none => 0
    if st = 6 then 7
    else if x.stall = .pattern then 2
    else if x.hodWaits b then 3
    else if (x.bank b).mark = .sync then 6
    else if decide (max x.cyc (s.wall w).cycle < (x.bank b).resumeAt) && st = 4 then (if (x.bank b).syncAt.isSome then 6 else 2)
    else if !s.bankRuns w x b then 0
    else if x.seqWait ≠ 0 then x.seqWait
    else 1

/-- SEQ_STATUS as it reads now. -/
def State.seqStatus (s : State) (w t : Nat) : Word :=
  let x := s.tile w t
  match x.cur with
  | none => 3
  | some b =>
    let c := x.bank b
    BitVec.ofNat 32 ((match b with | .b0 => 0 | .b1 => 1 | .fast => 2) + s.seqState w t * 4 + c.pc.toNat * 32 + (c.loops.length % 8) * 131072)

def Tile.fpownWord (x : Tile) (w : Nat) : Word :=
  match x.fpown with | some f => BitVec.ofNat 32 (flowNo w f + 2147483648) | none => 0

def Tile.repcStatus (x : Tile) : Word := BitVec.ofNat 32 (x.repStart.toNat + x.repEnd.toNat * 4096 + b2n x.repValid * 16777216)

end Sys2Proof.Machine
end

