-- ==== Sys2Proof/Machine/SeqCtl.lean ====
section
/-!
DEFINITION. Machine/SeqCtl.lean: PAT, the branches, repeats and flow control of the tile sequencer (R144, R145, R150,
R151, R161 to R164, R120, R122, R141, R573), the window instructions (R130 to R136, R572) and block save and restore
(R173 to R175).
-/
namespace Sys2Proof.Machine
open Sys2Proof

/-! ### PAT -/
/-- Whether a PAT loads bus C from the program stream (R160). -/
def patStream (s : State) (w t : Nat) (f : PatF) : Bool :=
  match s.seqBank w t with
  | some b => (s.ctx w t b).streams f
  | none => false

/-- A selection of a slot; while the start slot of a run has not yet issued it is held back (R206). -/
def State.patSelect (s : State) (w t : Nat) (slot : BitVec 7) : State :=
  let x := s.tile w t
  if x.starting then s.setTile w t { x with deferSel := some slot } else s.selectSlot w t slot

/-- PAT: selection, bus actions and steps of its first cycle; its hold follows (R144, R145). -/
def execPat (x : TileRef) (f : PatF) (s : State) : Out :=
  seqRow x s (patLegal f) (patStream s x.w.val x.t.val f) (fun _ => 0) (fun b n s =>
    let w := x.w.val
    let t := x.t.val
    let c := s.ctx w t b
    if !c.condHolds f.cond then s.advance w t b
    else if !patLoadsLegal c f then s.faultAt w t b 5
    else
      let y := s.tile w t
      let c1 := { (patActs y b n f) with hold := f.hold.toNat, heldPat := (if f.hold = 0 then none else some f) }
      ((s.setTile w t (y.setBank b c1)).patSelect w t f.slot).advance w t b)

/-! ### Branches and repeats -/
/-- BR: PC ← target if the condition holds (R150). -/
def execBr (x : TileRef) (cond : Cond4) (target : PC12) (s : State) : Out :=
  seqRow x s (condLegal cond) false (fun _ => 0) (fun b n s =>
    if (s.ctx x.w.val x.t.val b).condHolds cond then s.branch x.w.val x.t.val b n target true
    else s.advance x.w.val x.t.val b)

/-- JMP: PC ← ra[11:0] if the condition holds. -/
def execJmp (x : TileRef) (cond : Cond4) (ra : RegCode) (s : State) : Out :=
  seqRow x s (condLegal cond) false (fun _ => 0) (fun b n s =>
    let c := s.ctx x.w.val x.t.val b
    if c.condHolds cond then s.branch x.w.val x.t.val b n (BitVec.ofNat 12 (c.reg b ra.toNat).toNat) true
    else s.advance x.w.val x.t.val b)

/-- The repeat count of REP (R161). -/
def repCount (c : Ctx) (b : Bank) (f : RepF) : Nat :=
  if f.src then (c.reg b f.ra.toNat).toNat % 65536 else f.count.toNat + 1

/-- REP (R161, R162, R164). -/
def execRep (x : TileRef) (f : RepF) (s : State) : Out :=
  seqRow x s true false (fun _ => 0) (fun b _ s =>
    let w := x.w.val
    let t := x.t.val
    let c := s.ctx w t b
    let y := s.tile w t
    let n := repCount c b f
    if f.fin.toNat < c.pc.toNat + 1 then s.faultAt w t b 1
    else if 4 ≤ c.loops.length then s.faultAt w t b 2
    else if n = 0 then s.onCtx w t b (fun c => { c with pc := f.fin + 1 })
    else
      let start := c.pc + 1
      let small := decide (f.fin.toNat - c.pc.toNat ≤ 16)
      let held := y.repValid && decide (y.repStart ≤ start) && decide (f.fin ≤ y.repEnd)
      let capture := small && !held && !(y.repValid && y.repStart = start)
      let s1 := if capture then s.setTile w t { y with repValid := false } else s
      s1.onCtx w t b (fun c => { c with pc := start, loops := { start := start, fin := f.fin, count := n, cap := capture } :: c.loops }))

/-! ### Flow control -/
/-- A fast flow's run ends on the tile: the tile leaves the fast bank as at RETF (R573). -/
def State.endOnTile (s : State) (w t f : Nat) (b : Bank) (m : Mark) : State :=
  let s1 := s.advance w t b
  let s2 := if b = .fast then
      (s1.onCtx w t b (fun c => { c with mark := m })).leaveFast w t
    else s1
  s2.markTile w t f m

/-- DONE, YIELD and WAITE: the tile marks the end of its part; in a window handler the fault of cause 0x7 (R573). -/
def endIns (x : TileRef) (m : Mark) (s : State) : Out :=
  seqRow x s true false (fun _ => 0) (fun b _ s =>
    let y := s.tile x.w.val x.t.val
    if b = .fast && y.handlerOf.isSome then s.faultAt x.w.val x.t.val b 7
    else match (y.bank b).flow with
      | some f => s.endOnTile x.w.val x.t.val f b m
      | none => s)

/-- DONE (R122, R183). -/
def execDone (x : TileRef) (s : State) : Out := endIns x .done s
/-- YIELD (R184). -/
def execYield (x : TileRef) (s : State) : Out := endIns x .yield s
/-- WAITE (R184). -/
def execWaite (x : TileRef) (s : State) : Out := endIns x .waite s

/-- RETF: a window handler returns; a fast flow's RETF acts as DONE; elsewhere the fault of cause 0x6 (R141, R573). -/
def execRetf (x : TileRef) (s : State) : Out :=
  seqRow x s true false (fun _ => 0) (fun b _ s =>
    let w := x.w.val
    let t := x.t.val
    let y := s.tile w t
    if b ≠ .fast then s.faultAt w t b 6
    else if y.handlerOf.isSome then (s.advance w t b).leaveFast w t
    else match y.cf.flow with
      | some f => s.endOnTile w t f b .done
      | none => s)

/-- TPSET (R151). -/
def execTpset (x : TileRef) (f : TpF) (s : State) : Out :=
  seqRow x s (condLegal f.cond && decide (f.flag ≠ 7) && decide (f.mode ≠ 3)) false (fun _ => 0) (fun b n s =>
    let w := x.w.val
    let t := x.t.val
    let y := s.tile w t
    let c := y.bank b
    let m := Nat.land (flagVec (y.flagCtx b n) (flagSel f.flag.toNat)) f.mask.toNat
    let v := if f.flag = 6 then c.condHolds f.cond
      else if f.mode = 0 then decide (m ≠ 0) else if f.mode = 1 then decide (m = f.mask.toNat) else decide (m = 0)
    let s1 := if f.flag = 6 || c.condHolds f.cond then s.onCtx w t b (fun c => { c with tp := v }) else s
    s1.advance w t b)

/-- Whether a tile of a flow's set waits at SYNC. -/
def State.atSync (s : State) (w i f : Nat) : Bool :=
  let y := s.tile w i
  (y.handlerOf = some f && decide (y.cf.mark = .sync)) ||
  (match y.bankOf f with | some b => decide ((y.bank b).mark = .sync) | none => false)

/-- The banks in which a flow, or the window handler that it entered, runs on a tile. -/
def Tile.flowBanks (x : Tile) (f : Nat) : List Bank :=
  (match x.bankOf f with | some b => [b] | none => []) ++ (if x.handlerOf = some f then [.fast] else [])

/-- The latest cycle in which a tile of a flow's set issued SYNC. -/
def State.lastSync (s : State) (w f : Nat) : Nat :=
  (s.tileSet w f).foldl (fun m i =>
    ((s.tile w i).flowBanks f).foldl (fun m b =>
      let c := (s.tile w i).bank b
      if c.mark = .sync then max m (c.syncAt.getD 0) else m) m) 0

/-- Every tile of a flow's set goes on 2 cycles after the last SYNC issued (R120). -/
def State.releaseSync (s : State) (w f : Nat) : State :=
  let m := s.lastSync w f
  (s.tileSet w f).foldl (fun (a : State) i =>
    let y := a.tile w i
    a.setTile w i ((y.flowBanks f).foldl (fun (y : Tile) b =>
      let c := y.bank b
      if c.mark = .sync then y.setBank b { c with mark := .none, resumeAt := m + 2 } else y) y)) s

/-- SYNC: the last tile of the set releases all, which issue together 2 cycles later (R120). -/
def execSync (x : TileRef) (s : State) : Out :=
  seqRow x s true false (fun _ => 0) (fun b n s =>
    let w := x.w.val
    let t := x.t.val
    match (s.tile w t).owner b with
    | none => s
    | some f =>
      let s1 := (s.advance w t b).onCtx w t b (fun c => { c with mark := .sync, syncAt := some n })
      if (s1.tileSet w f).all (fun i => s1.atSync w i f) then s1.releaseSync w f else s1)

/-- SIGNAL raises FLOW_SIGNAL with the flow, the tile and the code (R150). -/
def execSignal (x : TileRef) (code : BitVec 16) (s : State) : Out :=
  seqRow x s true false (fun _ => 0) (fun b _ s =>
    let w := x.w.val
    let t := x.t.val
    let f := match (s.tile w t).owner b with | some f => flowNo w f | none => 0
    (s.advance w t b).raiseWall w 3 0 [f, t, code.toNat])

/-! ### Windows (R130 to R134, R572) -/
def Ctx.openWindow (c : Ctx) (grow : Bool) : Ctx :=
  { c with depth := c.depth + 1, wres := (if grow then c.wres + 1 else c.wres), wix := c.wix + 1 }
def Ctx.closeWindow (c : Ctx) (shrink : Bool) : Ctx :=
  { c with depth := c.depth - 1, wres := (if shrink then c.wres - 1 else c.wres), wix := c.wix - 1 }

/-- A window opens; CALLW then saves the address of the instruction that follows it in V7 and branches. -/
def State.finishOpen (s : State) (w t : Nat) (b : Bank) (n : Nat) (call : Option (BitVec 12)) (grow : Bool) : State :=
  match call with
  | none => (s.onCtx w t b (fun c => c.openWindow grow)).advance w t b
  | some target =>
    (s.onCtx w t b (fun c =>
      let c1 := c.openWindow grow
      c1.setReg b 23 (BitVec.ofNat 32 (c.pc + 1).toNat))).branch w t b n target false

/-- The visible window closes; RETW continues at its V7[11:0]. -/
def State.finishClose (s : State) (w t : Nat) (b : Bank) (n : Nat) (ret : Bool) (shrink : Bool) : State :=
  let target := BitVec.ofNat 12 ((s.ctx w t b).reg b 23).toNat
  let s1 := s.onCtx w t b (fun c => c.closeWindow shrink)
  if ret then s1.branch w t b n target false else s1.advance w t b

/-- Whether a spill of this context takes a new area (R172). -/
def State.spillTakesArea (s : State) (w : Nat) (c : Ctx) : Bool :=
  decide (7 ≤ s.spillCount w c)

/-- A hod operation of a bank is requested and its instruction waits for it (R118). -/
def State.waitHod (s : State) (w t f : Nat) (b : Bank) (kind : HodKind) (p : PendIns) : State :=
  let y := s.tile w t
  let y1 : Tile := { y with chanq := y.chanq ++ [{ kind := kind, flow := f, bank := b, cls := 2 }] }
  s.setTile w t (y1.setBank b { (y1.bank b) with pend := p })

/-- SAVEW and CALLW (R130, R131, R133, R136, R572). -/
def State.openIns (s : State) (w t : Nat) (b : Bank) (n : Nat) (call : Option (BitVec 12)) : State :=
  let c := s.ctx w t b
  if b = .fast then s.faultAt w t b 7
  else match c.flow with
    | none => s
    | some f =>
      if s.fixedFlow w f then
        (if 8 ≤ c.depth then s.faultAt w t b 0xE else s.finishOpen w t b n call true)
      else if c.wres < 7 then s.finishOpen w t b n call true
      else if s.spillTakesArea w c && (s.wall w).freeHead.isNone then s.faultAt w t b 0xF
      else s.waitHod w t f b .spill (match call with | some target => .callw target | none => .savew)

/-- RESTW and RETW (R130, R132, R134, R572). -/
def State.closeIns (s : State) (w t : Nat) (b : Bank) (n : Nat) (ret : Bool) : State :=
  let c := s.ctx w t b
  if b = .fast then s.faultAt w t b 7
  else match c.flow with
    | none => s
    | some f =>
      if c.depth ≤ 1 then s.faultAt w t b 4
      else if c.wres ≤ 1 then s.waitHod w t f b .fill (if ret then .retw else .restw)
      else s.finishClose w t b n ret true

/-- SAVEW. -/
def execSavew (x : TileRef) (s : State) : Out :=
  seqRow x s true false (fun _ => 0) (fun b n s => s.openIns x.w.val x.t.val b n none)
/-- CALLW. -/
def execCallw (x : TileRef) (cond : Cond4) (target : PC12) (s : State) : Out :=
  seqRow x s (condLegal cond) false (fun _ => 0) (fun b n s =>
    if (s.ctx x.w.val x.t.val b).condHolds cond then s.openIns x.w.val x.t.val b n (some target)
    else s.advance x.w.val x.t.val b)
/-- RESTW. -/
def execRestw (x : TileRef) (s : State) : Out :=
  seqRow x s true false (fun _ => 0) (fun b n s => s.closeIns x.w.val x.t.val b n false)
/-- RETW. -/
def execRetw (x : TileRef) (cond : Cond4) (s : State) : Out :=
  seqRow x s (condLegal cond) false (fun _ => 0) (fun b n s =>
    if (s.ctx x.w.val x.t.val b).condHolds cond then s.closeIns x.w.val x.t.val b n true
    else s.advance x.w.val x.t.val b)

/-! ### Block save and restore (R173 to R175) -/
/-- A block operation is requested; the tile stalls until it is done. -/
def State.blockIns (s : State) (w t : Nat) (b : Bank) (kind : HodKind) : State :=
  match (s.tile w t).owner b with
  | none => s
  | some f =>
    let c := s.ctx w t b
    let headKind := nbits (s.areaWord w c.saveHead.toNat 0).toNat 16 4
    if kind = .savel || kind = .saveu then
      (if (s.wall w).freeHead.isNone then s.faultAt w t b 0xF else s.waitHod w t f b kind c.pend)
    else if c.saveDepth = 0 || headKind ≠ (if kind = .loadl then 1 else 2) then s.faultAt w t b 3
    else s.waitHod w t f b kind c.pend

/-- SAVEL: push the lower half. -/
def execSavel (x : TileRef) (s : State) : Out :=
  seqRow x s true false (fun _ => 0) (fun b _ s => s.blockIns x.w.val x.t.val b .savel)
/-- SAVEU: push the upper half. -/
def execSaveu (x : TileRef) (s : State) : Out :=
  seqRow x s true false (fun _ => 0) (fun b _ s => s.blockIns x.w.val x.t.val b .saveu)
/-- LOADL: pop the lower half. -/
def execLoadl (x : TileRef) (s : State) : Out :=
  seqRow x s true false (fun _ => 0) (fun b _ s => s.blockIns x.w.val x.t.val b .loadl)
/-- LOADU: pop the upper half. -/
def execLoadu (x : TileRef) (s : State) : Out :=
  seqRow x s true false (fun _ => 0) (fun b _ s => s.blockIns x.w.val x.t.val b .loadu)

/-! ### Special registers and NOP (R127, R152) -/
/-- RDS: ra ← special register n. -/
def execRds (x : TileRef) (ra : RegCode) (k : BitVec 6) (s : State) : Out :=
  seqRow x s true false (specialReady k) (fun b n s =>
    let w := x.w.val
    let t := x.t.val
    let v := s.special w t b n k.toNat
    ((s.specialRead w t k.toNat).onCtx w t b (fun c => c.setReg b ra.toNat v)).advance w t b)

/-- WRS: special register n ← ra. -/
def execWrs (x : TileRef) (ra : RegCode) (k : BitVec 6) (s : State) : Out :=
  seqRow x s true false (specialReady k) (fun b n s =>
    let w := x.w.val
    let t := x.t.val
    (s.setSpecial w t b n k.toNat ((s.ctx w t b).reg b ra.toNat)).advance w t b)

/-- NOP: no effect. -/
def execSysNop (x : TileRef) (s : State) : Out := seqPlain x s true (fun _ c => c)

/-! ### Illegal instructions (R142) -/
/-- ILLEGAL_INSTRUCTION: the flow halts with SEQ_FAULT cause 0x1; a word that is legal is no such event. -/
def execIllegalInstruction (x : TileRef) (i : Word) (s : State) : Out :=
  match s.seqBank x.w.val x.t.val with
  | none => onWall x.w.val s (fun s => s)
  | some b =>
    if wordIllegalSeq i (s.ctx x.w.val x.t.val b).pc.toNat then seqRow x s false false (fun _ => 0) (fun _ _ s => s)
    else onWall x.w.val s (fun s => s)

end Sys2Proof.Machine
end

