-- ==== Sys2Proof/Machine/SeqFpu.lean ====
section
/-!
DEFINITION. Machine/SeqFpu.lean: the fp32 instructions (R154 to R158): interlocks, lazy ownership, results and flags.
-/
namespace Sys2Proof.Machine
open Sys2Proof

/-- The result of operation `op` from its F operands and its general register. -/
def fpResult (op : Nat) (a b c reg : Word) (fresh : Nat) : FpRes :=
  match op with
  | 0 => fpAdd a b
  | 1 => fpSub a b
  | 2 => fpMul a b
  | 3 => fpFma a b c
  | 4 => fpPick a b false (Config.freeZeroSign fresh) (Config.freeBit fresh)
  | 5 => fpPick a b true (Config.freeZeroSign fresh) (Config.freeBit fresh)
  | 6 => { r := (match fpDecode a with | .nan _ => fpNan | _ => fpCanon a &&& 0x7FFFFFFF), flags := if isSnan (fpDecode a) then 1 else 0 }
  | 7 => { r := (match fpDecode a with | .nan _ => fpNan | _ => fpCanon a ^^^ 0x80000000), flags := if isSnan (fpDecode a) then 1 else 0 }
  | 8 => { r := 0, flags := if isSnan (fpDecode a) || isSnan (fpDecode b) then 1 else 0
           maybe := if isNan (fpDecode a) || isNan (fpDecode b) then 1 else 0 }
  | 9 => fpDiv a b
  | 10 => fpSqrt a
  | 11 => fpConv a 23 (-8388608) 8388607
  | 12 => fpOfInt (BitVec.ofNat 24 reg.toNat).toInt 23
  | 13 => fpConv a 0 (-2147483648) 2147483647
  | 14 => fpOfInt reg.toInt 0
  | 15 => { r := a }
  | _ => { r := reg }

/-- Whether an operation delivers to its general register. -/
def fpToReg (op : Nat) : Bool := op = 11 || op = 13 || op = 15

/-- The effect of an fp32 instruction that issues in cycle n for the owner of F0 to F15. -/
def State.fpuRun (s : State) (w t : Nat) (b : Bank) (n op : Nat) (f : FpuF) : State :=
  let y := s.tile w t
  let c := y.bank b
  let fr (k : BitVec 4) : Word := Sp.getD y.f k.toNat 0
  let x := fpResult op (fr f.fa) (fr f.fb) (fr f.fc) (c.reg b f.reg.toNat) s.fresh
  let st := y.fpstat ||| x.flags ||| (BitVec.ofNat 5 (Config.freeWord s.fresh).toNat &&& x.maybe)
  let done := n + (if fpIterative op then 12 else 3)
  let y1 := { y with fpstat := st, fpBusy := Sp.set y.fpBusy 16 (max done (Sp.getD y.fpBusy 16 0)) 0
                     fdivUntil := if fpIterative op then done else y.fdivUntil }
  let y2 : Tile :=
    if op = 8 then
      let p := fpDecode (fr f.fa)
      let q := fpDecode (fr f.fb)
      y1.setBank b { c with sz := fpEq p q, sn := !isNan p && !isNan q && fpLt p q, sv := isNan p || isNan q, sc := false }
    else if fpToReg op then y1.setBank b (c.setReg b f.reg.toNat x.r)
    else { y1 with f := Sp.set y1.f f.fd.toNat x.r 0, fpBusy := Sp.set y1.fpBusy f.fd.toNat done 0 }
  { ((s.setTile w t y2).advance w t b) with fresh := s.fresh + 1 }

/-- The shape of an fp32 instruction: the owner's runs; another flow's stalls for a swap (R157). -/
def fpuIns (op : Nat) (x : TileRef) (f : FpuF) (s : State) : Out :=
  seqRow x s true false (fpReady op f) (fun b n s =>
    let y := s.tile x.w.val x.t.val
    match y.owner b with
    | none => s
    | some k =>
      if y.fpown = some k then s.fpuRun x.w.val x.t.val b n op f
      else s.waitHod x.w.val x.t.val k b .fpSwap (.fpu op f))

/-- FADD: fd ← fa + fb. -/
def execFadd (x : TileRef) (f : FpuF) (s : State) : Out := fpuIns 0 x f s

/-- FSUB: fd ← fa - fb. -/
def execFsub (x : TileRef) (f : FpuF) (s : State) : Out := fpuIns 1 x f s

/-- FMUL: fd ← fa * fb. -/
def execFmul (x : TileRef) (f : FpuF) (s : State) : Out := fpuIns 2 x f s

/-- FMA: fd ← fa * fb + fc, one rounding. -/
def execFma (x : TileRef) (f : FpuF) (s : State) : Out := fpuIns 3 x f s

/-- FMIN: fd ← the smaller of fa and fb. -/
def execFmin (x : TileRef) (f : FpuF) (s : State) : Out := fpuIns 4 x f s

/-- FMAX: fd ← the larger. -/
def execFmax (x : TileRef) (f : FpuF) (s : State) : Out := fpuIns 5 x f s

/-- FABS: fd ← |fa|. -/
def execFabs (x : TileRef) (f : FpuF) (s : State) : Out := fpuIns 6 x f s

/-- FNEG: fd ← -fa. -/
def execFneg (x : TileRef) (f : FpuF) (s : State) : Out := fpuIns 7 x f s

/-- FCMP: the scalar flags of a comparison. -/
def execFcmp (x : TileRef) (f : FpuF) (s : State) : Out := fpuIns 8 x f s

/-- FDIV: fd ← fa / fb. -/
def execFdiv (x : TileRef) (f : FpuF) (s : State) : Out := fpuIns 9 x f s

/-- FSQRT: fd ← the square root of fa. -/
def execFsqrt (x : TileRef) (f : FpuF) (s : State) : Out := fpuIns 10 x f s

/-- FTOQ: reg ← Q1.23 of fa. -/
def execFtoq (x : TileRef) (f : FpuF) (s : State) : Out := fpuIns 11 x f s

/-- QTOF: fd ← reg[23:0] read as Q1.23. -/
def execQtof (x : TileRef) (f : FpuF) (s : State) : Out := fpuIns 12 x f s

/-- FTOI: reg ← fa as a signed integer. -/
def execFtoi (x : TileRef) (f : FpuF) (s : State) : Out := fpuIns 13 x f s

/-- ITOF: fd ← reg read as a signed integer. -/
def execItof (x : TileRef) (f : FpuF) (s : State) : Out := fpuIns 14 x f s

/-- FMVR: reg ← the bit pattern of fa. -/
def execFmvr (x : TileRef) (f : FpuF) (s : State) : Out := fpuIns 15 x f s

/-- FMVF: fd ← the bit pattern of reg. -/
def execFmvf (x : TileRef) (f : FpuF) (s : State) : Out := fpuIns 16 x f s

end Sys2Proof.Machine
end

