-- ==== Sys2Proof/Machine/Hod.lean ====
section
/-!
DEFINITION. Machine/Hod.lean: the hod engine's channels (R209 to R215): how an operation starts and what its completion
does (R131, R132, R137, R157, R158, R173 to R177).
-/
namespace Sys2Proof.Machine
open Sys2Proof

/-- The FSW of a context as a save writes it (R126, R169). -/
def State.fswSaved (s : State) (w t : Nat) (b : Bank) : Word := s.fswAt w t b 0

/-! ### FP values in home upper areas (R157, R158, R171) -/
def Tile.fpWords (x : Tile) : List Word := (List.range 16).map (fun k => Sp.getD x.f k 0) ++ [x.fpstat.setWidth 32]

/-- The owner's F0 to F15 and FPSTAT are written to its home upper area. -/
def State.saveFp (s : State) (w t f : Nat) : State := s.setAreaWords w (s.homeUpper w f t) 0x190 (s.tile w t).fpWords

def Tile.loadFp (x : Tile) (ws : List Word) : Tile :=
  { x with f := (List.range 16).foldl (fun (m : Sp Word) k => Sp.set m k (ws.getD k 0) 0) []
           fpstat := BitVec.ofNat 5 (ws.getD 16 0).toNat, fpBusy := [], fdivUntil := 0 }

/-! ### Starting an operation (R210, R212) -/
/-- The bank that a restore of flow f can take on a tile; none while the flow is still leaving the tile. -/
def State.freeBank (s : State) (w t f : Nat) : Option Bank :=
  let x := s.tile w t
  if (x.bankOf f).isSome then none
  else if s.fastFlow w f then (if x.cf.flow.isNone && x.handlerOf.isNone then some .fast else none)
  else if x.c0.flow.isNone then some .b0
  else if x.c1.flow.isNone then some .b1 else none

def State.canStart (s : State) (w t : Nat) (o : HodOp) : Bool :=
  if o.kind = .restore then (s.freeBank w t o.flow).isSome else true

/-- The first startable operation in the order of R210: by class, then by request. -/
def State.nextOp (s : State) (w t : Nat) : Option HodOp :=
  (s.tile w t).chanq.foldl (fun (best : Option HodOp) o =>
    if s.canStart w t o then
      match best with
      | none => some o
      | some p => if o.cls < p.cls then some o else some p
    else best) none

/-- The waiting operations without the one that starts. -/
def dropOp (o : HodOp) : List HodOp → List HodOp
  | [] => []
  | p :: r => if p = o then r else p :: dropOp o r

/-- The operation starts; a restore takes its bank, whose context is moving from now on, and operations that an earlier flow
of the bank has in flight end with that flow (R58). -/
def State.startOp (s : State) (w t : Nat) (o : HodOp) : State :=
  let x := s.tile w t
  if o.kind = .restore then
    match s.freeBank w t o.flow with
    | none => s
    | some b =>
      let x1 : Tile := { (x.drainBank t b).1 with chan := some { o with bank := b }, chanq := dropOp o x.chanq }
      (s.setTile w t (x1.setBank b { flow := some o.flow, moving := true })).refreshRes w o.flow
  else s.setTile w t { x with chan := some o, chanq := dropOp o x.chanq }

/-- HOD_OP_START: an idle channel starts its highest-class waiting operation. A restore that finds no free bank has a
victim chosen (R212), or a make-cold that waits already frees one for it (R210); with neither it waits. While bank 2 is under
test nothing starts (R340). -/
def execHodOpStart (x : TileRef) (s : State) : Out :=
  onWall x.w.val s (fun s =>
    let w := x.w.val
    let t := x.t.val
    let y := s.tile w t
    if y.chan.isSome || s.inTest w 2 then s
    else
      let blocked := y.chanq.any (fun o => o.kind = .restore && !s.fastFlow w o.flow && !s.canStart w t o)
      let freeing := y.chanq.any (fun o => o.kind = .makeCold)
      let s1 := if blocked && !freeing then
          (match s.victim w t with
            | some v => s.evict w v 1 true
            | none => s)
        else if blocked then
          s.setTile w t { y with chanq := y.chanq.map (fun o => if o.kind = .makeCold then { o with cls := 1, evict := true } else o) }
        else s
      match s1.nextOp w t with
      | some o => s1.startOp w t o
      | none => s1)

/-- A row that ends an operation of a channel: nothing happens unless the channel runs such an operation, and nothing but the
end of one whose flow has been destroyed. -/
def hodDone (x : TileRef) (s : State) (p : HodKind → Bool) (run : HodOp → State → State) : Out :=
  onWall x.w.val s (fun s =>
    let y := s.tile x.w.val x.t.val
    match y.chan with
    | some o =>
      if p o.kind then
        let s1 := s.setTile x.w.val x.t.val { y with chan := none }
        if o.dead then s1 else run o s1
      else s
    | none => s)

/-! ### Restore (R174, R177, R209, R214) -/
/-- The PAT whose hold a restored context goes on with (R145, R177): the one that was held when the flow was made cold on
the tile; in a context that software has written, the instruction before the resume PC, which at the start of a repeat body
is the body's last (R161). -/
def heldOf (pmem : Sp Word) (c : Ctx) (parked : Option PatF) : Option PatF :=
  if c.hold = 0 then none
  else match parked with
    | some f => some f
    | none =>
      let a : BitVec 12 := match c.loops with
        | e :: _ => if c.pc = e.start then e.fin else c.pc - 1
        | [] => c.pc - 1
      let x := (Sp.getD pmem a.toNat 0).toNat
      if nbits x 29 3 = 0 then some (patFields x) else none

/-- The context that both home areas give (R174, R177). -/
def State.restoredCtx (s : State) (w t f : Nat) (b : Bank) : Ctx :=
  let low := s.areaWords w (s.homeLower w f t) 0x10 80
  let upper := s.homeUpper w f t
  let base : Ctx := { flow := some f }
  let c1 := base.loadLower b low
  let c2 := (c1.loadBricks (s.areaWords w upper 0x10 96)).loadBook (s.areaWords w upper 0x1E0 3)
  let p := ((s.flow w f).parked.find? (fun p => p.1 = t)).getD (t, Mark.none, none)
  let c3 := { c2 with pc := BitVec.ofNat 12 (low.getD 69 0).toNat, wix := 0, wres := 1, mark := p.2.1 }
  { c3 with heldPat := heldOf (s.tile w t).pmem c3 p.2.2 }

/-- ENABLE of a placed flow has its restores complete: the flow is in place (R188). -/
def State.finishEnable (s : State) (w f : Nat) : State :=
  let x := s.flow w f
  let susp := s.fl (R.FD_CTRL w f) F.FD_CTRL_susp = 1
  let s1 := s.setFlow w f { x with enabling := false, waitWhenDisabled := false
                                   resume := (if susp then x.resume else x.waitWhenDisabled) }
  let s2 := (s1.setFl (R.FD_CTRL w f) F.FD_CTRL_susp 0).setFstate w f (if susp then 3 else if x.waitWhenDisabled then 5 else 2)
  let s3 := if s2.fl (R.DISP_CMD_STATUS w) F.DISP_CMD_STATUS_flow = f && s2.fl (R.DISP_CMD_STATUS w) F.DISP_CMD_STATUS_op = 1 then
      s2.setFl (R.DISP_CMD_STATUS w) F.DISP_CMD_STATUS_busy 0 else s2
  if susp then s3.wantRun w f else s3

/-- HOD_RESTORE_DONE (R209): the bank holds the flow; CONTEXT_LOST when an area cannot be used (R214). -/
def execHodRestoreDone (x : TileRef) (s : State) : Out :=
  hodDone x s (fun k => k = .restore) (fun o s =>
    let w := x.w.val
    let t := x.t.val
    let f := o.flow
    let lo := s.areaRead w (s.homeLower w f t) 0 0x150
    let up := lo.1.areaRead w (s.homeUpper w f t) 0 0x1F0
    let s0 := up.1.bump (R.HOD_RESTORE_COUNT w)
    let deep := decide (4 < controlDepth (s0.areaWords w (s0.homeLower w f t) 0x90 48))
    if lo.2 || up.2 || deep then
      let s1 := s0.setTile w t ((s0.tile w t).setBank o.bank {})
      let s2 := s1.setFlow w f { (s1.flow w f) with enabling := false }
      let s3 := if (s0.flow w f).enabling then s2.setFl (R.DISP_CMD_STATUS w) F.DISP_CMD_STATUS_busy 0 else s2
      (s3.contextLost w t f (if lo.2 || deep then s0.homeLower w f t else s0.homeUpper w f t)).refreshRes w f
    else
      let s1 := s0.setTile w t ((s0.tile w t).setBank o.bank (s0.restoredCtx w t f o.bank))
      let s2 := s1.refreshRes w f
      let p := s2.flow w f
      let s3 := if p.prestaged && !s2.fixedFlow w f then s2.setFlow w f { p with prot := true } else s2
      if (s3.flow w f).enabling && s3.residentAll w f then s3.finishEnable w f else s3)

/-! ### Make cold (R177, R209) -/
/-- The windows other than the visible one are spilled, oldest first. -/
def State.spillAll (s : State) (w t f : Nat) (c : Ctx) (as : List Nat) : Nat → State × Ctx
  | 0 => (s, c)
  | k + 1 =>
    let r := s.spillReserved w t f c ((c.wix.toNat + 8 - (k + 1)) % 8) as
    State.spillAll r.1 w t f r.2.1 r.2.2 k

/-- The home areas receive a context's halves. -/
def State.saveHome (s : State) (w t f : Nat) (b : Bank) (c : Ctx) (fsw : Word) : State :=
  let low := s.homeLower w f t
  let up := s.homeUpper w f t
  let fast := decide (b = Bank.fast)
  let s1 := ((s.writeHeader w low 0xFFFF 1 true 0 f t fast).setAreaWords w low 0x10 (c.lowerWords b fsw)).writeHeader w up 0xFFFF 2 true 0 f t fast
  ((s1.setAreaWords w up 0x10 c.allBricks).setAreaWords w up 0x1D4 [0, 0, 0]).setAreaWords w up 0x1E0 c.bookTail

/-- MAKE_COLD_DONE (R209): windows, halves and FP values are saved and the bank is free. -/
def execMakeColdDone (x : TileRef) (s : State) : Out :=
  hodDone x s (fun k => k = .makeCold) (fun o s =>
    let w := x.w.val
    let t := x.t.val
    let f := o.flow
    let s0 := s.drainBank w t o.bank
    let c := s0.ctx w t o.bank
    let fsw := s0.fswSaved w t o.bank
    let r := s0.spillAll w t f c o.ret (c.wres - 1)
    let s1 := r.1.saveHome w t f o.bank { r.2 with wres := 1 } fsw
    let own := (s1.tile w t).fpown = some f
    let s2 := if own then s1.saveFp w t f else s1
    let y := s2.tile w t
    let y1 : Tile := if own then { y with fpown := none, f := [], fpstat := 0 } else y
    let y2 := { (y1.setBank o.bank {}) with
                cur := (if y1.cur = some o.bank then none else y1.cur)
                interrupted := (if y1.interrupted = some o.bank then none else y1.interrupted) }
    let s3 := (s2.setTile w t y2).bump (R.HOD_SAVE_COUNT w)
    let s4 := if o.evict then s3.bump (R.HOD_EVICT_COUNT w) else s3
    let z := s4.flow w f
    (s4.setFlow w f { z with parked := (t, c.mark, c.heldPat) :: z.parked.filter (fun p => p.1 ≠ t) }).refreshRes w f)

/-! ### Window spills and fills (R131, R132, R137) -/
/-- The window handler is entered after a spill or fill when WHAND_CTRL enables it (R137). Not while the fast bank is
current: such a completion enters no handler; one that comes after its flow has been preempted interrupts the bank that is
current by then (DESIGN CHOICE, log entry 126). -/
def State.enterHandler (s : State) (w t f : Nat) (b : Bank) (under : Bool) : State :=
  let v := s.rd (R.WHAND_CTRL w t)
  let en := if under then fld v F.WHAND_CTRL_unf_en = 1 else fld v F.WHAND_CTRL_ovf_en = 1
  let x := s.tile w t
  if en && x.cur ≠ some .fast then
    let c := x.bank b
    let x1 := x.fastEntryRegs f c.depth c.spilled.toNat under
    let pc : BitVec 12 := BitVec.ofNat 12 (if under then fld v F.WHAND_CTRL_unf_pc else fld v F.WHAND_CTRL_ovf_pc)
    s.setTile w t { x1 with cur := some .fast, interrupted := x.cur, handlerOf := some f
                            cf := { x1.cf with pc := pc, mark := .none, hold := 0, heldPat := none } }
  else s

/-- WINDOW_SPILL_DONE: the oldest window is in the spill chain and the stalled SAVEW or CALLW proceeds (R131). -/
def execWindowSpillDone (x : TileRef) (s : State) : Out :=
  hodDone x s (fun k => k = .spill) (fun o s =>
    let w := x.w.val
    let t := x.t.val
    let c := s.ctx w t o.bank
    let call : Option (BitVec 12) := match c.pend with | .callw target => some target | _ => none
    match s.spillFrame w t o.flow c ((c.wix.toNat + 2) % 8) with
    | none => (s.onCtx w t o.bank (fun c => { c with pend := .none })).faultAt w t o.bank 0xF
    | some (s1, c1) =>
      let s2 := (s1.onCtx w t o.bank (fun _ => { c1 with pend := .none })).bump (R.WIN_SPILL_COUNT w t)
      let s3 := s2.finishOpen w t o.bank (s2.tile w t).cyc call false
      s3.enterHandler w t o.flow o.bank false)

/-- WINDOW_FILL_DONE: the window being returned to is filled and the stalled RESTW or RETW proceeds (R132, R214). -/
def execWindowFillDone (x : TileRef) (s : State) : Out :=
  hodDone x s (fun k => k = .fill) (fun o s =>
    let w := x.w.val
    let t := x.t.val
    let c := s.ctx w t o.bank
    let ret := match c.pend with | .retw => true | _ => false
    let cnt := nbits (s.areaWord w c.spillHead.toNat 0).toNat 24 8
    let rd := s.areaRead w c.spillHead.toNat (16 + 64 * (cnt - 1)) 64
    let s0 := rd.1.onCtx w t o.bank (fun c => { c with pend := .none })
    if rd.2 then s0.contextLost w t o.flow c.spillHead.toNat
    else
      let r := s0.fillFrame w (s0.ctx w t o.bank) ((c.wix.toNat + 7) % 8)
      let s1 := (r.1.onCtx w t o.bank (fun _ => r.2)).bump (R.WIN_FILL_COUNT w t)
      let s2 := s1.finishClose w t o.bank (s1.tile w t).cyc ret false
      s2.enterHandler w t o.flow o.bank true)

/-! ### Block save and restore (R173, R174) -/
/-- BLOCK_SAVE_DONE: a copy of the half is the new head of the save stack. -/
def execBlockSaveDone (x : TileRef) (s : State) : Out :=
  hodDone x s (fun k => k = .savel || k = .saveu) (fun o s =>
    let w := x.w.val
    let t := x.t.val
    match s.takeArea w with
    | none => s.faultAt w t o.bank 0xF
    | some (a, s1) =>
      let lower := decide (o.kind = HodKind.savel)
      let s2 := if lower then s1 else s1.drainBank w t o.bank
      let s3 := s2.advance w t o.bank
      let c := s3.ctx w t o.bank
      let s4 := s3.writeHeader w a (if c.saveDepth = 0 then 0xFFFF else c.saveHead.toNat) (if lower then 1 else 2) false 0 o.flow t
        (decide (o.bank = Bank.fast))
      let s5 := if lower then s4.setAreaWords w a 0x10 (c.lowerWords o.bank (s3.fswSaved w t o.bank))
        else ((s4.setAreaWords w a 0x10 c.allBricks).setAreaWords w a 0x1D4 [0, 0, 0]).setAreaWords w a 0x1E0 c.bookTail
      s5.onCtx w t o.bank (fun c => { c with saveHead := BitVec.ofNat 16 a, saveDepth := c.saveDepth + 1 }))

/-- BLOCK_RESTORE_DONE: the half is loaded and its area returns to the free list; a loop stack depth above 4 is a fault, and
an uncorrectable word loses the half (R214, R330). -/
def execBlockRestoreDone (x : TileRef) (s : State) : Out :=
  hodDone x s (fun k => k = .loadl || k = .loadu) (fun o s =>
    let w := x.w.val
    let t := x.t.val
    let lower := decide (o.kind = HodKind.loadl)
    let c := s.ctx w t o.bank
    let a := c.saveHead.toNat
    let rd := s.areaRead w a 0 (if lower then 0x150 else 0x1F0)
    let s1 := rd.1
    let ws := s1.areaWords w a 0x10 96
    if rd.2 then s1.contextLost w t o.flow a
    else if lower && decide (4 < controlDepth (ws.drop 32)) then s1.faultAt w t o.bank 3
    else
      let nx := nbits (s1.areaWord w a 0).toNat 0 16
      let s2 := if lower then s1 else s1.drainBank w t o.bank
      let s3 := s2.onCtx w t o.bank (fun c =>
        let c1 := if lower then c.loadLower o.bank ws else c.loadBricks ws
        { c1 with saveHead := BitVec.ofNat 16 nx, saveDepth := c.saveDepth - 1 })
      let s4 := if lower then s3.tellWrite w t o.bank (s3.tile w t).cyc else s3
      (s4.returnArea w a).advance w t o.bank)

/-- FP_SWAP_DONE: FPOWN names the current flow and its stalled instruction issues (R157); an uncorrectable word of its home
area loses the values (R214, R330). -/
def execFpSwapDone (x : TileRef) (s : State) : Out :=
  hodDone x s (fun k => k = .fpSwap) (fun o s =>
    let w := x.w.val
    let t := x.t.val
    let s0 := match (s.tile w t).fpown with
      | some g => s.saveFp w t g
      | none => s
    let up := s0.homeUpper w o.flow t
    let rd := s0.areaRead w up 0x190 68
    let y := rd.1.tile w t
    let free (x : Tile) : Tile := x.setBank o.bank { (x.bank o.bank) with pend := .none }
    if rd.2 then (rd.1.setTile w t { (free y) with fpown := none, f := [], fpstat := 0 }).contextLost w t o.flow up
    else
      let y1 : Tile := { (y.loadFp (rd.1.areaWords w up 0x190 17)) with fpown := some o.flow }
      let s1 := (rd.1.setTile w t (free y1)).bump (R.FP_SWAP_COUNT w t)
      match (y.bank o.bank).pend with
      | .fpu op f => s1.fpuRun w t o.bank ((s1.tile w t).nextCycle o.bank) op f
      | _ => s1)

/-- AREA_HOUSEKEEPING_DONE: released areas return to the free list (R209). -/
def execAreaHousekeepingDone (x : TileRef) (s : State) : Out :=
  hodDone x s (fun k => k = .areas) (fun o s => o.ret.foldl (fun (a : State) i => a.returnArea x.w.val i) s)

end Sys2Proof.Machine
end

