-- ==== Sys2Proof/Machine/CapRecord.lean ====
section
/-!
DEFINITION. Machine/CapRecord.lean: the record that the capture cells hold of a tile: the values of its state elements at
the capture edge (R107, R113, R178).
-/
namespace Sys2Proof.Machine
open Sys2Proof

/-- A 64-bit word of a record. -/
def rec64 (x : Nat) : List Word := [BitVec.ofNat 32 x, BitVec.ofNat 32 (x / 4294967296)]

/-- The wall at a capture edge, the edge that ends its present cycle: every tile's datapath has come to that cycle. -/
def State.atEdge (s : State) (w : Nat) : State :=
  (List.range 128).foldl (fun (a : State) t => a.passTo w t (a.wall w).cycle) s

/-- The 32 bytes of brick b's pipeline: O and S, then the stage-1, stage-2 and move registers, whose contents the spec does
not give (free values), then the bank and the slot of the operation issued last. R113 names these in this order and gives
them no places (DESIGN CHOICE, log entry 127). -/
def State.pipelineWords (s : State) (w t b : Nat) : List Word :=
  let x := s.tile w t
  let last := ((x.p1 ++ x.p2).find? (fun e => e.1 = b)).map (fun e => e.2)
  [(Sp.getD x.o b 0).setWidth 32, (Sp.getD x.s b 0).setWidth 32] ++
  wordsOfBytes (s.freeBytes (512 * t + 32 * b) 20) ++
  [match last with
    | some f => BitVec.ofNat 32 ((match f.bank with | .b0 => 0 | .b1 => 1 | .fast => 2) + f.slot.toNat * 256)
    | none => 0]

/-- The spine tracks, west then east, after the edge. -/
def State.trackWords (s : State) (w t : Nat) : List Word :=
  [false, true].flatMap (fun east => (List.range 8).flatMap (fun k => rec64 (s.trackRead w t ((s.tile w t).cyc + 1) east k).toNat))

/-- The pattern-cache words: way tags, the current way in word 0, the pin valid mask in word 1. -/
def State.cacheWords (s : State) (w t : Nat) : List Word :=
  let x := s.tile w t
  let pins := ((List.range 5).map (fun e => b2n (s.pinEntry w t e).isSome * 2 ^ e)).foldl (· + ·) 0
  (List.range 8).flatMap (fun k =>
    let y := x.way k
    let hi := if k = 0 then x.curWay.getD 0 else if k = 1 then pins else 0
    rec64 (y.slot.toNat + b2n y.valid * 128 + b2n y.stale * 256 + patTag y.pat * 65536 + hi * 4294967296))

/-- A resident bank of the sequencer state: global registers, frames, control block, bookkeeping. -/
def State.bankWords (s : State) (w t : Nat) (b : Bank) : List Word :=
  let c := (s.tile w t).bank b
  (List.range 136).map (fun k => Sp.getD c.gen k 0) ++ c.control (s.fswSaved w t b) ++ c.bookWords ++ [0] ++ [0, 0, 0, 0]

/-- The sequencer state (R178). -/
def State.seqWords (s : State) (w t : Nat) : List Word :=
  let x := s.tile w t
  s.bankWords w t .b0 ++ s.bankWords w t .b1 ++
  ((List.range 32).map (fun k => Sp.getD x.cf.gen k 0) ++ x.cf.control (s.fswSaved w t .fast) ++ x.cf.bookWords ++ [0]) ++
  ((List.range 16).map (fun k => Sp.getD x.f k 0) ++ [BitVec.ofNat 32 x.fpstat.toNat, x.fpownWord w, s.seqStatus w t, x.repcStatus]) ++
  List.replicate 24 0

/-- The 4 KB capture record of a tile (R113), from the state at the edge. -/
def State.captureRecord (s : State) (w t : Nat) : Words :=
  let x := s.tile w t
  x.c0.allBricks ++ x.c1.allBricks ++ x.cf.allBricks ++ (List.range 16).flatMap (fun b => s.pipelineWords w t b) ++
  s.trackWords w t ++ (List.range 8).flatMap (fun q => rec64 (Sp.getD x.latch q 0).toNat) ++
  (List.range 4).flatMap (fun k => rec64 (Sp.getD x.taps k 0).toNat) ++ s.cacheWords w t ++ List.replicate 24 0 ++ s.seqWords w t

/-- The capture cells after an edge: every tile's record. -/
def State.captureCells (s : State) (w : Nat) : Sp Words :=
  let e := s.atEdge w
  (List.range 128).map (fun t => (t, e.captureRecord w t))

end Sys2Proof.Machine
end

