-- ==== Sys2Proof/Machine/CacheCmds.lean ====
section
/-!
DEFINITION. Machine/CacheCmds.lean: the pattern cache's refills, pins and invalidations (R81 to R90, R95), captures (R107
to R110) and the bond interface's writes into tile memories (R103, R104, R205).
-/
namespace Sys2Proof.Machine
open Sys2Proof

/-! ### Refills (R81, R82, R85, R87) -/
/-- The way a request would fill: an allowed one, or for a demand the protected way of the latest pre-stage (R87). -/
def State.wayFor (s : State) (w t : Nat) (r : RefillReq) : Option Nat :=
  let x := s.tile w t
  match s.victimWay w t x with
  | some k => some k
  | none => if r.kind = .demand then s.latestProtected w t x else none

/-- The waiting request that starts next: by precedence, then by arrival, among those that find a way. -/
def State.nextRefill (s : State) (w t : Nat) : Option RefillReq :=
  (s.tile w t).waitq.foldl (fun (best : Option RefillReq) r =>
    if (s.wayFor w t r).isSome then
      match best with
      | none => some r
      | some p => if refillRank r.kind < refillRank p.kind then some r else some p
    else best) none

/-- A refill fills way k: a paused scrub of that way is abandoned (R95), a protected way's pre-stage is withdrawn (R87). -/
def State.takeWay (s : State) (w t k : Nat) : State :=
  let x := s.tile w t
  let s1 := match (x.way k).forFlow with
    | some f => if (x.way k).prot then s.withdraw w f else s
    | none => s
  let y := s1.tile w t
  if y.scrubWay = some k then
    (s1.setTile w t { y with scrubWay := none }).bumpFl (R.FPORT_STATUS w t) F.FPORT_STATUS_abandoned
  else s1

/-- REFILL_START: the highest-precedence waiting refill starts into its way, which is invalid from now on. A hint that
finds no way is dropped. None starts while the tile's library bank is under test (R340). -/
def execRefillStart (x : TileRef) (s : State) : Out :=
  onWall x.w.val s (fun s =>
    let w := x.w.val
    let t := x.t.val
    if (s.tile w t).refill.isSome || (s.wall w).gsr || s.inTest w (libOffset t 0 / 0x400000) then s
    else match s.nextRefill w t with
      | none =>
        let y := s.tile w t
        s.setTile w t { y with waitq := y.waitq.filter (fun r => r.kind ≠ .hint) }
      | some r =>
        match s.wayFor w t r with
        | none => s
        | some k =>
          let s1 := s.takeWay w t k
          let y := s1.tile w t
          let y1 := y.setWay k { slot := r.slot }
          s1.setTile w t { y1 with refill := some { req := r, way := k }, waitq := y1.waitq.filter (fun q => q.slot ≠ r.slot) })

/-- The pattern and the code that library slot n of tile t holds (R91). -/
def State.libPattern (s : State) (w t n : Nat) : BitVec 3072 := BitVec.ofNat 3072 (ofLeBytes (s.sramBytes w 0 (libOffset t n) 384))
def State.libCode (s : State) (w t n : Nat) : BitVec 16 := BitVec.ofNat 16 (ofLeBytes (s.sramBytes w 0 (libOffset t n + 384) 2))

/-- The tile stalled on a slot goes on in the cycle after its way became valid (R81): the slot's first selection takes
effect and ends the protection of a pre-stage before it (R85). -/
def Tile.wakePattern (x : Tile) (k : Nat) (slot : BitVec 7) (kept : Bool) : Tile :=
  match x.cur with
  | some b =>
    if x.stall = .pattern && (x.bank b).slot = slot then
      let y := x.way k
      let x1 := x.setWay k (if kept then y else { y with prot := false, forFlow := none })
      ({ (x1.setBank b { (x1.bank b) with resumeAt := x.cyc + 1, syncAt := none }) with
           stall := .none, curWay := some k, prevWay := none } : Tile).hintRequest y.pat
    else x
  | none => x

/-- The flow that is stalled on a tile's pattern miss. -/
def Tile.missFlow (x : Tile) : Option Nat :=
  match x.stall, x.cur with
  | .pattern, some b => x.owner b
  | _, _ => none

/-- A refill has met an uncorrectable library word (R90): a demand refill halts the flow that selected the slot. A tile that
stalls on a slot whose other refill was in progress requests it as a demand (DESIGN CHOICE, log entry 130), and a pinned slot
is requested again (R86). -/
def State.refillFails (s : State) (w t : Nat) (r : RefillReq) : State :=
  let y := s.tile w t
  match y.missFlow with
  | some f =>
    if r.kind = .demand then (s.halt w f).requestPins w t
    else if (match y.cur with | some b => decide ((y.bank b).slot = r.slot) | none => false) then
      (s.setTile w t (y.request { kind := .demand, slot := r.slot })).requestPins w t
    else s.requestPins w t
  | none => s.requestPins w t

/-- REFILL_DONE: the way holds the slot's pattern and code (R89), protected when the refill is a pre-stage that has not been
withdrawn (R85, R202); what becomes of one that fails: `refillFails` (R90; DESIGN CHOICE, log entry 130). -/
def execRefillDone (x : TileRef) (s : State) : Out :=
  onWall x.w.val s (fun s =>
    let w := x.w.val
    let t := x.t.val
    match (s.tile w t).refill with
    | none => s
    | some r =>
      let slot := r.req.slot
      let rd := s.sramRead w 0 (libOffset t slot.toNat) 386
      let y0 := rd.1.tile w t
      let y := { y0 with refill := none }
      if rd.2 then (rd.1.setTile w t y).refillFails w t r.req
      else
        let way : Way := { slot := slot, valid := true, prot := r.req.flow.isSome, forFlow := r.req.flow
                           pat := rd.1.libPattern w t slot.toNat, code := rd.1.libCode w t slot.toNat, used := y.useCtr + 1 }
        let y1 := { (y.setWay r.way way) with useCtr := y.useCtr + 1 }
        rd.1.setTile w t (y1.wakePattern r.way slot (decide (r.req.kind = RefillKind.demand))))

/-! ### Pins and invalidation (R86, R88, R192) -/
/-- Bytes of a word replaced only where `keep` is false. -/
def keepByte (old v : Word) (i : Nat) (keep : Bool) : Word := if keep then setFld v ⟨8 * i, 8⟩ (fld old ⟨8 * i, 8⟩) else v

/-- The effect of a write of PC_PIN_A (b = false) or PC_PIN_B: entries that the dispatcher holds keep their bits. -/
def State.pinWrite (s : State) (w t : Nat) (b : Bool) (v : Word) : State × Nat :=
  let x := s.tile w t
  let s1 := if b then s.plain (R.PC_PIN_B w t) (keepByte (s.rd (R.PC_PIN_B w t)) v 0 x.pinB.isSome)
    else s.plain (R.PC_PIN_A w t) (keepByte (s.rd (R.PC_PIN_A w t)) v 3 x.pinA.isSome)
  (s1.requestPins w t, 0)

/-- The effect of a write of PC_INVAL. -/
def State.invalWrite (s : State) (w t : Nat) (v : Word) : State × Nat :=
  let x := s.tile w t
  let x1 := (List.range 8).foldl (fun (a : Tile) k =>
    let y := a.way k
    if nbit v.toNat k && !a.isCurrent k && !s.pinned w t y.slot && !y.prot &&
        !(match a.refill with | some r => decide (r.way = k) | none => false)
    then a.setWay k { y with valid := false, stale := false } else a) x
  (s.setTile w t x1, 0)

/-- PC_PIN_WRITE. -/
def execPcPinWrite (m : Mid) (x : TileRef) (b : Bool) (v : Word) (s : State) : Out :=
  regRow s m (if b then R.PC_PIN_B x.w.val x.t.val else R.PC_PIN_A x.w.val x.t.val) (fun s => s.pinWrite x.w.val x.t.val b v)

/-- PC_INVAL_WRITE. -/
def execPcInvalWrite (m : Mid) (x : TileRef) (v : Word) (s : State) : Out :=
  regRow s m (R.PC_INVAL x.w.val x.t.val) (fun s => s.invalWrite x.w.val x.t.val v)

/-- The effect of a write of WHAND_CTRL: an enable is refused while a flow is bound to the fast bank (R138). -/
def State.whandWrite (s : State) (w t : Nat) (v : Word) : State × Nat :=
  let bound := (List.range 512).any (fun f => s.fstate w f ≠ 0 && (s.flow w f).placed && s.fastFlow w f && (s.tileSet w f).contains t)
  if bound && (nbit v.toNat 0 || nbit v.toNat 1) then refuse s stBusy else (s.plain (R.WHAND_CTRL w t) v, 0)

/-- WHAND_CTRL_WRITE. -/
def execWhandCtrlWrite (m : Mid) (x : TileRef) (v : Word) (s : State) : Out :=
  regRow s m (R.WHAND_CTRL x.w.val x.t.val) (fun s => s.whandWrite x.w.val x.t.val v)

/-! ### Captures (R107 to R110) -/
/-- The capture cells are released. -/
def State.capRelease (s : State) (w : Nat) : State :=
  let x := s.wall w
  (s.setWall w { x with cap := {} }).setFl (R.CAP_STATUS w) F.CAP_STATUS_state 0

/-- CAP_TRIG as a 64-bit target. -/
def State.capTarget (s : State) (w : Nat) : Nat := (s.rd (R.CAP_TRIG_LO w)).toNat + (s.rd (R.CAP_TRIG_HI w)).toNat * 4294967296

/-- Whether an angle stamp has been reached by a base: the distance from the stamp to V is below 2^63 (R224). -/
def reached (v target : W64) : Bool := decide ((v - target).toNat < 9223372036854775808)

/-- Whether the armed trigger has come about: tick, angle, or at once (R108). -/
def State.capDue (s : State) (w : Nat) : Bool :=
  let c := (s.wall w).cap
  match c.trig with
  | 0 => true
  | 1 => decide (c.target ≤ s.tick)
  | _ => reached (s.base w c.ang).v (BitVec.ofNat 64 c.target)

/-- The capture is armed with the trigger that CAP_CTRL and CAP_TRIG name, for master m; `late` when its target has passed. -/
def State.capArm (s : State) (m w : Nat) (v : Word) : State :=
  let x := s.wall w
  let c : CapX := { trig := fld v F.CAP_CTRL_trig, ang := fld v F.CAP_CTRL_ang, target := s.capTarget w, owner := BitVec.ofNat 6 m }
  let s1 := (s.setWall w { x with cap := c }).setFl (R.CAP_STATUS w) F.CAP_STATUS_state 1
  if c.trig ≠ 0 && s1.capDue w then s1.setFl (R.CAP_STATUS w) F.CAP_STATUS_late 1 else s1

/-- The effect of a write of CAP_CTRL (R108 to R110). Arming with the reserved trigger, and arming while the cells are held,
have no effect. `discard` releases the cells, and disarms a capture that has not fired (DESIGN CHOICE, log entry 128). -/
def State.capWrite (s : State) (m w : Nat) (v : Word) : State × Nat :=
  if !s.holds (claimCap w) m then refuse s stBusy
  else if !s.isReady w then refuse s stWallLoading
  else
    let s1 := s.plain (R.CAP_CTRL w) v
    let s2 := if fld v F.CAP_CTRL_discard = 1 && s1.fl (R.CAP_STATUS w) F.CAP_STATUS_state ≠ 0 then s1.capRelease w else s1
    (if fld v F.CAP_CTRL_arm = 1 && fld v F.CAP_CTRL_trig ≠ 3 && s2.fl (R.CAP_STATUS w) F.CAP_STATUS_state ≤ 1 then s2.capArm m w v
      else s2, 0)

/-- CAP_ARM: a write of CAP_CTRL. -/
def execCapArm (m : Mid) (w : Wall) (v : Word) (s : State) : Out :=
  regRow s m (R.CAP_CTRL w.val) (fun s => s.capWrite m.toNat w.val v)

/-- CAP_DISCARD: a write of CAP_CTRL with `discard` set, the other fields as they are. -/
def execCapDiscard (m : Mid) (w : Wall) (s : State) : Out :=
  regRow s m (R.CAP_CTRL w.val) (fun s => s.capWrite m.toNat w.val (setFld (s.rd (R.CAP_CTRL w.val)) ⟨5, 1⟩ 1))

/-- A CAPTURE command of a wall is in progress: it reads the cells out once they are held. -/
def State.capReader (s : State) (w : Nat) : Bool := s.longs.any (fun l => l.op = 20 && l.ctx.wall.toNat = w && l.done.isNone)

/-- The frame port of a tile reads capture record frames out (R93): a CAPTURE command reads held cells, its courses include
the tile's, and the tile's record is still to be read. -/
def State.capReads (s : State) (w t : Nat) : Bool :=
  s.fl (R.CAP_STATUS w) F.CAP_STATUS_state = 3 && !(s.wall w).cap.read.contains t &&
    s.longs.any (fun l => l.op = 20 && l.ctx.wall.toNat = w && l.done.isNone && nbit (l.ctx.args.getD 1 0).toNat (t / 8))

/-- CAPTURE_FIRE: the armed trigger has come about; every tile is copied at this edge, and CAPTURE_FIRED is raised. -/
def execCaptureFire (w : Wall) (s : State) : Out :=
  onWall w.val s (fun s =>
    let w := w.val
    if s.fl (R.CAP_STATUS w) F.CAP_STATUS_state = 1 && s.capDue w then
      let x := s.wall w
      let s1 := (s.setWall w { x with cap := { x.cap with held := s.captureCells w, read := [] } }).setFl (R.CAP_STATUS w)
        F.CAP_STATUS_state (if s.capReader w then 3 else 2)
      let s2 := (s1.wr (R.CAP_EDGE_LO w) (BitVec.ofNat 32 s.tick)).wr (R.CAP_EDGE_HI w) (BitVec.ofNat 32 (s.tick / 4294967296))
      let s3 := s2.raiseWall w 31 0 [s.tick % 4294967296, s.tick / 4294967296, s.fl (R.CAP_STATUS w) F.CAP_STATUS_late]
      { s3 with fresh := s3.fresh + 1 }
    else s)

/-! ### The bond interface (R103, R104, R205) -/
/-- One word written by the bond interface counts in the windows that watch it; a window whose count reaches its
threshold triggers its flows. -/
def State.countFill (s : State) (w t m addr : Nat) : State :=
  foldN 64 s (fun a n =>
    let c := a.rd (R.FW_CTRL w n)
    let r := a.rd (R.FW_RANGE w n)
    let th := a.fl (R.FW_THRESH w n) F.FW_THRESH_thresh
    if fld c F.FW_CTRL_en = 1 && fld c F.FW_CTRL_tile = t && fld c F.FW_CTRL_tmem = m && th ≠ 0 &&
        decide (fld r F.FW_RANGE_start ≤ addr) && decide (addr ≤ fld r F.FW_RANGE_end) then
      let k := a.fl (R.FW_COUNT w n) F.FW_COUNT_count + 1
      let a1 := a.setFl (R.FW_COUNT w n) F.FW_COUNT_count k
      if k = th then
        let a2 := if fld c F.FW_CTRL_rearm = 1 then a1.setFl (R.FW_COUNT w n) F.FW_COUNT_count 0
          else a1.setFl (R.FW_CTRL w n) F.FW_CTRL_en 0
        a2.wakeFlows w 2 n
      else a1
    else a)

/-- Whether port B of memory m may be used by the bond interface in the tile's present cycle: the pattern does not use it, or
the tile issues nothing (R103). -/
def Tile.portBFree (x : Tile) (m : Nat) : Bool := !x.portBs.contains m

/-- The oldest buffered word of the bond interface and the buffer without it. -/
def takeBondWord : List BondFlit → Option ((Nat × Nat × W48) × List BondFlit)
  | [] => none
  | fl :: r => match fl.words with
    | [] => takeBondWord r
    | a :: ws => some (a, if ws.isEmpty then r else { fl with words := ws } :: r)

/-- Flits that the course router holds move into the bond interface as far as it has room: two flits (R103). -/
def Tile.pullFlits (x : Tile) : Tile :=
  let k := 2 - x.bbuf.length
  { x with bbuf := x.bbuf ++ x.bwait.take k, bwait := x.bwait.drop k }

/-- A write-first port A that wrote word `addr` of memory m in this cycle reads back what the word then holds (R99, R102). -/
def State.readBack (s : State) (w t m addr : Nat) : State :=
  let x := s.tile w t
  if s.rdwMode w t (2 * m) = 1 then
    s.setTile w t { x with latch := Sp.put x.latch (2 * m) (tmemRead x.tmem (s.aspect w t m) m addr) }
  else s

/-- A word written through port B of memory m (R101): with the write of port A in the tile's present cycle, if there is one
of the same word, it follows the collision policy. -/
def State.bondWord (s : State) (w t m addr : Nat) (d : W48) : State :=
  let y := s.tile w t
  let asp := s.aspect w t m
  match y.aWrites.find? (fun e => e.1 = m && e.2.1 = addr && dataBits asp e.2.2.1 ≠ dataBits asp d) with
  | none => s.setTile w t { y with tmem := tmemWrite y.tmem asp m addr d }
  | some e =>
    let pol := s.collPolicy w t m
    let mem := if pol = 0 then y.tmem else tmemWrite y.tmem asp m addr (if pol = 1 then d else e.2.2.2)
    ((s.setTile w t { y with tmem := mem }).readBack w t m addr).collided w t m addr

/-- BOND_INTERFACE_WRITE: the oldest buffered word is written through port B (R103) in the wall's present cycle; it counts as
port B for R101, and in the fill windows (R205), where a word that loses a collision counts too (DESIGN CHOICE, log entry
129). While tile-memory writes are disabled it changes nothing (R106). -/
def execBondInterfaceWrite (x : TileRef) (s : State) : Out :=
  onWall x.w.val s (fun s0 =>
    let w := x.w.val
    let t := x.t.val
    let s := s0.passTo w t (s0.wall w).cycle
    let y := s.tile w t
    match takeBondWord y.bbuf with
    | none => s
    | some ((m, addr, d), rest) =>
      if !y.portBFree m then s
      else
        let s1 := s.setTile w t ({ y with bbuf := rest } : Tile).pullFlits
        if !(s.wall w).tmemWe then s1
        else
          let s2 := (s1.bondWord w t m addr d).countFill w t m addr
          let z := s2.tile w t
          s2.setTile w t { z with portBs := z.portBs ++ [m] })

end Sys2Proof.Machine
end

