-- ==== Sys2Proof/Machine/BondNet.lean ====
section
/-!
DEFINITION. Machine/BondNet.lean: the bond network's operations: places and routes of a wall's mesh (R272 to R275), packet
forms (R276 to R278), packets in flight, injection, answers and refusals (R298, R313, R574), epochs (R305 to R307),
slots and connections (R291 to R296, R311), and the domains that close and reopen (R309 to R312).
-/
namespace Sys2Proof

/-! ### Packets and domains (R276 to R278, R309) -/
/-- A read response, completion or NACK. -/
def Packet.isAnswer (p : Packet) : Bool := p.typ = 2 || p.typ = 4 || p.typ = 5
def Packet.flits (p : Packet) : Nat := p.len.toNat + 1
/-- Payload bytes, or the bytes that a read request asks for. -/
def Packet.count (p : Packet) : Nat := p.bytes.toNat + 1
def Packet.hasData (p : Packet) : Bool := p.typ = 0 || p.typ = 2 || p.typ = 3

def flitsFor (b : Nat) : Nat := if b ≤ 40 then 1 else 1 + (b - 40 + 63) / 64

/-- Whether the length fields fit (R278). -/
def Packet.formOk (p : Packet) : Bool :=
  decide (p.typ.toNat < 6) &&
  (if p.hasData then decide (p.count ≤ 1000) && decide (p.payload.length = p.count) && decide (p.flits = flitsFor p.count)
   else decide (p.flits = 1) && (p.typ ≠ 1 || decide (p.count ≤ 1000)))

/-- The wall of a domain, and the key of its closing time in that wall. -/
def Domain.wallNo : Domain → Nat
  | .course w _ => w.val
  | .wall w => w.val
def Domain.key : Domain → Nat
  | .course _ c => c.val
  | .wall _ => 16
end Sys2Proof

namespace Sys2Proof.Machine
open Sys2Proof

/-! ### The mesh (R272 to R274) -/
def rtrX (r : Nat) : Nat := if r < 16 then 1 + r / 4 else if r % 2 = 0 then 0 else 5
def rtrY (r : Nat) : Nat := if r < 16 then r % 4 else (r - 16) / 2
/-- The router at coordinates (x, y). -/
def rtrAt (x y : Nat) : Nat := if x = 0 then 16 + 2 * y else if x = 5 then 17 + 2 * y else 4 * (x - 1) + y

/-- Local ports of a router (R274). -/
def localPorts (r : Nat) : Nat :=
  if r < 16 then 8 else if r ≤ 17 then 1 else if r ≤ 19 then 4 else if r ≤ 21 then 8 else if r = 22 then 1
  else if r = 23 then 4 else 0

/-- Whether a port code names a port of a router (R273, R274). -/
def portExists (r o : Nat) : Bool :=
  if o = 0 then decide (rtrX r < 5) else if o = 1 then decide (0 < rtrX r)
  else if o = 2 then decide (rtrY r < 3) else if o = 3 then decide (0 < rtrY r)
  else decide (o - 4 < localPorts r)

/-- Whether a destination inside a wall exists: its router, and its local port under R274 (R574). -/
def isEndpoint (r j : Nat) : Bool := decide (r < 24) && decide (j < localPorts r)

/-- The output towards a router: along x, then along y (R286); `j` is the local port at the target. -/
def routeOut (r target j : Nat) : Nat :=
  if rtrX r < rtrX target then 0 else if rtrX target < rtrX r then 1
  else if rtrY r < rtrY target then 2 else if rtrY target < rtrY r then 3 else 4 + j

/-- The router beyond a mesh output. -/
def rtrBeyond (r o : Nat) : Nat :=
  if o = 0 then rtrAt (rtrX r + 1) (rtrY r) else if o = 1 then rtrAt (rtrX r - 1) (rtrY r)
  else if o = 2 then rtrAt (rtrX r) (rtrY r + 1) else rtrAt (rtrX r) (rtrY r - 1)

/-! ### Packets (R276 to R278) -/
def mkDst (w r j : Nat) : BitVec 16 := BitVec.ofNat 16 (j + r * 16 + w * 512)
def hubDst (port : Nat) : BitVec 16 := BitVec.ofNat 16 (port + 4096)
def dPort (d : BitVec 16) : Nat := bvf d 0 4
def dRtr (d : BitVec 16) : Nat := bvf d 4 5
def dWall (d : BitVec 16) : Nat := bvf d 9 3
def dHub (d : BitVec 16) : Bool := bvf d 12 1 = 1
def tileDst (w t : Nat) : BitVec 16 := mkDst w (t / 8) (t % 8)

/-- An answer to a packet: of a type, with a status and a payload (R276). -/
def answerTo (p : Packet) (typ : BitVec 3) (status : Nat) (aux : Nat) (data : Bytes) : Packet :=
  { typ := typ, cls := false, vc := true, epoch := false, len := BitVec.ofNat 4 (flitsFor data.length - 1), la := 0,
    ack := false, dst := p.src, src := p.dst, mid := p.mid, bytes := BitVec.ofNat 10 (data.length - 1), tag := p.tag, conn := 0,
    status := BitVec.ofNat 16 status, aux := BitVec.ofNat 32 aux, addr := p.addr, payload := data }

/-! ### Domains (R275, R309) -/
def courseState (s : State) (w c : Nat) : Nat := s.fl (R.BOND_DOMAIN w) ⟨2 * c, 2⟩
def State.setWallState (s : State) (w v : Nat) : State := s.setFl R.XS_WSTATE ⟨2 * w, 2⟩ v

/-- Whether a destination lies in a course that is closing or off. -/
def State.courseShut (s : State) (w r : Nat) : Bool := decide (r < 16) && decide (2 ≤ courseState s w r)

/-! ### Epochs, slots, connections -/
def State.epochReg (_ : State) : Segment → Nat
  | .wall w => R.BOND_EPOCH w.val
  | .switch => R.XS_EPOCH
def State.curEpoch (s : State) (w : Nat) : Bool := s.fl (R.BOND_EPOCH w) F.BOND_EPOCH_cur = 1
def State.xsEpoch (s : State) : Bool := s.fl R.XS_EPOCH F.XS_EPOCH_cur = 1

/-- A slot-table entry of a wall: the input it names, when it is valid. -/
def State.slotEntry (s : State) (w b r o slot : Nat) : Option Nat :=
  let v := s.rd (R.BOND_SLOT w b r o (slot / 4))
  if nbit v.toNat (8 * (slot % 4) + 4) then some (nbits v.toNat (8 * (slot % 4)) 4) else none
def State.xsSlotEntry (s : State) (b o slot : Nat) : Option Nat :=
  let v := s.rd (R.XS_SLOT b o (slot / 4))
  if nbit v.toNat (8 * (slot % 4) + 4) then some (nbits v.toNat (8 * (slot % 4)) 4) else none

def State.gcValid (s : State) (w c : Nat) : Bool := s.fl (R.GC_CTRL w c) F.GC_CTRL_valid = 1
def State.gcDst (s : State) (w c : Nat) : BitVec 16 := BitVec.ofNat 16 (s.fl (R.GC_DST w c) F.GC_DST_dst)
def State.gcWidth (s : State) (w c : Nat) : Nat := max 1 (s.fl (R.GC_CTRL w c) F.GC_CTRL_width)

/-- What the connection table says of a guaranteed packet at its source interface (R285, R295): a status, 0 to send. -/
def State.gcCheck (s : State) (w r j c : Nat) (dst : BitVec 16) (flits : Nat) : Nat :=
  if !s.gcValid w c then stBadArg
  else if s.fl (R.GC_CTRL w c) F.GC_CTRL_router ≠ r || s.fl (R.GC_CTRL w c) F.GC_CTRL_port ≠ j || s.gcDst w c ≠ dst then stBadArg
  else if s.fl (R.GC_CTRL w c) F.GC_CTRL_down = 1 then stDomainOff
  else if s.gcWidth w c < flits then stBadArg
  else 0

/-- Whether any valid connection of any wall ends at a tile (R296). -/
def State.gcEndsAt (s : State) (w t : Nat) : Bool :=
  (List.range 8).any (fun v => (List.range 64).any (fun c => s.gcValid v c && s.gcDst v c = tileDst w t))

/-! ### Losses (R314) -/
/-- An undeliverable answer is discarded in a wall, at router or tile `i`. -/
def State.lostIn (s : State) (w i : Nat) (p : Packet) : State :=
  (s.bump (R.BOND_LOST_COUNT w)).stickyWall (R.BOND_EVENT w) F.BOND_EVENT_lost w 15 2 [i, p.conn.toNat]

/-- An undeliverable answer is discarded by the crossing switch. -/
def State.lostAtSwitch (s : State) (p : Packet) : State :=
  (s.bump R.XS_LOST_COUNT).stickyHub R.XS_EVENT F.XS_EVENT_lost 7 0 [p.typ.toNat, p.src.toNat]

/-! ### Packets in flight -/
def State.fly (s : State) (a : At) (p : Packet) (due : Nat) : State :=
  { s with flight := s.flight ++ [{ at_ := a, pkt := p, due := due }] }

/-- A best-effort packet comes before another of its virtual channel at one place: they keep their order (R288, R290). -/
def sameQueue (p q : Packet) : Bool := !p.cls && !q.cls && p.vc = q.vc

/-- Packets that R290 keeps in order. -/
def sameStream (p q : Packet) : Bool := p.src = q.src && p.dst = q.dst && p.cls = q.cls && p.vc = q.vc

/-- Where a packet enters the mesh of wall w: a router, and the input there, its source's local port or the gateway's. -/
def entryOf (w : Nat) (p : Packet) : Nat × Nat :=
  if !dHub p.src && dWall p.src = w then (dRtr p.src, 4 + dPort p.src) else (22, 4)

/-- The wall of a place in a mesh; 8: none. -/
def At.seg : At → Nat
  | .router w _ | .atPort w _ _ => w
  | _ => 8

/-- The list without its first entry for a packet at a place, and that entry; `none`: the head cannot enter before its
cycle, or an earlier entry of the place goes first, which `first` tells. A packet that is not listed comes from outside. -/
def takeFrom (a : At) (p : Packet) (now : Nat) (first : InFlight → Bool) : List InFlight → Option (List InFlight × InFlight)
  | [] =>
    let en := entryOf a.seg p
    some ([], { at_ := a, pkt := p, due := now, seg := a.seg, entR := en.1, entI := en.2, rest := p.flits - 1 })
  | e :: r =>
    if e.at_ = a && e.pkt = p then (if now < e.due then none else some (r, e))
    else
      match takeFrom a p now first r with
      | none => none
      | some (r', x) => if e.at_ = a && first e && r'.length < r.length then none else some (e :: r', x)

def State.take (s : State) (a : At) (p : Packet) (now : Nat) (first : InFlight → Bool) : Option (State × InFlight) :=
  match takeFrom a p now first s.flight with
  | none => none
  | some (l, x) => some ({ s with flight := l }, x)

/-! ### Buffers and outputs of a router (R288, R291) -/
/-- The input of router r by which flits come that entered the mesh at router er by input ei (R286). -/
def inputFrom (er ei r : Nat) : Nat :=
  if r = er then ei
  else if rtrY r = rtrY er then (if rtrX er < rtrX r then 1 else 0)
  else if rtrY er < rtrY r then 3 else 2

/-- The input of router r by which a packet's flits come. -/
def inputOf (w r : Nat) (p : Packet) : Nat := inputFrom (entryOf w p).1 (entryOf w p).2 r
def InFlight.input (e : InFlight) (r : Nat) : Nat := inputFrom e.entR e.entI r

/-- Flits of a packet in the buffer of input i, channel vc, of router r. -/
def InFlight.flitsAt (e : InFlight) (w r i : Nat) (vc : Bool) : Nat :=
  if e.pkt.cls || e.pkt.vc ≠ vc || e.input r ≠ i then 0
  else
    (if e.at_ = At.router w r then e.got else 0) +
      (e.trail.filter (fun h => h.w = w && h.r = r && !h.g)).foldl (fun a h => a + h.n) 0

/-- A buffer of 4 flits has room for one more. -/
def roomIn (l : List InFlight) (w r i : Nat) (vc : Bool) : Bool := decide (l.foldl (fun a e => a + e.flitsAt w r i vc) 0 < 4)

/-- Every flit of a guaranteed packet finds its slot at an output of router r (R291, R292). -/
def State.slotsOk (s : State) (w r o slot : Nat) (p : Packet) : Bool :=
  !(s.wall w).realigning &&
    (List.range p.flits).all (fun k => s.slotEntry w (b2n p.epoch) r o ((slot + k) % 64) = some (inputOf w r p))

/-- Where a packet leaves a wall's mesh: the target router and the local port there. -/
def targetOf (w : Nat) (p : Packet) : Nat × Nat :=
  if !dHub p.dst && dWall p.dst = w then (dRtr p.dst, dPort p.dst) else (22, 0)

/-- The output of router r that a packet takes. -/
def outputOf (w r : Nat) (p : Packet) : Nat := routeOut r (targetOf w p).1 (targetOf w p).2

/-- A guaranteed flit claims an output of router r in a cycle (R291). -/
def State.claims (s : State) (w r o c : Nat) : Bool :=
  s.flight.any (fun e =>
    (e.pkt.cls && e.at_ = At.router w r && decide (e.due ≤ c) && decide (c < e.due + e.pkt.flits) && outputOf w r e.pkt = o &&
      s.slotsOk w r o ((e.due + (s.wall w).frameOfs) % 64) e.pkt) ||
    e.trail.any (fun h => h.g && h.w = w && h.r = r && h.out = o && decide (h.at_ ≤ c) && decide (c < h.at_ + h.n)))

/-- A best-effort packet of a channel holds an output of router r: its last flit has not left, or, at a local port, has not
been accepted on channel 0 (R288, R289). -/
def State.held (s : State) (w r o : Nat) (vc : Bool) : Bool :=
  s.flight.any (fun e => !e.pkt.cls && e.pkt.vc = vc &&
    (e.trail.any (fun h => !h.g && h.w = w && h.r = r && h.out = o) ||
     (!vc && decide (4 ≤ o) && e.at_ = At.atPort w r (o - 4))))

/-- Flits of a packet whose head has left router r are still in the buffer of input i (R288). -/
def State.inBuffer (s : State) (w r i : Nat) (vc : Bool) : Bool :=
  s.flight.any (fun e => !e.pkt.cls && e.pkt.vc = vc && e.input r = i &&
    e.trail.any (fun h => !h.g && h.w = w && h.r = r && decide (0 < h.n)))

/-- The packet whose head stands first in a best-effort buffer of router r and may enter in cycle c. -/
def State.headOf (s : State) (w r i : Nat) (vc : Bool) (c : Nat) : Option Packet :=
  if s.inBuffer w r i vc then none
  else match s.flight.find? (fun e => e.at_ = At.router w r && !e.pkt.cls && e.pkt.vc = vc && e.input r = i) with
    | some e => if e.due ≤ c then some e.pkt else none
    | none => none

def grantKey (r o : Nat) (vc : Bool) : Nat := (r * 12 + o) * 2 + b2n vc

/-- Round-robin (R288): no competing head stands at an input that comes before input i after the last granted one. -/
def State.turnOf (s : State) (w r o i : Nat) (vc : Bool) (c : Nat) : Bool :=
  let last := Sp.getD (s.wall w).granted (grantKey r o vc) 11
  let rank (k : Nat) : Nat := (k + 23 - last) % 12
  (List.range 12).all (fun k => k = i || rank i ≤ rank k ||
    (match s.headOf w r k vc c with | some q => decide (outputOf w r q ≠ o) | none => true))

/-- Whether flits of a packet in wall w still stand behind its head (R288). -/
def InFlight.behind (e : InFlight) (w : Nat) : Bool :=
  (e.seg = w && decide (0 < e.rest)) || e.trail.any (fun h => h.w = w)

/-- A head leaves router r in cycle c: the hop that the packet still needs. -/
def InFlight.leave (e : InFlight) (w r o c : Nat) : List Hop :=
  if e.pkt.cls then (if e.pkt.flits = 1 then e.trail else { w := w, r := r, out := o, epoch := e.pkt.epoch, g := true, at_ := c, n := e.pkt.flits } :: e.trail)
  else if e.got ≤ 1 && !e.behind w then e.trail
  else { w := w, r := r, out := o, epoch := e.pkt.epoch, at_ := c, n := e.got - 1 } :: e.trail

/-- Whether router r can pass on a best-effort head that stands first in its buffer, in cycle c (R288, R291): no flits of
the packet before are left in the buffer, the output is not held and not claimed, it is the input's turn, and the next
buffer has room. -/
def State.canPass (s : State) (w r : Nat) (e : InFlight) (c : Nat) : Bool :=
  let o := outputOf w r e.pkt
  let i := e.input r
  let vc := e.pkt.vc
  !s.inBuffer w r i vc && !s.held w r o vc && !s.claims w r o c && s.turnOf w r o i vc c &&
  (decide (4 ≤ o) || roomIn s.flight w (rtrBeyond r o) (e.input (rtrBeyond r o)) vc)

/-! ### The later flits of packets (R288): one fabric cycle of a wall -/
/-- A flit may pass on towards the input buffer of a router, or out of the mesh, in cycle c. -/
def State.flitRoom (s : State) (w : Nat) (e : InFlight) (next : Option Nat) : Bool :=
  match next with
  | some r => roomIn s.flight w r (e.input r) e.pkt.vc
  | none => true

/-- One flit moves along each hop of a best-effort packet, the latest hop first; `next`: the router beyond; `src`: a flit
comes from the interface behind the last hop. True: a flit leaves the list at its front. -/
def State.follow (s : State) (w c : Nat) (e : InFlight) : List Hop → Option Nat → Bool → Bool × List Hop
  | [], _, src => (src, [])
  | h :: r, next, src =>
    if h.w ≠ w || h.g then
      let t := s.follow w c e r next src
      (t.1, h :: t.2)
    else
      let go := decide (0 < h.n) && s.flitRoom w e next && !s.claims w h.r h.out c
      let t := s.follow w c e r (some h.r) src
      (go, { h with n := h.n - b2n go + b2n t.1 } :: t.2)

/-- The hops whose output a packet still holds after cycle c: those behind which flits are still to come, `rest` of them at
the interface; the number counts the flits behind the list's front. -/
def liveHops (w c : Nat) : List Hop → Nat → List Hop × Nat
  | [], rest => ([], rest)
  | h :: r, rest =>
    let t := liveHops w c r rest
    if h.w ≠ w then (h :: t.1, t.2)
    else if h.g then (if c + 1 < h.at_ + h.n then h :: t.1 else t.1, t.2)
    else (if h.n + t.2 = 0 then t.1 else h :: t.1, h.n + t.2)

/-- One cycle of a packet's later flits in wall w, and of those that still enter its mesh. -/
def State.flitCycle (s : State) (w c : Nat) (e : InFlight) : InFlight :=
  let here := match e.at_ with | .router v r => (if v = w then some r else none) | _ => none
  let src := e.seg = w && decide (0 < e.rest) && (e.pkt.cls || roomIn s.flight w e.entR e.entI e.pkt.vc)
  let t := s.follow w c e e.trail here src
  let rest := e.rest - b2n src
  { e with got := e.got + b2n (t.1 && here.isSome && !e.pkt.cls), rest := rest
           trail := (liveHops w c t.2 (if e.seg = w then rest else 0)).1 }

/-- One fabric cycle of a wall's mesh, cycle c: the later flits of every packet. -/
def State.meshCycle (s : State) (w c : Nat) : State := { s with flight := s.flight.map (s.flitCycle w c) }

/-! ### Injection (R279, R298, R574) -/
/-- The status with which the injecting router of a wall refuses a packet, or 0. -/
def State.injectCheck (s : State) (w r j : Nat) (p : Packet) : Nat :=
  if !p.formOk then stBadArg
  else if !dHub p.dst && dWall p.dst = w && !isEndpoint (dRtr p.dst) (dPort p.dst) then stBadArg
  else
    let g := if p.cls then s.gcCheck w r j p.conn.toNat p.dst p.flits else 0
    if g ≠ 0 then g
    else if !dHub p.dst && dWall p.dst = w && (s.courseShut w (dRtr p.dst) || s.testShuts w (dRtr p.dst) (dPort p.dst)) then stDomainOff
    else 0

/-- A packet enters the mesh at router r by an input, in cycle `due` of its wall; its later flits follow. `trail`: the hops
that it still holds in the wall it comes from. -/
def State.enterWith (s : State) (w r i : Nat) (p : Packet) (due : Nat) (trail : List Hop) : State :=
  let q : Packet := { p with epoch := s.curEpoch w, la := BitVec.ofNat 4 (outputOf w r p) }
  { s with flight := s.flight ++ [{ at_ := .router w r, pkt := q, due := due, seg := w, entR := r, entI := i
                                    rest := p.flits - 1, trail := trail }] }

def State.enterMesh (s : State) (w r i : Nat) (p : Packet) (due : Nat) : State := s.enterWith w r i p due []

/-- The hops of a packet that leaves a segment: the flits that had still to enter it stand at the last of them. -/
def InFlight.lastHops (e : InFlight) : List Hop :=
  match e.trail.getLast? with
  | some h => e.trail.dropLast ++ [{ h with n := h.n + (if h.g then 0 else e.rest) }]
  | none => []

/-- An interface is free to inject a packet at input i of router r (R288): no packet of the same channel is still entering
there, and the router's input buffer has room. A guaranteed packet has its slot. -/
def State.entryFree (s : State) (w r i : Nat) (p : Packet) : Bool :=
  p.cls || (roomIn s.flight w r i p.vc &&
    !s.flight.any (fun e => e.seg = w && decide (0 < e.rest) && !e.pkt.cls && e.pkt.vc = p.vc && e.entR = r && e.entI = i))

/-- The input by which an answer formed at router r enters: its endpoint's local port, or, of a refusal by the router
itself, none of R273's (12). -/
def answerInput (w r : Nat) (p : Packet) : Nat := if (entryOf w p).1 = r then (entryOf w p).2 else 12

/-- An answer formed at router r of a wall. -/
def State.sendAnswer (s : State) (w r : Nat) (p : Packet) (due : Nat) : State :=
  if s.injectCheck w r 0 p ≠ 0 then s.lostIn w r p else s.enterMesh w r (answerInput w r p) p due

def nackAux (p : Packet) (r w : Nat) (sw : Bool) : Nat := p.typ.toNat + r * 8 + w * 256 + b2n sw * 2048

/-- A packet is refused at router r of a wall (R308, R313, R314). -/
def State.refuseAt (s : State) (w r : Nat) (p : Packet) (status : Nat) : State :=
  if p.isAnswer then s.lostIn w r p
  else (s.bump (R.BOND_NACK_COUNT w)).sendAnswer w r (answerTo p 5 status (nackAux p r w false) []) (s.wall w).cycle

/-- An answer leaves the crossing switch for its destination (R302, R314). -/
def State.switchAnswer (s : State) (p : Packet) : State :=
  if dHub p.dst then { s with hostOut := s.hostOut ++ [.reply p] }
  else if !s.populated (dWall p.dst) then s.lostAtSwitch p
  else
    let st := wallState s (dWall p.dst)
    if !s.wallOff (dWall p.dst) && (st = 0 || (st = 1 && dRtr p.dst = 23)) then s.fly (.toWall (dWall p.dst)) { p with epoch := s.xsEpoch } (s.tick + 4)
    else s.lostAtSwitch p

/-- The crossing switch refuses a packet. -/
def State.switchRefuse (s : State) (p : Packet) (status : Nat) : State :=
  if p.isAnswer then s.lostAtSwitch p
  else (s.bump R.XS_NACK_COUNT).switchAnswer (answerTo p 5 status (nackAux p 0 0 true) [])

/-! ### Endpoints (R571) -/
/-- What an endpoint answers. -/
inductive Ans where
  | silent
  | nack (status : Nat)
  | comp (status : Nat)
  | resp (status : Nat) (data : Bytes)
  /-- A completion in place of a read response (R330). -/
  | fail (status : Nat)
  deriving DecidableEq, Repr

/-- The endpoint at local port j of router r answers a packet; a completion is sent where the packet asks for one. -/
def State.answerAt (s : State) (w r : Nat) (p : Packet) (a : Ans) : State :=
  let due := (s.wall w).cycle + 1
  match a with
  | .silent => s
  | .nack st => (s.bump (R.BOND_NACK_COUNT w)).sendAnswer w r (answerTo p 5 st (nackAux p r w false) []) due
  | .comp st => if p.ack then s.sendAnswer w r (answerTo p 4 st 0 []) due else s
  | .resp st data => s.sendAnswer w r (answerTo p 2 st 0 data) due
  | .fail st => s.sendAnswer w r (answerTo p 4 st 0 []) due

/-- Whether flits of a packet at its endpoint are still on their way to it. -/
def InFlight.arriving (e : InFlight) (w : Nat) : Bool := !e.trail.isEmpty && e.behind w

/-- A packet that is no answer has reached the endpoint at local port j of router r with its last flit; the endpoint
serves it. -/
def State.serve (s : State) (w r j : Nat) (p : Packet) (run : State → State × Ans) : State :=
  if p.isAnswer then s
  else match s.take (.atPort w r j) p (s.wall w).cycle (fun e => sameStream e.pkt p) with
    | none => s
    | some (s1, e) =>
      if e.arriving w then s
      else
        let a := run s1
        a.1.answerAt w r p a.2

/-- A request that came over the crossing switch has its sender checked against the register table of the unit it is for,
whose register `a` names it, where that unit has no table of its own (R16, R412; DEDUCED, log entry 135). -/
def State.crossDenied (s : State) (w a : Nat) (p : Packet) : Bool :=
  (dHub p.src || dWall p.src ≠ w) && !s.tableAllows p.mid.toNat a true

/-- A row in which a packet reaches an endpoint. -/
def endpointRow (w r j : Nat) (p : Packet) (s : State) (run : State → State × Ans) : Out :=
  onWall w s (fun s => s.serve w r j p run)

/-! ### Domains -/
def State.domState (s : State) : Domain → Nat
  | .course w c => courseState s w.val c.val
  | .wall w => wallState s w.val
def State.setDom (s : State) (d : Domain) (v : Nat) : State :=
  match d with
  | .course w c => s.setFl (R.BOND_DOMAIN w.val) ⟨2 * c.val, 2⟩ v
  | .wall w => s.setWallState w.val v

/-- Whether a packet is for a domain. -/
def forDomain (d : Domain) (p : Packet) : Bool :=
  match d with
  | .course w c => !dHub p.dst && dWall p.dst = w.val && dRtr p.dst = c.val
  | .wall w => !dHub p.dst && dWall p.dst = w.val

def At.injected : At → Bool
  | .queue .. => false
  | _ => true

/-- A domain enters closing (R309). -/
def State.closeDomain (s : State) (d : Domain) : State :=
  let x := s.wall d.wallNo
  (s.setWall d.wallNo { x with closing := Sp.put x.closing d.key s.tick, release := Sp.put x.release d.key s.tick }).setDom d 2

/-- A domain goes off (R310). -/
def State.domainOff (s : State) (d : Domain) : State :=
  let x := s.wall d.wallNo
  (s.setWall d.wallNo { x with closing := Sp.drop x.closing d.key }).setDom d 3

/-- A domain reopens (R312). -/
def State.reopenDomain (s : State) (d : Domain) : State :=
  let x := s.wall d.wallNo
  (s.setWall d.wallNo { x with closing := Sp.drop x.closing d.key }).setDom d 0

/-- Whether a packet for a domain is still in flight. -/
def State.inDomain (s : State) (d : Domain) : Bool := s.flight.any (fun e => e.at_.injected && forDomain d e.pkt)

/-- The drain timeout discards the packets of a domain that a router or the switch holds, each answered (R310). -/
def State.drainDiscard (s : State) (d : Domain) : State :=
  let gone := s.flight.filter (fun e => e.at_.injected && forDomain d e.pkt)
  let s1 := { s with flight := s.flight.filter (fun e => !(e.at_.injected && forDomain d e.pkt)) }
  let inWall (e : InFlight) : Option (Nat × Nat) := match e.at_ with
    | .router w r => some (w, r)
    | .atPort w r _ => some (w, r)
    | _ => none
  let n := (gone.filter (fun e => (inWall e).isNone)).length
  let s2 := gone.foldl (fun (a : State) e =>
    match inWall e with
    | some (w, r) =>
      let a1 := a.bump (R.BOND_DISCARD_COUNT w)
      a1.refuseAt w r e.pkt stDomainOff
    | none => (a.bump R.XS_DISCARD_COUNT).switchRefuse e.pkt stDomainOff) s1
  let s3 := foldN 8 s2 (fun a w =>
    let k := (gone.filter (fun e => match inWall e with | some (v, _) => v = w | none => false)).length
    if k = 0 then a else a.stickyWall (R.BOND_EVENT w) F.BOND_EVENT_discard w 16 0 [d.key % 16, k])
  if n = 0 then s3 else s3.stickyHub R.XS_EVENT F.XS_EVENT_discard 6 0 [d.wallNo, n]

/-- Registers whose addresses satisfy `p` return to their reset words. -/
def State.dropRegs (s : State) (p : Nat → Bool) : State := { s with regs := s.regs.filter (fun e => !p e.1) }

/-- Whether a BAR0 address is a slot-table word of wall w whose output is a local port of a router satisfying `q`. -/
def localSlotAddr (w : Nat) (q : Nat → Bool) (a : Nat) : Bool :=
  decide (wallBase w + 0x46000 ≤ a) && decide (a < wallBase w + 0x46000 + 2 * 0x4800) &&
    (let o := (a - (wallBase w + 0x46000)) % 0x4800
     q (o / 0x300) && decide (4 ≤ (o % 0x300) / 0x40))

/-- The connections that satisfy `p` (source wall and connection number) are released (R311). -/
def State.releaseConns (s : State) (p : State → Nat → Nat → Bool) : State :=
  foldN 8 s (fun a w => foldN 64 a (fun a c =>
    if a.gcValid w c && p a w c then
      (a.setFl (R.GC_CTRL w c) F.GC_CTRL_down 1).setFl (R.GC_STAT w c) F.GC_STAT_status stDomainOff
    else a))

/-- A domain that goes off at once still has its slots and connections to release (R311). -/
def State.wantRelease (s : State) (d : Domain) : State :=
  let x := s.wall d.wallNo
  s.setWall d.wallNo { x with release := Sp.put x.release d.key s.tick }

/-- What a closing domain releases (R311). -/
def State.releaseDomain (s : State) (d : Domain) : State :=
  let ends (a : State) (w c : Nat) : Bool := !dHub (a.gcDst w c) && dWall (a.gcDst w c) = d.wallNo
  match d with
  | .course w c =>
    (s.dropRegs (localSlotAddr w.val (fun r => r = c.val))).releaseConns (fun a v k =>
      (v = w.val && a.fl (R.GC_CTRL v k) F.GC_CTRL_router = c.val) || (ends a v k && dRtr (a.gcDst v k) = c.val))
  | .wall w =>
    ((s.dropRegs (localSlotAddr w.val (fun _ => true))).dropRegs (fun a =>
      (decide (R.XS_SLOT 0 w.val 0 ≤ a) && decide (a < R.XS_SLOT 0 w.val 16)) ||
      (decide (R.XS_SLOT 1 w.val 0 ≤ a) && decide (a < R.XS_SLOT 1 w.val 16)))).releaseConns (fun a v k => v = w.val || ends a v k)

/-! ### Draining an epoch (R307) -/
/-- Whether a packet with the old epoch is in a wall's segment. -/
def State.oldInWall (s : State) (w : Nat) : Bool :=
  s.flight.any (fun e => ((match e.at_ with
    | .router v _ => decide (v = w)
    | .atPort v _ _ => decide (v = w)
    | _ => false) && e.pkt.epoch ≠ s.curEpoch w) || e.trail.any (fun h => h.w = w && h.epoch ≠ s.curEpoch w))

/-- The switch holds no packet between two steps, so its old epoch drains at once. -/
def State.settleEpochs (s : State) : State :=
  let s1 := foldN 8 s (fun a w =>
    if a.fl (R.BOND_EPOCH w) F.BOND_EPOCH_drained = 0 && !a.oldInWall w then a.setFl (R.BOND_EPOCH w) F.BOND_EPOCH_drained 1 else a)
  if s1.fl R.XS_EPOCH F.XS_EPOCH_drained = 0 then s1.setFl R.XS_EPOCH F.XS_EPOCH_drained 1 else s1

/-- Every packet of a wall is discarded without a NACK at its reset or load (R314): those in its routers, those the
switch has passed towards it, and the sends that wait in it. -/
def State.discardWall (s : State) (w : Nat) : State :=
  { s with flight := s.flight.filter (fun e => match e.at_ with
      | .queue v _ _ => decide (v ≠ w)
      | .router v _ => decide (v ≠ w) && !e.trail.any (fun h => h.w = w)
      | .atPort v _ _ => decide (v ≠ w) && !e.trail.any (fun h => h.w = w)
      | .toWall v => decide (v ≠ w) && !e.trail.any (fun h => h.w = w)
      | .toSwitch _ => !e.trail.any (fun h => h.w = w)
      | .hub _ => !e.trail.any (fun h => h.w = w)) }

end Sys2Proof.Machine
end

