-- ==== Sys2Proof/Machine/BondCmds.lean ====
section
/-!
DEFINITION. Machine/BondCmds.lean: the rows of the bond network (chapter 07): SEND and FENCE, injection, routers, the
crossing switch, gateways, tile writes and messages, answers, epochs, tables, connections, drains and realignment.
-/
namespace Sys2Proof.Machine
open Sys2Proof

/-! ### SEND and FENCE (R152, R153, R284, R285) -/
/-- A status other than OK is recorded in SEND_STAT (R153). -/
def sendStatAfter (old : Word) (status : Nat) : Word :=
  BitVec.ofNat 32 (status % 65536 + min 65535 (old.toNat / 65536 + 1) * 65536)

/-- The payload words of a SEND: taps from TAP.0, or general registers from code 24, bits [23:0] each. -/
def State.sendWords (s : State) (w t : Nat) (b : Bank) (n : Nat) (f : SendF) : List Nat :=
  (List.range (f.len.toNat + 1)).map (fun k =>
    if f.gen then ((s.ctx w t b).reg b (24 + k)).toNat % 16777216 else ((s.tile w t).tapAt n k).toNat)

/-- Sends of a class that wait for injection at a tile. -/
def State.sendsWaiting (s : State) (w t : Nat) (cls : Bool) : Nat :=
  (s.flight.filter (fun e => e.at_ = At.queue w (t / 8) (t % 8) && e.pkt.cls = cls)).length

/-- The status with which a SEND is not sent, or 0 (R153, R284, R285). -/
def State.sendCheck (s : State) (w t : Nat) (ra : Word) (f : SendF) : Nat :=
  let cls := nbit ra.toNat 16
  if !f.gen && decide (4 ≤ f.len.toNat) then stBadArg
  else if 0x800000 ≤ ra.toNat then stBadArg
  else
    let g := if cls then s.gcCheck w (t / 8) (t % 8) (nbits ra.toNat 17 6) (BitVec.ofNat 16 ra.toNat) 1 else 0
    if g ≠ 0 then g
    else if (if cls then 4 else 8) ≤ s.sendsWaiting w t cls then stBusy
    else 0

/-- The packet that a SEND forms (R284). -/
def State.sendPacket (s : State) (w t : Nat) (ra rb : Word) (kind : BitVec 2) (ws : List Nat) : Packet :=
  { typ := (if kind = 1 then 3 else 0), cls := nbit ra.toNat 16, vc := false, epoch := false, len := 0, la := 0, ack := true,
    dst := BitVec.ofNat 16 ra.toNat, src := tileDst w t, mid := BitVec.ofNat 6 (midTile w),
    bytes := BitVec.ofNat 10 (4 * ws.length - 1), tag := (s.tile w t).sendCnt, conn := BitVec.ofNat 6 (nbits ra.toNat 17 6),
    status := 0, aux := 0, addr := BitVec.ofNat 64 rb.toNat, payload := ws.flatMap (leBytes 4) }

/-- SEND: the packet waits for injection and is outstanding, or its status is recorded. -/
def execSend (x : TileRef) (f : SendF) (s : State) : Out :=
  seqRow x s (decide (f.kind.toNat < 2)) false (fun _ => 0) (fun b n s =>
    let w := x.w.val
    let t := x.t.val
    let c := s.ctx w t b
    let ra := c.reg b f.ra.toNat
    let st := s.sendCheck w t ra f
    if st ≠ 0 then (s.onCtx w t b (fun c => { c with sendStat := sendStatAfter c.sendStat st })).advance w t b
    else
      let p := s.sendPacket w t ra (c.reg b f.rb.toNat) f.kind (s.sendWords w t b n f)
      let y := s.tile w t
      let s1 := s.setTile w t { y with sendCnt := y.sendCnt + 1, outst := y.outst ++ [(y.sendCnt, (y.owner b).getD 512)] }
      (s1.fly (.queue w (t / 8) (t % 8)) p 0).advance w t b)

/-- Whether a bank's flow has sends that are not finished. -/
def Tile.sending (y : Tile) (b : Bank) : Bool := y.outst.any (fun e => e.2 = (y.owner b).getD 512)

/-- FENCE: the sequencer waits until every send of its bank is finished. -/
def execFence (x : TileRef) (s : State) : Out :=
  seqRow x s true false (fun _ => 0) (fun b _ s =>
    let w := x.w.val
    let t := x.t.val
    if (s.tile w t).sending b then s.onCtx w t b (fun c => { c with fence := true }) else s.advance w t b)

/-- The FENCE of a bank ends when the last of its sends is finished. -/
def State.endFence (s : State) (w t : Nat) (b : Bank) : State :=
  let y := s.tile w t
  if (y.bank b).fence && !y.sending b then
    (s.onCtx w t b (fun c => { c with fence := false })).advance w t b
  else s

/-- A status recorded for a flow's send: in its bank, or, while it is cold, in its save area (R153, the save-area
layout of 04_tile_sequencer). -/
def State.recordSend (s : State) (w t f status : Nat) : State :=
  match (s.tile w t).bankOf f with
  | some b => s.onCtx w t b (fun c => { c with sendStat := sendStatAfter c.sendStat status })
  | none =>
    if s.fstate w f = 0 || f = 512 then s
    else
      let h := s.homeLower w f t
      s.setAreaWord w h (0x90 + 0xB4) (sendStatAfter (s.areaWord w h (0x90 + 0xB4)) status)

/-- The answer of a tile's send returns (R285). -/
def State.sendReply (s : State) (w t : Nat) (tag : BitVec 8) (status : Nat) : Option State :=
  let y := s.tile w t
  match y.outst.find? (fun e => e.1 = tag) with
  | none => none
  | some e =>
    let s1 := s.setTile w t { y with outst := y.outst.erase e }
    let s2 := if status = 0 then s1 else s1.recordSend w t e.2 status
    some (((s2.endFence w t .b0).endFence w t .b1).endFence w t .fast)

/-! ### Injection -/
/-- The master ID that an interface stamps (R279, R410). -/
def ifaceMid (w r : Nat) (m : Mid) : Mid :=
  if r < 16 then BitVec.ofNat 6 (midTile w) else if r = 20 || r = 21 then BitVec.ofNat 6 (midLinks w)
  else if r = 23 then BitVec.ofNat 6 (midKiln w) else m

/-- A guaranteed packet is injected in its connection's slot only, one packet a frame (R292, R304), and in no slot while the
frame realigns (R301). -/
def State.slotOpen (s : State) (w : Nat) (p : Packet) : Bool :=
  !p.cls || !s.gcValid w p.conn.toNat ||
    (!(s.wall w).realigning && s.slotNow w = s.fl (R.GC_CTRL w p.conn.toNat) F.GC_CTRL_slot &&
     Sp.getD (s.wall w).sentAt p.conn.toNat 0 ≠ (s.wall w).cycle + 1)

/-- A connection has sent a packet: counted (R315), and its slot of this frame is used. -/
def State.gcSent (s : State) (w c : Nat) : State :=
  let x := s.wall w
  (s.setWall w { x with sentAt := Sp.put x.sentAt c (x.cycle + 1) }).wrapFl (R.GC_STAT w c) F.GC_STAT_packets

/-- PACKET_INJECT. -/
def execPacketInject (w : Wall) (r : Fin 24) (j : Fin 8) (p : Packet) (s : State) : Out :=
  onWall w.val s (fun s =>
    let w := w.val
    if localPorts r.val ≤ j.val || !s.slotOpen w p then s
    else match s.take (.queue w r.val j.val) p (s.wall w).cycle (fun e => sameQueue e.pkt p || sameStream e.pkt p) with
      | none => s
      | some (s1, _) =>
        let q := { p with vc := p.isAnswer, src := mkDst w r.val j.val, mid := ifaceMid w r.val p.mid }
        let st := s1.injectCheck w r.val j.val q
        if st ≠ 0 then s1.refuseAt w r.val q st
        else if !s1.entryFree w r.val (4 + j.val) q then s
        else
          let s2 := if q.cls then s1.gcSent w q.conn.toNat else s1
          s2.enterMesh w r.val (4 + j.val) q (s2.wall w).cycle)

/-! ### Routers (R286, R287, R291, R294) -/
/-- Whether router r's route table lets a packet pass (R287). -/
def State.routeOpen (s : State) (w r : Nat) (p : Packet) : Bool :=
  let here := !dHub p.dst && dWall p.dst = w
  let e := s.rd (R.BOND_ROUTE w (b2n p.epoch) r (if here then dRtr p.dst else 24))
  let ports := fld e F.BOND_ROUTE_ports
  fld e F.BOND_ROUTE_open = 1 &&
    (if here then r ≠ dRtr p.dst || nbit ports (dPort p.dst)
     else r ≠ 22 || !dHub p.dst || decide (2 < dPort p.dst) || nbit ports (dPort p.dst))

/-- A guaranteed packet of which a flit misses its slot at a router goes on as best effort from there, with all its flits,
which are counted (R294, R315; log 133). -/
def State.gmiss (s : State) (w r : Nat) (p : Packet) : State :=
  (s.bumpBy (R.BOND_GMISS_COUNT w) p.flits).stickyWall (R.BOND_EVENT w) F.BOND_EVENT_gmiss w 15 0 [r, p.conn.toNat]

/-- A head leaves router r in cycle c, `now` being the wall's cycle: for the crossing switch, for its endpoint, or for the
next router, whose output the head names (R286). -/
def State.passHead (s : State) (w r : Nat) (e : InFlight) (c : Nat) : State :=
  let p := e.pkt
  let tg := targetOf w p
  let o := outputOf w r p
  let now := (s.wall w).cycle
  let e' : InFlight := { e with got := 1, trail := e.leave w r o c }
  let e1 : InFlight :=
    if r = tg.1 then
      (if r = 22 then { e' with at_ := .toSwitch w, due := s.tick + 4 - (now - c) } else { e' with at_ := .atPort w r tg.2, due := c + 1 })
    else
      let r' := rtrBeyond r o
      { e' with at_ := .router w r', pkt := { p with la := BitVec.ofNat 4 (outputOf w r' p) }, due := c + 1 }
  { s with flight := s.flight ++ [e1] }

/-- A best-effort head leaves router r where it can, and its input has had its turn (R288); else it waits there. -/
def State.passBest (s : State) (w r : Nat) (e : InFlight) : State :=
  let c := (s.wall w).cycle
  if !s.canPass w r e c then { s with flight := e :: s.flight }
  else
    let x := s.wall w
    (s.setWall w { x with granted := Sp.put x.granted (grantKey r (outputOf w r e.pkt) e.pkt.vc) (e.input r) }).passHead w r e c

/-- An endpoint that serves no write, read request or message, and issues no request (R571): the wall event unit. -/
def noServer (r j : Nat) : Bool := r = 23 && j = 3

/-- ROUTER_HEAD_ENTRY: the head enters router r in its cycle, is checked and leaves by the output towards its target: a
guaranteed one in its slot (R291), a best-effort one when it is its turn and it can (R288). The wall event unit refuses
what reaches it (R571). -/
def execRouterHeadEntry (w : Wall) (r : Fin 24) (p : Packet) (s : State) : Out :=
  onWall w.val s (fun s =>
    let w := w.val
    let r := r.val
    let c := (s.wall w).cycle
    match s.take (.router w r) p c (fun e => sameQueue e.pkt p && e.input r = inputOf w r p) with
    | none => s
    | some (s1, e) =>
      if !s1.routeOpen w r p then s1.refuseAt w r p stRouteWithdrawn
      else if r = (targetOf w p).1 && noServer r (targetOf w p).2 && !p.isAnswer then s1.answerAt w r p (.nack stBadArg)
      else if !p.cls then s1.passBest w r e
      else if s1.slotsOk w r (outputOf w r p) ((e.due + (s1.wall w).frameOfs) % 64) p then s1.passHead w r e e.due
      else
        (s1.gmiss w r p).passBest w r
          { e with pkt := { p with cls := false }, got := 1, seg := w, entR := r, entI := inputOf w r p, rest := p.flits - 1 })

/-! ### The crossing switch (R297 to R303, R406, R574) -/
/-- The size of the host window of an on-chip master, in bytes, and its base. -/
def State.window (s : State) (m : Nat) : Nat × Nat :=
  (s.fl (R.XS_HWIN_SIZE (m - 32)) F.XS_HWIN_SIZE_size * 4096,
   s.fl (R.XS_HWIN_LO (m - 32)) F.XS_HWIN_LO_base * 4096 + (s.rd (R.XS_HWIN_HI (m - 32))).toNat * 4294967296)

def State.inWindow (s : State) (p : Packet) : Bool :=
  decide (p.mid.toNat < 32) ||
    (decide ((s.window p.mid.toNat).1 ≠ 0) && decide (p.addr.toNat + p.count ≤ (s.window p.mid.toNat).1))

/-- The output of the switch for a destination. -/
def switchOut (d : BitVec 16) : Nat := if dHub d then 8 + dPort d else dWall d

/-- The status with which the switch refuses a packet, or 0. -/
def State.switchCheck (s : State) (i : Nat) (p : Packet) : Nat :=
  let d := p.dst
  let st := wallState s (dWall d)
  if p.typ.toNat ≥ 6 || !p.formOk then stBadArg
  else if !dHub d && !s.populated (dWall d) then stAccessDenied
  else if dHub d && decide (2 < dPort d) then stBadArg
  else if !dHub d && (decide (2 ≤ st) || s.wallOff (dWall d)) then stDomainOff
  else if !dHub d && st = 1 && dRtr d ≠ 23 then stWallLoading
  else if !nbit (s.fl (R.XS_ROUTE (b2n s.xsEpoch) i) F.XS_ROUTE_open) (switchOut d) then stRouteWithdrawn
  else if p.isAnswer then 0
  else if dHub d && dPort d = 0 then
    (if !s.cxl.up then stDomainOff else if !s.inWindow p then stAccessDenied else if p.typ = 3 then stBadArg else 0)
  else if dHub d && dPort d = 1 then stBadArg
  else if dHub d then (if (List.range 8).any (fun w => p.mid.toNat = midKiln w) then 0 else stAccessDenied)
  else 0

/-- Whether the switch carries a guaranteed packet as such (R294, R300). -/
def State.switchSlotOk (s : State) (i slot : Nat) (p : Packet) : Bool :=
  (decide (8 ≤ i) || s.clockStep i = 0) && (dHub p.dst || s.clockStep (dWall p.dst) = 0) &&
    (List.range p.flits).all (fun k => s.xsSlotEntry (b2n s.xsEpoch) (switchOut p.dst) ((slot + k) % 64) = some i)

/-- The request that an answer for a source, with a tag, answers (R571). -/
def State.awaits (s : State) (d : BitVec 16) (tag : BitVec 8) : Option Await :=
  s.awaiting.find? (fun e => e.pkt.src = d && e.pkt.tag = tag)

/-- A request is held until its answer comes. -/
def State.hold (s : State) (p : Packet) (io : Bool) : State :=
  { s with awaiting := s.awaiting ++ [{ pkt := { p with payload := [] }, io := io }] }

/-- The hub takes a packet that the switch has passed to a hub port. -/
def State.hubTake (s : State) (p : Packet) : State :=
  if p.isAnswer then
    (match s.awaits p.dst p.tag with
      | some e => { s with awaiting := s.awaiting.erase e, hostOut := s.hostOut ++ [.reply p] }
      | none => s.lostAtSwitch p)
  else if dPort p.dst = 0 then s.fly (.hub 0) p (s.tick + 1)
  else if p.ack then s.switchAnswer (answerTo p 4 0 0 []) else s

/-- CROSSING_SWITCH_ENTRY: input i is a wall's gateway, or the CXL endpoint (8), the trowel (9), the event matrix (10). -/
def execCrossingSwitchEntry (i : Fin 11) (p : Packet) (s : State) : Out :=
  let i := i.val
  if i < 8 && !s.populated i then .fault .unpopulatedWall
  else if !s.powered then .next s
  else .next (match s.take (if i < 8 then .toSwitch i else .hub i) p s.tick (fun e => sameQueue e.pkt p || sameStream e.pkt p) with
    | none => s
    | some (s0, e) =>
      let late := s0.tick - e.due
      -- the host's answer to a request of an on-chip master
      let back := i = 8 && p.isAnswer
      let req := if back then s0.awaits p.dst p.tag else none
      if back && req.isNone then s0.lostAtSwitch p
      else
        let s1 := match req with | some q => { s0 with awaiting := s0.awaiting.erase q } | none => s0
        let wanted := match req with | some q => p.typ ≠ 4 || q.pkt.typ = 1 || q.pkt.ack | none => true
        let at_ := s1.tick - (if p.cls then late else 0)
        let p1 := if 8 ≤ i && !back then { p with src := hubDst (i - 8) } else p
        let st := s1.switchCheck i p1
        if !wanted then s1
        else if st ≠ 0 then
          let s2 := if st = stAccessDenied && dHub p.dst && dPort p.dst = 0 then
              s1.raiseHub 4 0 [p.mid.toNat, p.addr.toNat % 4294967296, b2n (p.typ ≠ 1)] else s1
          s2.switchRefuse p1 st
        else
          let ok := !p.cls || s1.switchSlotOk i (at_ % 64) p
          let s2 := if ok then s1
            else (s1.bump R.XS_DEGRADE_COUNT).stickyHub R.XS_EVENT F.XS_EVENT_degrade 5 0 [i, p.conn.toNat]
          let q := { p1 with cls := p.cls && ok, epoch := s2.xsEpoch }
          let s3 := if 8 ≤ i && !back && !dHub q.dst && (q.typ = 1 || q.ack) then s2.hold q false else s2
          if dHub q.dst then s3.hubTake q
          else { s3 with flight := s3.flight ++ [{ e with at_ := .toWall (dWall q.dst), pkt := q, due := at_ + 4 }] })

/-- GATEWAY_ENTRY: a packet from the switch enters a wall's mesh (R298, R309, R574). -/
def execGatewayEntry (w : Wall) (p : Packet) (s : State) : Out :=
  onWall w.val s (fun s =>
    let w := w.val
    match s.take (.toWall w) p s.tick (fun e => sameQueue e.pkt p || sameStream e.pkt p) with
    | none => s
    | some (s1, e) =>
      let c := (s1.wall w).cycle - (if p.cls then s1.tick - e.due else 0)
      if !isEndpoint (dRtr p.dst) (dPort p.dst) then s1.refuseAt w 22 p stBadArg
      else if s1.courseShut w (dRtr p.dst) || s1.testShuts w (dRtr p.dst) (dPort p.dst) then s1.refuseAt w 22 p stDomainOff
      else if !s1.entryFree w 22 4 p then s
      else s1.enterWith w 22 4 p c e.lastHops)

/-! ### Tile bond interfaces (R103, R281, R282, R296) -/
/-- The words of a payload: memory address steps from 0, and the word as a port takes it (R281). -/
def tileWords (asp : Nat) (data : Bytes) : List W48 :=
  let ws := (wordsOfBytes data).map (fun v => v.toNat % 16777216)
  let rec pairs : List Nat → List W48
    | a :: b :: r => BitVec.ofNat 48 (a + b * 16777216) :: pairs r
    | _ => []
  if asp = 3 then pairs ws else ws.map (BitVec.ofNat 48)

/-- Whether a payload's byte count suits a tile memory. -/
def tileSizeOk (asp : Nat) (p : Packet) : Bool := p.count % (if asp = 3 then 8 else 4) = 0

/-- The flits that hold a packet's words: the first has 10 containers, a further one 16 (R278). -/
def asFlits (g : Bool) (n first : Nat) (ws : List (Nat × Nat × W48)) : Nat → List BondFlit
  | 0 => []
  | k + 1 => if ws.isEmpty then [] else { g := g, words := ws.take first } :: asFlits g n n (ws.drop first) k

/-- Whether the bond interface of a tile can take a best-effort flit: two buffers, one kept for guaranteed flits (R296). -/
def State.bufferFree (s : State) (w t : Nat) : Bool :=
  let n := ((s.tile w t).bbuf.filter (fun e => !e.g)).length
  decide (n < (if s.gcEndsAt w t then 1 else 2))

/-- A guaranteed flit finds the previous one in its buffer (R296). -/
def State.gdropped (s : State) (w t : Nat) (p : Packet) : State :=
  let s1 := ((s.bump (R.BOND_GDROP_COUNT w)).bumpFl (R.BI_STATUS w t) F.BI_STATUS_gdrops).setFl (R.BI_STATUS w t) F.BI_STATUS_gdrop 1
  s1.stickyWall (R.BOND_EVENT w) F.BOND_EVENT_gdrop w 15 1 [t, p.conn.toNat]

/-- Words enter the buffers of a tile's bond interface. -/
def State.bufferWords (s : State) (w t : Nat) (g : Bool) (asp : Nat) (ws : List (Nat × Nat × W48)) : State :=
  let y := s.tile w t
  let k := if asp = 3 then 2 else 1
  s.setTile w t { y with bbuf := y.bbuf ++ asFlits g (16 / k) (10 / k) ws 16 }

/-- A write or message reaches a tile: a guaranteed flit is dropped when its buffer is full, a best-effort one waits. -/
def tileRow (x : TileRef) (p : Packet) (s : State) (types : BitVec 3 → Bool) (run : State → State × Ans) : Out :=
  onWall x.w.val s (fun s =>
    let w := x.w.val
    let t := x.t.val
    if !types p.typ then s
    else if p.cls && (s.tile w t).bbuf.any (fun e => e.g) then s.serve w (t / 8) (t % 8) p (fun s => (s.gdropped w t p, .silent))
    else if !p.cls && !s.bufferFree w t then s
    else s.serve w (t / 8) (t % 8) p run)

/-- TILE_WRITE_PACKET: words at (address + c) modulo the depth (R280, R281). -/
def execTileWritePacket (x : TileRef) (p : Packet) (s : State) : Out :=
  tileRow x p s (fun k => k = 0 || k = 1) (fun s =>
    let w := x.w.val
    let t := x.t.val
    let a := bvf p.addr 0 12
    let m := bvf p.addr 12 2
    let asp := s.aspect w t m
    if p.typ = 1 then (s, .nack stBadArg)
    else if s.crossDenied w (R.BI_RING w t) p then (s, .nack stAccessDenied)
    else if !tileSizeOk asp p then (s, .nack stBadArg)
    else
      let ws := (tileWords asp p.payload).zipIdx.map (fun e => (m, (a + e.2) % aspectDepth asp, e.1))
      (s.bufferWords w t p.cls asp ws, .comp 0))

/-- TILE_MESSAGE: words at the ring's write offset, which moves past them (R282). -/
def execTileMessage (x : TileRef) (p : Packet) (s : State) : Out :=
  tileRow x p s (fun k => k = 3) (fun s =>
    let w := x.w.val
    let t := x.t.val
    let r := s.rd (R.BI_RING w t)
    let m := fld r F.BI_RING_tmem
    let asp := s.aspect w t m
    if s.crossDenied w (R.BI_RING w t) p then (s, .nack stAccessDenied)
    else if fld r F.BI_RING_en = 0 then (s.setFl (R.BI_STATUS w t) F.BI_STATUS_noring 1, .nack stBadArg)
    else if !tileSizeOk asp p then (s, .nack stBadArg)
    else
      let o := s.fl (R.BI_WPTR w t) F.BI_WPTR_wptr
      let n := fld r F.BI_RING_len
      let ws := (tileWords asp p.payload).zipIdx.map (fun e => (m, fld r F.BI_RING_base + (o + e.2) % n, e.1))
      let s1 := s.bufferWords w t p.cls asp ws
      ((s1.setFl (R.BI_WPTR w t) F.BI_WPTR_wptr ((o + ws.length) % n)).wrapFl (R.BI_WPTR w t) F.BI_WPTR_msgs, .comp 0))

/-! ### Host windows (R303, R405, R406) -/
/-- The parts of an access by 64-byte line: address, bytes. -/
def lineParts (a : Nat) (data : Bytes) : Nat → List (Nat × Bytes)
  | 0 => []
  | k + 1 =>
    if data.isEmpty then []
    else
      let n := 64 - a % 64
      (a, data.take n) :: lineParts (a + n) (data.drop n) k

/-- What the endpoint issues for a packet at a host address: kind (0 RdCurr, 1 ItoMWr, 2 CXL.io read, 3 CXL.io write). -/
def State.windowIssue (s : State) (a : Nat) (p : Packet) : List HostOut :=
  if p.typ = 1 then [.win (if s.cxl.flit256 then 0 else 2) a p.count []]
  else (lineParts a p.payload 17).map (fun e =>
    .win (if s.cxl.flit256 && decide (e.2.length = 64) then 1 else 3) e.1 e.2.length e.2)

/-- The path of a window access: 0 CXL.cache, 1 CXL.io. -/
def issuePath (l : List HostOut) : Nat :=
  if l.any (fun h => match h with | .win k _ _ _ => decide (2 ≤ k) | _ => false) then 1 else 0

/-- HOST_WINDOW_ACCESS: the endpoint issues the access; no write of a master goes out while one of the same master awaits
completion on the other path. -/
def execHostWindowAccess (p : Packet) (s : State) : Out :=
  .next (if p.isAnswer || !s.powered then s
  else match s.take (.hub 0) p s.tick (fun e => sameStream e.pkt p) with
    | none => s
    | some (s1, _) =>
      if !s1.cxl.up then s1.switchRefuse p stDomainOff
      else
        let a := if p.mid.toNat < 32 then p.addr.toNat else ((s1.window p.mid.toNat).2 + p.addr.toNat) % 18446744073709551616
        let out := s1.windowIssue a p
        let io := issuePath out = 1
        let clash := p.typ ≠ 1 && s1.awaiting.any (fun e => !dHub e.pkt.src && e.pkt.mid = p.mid && e.pkt.typ ≠ 1 && e.io ≠ io)
        if clash then s else { (s1.hold p io) with hostOut := s1.hostOut ++ out })

/-! ### Answers (R571) -/
/-- An answer to a slot write of a link unit: the frame that holds its tag waits for it no longer, and a write that was
refused is counted (R373, R374). -/
def State.linkAnswer (s : State) (w n : Nat) (tag : BitVec 8) (status : Nat) : Option State :=
  let x := s.link w n
  if x.rx.any (fun f => f.tags.contains tag) then
    let rec drop (l : List RxFrame) : List RxFrame := match l with
      | [] => []
      | f :: r => if f.tags.contains tag then
          (if f.dead && f.tags.length = 1 then r else { f with tags := f.tags.erase tag } :: r)
        else f :: drop r
    let s1 := s.setLink w n { x with rx := drop x.rx }
    some (if status = 0 then s1 else s1.bump (R.LK_RXDROP_COUNT w n))
  else none

/-- ANSWER_RECEIPT: an answer reaches local port j of router r. -/
def execAnswerReceipt (w : Wall) (r : Fin 24) (j : Fin 8) (p : Packet) (s : State) : Out :=
  onWall w.val s (fun s =>
    let w := w.val
    if !p.isAnswer || localPorts r.val ≤ j.val then s
    else match s.take (.atPort w r.val j.val) p (s.wall w).cycle (fun e => sameStream e.pkt p) with
      | none => s
      | some (s1, e) =>
        if e.arriving w then s
        else if r.val < 16 then
          match (if p.typ = 2 then none else s1.sendReply w (8 * r.val + j.val) p.tag p.status.toNat) with
          | some s2 => s2
          | none => s1.lostIn w (8 * r.val + j.val) p
        else if r.val = 20 || r.val = 21 then
          match (if p.typ = 2 then none else s1.linkAnswer w (8 * (r.val - 20) + j.val) p.tag p.status.toNat) with
          | some s2 => s2
          | none => s1.lostIn w r.val p
        else
          match s1.awaits (mkDst w r.val j.val) p.tag with
          | some e => { s1 with awaiting := s1.awaiting.erase e }
          | none => s1.lostIn w r.val p)

/-! ### Epoch flips (R305 to R307) -/
/-- The effect of a write of BOND_EPOCH or XS_EPOCH. -/
def State.epochWrite (s : State) (seg : Segment) (v : Word) : State × Nat :=
  let a := s.epochReg seg
  if fld v F.BOND_EPOCH_flip = 0 then (s, 0)
  else if s.fl a F.BOND_EPOCH_pending = 1 || s.fl a F.BOND_EPOCH_drained = 0 then refuse s stBusy
  else (s.setFl a F.BOND_EPOCH_pending 1, 0)

/-- BOND_EPOCH_FLIP_WRITE. -/
def execBondEpochFlipWrite (m : Mid) (seg : Segment) (s : State) : Out :=
  regRow s m (s.epochReg seg) (fun s => s.epochWrite seg 2)

/-- EPOCH_FLIP: at the frame boundary every router of the segment switches bank. -/
def execEpochFlip (seg : Segment) (s : State) : Out :=
  let a := s.epochReg seg
  let run (s : State) : State :=
    if s.fl a F.BOND_EPOCH_pending = 1 then
      ((s.setFl a F.BOND_EPOCH_cur (1 - s.fl a F.BOND_EPOCH_cur)).setFl a F.BOND_EPOCH_pending 0).setFl a F.BOND_EPOCH_drained 0
    else s
  match seg with
  | .wall w => onWall w.val s (fun s => if s.slotNow w.val = 0 then run s else s)
  | .switch => .next (if s.powered && s.tick % 64 = 0 then run s else s)

/-! ### Route and slot tables (R293, R305) -/
/-- Whether a table bank takes writes: the shadow, while drained. -/
def State.shadowOpen (s : State) (seg : Segment) (b : Bool) : Bool :=
  let a := s.epochReg seg
  s.fl a F.BOND_EPOCH_drained = 1 && decide (s.fl a F.BOND_EPOCH_cur ≠ b2n b)

/-- The effect of a route-table write. -/
def State.routeWrite (s : State) (seg : Segment) (b : Bool) (r d : Nat) (v : Word) : State × Nat :=
  if !s.shadowOpen seg b then refuse s stBusy
  else match seg with
    | .wall w => (s.plain (R.BOND_ROUTE w.val (b2n b) r d) v, 0)
    | .switch => (s.plain (R.XS_ROUTE (b2n b) r) v, 0)

/-- Whether a route-table entry exists. -/
def routeExists (seg : Segment) (r d : Nat) : Bool :=
  match seg with
  | .wall _ => decide (r < 24) && decide (d < 25)
  | .switch => decide (r < 11)

/-- ROUTE_TABLE_WRITE: for the switch, r is the input and d is not used. -/
def execRouteTableWrite (m : Mid) (seg : Segment) (b : Bool) (r d : Nat) (v : Word) (s : State) : Out :=
  let a := match seg with | .wall w => R.BOND_ROUTE w.val (b2n b) r d | .switch => R.XS_ROUTE (b2n b) r
  regRow s m a (fun s => if routeExists seg r d then s.routeWrite seg b r d v else refuse s stBadArg)

def slotAddr (seg : Segment) (b r o j : Nat) : Nat :=
  match seg with | .wall w => R.BOND_SLOT w.val b r o j | .switch => R.XS_SLOT b o j

/-- Whether a port code exists in a segment's tables. -/
def tablePort (seg : Segment) (r o : Nat) : Bool :=
  match seg with | .wall _ => portExists r o | .switch => decide (o < 11)

/-- The status that R293 gives entry k of a slot word: 0 where the write does not set it valid. -/
def State.slotEntryCheck (s : State) (seg : Segment) (b r o j k : Nat) (v : Word) : Nat :=
  let old := s.rd (slotAddr seg b r o j)
  let i := nbits v.toNat (8 * k) 4
  if !nbit v.toNat (8 * k + 4) then 0
  else if nbit old.toNat (8 * k + 4) then stBusy
  else if !tablePort seg r o || !tablePort seg r i then stBadArg
  else if (List.range 12).any (fun q => q ≠ o &&
      (let e := s.rd (slotAddr seg b r q j)
       nbit e.toNat (8 * k + 4) && nbits e.toNat (8 * k) 4 = i)) then stBadArg
  else 0

/-- The effect of a slot-table write. -/
def State.slotWrite (s : State) (seg : Segment) (b : Bool) (r o j : Nat) (v : Word) : State × Nat :=
  if !s.shadowOpen seg b then refuse s stBusy
  else
    match ([0, 1, 2, 3].map (fun k => s.slotEntryCheck seg (b2n b) r o j k v)).find? (fun st => st ≠ 0) with
    | some st => refuse s st
    | none => (s.plain (slotAddr seg (b2n b) r o j) v, 0)

/-- SLOT_TABLE_WRITE: entries 4j to 4j + 3 of output o; for the switch, r is not used. -/
def execSlotTableWrite (m : Mid) (seg : Segment) (b : Bool) (r o j : Nat) (v : Word) (s : State) : Out :=
  let ok := match seg with
    | .wall _ => decide (r < 24) && decide (o < 12) && decide (j < 16)
    | .switch => decide (o < 11) && decide (j < 16)
  regRow s m (slotAddr seg (b2n b) r o j) (fun s => if ok then s.slotWrite seg b r o j v else refuse s stBadArg)

/-! ### Connections and rings (R282, R295) -/
/-- The effect of a write of GC_CTRL. -/
def State.gcWrite (s : State) (w c : Nat) (v : Word) : State × Nat :=
  let old := s.rd (R.GC_CTRL w c)
  let dst := s.gcDst w c
  if fld old F.GC_CTRL_valid = 1 then
    (if fld v F.GC_CTRL_valid = 1 then refuse s stBusy
     else ((s.plain (R.GC_CTRL w c) v).setFl (R.GC_CTRL w c) F.GC_CTRL_down 0, 0))
  else if fld v F.GC_CTRL_valid = 1 && decide (1 < fld v F.GC_CTRL_width) && !dHub dst && decide (dRtr dst < 16) then refuse s stBadArg
  else ((s.plain (R.GC_CTRL w c) v).setFl (R.GC_CTRL w c) F.GC_CTRL_down 0, 0)

/-- The effect of a write of GC_DST. -/
def State.gcDstWrite (s : State) (w c : Nat) (v : Word) : State × Nat :=
  if s.gcValid w c then refuse s stBusy else (s.plain (R.GC_DST w c) v, 0)

/-- GC_CTRL_WRITE. -/
def execGcCtrlWrite (m : Mid) (w : Wall) (c : Fin 64) (v : Word) (s : State) : Out :=
  regRow s m (R.GC_CTRL w.val c.val) (fun s => s.gcWrite w.val c.val v)

/-- The effect of a write of BI_RING. -/
def State.ringWrite (s : State) (w t : Nat) (v : Word) : State × Nat :=
  let a := R.BI_RING w t
  let old := s.rd a
  if fld old F.BI_RING_en = 1 then
    (if fld v F.BI_RING_en = 0 then (s.setFl a F.BI_RING_en 0, 0)
     else if fld v ⟨0, 26⟩ = fld old ⟨0, 26⟩ then (s, 0) else refuse s stBusy)
  else if fld v F.BI_RING_en = 0 then (s.plain a v, 0)
  else
    let depth := aspectDepth (s.aspect w t (fld v F.BI_RING_tmem))
    if fld v F.BI_RING_len = 0 || decide (depth < fld v F.BI_RING_base + fld v F.BI_RING_len) then refuse s stBadArg
    else ((s.plain a v).setFl (R.BI_WPTR w t) F.BI_WPTR_wptr 0, 0)

/-- BI_RING_WRITE. -/
def execBiRingWrite (m : Mid) (x : TileRef) (v : Word) (s : State) : Out :=
  regRow s m (R.BI_RING x.w.val x.t.val) (fun s => s.ringWrite x.w.val x.t.val v)

/-! ### Drains and realignment (R301, R310, R311) -/
/-- DRAIN_TIMEOUT: 12,500 ticks after it entered closing, a domain's packets are discarded and it goes off. -/
def execDrainTimeout (d : Domain) (s : State) : Out :=
  onWall d.wallNo s (fun s =>
    if s.domState d = 2 && decide (Sp.getD (s.wall d.wallNo).closing d.key s.tick + 12500 ≤ s.tick) then (s.drainDiscard d).domainOff d
    else s)

/-- Whether a frame boundary is at hand for a domain: of its wall, or, for a wall in STANDBY or OFF, whose cycles stand
still, of the crossing switch. -/
def State.boundary (s : State) (w : Nat) : Bool := if s.wallOff w then s.tick % 64 = 0 else s.slotNow w = 0

/-- CONNECTION_RELEASE: at the first frame boundary after a domain entered closing, once (R311). -/
def execConnectionRelease (d : Domain) (s : State) : Out :=
  onWall d.wallNo s (fun s =>
    let x := s.wall d.wallNo
    if x.release.any (fun e => e.1 = d.key) && s.boundary d.wallNo then
      (s.setWall d.wallNo { x with release := Sp.drop x.release d.key }).releaseDomain d
    else s)

/-- FRAME_REALIGN: slot 0 of the realigned frame is the first cycle whose tick is a multiple of 64. -/
def execFrameRealign (w : Wall) (s : State) : Out :=
  onWall w.val s (fun s =>
    let x := s.wall w.val
    if x.realigning && s.clockStep w.val = 0 && s.wtick w.val % 64 = 0 then
      s.setWall w.val { x with realigning := false, frameOfs := (64 - x.cycle % 64) % 64 }
    else s)

end Sys2Proof.Machine
end

