-- ==== Sys2Proof/Machine/Sched.lean ====
section
/-!
DEFINITION. Machine/Sched.lean: targets of one-shot and periodic schedules (R197, R198, R246, R249), shared by the flows'
schedules and the angle compare units.
-/
namespace Sys2Proof.Machine
open Sys2Proof

/-- V * 2^32 + floor(k * 2^32 / N) + O, modulo 2^64 (R197). -/
def schedTarget (v o n k : Nat) : W64 := BitVec.ofNat 64 (v * 4294967296 + k * 4294967296 / n + o)

/-- The next periodic index after k: k and V (R198). -/
def nextIndex (v n k : Nat) : Nat × Nat := if n ≤ k + 1 then ((v + 1) % 4294967296, 0) else (v, k + 1)

/-- The first periodic target after index (v, k) that `pos` has not reached, and how many were passed (R198). The
targets at or before pos in its revolution are those with k * 2^32 < (y + 1) * N, y being the fraction of pos. -/
def skipPassed (pos : W64) (v o n k : Nat) : Nat × Nat × Nat :=
  if !reached pos (schedTarget v o n k) then (v, k, 0)
  else
    let x := (pos - schedTarget v o n k).toNat + k * 4294967296 / n
    let r := x / 4294967296
    let y := x % 4294967296
    let c := ((y + 1) * n + 4294967295) / 4294967296
    if c < n then ((v + r) % 4294967296, c, r * n + c - k) else ((v + r + 1) % 4294967296, 0, (r + 1) * n - k)

/-! ### Flow schedules -/
/-- The target that a flow's schedule registers name. -/
def State.flowTarget (s : State) (w f : Nat) : W64 :=
  let lo := (s.rd (R.FD_TGT_LO w f)).toNat
  let hi := (s.rd (R.FD_TGT_HI w f)).toNat
  if s.fl (R.FD_SCHED w f) F.FD_SCHED_mode = 2 then
    schedTarget hi lo (s.fl (R.FD_SCHED w f) F.FD_SCHED_div) (s.fl (R.FD_IDX w f) F.FD_IDX_k)
  else BitVec.ofNat 64 (lo + hi * 4294967296)

def State.setFlowIndex (s : State) (w f v k : Nat) : State :=
  (s.wr (R.FD_TGT_HI w f) (BitVec.ofNat 32 v)).setFl (R.FD_IDX w f) F.FD_IDX_k k

/-- A flow's schedule is armed from the values held (R187, R198). -/
def State.armFlow (s : State) (w f : Nat) : State :=
  let r := s.rd (R.FD_SCHED w f)
  let pos := (s.base w (fld r F.FD_SCHED_ang)).v
  let hi := (s.rd (R.FD_TGT_HI w f)).toNat
  let s1 := if fld r F.FD_SCHED_mode = 2 && fld r F.FD_SCHED_skip = 1 then
      let p := skipPassed pos hi (s.rd (R.FD_TGT_LO w f)).toNat (fld r F.FD_SCHED_div) (s.fl (R.FD_IDX w f) F.FD_IDX_k)
      (s.setFlowIndex w f p.1 p.2.1).bumpBy (R.DISP_SKIP_COUNT w) p.2.2
    else s
  let t := s1.flowTarget w f
  s1.setFlow w f { (s1.flow w f) with armed := some t, passed := reached pos t, near := false }

/-- A flow's schedule is disarmed (R187, R202). -/
def State.disarmFlow (s : State) (w f : Nat) : State :=
  let s1 := s.withdraw w f
  s1.setFlow w f { (s1.flow w f) with armed := none, passed := false }

/-- A target of a flow matches in this cycle (R198); `late`: it came from the sweep or had been passed. -/
def State.matchFlow (s : State) (w f : Nat) (late : Bool) : State :=
  let x := s.flow w f
  let m := (s.wall w).cycle
  let late' := late || x.passed
  let s1 := s.setFlow w f { x with near := false, passed := false }
  let s2 := if s.fl (R.FD_SCHED w f) F.FD_SCHED_mode = 2 then
      let p := nextIndex (s.rd (R.FD_TGT_HI w f)).toNat (s.fl (R.FD_SCHED w f) F.FD_SCHED_div) (s.fl (R.FD_IDX w f) F.FD_IDX_k)
      (s1.setFlowIndex w f p.1 p.2).armFlow w f
    else
      let s2 := s1.setFl (R.FD_SCHED w f) F.FD_SCHED_mode 0
      s2.setFlow w f { (s2.flow w f) with armed := none }
  let st := s2.fstate w f
  let y := s2.flow w f
  let s3 := if st = 2 || st = 5 then s2.setFlow w f { y with nextSched := some (m, late') }
    else if (st = 3 || st = 4) && s2.fl (R.FD_CTRL w f) F.FD_CTRL_pending = 0 then s2.setFlow w f { y with pendSched := some (m, late') }
    else s2
  s3.trigger w f

/-- Near comparators occupied on a wall (R200). -/
def State.nearCount (s : State) (w : Nat) : Nat := ((List.range 512).filter (fun f => (s.flow w f).near)).length

/-- DISP_CFG.`lead`; below 64 it acts as 64 (R203). -/
def State.lead (s : State) (w : Nat) : Nat := max 64 (s.fl (R.DISP_CFG w) F.DISP_CFG_lead)

/-- Whether a flow's target is due for pre-staging (R250). -/
def State.due (s : State) (w f : Nat) : Bool :=
  match s.angDist w f with
  | none => false
  | some d =>
    let n := s.schedAng w f
    let v := (s.base w n).vel.toInt
    s.basePred w n && decide (0 < v) && decide (d * 4194304 ≤ s.lead w * tickRatio64 (s.clockStep w) * v.toNat)

end Sys2Proof.Machine
end

