-- ==== Sys2Proof/Machine/Angle.lean ====
section
/-!
DEFINITION. Machine/Angle.lean: the angle bases (R223 to R244): boundaries, velocity, the step of a base with its clamp
and monotonic rule, edges, feeds, shared reports, losses, presets and configuration. A row of an edge is the base's
step between two fabric edges; ANGLE_ADVANCE is the step when no edge, preset or report decides it.
-/
namespace Sys2Proof.Machine
open Sys2Proof

/-! ### Boundaries (R228): n edge fractions floor(i * 2^32 / n) a revolution, shifted by f -/
/-- ceil((y + 1) n / 2^32): how many of the n edge fractions are at or below y. -/
def edgesUpTo (n y : Nat) : Nat := ((y + 1) * n + 4294967295) / 4294967296

def stampOf (rev n i : Nat) : Nat := rev * 4294967296 + i * 4294967296 / n

/-- The first boundary after a stamp. -/
def nextBoundary (n f : Nat) (a : W64) : W64 :=
  let x := (a - BitVec.ofNat 64 f).toNat
  let i := edgesUpTo n (x % 4294967296)
  BitVec.ofNat 64 ((if n ≤ i then stampOf (x / 4294967296 + 1) n 0 else stampOf (x / 4294967296) n i) + f)

/-- The boundary at or below a stamp. -/
def belowBoundary (n f : Nat) (a : W64) : W64 :=
  let x := (a - BitVec.ofNat 64 f).toNat
  BitVec.ofNat 64 (stampOf (x / 4294967296) n (edgesUpTo n (x % 4294967296) - 1) + f)

/-- The boundary nearest to a stamp; half-way, the lower one. -/
def nearBoundary (n f : Nat) (a : W64) : W64 :=
  let lo := belowBoundary n f a
  let hi := nextBoundary n f a
  if (a - lo).toNat ≤ (hi - a).toNat then lo else hi

def State.angSrc (s : State) (w n : Nat) : Nat := s.fl (R.ANG_CFG w n) F.ANG_CFG_src

/-- Edges per revolution of an edge-driven base. -/
def State.angEdges (s : State) (w n : Nat) : Nat :=
  let ppr := s.fl (R.ANG_SCALE w n) F.ANG_SCALE_ppr
  match s.angSrc w n with
  | 1 => 4 * ppr
  | 2 => ppr
  | _ => if s.fl (R.ANG_CFG w n) F.ANG_CFG_both = 1 then 2 else 1

def edgeDriven (src : Nat) : Bool := src = 1 || src = 2 || src = 3

/-! ### The position: V with 16 bits below, modulo 2^80 -/
def AngBase.pos (b : AngBase) : BitVec 80 := b.v ++ b.frac
/-- The value that the base would have without the monotonic rule (R240). -/
def AngBase.would (b : AngBase) : BitVec 80 := b.pos - BitVec.ofNat 80 b.short

/-- The base takes a value, under the monotonic rule where `mono` holds; true: V is held back. -/
def AngBase.moveTo (b : AngBase) (x : BitVec 80) (mono : Bool) : AngBase × Bool :=
  if mono && (x - b.pos).msb then ({ b with short := (b.pos - x).toNat }, true)
  else ({ b with v := x.extractLsb' 16 64, frac := x.extractLsb' 0 16, short := 0 }, false)

/-- Whether the monotonic rule applies now: configured, and in forward motion, which a fed or shared base's velocity
tells; a base that holds after a loss stays where it is (R241). -/
def State.monoNow (s : State) (w n : Nat) : Bool :=
  s.fl (R.ANG_CFG w n) F.ANG_CFG_mono = 1 &&
  (if edgeDriven (s.angSrc w n) then s.fl (R.ANG_STATUS w n) F.ANG_STATUS_rev = 0 else decide (0 < (s.base w n).vel.toInt) || s.fl (R.ANG_STATUS w n) F.ANG_STATUS_lor = 1)

/-! ### Edges at field pins (R389, R390, R394) -/
/-- The filtered level of a pin changes to `level`: the level is kept and the edge counted on inputs. -/
def State.seePin (s : State) (w p : Nat) (level : Bool) : State :=
  let f := s.fl (R.FP_CFG w p) F.FP_CFG_func
  let s1 := s.setPin w p { (s.pin w p) with sampled := level }
  if f = 1 || f = 2 then s1.bump (R.FP_COUNT w p) else s1

/-- The filtered level of a pin, when it differs from the last. -/
def State.seeLevel (s : State) (w p : Nat) (level : Bool) : State :=
  if (s.pin w p).sampled = level then s else s.seePin w p level

/-- Edges are accepted only while the bank's VIO is valid and its outputs drive (R394), from the PINS step on (R458). -/
def State.vioLive (s : State) (w : Nat) : Bool := (s.wall w).vioLive && (s.wall w).pinsOn

/-- The angle unit and the compare units run from the FABRIC step on (R458). -/
def State.fabricOff (s : State) (w : Nat) : Bool := (s.wall w).gsr

/-! ### Status, velocity, prediction -/
def State.angBit (s : State) (w n : Nat) (f : Fld) (b : Bool) : State := s.setFl (R.ANG_STATUS w n) f (b2n b)
def State.angIs (s : State) (w n : Nat) (f : Fld) : Bool := s.fl (R.ANG_STATUS w n) f = 1

/-- |velocity| is within ANG_OVS.limit, or that limit is 0. -/
def State.withinOvs (s : State) (w n : Nat) : Bool :=
  let l := (s.rd (R.ANG_OVS w n)).toNat
  l = 0 || decide ((s.base w n).vel.toInt.natAbs ≤ l)

/-- `pred` follows from the rest of the base (R243). -/
def State.refreshPred (s : State) (w n : Nat) : State :=
  let src := s.angSrc w n
  s.angBit w n F.ANG_STATUS_pred
    (decide (src ≠ 0) && s.angIs w n F.ANG_STATUS_valid && decide (0 < (s.base w n).vel.toInt) &&
     !s.angIs w n F.ANG_STATUS_lor && !s.angIs w n F.ANG_STATUS_still && s.withinOvs w n &&
     (src ≠ 5 || (s.base w n).expPred))

/-- Overspeed is noticed, and `pred` follows (R242, R243). -/
def State.checkOvs (s1 : State) (w n : Nat) : State :=
  let s2 := if s1.withinOvs w n || s1.angIs w n F.ANG_STATUS_ovs then s1
    else
      let s2 := s1.angBit w n F.ANG_STATUS_ovs true
      s2.raiseWall w 9 2 [n, (s2.rd (R.ANG_STATUS w n)).toNat]
  s2.refreshPred w n

/-- A velocity is set. -/
def State.setVel (s : State) (w n : Nat) (v : Word) : State := (s.setBase w n { (s.base w n) with vel := v }).checkOvs w n

/-- `valid` is cleared: velocity 0, and no interval is kept (R234). -/
def State.unvalid (s : State) (w n : Nat) : State :=
  let s1 := s.setBase w n { (s.base w n) with vel := 0, hist := [] }
  (s1.angBit w n F.ANG_STATUS_valid false).refreshPred w n

/-- A reference of the base was seen: its tick is kept, `lor` and `still` clear. -/
def State.refSeen (s : State) (w n : Nat) : State :=
  let t := s.wtick w
  let s1 := (s.wr (R.ANG_EDGE_LO w n) (BitVec.ofNat 32 t)).wr (R.ANG_EDGE_HI w n) (BitVec.ofNat 32 (t / 4294967296))
  let s2 := s1.setBase w n { (s1.base w n) with lastRef := t, coasted := false }
  (s2.angBit w n F.ANG_STATUS_lor false).angBit w n F.ANG_STATUS_still false

/-- An error of a base's edges is counted; its sticky bit raises ENC_ERROR where `report` holds (R229, R230, R232). -/
def State.angError (s : State) (w n : Nat) (f : Fld) (report : Bool) : State :=
  let was := s.angIs w n f
  let s1 := (s.bump (R.ANG_ERR_COUNT w n)).angBit w n f true
  if report && !was then s1.raiseWall w 9 0 [n, (s1.rd (R.ANG_STATUS w n)).toNat] else s1

/-! ### The step between two edges (R233, R235, R239, R240, R257) -/
/-- What the slew in progress adds in its next part, in fraction units. -/
def slewPart (d : Int) (k i : Nat) : Int :=
  let m : Int := (2 ^ k : Nat)
  ((i + 1 : Nat) * d) / m - ((i : Nat) * d) / m

/-- ANGLE_ADVANCE. -/
def State.angAdvance (s : State) (w n : Nat) : State :=
  let b := s.base w n
  let t := s.wtick w
  let src := s.angSrc w n
  let lor := s.angIs w n F.ANG_STATUS_lor
  let moving := !edgeDriven src || decide (0 < b.vel.toInt)
  let dt : Int := ((t - b.lastTick : Nat) : Int)
  let part : Int := match b.slew with | some (d, k, i) => slewPart d k i | none => 0
  let target : BitVec 80 :=
    if src = 5 then b.rep + BitVec.ofInt 80 (b.vel.toInt * ((t - b.repTick : Nat) : Int))
    else b.would + BitVec.ofInt 80 ((if moving then b.vel.toInt * dt else 0) + part * 65536)
  let limit := (nextBoundary (s.angEdges w n) 0 b.edge - 1) ++ (0 : BitVec 16)
  let clamped := edgeDriven src && moving && !lor && (limit - target).msb
  let tgt := if clamped then limit else target
  let r := b.moveTo tgt (s.monoNow w n)
  let slew' := match b.slew with | some (d, k, i) => if 2 ^ k ≤ i + 1 then none else some (d, k, i + 1) | none => none
  let waits := b.waits || clamped
  let s1 := s.setBase w n { r.1 with lastTick := t, slew := slew', waits := waits }
  ((s1.angBit w n F.ANG_STATUS_held (waits || r.2)).angBit w n F.ANG_STATUS_slew slew'.isSome).refreshPred w n

def execAngleAdvance (w : Wall) (n : Fin 4) (s : State) : Out :=
  onWall w.val s (fun s => if s.fabricOff w.val || s.angSrc w.val n.val = 0 then s else s.angAdvance w.val n.val)

/-! ### Accepted edges (R228, R234, R236, R241) -/
/-- floor(2^16 * span of angle / span of ticks) over the last intervals, as an exact integer. -/
def spanVel (hist : List (Nat × W64)) (avg : Nat) : Int :=
  let k := min (2 ^ min avg 4) (hist.length - 1)
  match hist.head?, hist[k]? with
  | some a, some b => (65536 * (a.2 - b.2).toInt) / ((max 1 (a.1 - b.1) : Nat) : Int)
  | _, _ => 0

def fits32 (x : Int) : Bool := decide (-2147483648 ≤ x) && decide (x ≤ 2147483647)

/-- An edge with an edge angle is accepted. A velocity outside Q16.16 has no stated value: it is free. -/
def State.acceptEdge (s : State) (w n : Nat) (angle : W64) (fwd : Bool) : State :=
  let b := s.base w n
  let reversal := s.angSrc w n = 1 && b.moved && s.angIs w n F.ANG_STATUS_rev = fwd
  let clears := reversal || (s.angIs w n F.ANG_STATUS_lor && b.coasted)
  let s0 := if clears then s.unvalid w n else s
  let s1 := (s0.angBit w n F.ANG_STATUS_rev (!fwd)).refSeen w n
  let r := (s1.base w n).moveTo (angle ++ (0 : BitVec 16)) (s1.monoNow w n)
  let hist := if clears then [] else ((s.wtick w, angle) :: b.hist).take 17
  let s2 := (s1.setBase w n { r.1 with
    edge := angle, hist := hist, moved := true, lastTick := s.wtick w, waits := false
    before := some (s.wtick w, b.v, b.frac, b.short) }).angBit w n F.ANG_STATUS_held r.2
  if hist.length < 2 then s2.refreshPred w n
  else
    let v := spanVel hist (s.fl (R.ANG_CFG w n) F.ANG_CFG_avg)
    let s3 := s2.angBit w n F.ANG_STATUS_valid true
    if fits32 v then s3.setVel w n (w32 v)
    else ({ s3 with fresh := s3.fresh + 1 }).setVel w n (Config.freeWord s3.fresh)

/-- The edge angle of a forward edge of the boundaries with fraction offset f: after a loss, the nearest to V. -/
def State.edgeAngle (s : State) (w n : Nat) (edges f : Nat) : W64 :=
  let b := s.base w n
  if s.angIs w n F.ANG_STATUS_lor then nearBoundary edges f b.v else nextBoundary edges f b.edge

/-- The quadrature phase of A and B: 0, 1, 2, 3 in forward order (A leads B). -/
def quadPhase (a b : Bool) : Nat := if a then (if b then 2 else 1) else (if b then 3 else 0)

/-- ENCODER_EDGE: a sample of A and B (R229). -/
def execEncoderEdge (w : Wall) (n : Fin 4) (a b : Bool) (s : State) : Out :=
  onWall w.val s (fun s =>
    let w := w.val
    let n := n.val
    let r := s.rd (R.ANG_PINS w n)
    if s.fabricOff w || s.angSrc w n ≠ 1 || !s.vioLive w then s
    else
      let s := (s.seeLevel w (fld r F.ANG_PINS_pa) a).seeLevel w (fld r F.ANG_PINS_pb) b
      let x := s.base w n
      let swap := s.fl (R.ANG_CFG w n) F.ANG_CFG_dir = 1
      let p := if swap then quadPhase x.bLast x.aLast else quadPhase x.aLast x.bLast
      let q := if swap then quadPhase b a else quadPhase a b
      let s1 := s.setBase w n { x with aLast := a, bLast := b }
      match (q + 4 - p) % 4 with
      | 0 => s1
      | 1 => s1.acceptEdge w n (nextBoundary (s1.angEdges w n) 0 x.edge) true
      | 3 => s1.acceptEdge w n (belowBoundary (s1.angEdges w n) 0 (x.edge - 1)) false
      | _ => s1.angError w n F.ANG_STATUS_encerr true)

/-- The base as it was before the edge of this sample, if there was one: V is compared with the corrected edge angle, not
with the one that the edge gave (R230, R234). -/
def AngBase.atSample (b : AngBase) (t : Nat) : AngBase :=
  match b.before with
  | some (u, v, f, h) => if u = t then { b with v := v, frac := f, short := h } else b
  | none => b

/-- INDEX_EDGE: a rising edge of Z is checked against the revolution boundary (R230). -/
def execIndexEdge (w : Wall) (n : Fin 4) (s : State) : Out :=
  onWall w.val s (fun s =>
    let w := w.val
    let n := n.val
    let x := s.base w n
    if s.fabricOff w || s.angSrc w n ≠ 1 || !s.vioLive w then s
    else
      let s := s.seePin w (s.fl (R.ANG_PINS w n) F.ANG_PINS_pz) true
      if s.angIs w n F.ANG_STATUS_rev || x.edge.toNat % 4294967296 = 0 then s
      else
      let s1 := s.angError w n F.ANG_STATUS_zerr true
      if s1.fl (R.ANG_CFG w n) F.ANG_CFG_zfix = 0 then s1
      else
        let e := nearBoundary 1 0 x.edge
        let hist := match x.hist with | (t, _) :: r => (t, e) :: r | [] => []
        let r := (x.atSample (s1.wtick w)).moveTo (e ++ (0 : BitVec 16)) (s1.monoNow w n)
        ((s1.setBase w n { r.1 with edge := e, hist := hist, lastTick := s1.wtick w, waits := false }).angBit w n F.ANG_STATUS_held r.2).refreshPred w n)

/-- LINE_TRIGGER_EDGE: a rising edge of REF.3n (R231). -/
def execLineTriggerEdge (w : Wall) (n : Fin 4) (s : State) : Out :=
  onWall w.val s (fun s =>
    if s.fabricOff w.val || s.angSrc w.val n.val ≠ 2 || !s.vioLive w.val then s
    else
      let s := s.seePin w.val (s.fl (R.ANG_PINS w.val n.val) F.ANG_PINS_pa) true
      s.acceptEdge w.val n.val (s.edgeAngle w.val n.val (s.angEdges w.val n.val) 0) true)

/-- Whether the mains window lets an edge in (R232). -/
def State.inMainsWindow (s : State) (w n : Nat) (neg : Bool) : Bool :=
  let x := s.base w n
  let m := s.fl (R.ANG_LOSS w n) F.ANG_LOSS_mwin
  let last := if neg then x.negTick else x.posTick
  let per := if neg then x.negPeriod else x.posPeriod
  if m = 0 || !s.angIs w n F.ANG_STATUS_valid then true
  else match last, per with
    | some t, some p =>
      let dt := (s.wtick w - t) * 64
      decide (p * (64 - m) ≤ dt) && decide (dt ≤ p * (64 + m))
    | _, _ => true

/-- MAINS_EDGE: a zero crossing, negative-going where `neg` holds. -/
def execMainsEdge (w : Wall) (n : Fin 4) (neg : Bool) (s : State) : Out :=
  onWall w.val s (fun s =>
    let w := w.val
    let n := n.val
    let x := s.base w n
    if s.fabricOff w || s.angSrc w n ≠ 3 || !s.vioLive w then s
    else
    let s := s.seePin w (s.fl (R.ANG_PINS w n) F.ANG_PINS_pa) (!neg)
    if neg && s.fl (R.ANG_CFG w n) F.ANG_CFG_both = 0 then s
    else if !s.inMainsWindow w n neg then s.angError w n F.ANG_STATUS_rej false
    else
      let t := s.wtick w
      let y := if neg then { x with negPeriod := x.negTick.map (fun u => t - u), negTick := some t }
        else { x with posPeriod := x.posTick.map (fun u => t - u), posTick := some t }
      let s1 := s.setBase w n y
      s1.acceptEdge w n (s1.edgeAngle w n 1 (if neg then 2147483648 else 0)) true)

/-! ### Feeds (R238, R239, R283) -/
/-- What is left of a slew. -/
def slewRest : Option (Int × Nat × Nat) → Int
  | none => 0
  | some (d, k, i) => d - ((i : Nat) * d) / ((2 ^ k : Nat) : Int)

/-- A feed is applied to a fed base. -/
def State.applyFeed (s : State) (w n : Nat) (w0 w1 w2 : Nat) : State :=
  let s1 := s.refSeen w n
  let s2 := if nbit w2 12 then (s1.angBit w n F.ANG_STATUS_valid true).setVel w n (BitVec.ofNat 32 (w1 % 16777216 + w2 % 256 * 16777216)) else s1
  let s3 := if nbit w2 13 then
      let b := s2.base w n
      let d := sInt 24 w0 * 256 + slewRest b.slew
      (s2.setBase w n { b with slew := some (d, nbits w2 8 4, 0) }).angBit w n F.ANG_STATUS_slew true
    else s2
  s3.refreshPred w n

/-- FEED: a message at the feed port (R238, R571). -/
def execFeed (w : Wall) (p : Packet) (s : State) : Out :=
  endpointRow w.val 23 2 p s (fun s =>
    let n := bvf p.addr 0 2
    if p.typ ≠ 3 || p.count ≠ 12 then (s, .nack stBadArg)
    else if !s.tableAllows p.mid.toNat (R.ANG_CFG w.val n) true then (s, .nack stAccessDenied)
    else if s.angSrc w.val n ≠ 4 then (s.angError w.val n F.ANG_STATUS_rej false, .comp 0)
    else
      let ws := wordsOfBytes p.payload
      (s.applyFeed w.val n (ws.getD 0 0).toNat (ws.getD 1 0).toNat (ws.getD 2 0).toNat, .comp 0))

/-! ### Sharing (R257 to R259) -/
/-- ANGLE_SHARE_REPORT: the report of the exporting base reaches base n of wall w. An exporter that is off, or whose
wall is not READY, reports nothing. -/
def execAngleShareReport (w : Wall) (n : Fin 4) (s : State) : Out :=
  onWall w.val s (fun s =>
    let w := w.val
    let n := n.val
    let e := s.rd (R.ASH_SRC w n)
    let u := fld e F.ASH_SRC_wall
    let m := fld e F.ASH_SRC_ang
    if s.fabricOff w || s.angSrc w n ≠ 5 || fld e F.ASH_SRC_valid = 0 || !s.isReady u || s.angSrc u m = 0 then s
    else
      let x := s.base u m
      let s1 := s.refSeen w n
      let s2 := s1.setBase w n { (s1.base w n) with rep := x.pos, repTick := x.lastTick, expPred := s.basePred u m }
      let s3 := (s2.angBit w n F.ANG_STATUS_valid true).setVel w n x.vel
      s3.angAdvance w n)

/-- The effect of a write of ASH_SRC (R258). -/
def State.ashWrite (s : State) (w n : Nat) (v : Word) : State × Nat :=
  let u := fld v F.ASH_SRC_wall
  if s.angSrc w n ≠ 0 then refuse s stBusy
  else if fld v F.ASH_SRC_valid = 1 && (u = w || !s.populated u || s.angSrc u (fld v F.ASH_SRC_ang) = 5) then refuse s stBadArg
  else (s.plain (R.ASH_SRC w n) v, 0)

/-- ASH_SRC_WRITE. -/
def execAshSrcWrite (m : Mid) (w : Wall) (n : Fin 4) (v : Word) (s : State) : Out :=
  regRow s m (R.ASH_SRC w.val n.val) (fun s => s.ashWrite w.val n.val v)

/-! ### Losses (R237, R241) -/
def State.refAge (s : State) (w n : Nat) : Nat := s.wtick w - (s.base w n).lastRef
def State.lossDue (s : State) (w n : Nat) : Bool :=
  let l := s.fl (R.ANG_LOSS w n) F.ANG_LOSS_limit
  decide (l ≠ 0) && decide (l * 1024 ≤ s.refAge w n)

/-- REF_LOSS: the reference is lost; the base holds or coasts. What is left of a slew is dropped when it holds. -/
def execRefLoss (w : Wall) (n : Fin 4) (s : State) : Out :=
  onWall w.val s (fun s =>
    let w := w.val
    let n := n.val
    let src := s.angSrc w n
    if s.fabricOff w || src = 0 || src = 1 || s.angIs w n F.ANG_STATUS_lor || !s.lossDue w n then s
    else
      let s1 := s.angBit w n F.ANG_STATUS_lor true
      let s2 := if s1.fl (R.ANG_CFG w n) F.ANG_CFG_lor_act = 0 then
          let s2 := s1.unvalid w n
          (s2.setBase w n { (s2.base w n) with slew := none, rep := (s2.base w n).pos, repTick := s2.wtick w }).angBit w n F.ANG_STATUS_slew false
        else s1.setBase w n { (s1.base w n) with coasted := true }
      let s3 := s2.refreshPred w n
      s3.raiseWall w 9 1 [n, (s3.rd (R.ANG_STATUS w n)).toNat])

/-- STANDSTILL: an encoder base without an edge (R237). -/
def execStandstill (w : Wall) (n : Fin 4) (s : State) : Out :=
  onWall w.val s (fun s =>
    let w := w.val
    let n := n.val
    if s.fabricOff w || s.angSrc w n ≠ 1 || s.angIs w n F.ANG_STATUS_still || !s.lossDue w n then s
    else (s.angBit w n F.ANG_STATUS_still true).unvalid w n)

/-! ### Configuration and presets (R226 to R228, R244, R267) -/
/-- What an edge source asks of one of its pins: 0, or the status of the write (R227). -/
def State.refPin (s : State) (w m p : Nat) : Nat :=
  if 24 ≤ p then stBadArg
  else if s.fl (R.FP_CFG w p) F.FP_CFG_func = 1 && s.holds (claimPin w p) m then 0
  else stBusy

/-- The pins that a source uses. -/
def State.refPins (s : State) (w n src : Nat) : List Nat :=
  let r := s.rd (R.ANG_PINS w n)
  if src = 1 then [fld r F.ANG_PINS_pa, fld r F.ANG_PINS_pb, fld r F.ANG_PINS_pz]
  else if src = 2 || src = 3 then [fld r F.ANG_PINS_pa] else []

/-- A base leaves off. -/
def State.startBase (s : State) (w n : Nat) : State :=
  let x := s.base w n
  let src := s.angSrc w n
  let r := s.rd (R.ANG_PINS w n)
  let e := if edgeDriven src then belowBoundary (s.angEdges w n) 0 x.v else x.edge
  let s1 := s.setBase w n { x with
    edge := e, frac := 0, short := 0, slew := none, coasted := false, moved := false, expPred := false
    posTick := none, negTick := none, posPeriod := none, negPeriod := none
    lastTick := s.wtick w, lastRef := s.wtick w, rep := x.v ++ (0 : BitVec 16), repTick := s.wtick w, waits := false, before := none
    aLast := (s.pin w (fld r F.ANG_PINS_pa)).sampled, bLast := (s.pin w (fld r F.ANG_PINS_pb)).sampled }
  ([F.ANG_STATUS_still, F.ANG_STATUS_rev, F.ANG_STATUS_lor, F.ANG_STATUS_slew, F.ANG_STATUS_held].foldl
    (fun (a : State) f => a.angBit w n f false) s1).unvalid w n

/-- A base is switched off: V holds, velocity 0. -/
def State.stopBase (s : State) (w n : Nat) : State :=
  let s1 := s.setBase w n { (s.base w n) with slew := none, short := 0, coasted := false, waits := false }
  ([F.ANG_STATUS_still, F.ANG_STATUS_rev, F.ANG_STATUS_lor, F.ANG_STATUS_slew, F.ANG_STATUS_held].foldl
    (fun (a : State) f => a.angBit w n f false) s1).unvalid w n

/-- The effect of a write of ANG_CFG. -/
def State.angCfgWrite (s : State) (m w n : Nat) (v : Word) : State × Nat :=
  let old := s.rd (R.ANG_CFG w n)
  let cur := fld old F.ANG_CFG_src
  let src := fld v F.ANG_CFG_src
  let mask : Word := 0x7FF
  if 6 ≤ src then refuse s stBadArg
  else if cur ≠ 0 then
    (if v &&& mask = old &&& mask then (s, 0)
     else if v &&& mask = setFld old F.ANG_CFG_src 0 &&& mask then ((s.plain (R.ANG_CFG w n) v).stopBase w n, 0)
     else refuse s stBusy)
  else if src = 0 then (s.plain (R.ANG_CFG w n) v, 0)
  else if edgeDriven src && s.fl (R.ANG_SCALE w n) F.ANG_SCALE_ppr = 0 then refuse s stBadArg
  else
    let sts := (s.refPins w n src).map (s.refPin w m)
    if sts.contains stBadArg then refuse s stBadArg
    else if sts.contains stBusy then refuse s stBusy
    else ((s.plain (R.ANG_CFG w n) v).startBase w n, 0)

/-- ANG_CFG_WRITE. -/
def execAngCfgWrite (m : Mid) (w : Wall) (n : Fin 4) (v : Word) (s : State) : Out :=
  regRow s m (R.ANG_CFG w.val n.val) (fun s => s.angCfgWrite m.toNat w.val n.val v)

/-- The effect of a write of ANG_SCALE or ANG_PINS (R267). -/
def State.angSetupWrite (s : State) (w n a : Nat) (v : Word) : State × Nat :=
  if s.angSrc w n ≠ 0 then refuse s stBusy else (s.plain a v, 0)

/-- Targets of flows and compare units that a preset has moved V past match as passed targets (R244). -/
def State.passTargets (s : State) (w n : Nat) (old new : W64) : State :=
  let jumped (t : W64) : Bool := !reached old t && reached new t
  let s1 := foldN 512 s (fun a f =>
    match (a.flow w f).armed with
    | some t => if a.schedAng w f = n && jumped t then a.setFlow w f ({ (a.flow w f) with passed := true } : FlowX) else a
    | none => a)
  let s2 := foldN 16 s1 (fun a u =>
    let c := a.rd (R.ACU_CTRL w u)
    let t : W64 := if fld c F.ACU_CTRL_mode = 1 then
        schedTarget (a.rd (R.ACU_A_HI w u)).toNat (a.rd (R.ACU_A_LO w u)).toNat (fld c F.ACU_CTRL_div) (a.fl (R.ACU_IDX w u) F.ACU_IDX_k)
      else BitVec.ofNat 64 ((a.rd (R.ACU_A_LO w u)).toNat + (a.rd (R.ACU_A_HI w u)).toNat * 4294967296)
    if fld c F.ACU_CTRL_en = 1 && fld c F.ACU_CTRL_ang = n && !(a.acu w u).waitB && jumped t then
      a.setAcu w u { (a.acu w u) with passed := true }
    else a)
  foldN 16 s2 (fun a l =>
    match (a.link w l).armed with
    | some t => if a.fl (R.LK_SF_CFG w l) F.LK_SF_CFG_ang = n && jumped t then a.setLink w l ({ (a.link w l) with passed := true } : LinkX) else a
    | none => a)

/-- The effect of a write of ANG_CMD (R244). -/
def State.angCmdWrite (s : State) (w n : Nat) (v : Word) : State × Nat :=
  if fld v F.ANG_CMD_set = 0 then (s, 0)
  else
    let x := s.base w n
    let new : W64 := BitVec.ofNat 64 ((s.rd (R.ANG_SET_LO w n)).toNat + (s.rd (R.ANG_SET_HI w n)).toNat * 4294967296)
    let k := s.angEdges w n
    let src := s.angSrc w n
    let e : W64 := if src = 1 then BitVec.ofNat 64 (stampOf (new.toNat / 4294967296) k (new.toNat % 4294967296 * k / 4294967296))
      else if edgeDriven src then belowBoundary k 0 new else x.edge
    let s1 := s.setBase w n { x with
      v := new, frac := 0, short := 0, slew := none, edge := e, lastTick := s.wtick w, rep := new ++ (0 : BitVec 16), repTick := s.wtick w,
      waits := false, before := none }
    let s2 := ((s1.angBit w n F.ANG_STATUS_slew false).angBit w n F.ANG_STATUS_held false).unvalid w n
    (s2.passTargets w n x.v new, 0)

/-- ANG_PRESET: a write of 1 to ANG_CMD.`set`. -/
def execAngPreset (m : Mid) (w : Wall) (n : Fin 4) (s : State) : Out :=
  regRow s m (R.ANG_CMD w.val n.val) (fun s => s.angCmdWrite w.val n.val 1)

end Sys2Proof.Machine
end

