-- ==== Sys2Proof/Machine/AcuCmds.lean ====
section
/-!
DEFINITION. Machine/AcuCmds.lean: the angle compare units (R245 to R249) and the alignment of the walls' tick copies (R255, R256).
-/
namespace Sys2Proof.Machine
open Sys2Proof

/-- The A target of a unit (R246). -/
def State.acuTarget (s : State) (w u : Nat) : W64 :=
  let lo := (s.rd (R.ACU_A_LO w u)).toNat
  let hi := (s.rd (R.ACU_A_HI w u)).toNat
  if s.fl (R.ACU_CTRL w u) F.ACU_CTRL_mode = 1 then
    schedTarget hi lo (s.fl (R.ACU_CTRL w u) F.ACU_CTRL_div) (s.fl (R.ACU_IDX w u) F.ACU_IDX_k)
  else BitVec.ofNat 64 (lo + hi * 4294967296)

def State.acuV (s : State) (w u : Nat) : W64 := (s.base w (s.fl (R.ACU_CTRL w u) F.ACU_CTRL_ang)).v

/-- `n` late or skipped targets are counted (R249). -/
def State.acuLate (s : State) (w u n : Nat) : State :=
  if n = 0 then s
  else
    let c := min (s.fl (R.ACU_COUNT w u) F.ACU_COUNT_late + n) 65535
    (s.setFl (R.ACU_COUNT w u) F.ACU_COUNT_late c).stickyWall (R.ACU_STATUS w u) F.ACU_STATUS_late w 10 0 [u, c]

def State.setAcuIndex (s : State) (w u v k : Nat) : State :=
  (s.wr (R.ACU_A_HI w u) (BitVec.ofNat 32 v)).setFl (R.ACU_IDX w u) F.ACU_IDX_k k

/-- The A target is armed (R249): with `skip`, past every target already reached. -/
def State.acuArm (s : State) (w u : Nat) : State :=
  let c := s.rd (R.ACU_CTRL w u)
  let pos := s.acuV w u
  let s1 := if fld c F.ACU_CTRL_mode = 1 && fld c F.ACU_CTRL_skip = 1 then
      let p := skipPassed pos (s.rd (R.ACU_A_HI w u)).toNat (s.rd (R.ACU_A_LO w u)).toNat (fld c F.ACU_CTRL_div) (s.fl (R.ACU_IDX w u) F.ACU_IDX_k)
      (s.setAcuIndex w u p.1 p.2.1).acuLate w u p.2.2
    else s
  let s2 := s1.setAcu w u { (s1.acu w u) with waitB := false, pulseEnd := none, at_ := (s1.wall w).cycle, passed := reached pos (s1.acuTarget w u) }
  s2.setFl (R.ACU_STATUS w u) F.ACU_STATUS_armed 0

/-- The action of a unit is over: the next target of a periodic unit is armed, a one-shot unit stops. -/
def State.acuNext (s : State) (w u : Nat) : State :=
  if s.fl (R.ACU_CTRL w u) F.ACU_CTRL_mode = 1 then
    let p := nextIndex (s.rd (R.ACU_A_HI w u)).toNat (s.fl (R.ACU_CTRL w u) F.ACU_CTRL_div) (s.fl (R.ACU_IDX w u) F.ACU_IDX_k)
    (s.setAcuIndex w u p.1 p.2).acuArm w u
  else
    let s1 := s.setAcu w u { (s.acu w u) with waitB := false, pulseEnd := none, passed := false }
    (s1.setFl (R.ACU_CTRL w u) F.ACU_CTRL_en 0).setFl (R.ACU_STATUS w u) F.ACU_STATUS_armed 0

/-- The output register of the unit's pin takes a level (R247). -/
def State.acuDrive (s : State) (w u : Nat) (level : Bool) : State :=
  let p := s.fl (R.ACU_CTRL w u) F.ACU_CTRL_pin
  (s.setPin w p { (s.pin w p) with outReg := level }).setFl (R.ACU_STATUS w u) F.ACU_STATUS_level (b2n level)

/-- Whether another enabled unit names a pin (R391). -/
def State.pinDriven (s : State) (w u p : Nat) : Bool :=
  (List.range 16).any (fun k => k ≠ u && s.fl (R.ACU_CTRL w k) F.ACU_CTRL_en = 1 && s.fl (R.ACU_CTRL w k) F.ACU_CTRL_pin = p)

/-- What setting `en` asks: 0, or the status of the write (R245, R246, R391). -/
def State.acuEnable (s : State) (m w u : Nat) (v : Word) : Nat :=
  let p := fld v F.ACU_CTRL_pin
  if 24 ≤ p || 2 ≤ fld v F.ACU_CTRL_mode || 5 ≤ fld v F.ACU_CTRL_act then stBadArg
  else if fld v F.ACU_CTRL_mode = 1 && fld v F.ACU_CTRL_div = 0 then stBadArg
  else if s.claimed (claimPin w p) && !s.holds (claimPin w p) m then stBusy
  else if s.fl (R.FP_CFG w p) F.FP_CFG_func ≠ 3 || !s.claimed (claimPin w p) then stBadArg
  else if s.pinDriven w u p then stBusy
  else 0

/-- The effect of a write of ACU_CTRL (R245). -/
def State.acuWrite (s : State) (m w u : Nat) (v : Word) : State × Nat :=
  let a := R.ACU_CTRL w u
  if !s.holds (claimAcu w u) m then refuse s stBusy
  else if s.fl a F.ACU_CTRL_en = 1 && fld v F.ACU_CTRL_en = 1 then refuse s stBusy
  else if fld v F.ACU_CTRL_mode = 1 && fld v F.ACU_CTRL_div = 0 then refuse s stBadArg
  else if s.fl a F.ACU_CTRL_en = 1 then
    let s1 := s.setAcu w u { (s.acu w u) with waitB := false, pulseEnd := none, passed := false }
    ((s1.plain a v).setFl (R.ACU_STATUS w u) F.ACU_STATUS_armed 0, 0)
  else if fld v F.ACU_CTRL_en = 0 then (s.plain a v, 0)
  else
    let st := s.acuEnable m w u v
    if st ≠ 0 then refuse s st
    else
      let s1 := s.plain a v
      ((s1.setAcu w u { (s1.acu w u) with owner := BitVec.ofNat 6 m }).acuArm w u, 0)

/-- ACU_CTRL_WRITE. -/
def execAcuCtrlWrite (m : Mid) (w : Wall) (u : Fin 16) (v : Word) (s : State) : Out :=
  regRow s m (R.ACU_CTRL w.val u.val) (fun s => s.acuWrite m.toNat w.val u.val v)

/-- The effect of a write of another register of a unit: only its claimant, and only while `en` is 0. -/
def State.acuSetupWrite (s : State) (m w u a : Nat) (v : Word) : State × Nat :=
  if !s.holds (claimAcu w u) m || s.fl (R.ACU_CTRL w u) F.ACU_CTRL_en = 1 then refuse s stBusy else (s.plain a v, 0)

/-- ACU_MATCH: a target is tested from the edge after the one at which it was armed (R247, R249). The armed A target has been reached; the action starts (R246 to R249). -/
def execAcuMatch (w : Wall) (u : Fin 16) (s : State) : Out :=
  onWall w.val s (fun s =>
    let w := w.val
    let u := u.val
    let x := s.acu w u
    let t := s.acuTarget w u
    if s.fabricOff w || s.fl (R.ACU_CTRL w u) F.ACU_CTRL_en = 0 || x.waitB || x.pulseEnd.isSome ||
        (s.wall w).cycle ≤ x.at_ || !reached (s.acuV w u) t then s
    else
      let s1 := (if x.passed then s.acuLate w u 1 else s).wrapFl (R.ACU_COUNT w u) F.ACU_COUNT_fired
      let s2 := s1.setAcu w u { (s1.acu w u) with passed := false }
      let lenB := (s.rd (R.ACU_B w u)).toNat
      match s.fl (R.ACU_CTRL w u) F.ACU_CTRL_act with
      | 0 => (s2.acuDrive w u true).acuNext w u
      | 1 => (s2.acuDrive w u false).acuNext w u
      | 2 => (s2.acuDrive w u (!(s2.pin w (s.fl (R.ACU_CTRL w u) F.ACU_CTRL_pin)).outReg)).acuNext w u
      | 3 =>
        let b := t + BitVec.ofNat 64 lenB
        let s3 := (s2.acuDrive w u true).setAcu w u { (s2.acu w u) with waitB := true, bAt := b, at_ := (s2.wall w).cycle }
        let s4 := s3.setFl (R.ACU_STATUS w u) F.ACU_STATUS_armed 1
        if reached (s.acuV w u) b then s4.setFl (R.ACU_STATUS w u) F.ACU_STATUS_short 1 else s4
      | _ =>
        let s3 := s2.acuDrive w u true
        (s3.setAcu w u { (s3.acu w u) with pulseEnd := some ((s3.wall w).cycle + max 1 lenB) }).setFl (R.ACU_STATUS w u) F.ACU_STATUS_armed 1)

/-- ACU_B_MATCH: an angle pulse ends, at least one cycle after its rise (R248). -/
def execAcuBMatch (w : Wall) (u : Fin 16) (s : State) : Out :=
  onWall w.val s (fun s =>
    let x := s.acu w.val u.val
    if !s.fabricOff w.val && x.waitB && x.at_ < (s.wall w.val).cycle && reached (s.acuV w.val u.val) x.bAt then (s.acuDrive w.val u.val false).acuNext w.val u.val else s)

/-- ACU_TIME_PULSE_END: a time pulse ends ACU_B cycles after it began. -/
def execAcuTimePulseEnd (w : Wall) (u : Fin 16) (s : State) : Out :=
  onWall w.val s (fun s =>
    match (s.acu w.val u.val).pulseEnd with
    | some e => if !s.fabricOff w.val && decide (e ≤ (s.wall w.val).cycle) then (s.acuDrive w.val u.val false).acuNext w.val u.val else s
    | none => s)

/-! ### Tick copies (R255, R256) -/
/-- TICK_ALIGN_CHECK: every 65,536 ticks. -/
def execTickAlignCheck (w : Wall) (s : State) : Out :=
  onWall w.val s (fun s =>
    if s.tick % 65536 = 0 && decide (1 < (s.wall w.val).tickErr.natAbs) then
      ((s.setFl R.MT_ALIGN ⟨8 + w.val, 1⟩ 1).setAligned w.val false).raiseHub 1 0 [w.val]
    else s)

/-- TICK_CORRECTION: the copy of a wall past its PLL-lock step (R255) holds or skips the tick to come, at most one per 1,024
ticks; once it is within a tick of the hub's count it is aligned again. The copy takes the correction when that tick
passes (`State.wallTick`), so it never runs backwards. -/
def execTickCorrection (w : Wall) (s : State) : Out :=
  onWall w.val s (fun s =>
    let x := s.wall w.val
    if s.fl (R.WTICK_STATUS w.val) F.WTICK_STATUS_aligned = 1 || s.tick % 1024 ≠ 0 || s.phase w.val < 3 then s
    else if x.tickErr.natAbs ≤ 1 then s.setAligned w.val true
    else s.setWall w.val { x with tickFix := if 0 < x.tickErr then -1 else 1 })

end Sys2Proof.Machine
end

