-- ==== Sys2Proof/Machine/FlowCmds.lean ====
section
/-!
DEFINITION. Machine/FlowCmds.lean: flow descriptors and DISP_CMD (R186 to R192), leases (R217 to R219), fill windows,
doorbells and HOD_CFG (R204, R205, R222), and the dispatcher's events (R193 to R202, R206 to R208).
-/
namespace Sys2Proof.Machine
open Sys2Proof

/-! ### Leases (R217, R218) -/
def State.flowLease (s : State) (w m f : Nat) : Bool :=
  s.hasLease w m (fun l =>
    let r := s.rd (R.LS_FLOWS w l)
    decide (fld r F.LS_FLOWS_first ≤ f) && decide (f < fld r F.LS_FLOWS_first + fld r F.LS_FLOWS_count))
def State.courseLease (s : State) (w m c : Nat) : Bool :=
  s.hasLease w m (fun l => nbit (s.fl (R.LS_COURSES w l) F.LS_COURSES_courses) c)

/-- Whether two leases grant a common item. -/
def State.leaseOverlap (s : State) (w a b : Nat) : Bool :=
  let course (l c : Nat) : Bool := nbit (s.fl (R.LS_COURSES w l) F.LS_COURSES_courses) c
  let slots (l c : Nat) : Option (Nat × Nat) :=
    let r := s.rd (R.LS_SLOTS w l)
    if course l c then some (0, 127)
    else if nbit (fld r F.LS_SLOTS_courses) c && decide (fld r F.LS_SLOTS_first ≤ fld r F.LS_SLOTS_last)
    then some (fld r F.LS_SLOTS_first, fld r F.LS_SLOTS_last) else none
  let clash (c : Nat) : Bool := match slots a c, slots b c with
    | some (f, l), some (f', l') => decide (f ≤ l') && decide (f' ≤ l)
    | _, _ => false
  let fa := s.rd (R.LS_FLOWS w a)
  let fb := s.rd (R.LS_FLOWS w b)
  let lo (r : Word) : Nat := fld r F.LS_FLOWS_first
  let n (r : Word) : Nat := fld r F.LS_FLOWS_count
  (List.range 16).any clash ||
  (decide (0 < n fa) && decide (0 < n fb) && decide (lo fa < lo fb + n fb) && decide (lo fb < lo fa + n fa)) ||
  decide (Nat.land (s.fl (R.LS_LINKS w a) F.LS_LINKS_links) (s.fl (R.LS_LINKS w b) F.LS_LINKS_links) ≠ 0) ||
  decide (Nat.land (s.fl (R.LS_SRAM w a) F.LS_SRAM_regions) (s.fl (R.LS_SRAM w b) F.LS_SRAM_regions) ≠ 0)

/-- The effect of a write of LS_CTRL (R217, R219, R220). -/
def State.leaseWrite (s : State) (w l : Nat) (v : Word) : State × Nat :=
  let a := R.LS_CTRL w l
  let old := s.fl a F.LS_CTRL_valid = 1
  let holder := s.fl a F.LS_CTRL_holder
  if fld v F.LS_CTRL_valid = 0 then
    if old then
      let r := s.rd (R.LS_FLOWS w l)
      let used := (List.range 512).any (fun f => decide (fld r F.LS_FLOWS_first ≤ f) &&
        decide (f < fld r F.LS_FLOWS_first + fld r F.LS_FLOWS_count) && s.fstate w f ≠ 0)
      let reading := s.fl (R.CAP_STATUS w) F.CAP_STATUS_state = 3 && (s.wall w).cap.owner.toNat = holder
      if used || reading then refuse s stBusy else (s.setFl a F.LS_CTRL_valid 0, 0)
    else (s.plain a v, 0)
  else if old then (if fld v F.LS_CTRL_holder = holder then (s, 0) else refuse s stBusy)
  else if (List.range 16).any (fun k => k ≠ l && s.fl (R.LS_CTRL w k) F.LS_CTRL_valid = 1 && s.leaseOverlap w l k) then refuse s stBusy
  else (s.plain a v, 0)

/-- The effect of a write of a grant register of lease l. -/
def State.grantWrite (s : State) (w l a : Nat) (v : Word) : State × Nat :=
  if s.fl (R.LS_CTRL w l) F.LS_CTRL_valid = 1 then refuse s stBusy
  else if a = R.LS_FLOWS w l && decide (512 < fld v F.LS_FLOWS_first + fld v F.LS_FLOWS_count) then refuse s stBadArg
  else (s.plain a v, 0)

def execLsCtrlWrite (m : Mid) (w : Wall) (l : Fin 16) (v : Word) (s : State) : Out :=
  regRow s m (R.LS_CTRL w.val l.val) (fun s => s.leaseWrite w.val l.val v)

/-! ### Descriptor writes (R186, R187) -/
/-- The effect of a write of FD_SCHED. -/
def State.schedWrite (s : State) (w f : Nat) (v : Word) : State × Nat :=
  let mode := fld v F.FD_SCHED_mode
  if mode = 3 || (mode = 2 && fld v F.FD_SCHED_div = 0) then refuse s stBadArg
  else
    let s1 := s.plain (R.FD_SCHED w f) v
    (if mode = 0 then s1.disarmFlow w f else (s1.disarmFlow w f).armFlow w f, 0)

/-- The effect of a write of register r (0 to 7) of a descriptor. -/
def State.descWrite (s : State) (m w f r : Nat) (v : Word) : State × Nat :=
  let st := s.fstate w f
  let same (a : Nat) (x : Fld) : Bool := fld (s.rd a) x = fld v x
  if !s.flowLease w m f then refuse s stAccessDenied
  else if st = 0 && r ≠ 1 then refuse s stBadArg
  else match r with
    | 0 =>
      let a := R.FD_CTRL w f
      if st ≠ 1 && !(same a F.FD_CTRL_fixed && same a F.FD_CTRL_fastb) then refuse s stBusy else (s.plain a v, 0)
    | 1 =>
      let a := R.FD_BIND w f
      if st ≠ 0 && !(same a F.FD_BIND_course && same a F.FD_BIND_tiles) then refuse s stBusy
      else if st ≠ 0 && st ≠ 1 && !same a F.FD_BIND_first_slot then refuse s stBusy
      else (s.plain a v, 0)
    | 2 => s.schedWrite w f v
    | 3 => (s.plain (R.FD_WAKE w f) v, 0)
    | 4 | 5 | 6 =>
      if s.fl (R.FD_SCHED w f) F.FD_SCHED_mode ≠ 0 && st ≠ 1 then refuse s stBusy
      else (s.plain (R.FD_CTRL w f + 4 * r) v, 0)
    | _ => (s, 0)

/-- DESCRIPTOR_WRITE. -/
def execDescriptorWrite (m : Mid) (w : Wall) (f : FlowIx) (r : Fin 8) (v : Word) (s : State) : Out :=
  regRow s m (R.FD_CTRL w.val f.val + 4 * r.val) (fun s => s.descWrite m.toNat w.val f.val r.val v)

/-- FD_SCHED_WRITE. -/
def execFdSchedWrite (m : Mid) (w : Wall) (f : FlowIx) (v : Word) (s : State) : Out :=
  regRow s m (R.FD_SCHED w.val f.val) (fun s => s.descWrite m.toNat w.val f.val 2 v)

/-! ### DISP_CMD (R188 to R192) -/
/-- The areas of a flow on a tile: its home areas, its save stack and its spill chain, wherever the context lives (R176: a part
that is being moved is held at its source). -/
def State.flowAreas (s : State) (w f t : Nat) : List Nat :=
  let x := s.tile w t
  let homes := [s.homeLower w f t, s.homeUpper w f t]
  match x.bankOf f with
  | some b => if (x.bank b).moving && !x.makesCold f then
      homes ++ s.chainsOf w (({} : Ctx).loadBook (s.areaWords w (s.homeUpper w f t) 0x1E0 3))
    else homes ++ s.chainsOf w (x.bank b)
  | none => homes ++ s.chainsOf w (({} : Ctx).loadBook (s.areaWords w (s.homeUpper w f t) 0x1E0 3))

/-- A new home area: its header, the rest zero (R168, R188). -/
def State.newHome (s : State) (w a kind f t : Nat) : State :=
  let z : State := { s with sram := zeroRange s.sram (sramKey w 2 (areaOff a)) 512
                            sramErr := zeroMarks s.sramErr (sramKey w 2 (areaOff a) / 8) 64 }
  z.writeHeader w a 0xFFFF kind true 0 f t false

/-- CREATE takes two home areas for each tile of the set. -/
def State.createHomes (s : State) (w f : Nat) : List Nat → State
  | [] => s
  | t :: r =>
    match s.takeAreas w 2 with
    | some ([lo, up], s1) =>
      let s2 := (s1.newHome w lo 1 f t).newHome w up 2 f t
      State.createHomes (s2.wr (R.HOD_HOME w f (t % 8)) (BitVec.ofNat 32 (lo + up * 65536 + 2147483648))) w f r
    | _ => s

/-- Other placed flows that satisfy `p`. -/
def State.placedOthers (s : State) (w f : Nat) (p : Nat → Bool) : List Nat :=
  (List.range 512).filter (fun g => g ≠ f && (s.flow w g).placed && p g)

def State.shareTile (s : State) (w f g : Nat) : Bool := (s.tileSet w f).any (fun t => (s.tileSet w g).contains t)

/-- Whether the pin entry that ENABLE needs on a tile is free or held for the flow (R192). -/
def State.pinFree (s : State) (w f t : Nat) : Bool :=
  let x := s.tile w t
  if s.fastFlow w f then x.pinB = some f || (x.pinB.isNone && s.fl (R.PC_PIN_B w t) ⟨7, 1⟩ = 0)
  else x.pinA = some f || (x.pinA.isNone && s.fl (R.PC_PIN_A w t) ⟨31, 1⟩ = 0)

/-- The status of ENABLE's remaining checks, and then of a gated course (R517) and of a self-test's scope (R537). -/
def State.enableCheck (s : State) (w f : Nat) : Nat :=
  let fx := s.fixedFlow w f
  let fb := s.fastFlow w f
  if fx && decide (32 ≤ (s.placedOthers w f (fun g => s.fixedFlow w g)).length) then stBusy
  else if fx && !fb && !(s.placedOthers w f (fun g => s.fixedFlow w g && !s.fastFlow w g && s.shareTile w f g)).isEmpty then stBusy
  else if fb && (!(s.placedOthers w f (fun g => s.fastFlow w g && s.shareTile w f g)).isEmpty ||
      (s.tileSet w f).any (fun t => s.fl (R.WHAND_CTRL w t) ⟨0, 2⟩ ≠ 0)) then stBusy
  else if (fx || fb) && !(s.tileSet w f).all (fun t => s.pinFree w f t) then stBusy
  else if nbit (s.fl (R.WPWR_GATE w) F.WPWR_GATE_gated) (s.fl (R.FD_BIND w f) F.FD_BIND_course) then stDomainOff
  else if (s.tileSet w f).any (fun t => s.testShuts w (t / 8) (t % 8)) then stDomainOff
  else 0

/-- The dispatcher pins `first_slot` on the tiles of a flow (R192). -/
def State.pinFirst (s : State) (w f : Nat) : State :=
  (s.tileSet w f).foldl (fun (a : State) t =>
    let x := a.tile w t
    let v := (s.firstSlot w f).toNat + 128
    let a1 := if s.fastFlow w f then (a.setTile w t { x with pinB := some f }).setFl (R.PC_PIN_B w t) ⟨0, 8⟩ v
      else (a.setTile w t { x with pinA := some f }).setFl (R.PC_PIN_A w t) ⟨24, 8⟩ v
    a1.requestPins w t) s

/-- The dispatcher releases the pins that it holds for a flow. -/
def State.unpin (s : State) (w f : Nat) : State :=
  (s.tileSet w f).foldl (fun (a : State) t =>
    let x := a.tile w t
    let a1 := if x.pinB = some f then (a.setTile w t { x with pinB := none }).setFl (R.PC_PIN_B w t) ⟨7, 1⟩ 0 else a
    let y := a1.tile w t
    if y.pinA = some f then (a1.setTile w t { y with pinA := none }).setFl (R.PC_PIN_A w t) ⟨31, 1⟩ 0 else a1) s

/-- ENABLE's effect. -/
def State.enableFlow (s : State) (w f : Nat) : State :=
  if s.fixedFlow w f || s.fastFlow w f then
    let s1 := (s.setFlow w f { (s.flow w f) with placed := true }).pinFirst w f
    if s1.residentAll w f then s1.finishEnable w f
    else
      let s2 := s1.setFlow w f { (s1.flow w f) with enabling := true }
      (s2.requestRestore w f).setFl (R.DISP_CMD_STATUS w) F.DISP_CMD_STATUS_busy 1
  else s.finishEnable w f

/-- DISABLE's effect. -/
def State.disableFlow (s : State) (w f : Nat) : State :=
  let st := s.fstate w f
  let x := s.flow w f
  let run := st = 3 || st = 4
  let s1 := s.setFlow w f { x with resume := (if st = 4 then true else x.resume), waitWhenDisabled := decide (st = 5), pendSched := none
                                   lastRan := if st = 4 then s.tick else x.lastRan }
  let s2 := (s1.setFl (R.FD_CTRL w f) F.FD_CTRL_susp (b2n run)).setFl (R.FD_CTRL w f) F.FD_CTRL_pending 0
  let s3 := (s2.setFstate w f 1).withdraw w f
  (s3.stopOnTiles w f).eagerAll w f

/-- RESTART's effect. -/
def State.restartFlow (s : State) (w f : Nat) : State :=
  let st := s.fstate w f
  let s1 := (s.clearMarks w f).setFlow w f
    { (s.flow w f) with
      resume := false, waitWhenDisabled := false, nextSched := none, pendSched := none, schedRun := none,
      illSeen := false, parked := [] }
  (s1.setFl (R.FD_CTRL w f) F.FD_CTRL_susp 0).setFstate w f (if st = 6 then 2 else 1)

/-- The areas that the make-colds of a flow on a tile have taken for their spills (R212). -/
def Tile.reserved (x : Tile) (f : Nat) : List Nat :=
  (x.chanq ++ x.chan.toList).flatMap (fun o => if o.kind = .makeCold && o.flow = f then o.ret else [])

/-- DESTROY's effect on one tile: the resident copy is discarded, waiting operations of the flow are withdrawn, one in
progress runs to its end (R210), and areas go to housekeeping, those that a make-cold had taken among them. -/
def State.destroyOnTile (s : State) (w f t : Nat) : State :=
  let as := s.flowAreas w f t ++ (s.tile w t).reserved f
  let s0 := if (s.tile w t).cur = some .fast && (s.tile w t).cf.flow = some f then s.leaveFast w t else s
  let x := s0.tile w t
  let x1 : Tile := match x.bankOf f with
    | some k => { (((x.drainBank t k).1).setBank k {}) with cur := (if x.cur = some k then none else x.cur)
                                                            interrupted := (if x.interrupted = some k then none else x.interrupted) }
    | none => x
  let x2 : Tile := if x1.fpown = some f then { x1 with fpown := none, f := [], fpstat := 0 } else x1
  let mine (o : HodOp) : Bool := o.flow = f && decide (o.kind ≠ HodKind.areas)
  let x3 : Tile := { x2 with
    chan := x2.chan.map (fun o => if mine o then { o with dead := true } else o)
    chanq := x2.chanq.filter (fun o => !mine o) ++ [{ kind := .areas, flow := f, cls := 4, ret := as }] }
  (s0.setTile w t x3).wr (R.HOD_HOME w f (t % 8)) 0

def State.destroyFlow (s : State) (w f : Nat) : State :=
  let s1 := (s.disarmFlow w f).unpin w f
  let s2 := (s1.tileSet w f).foldl (fun (a : State) t => a.destroyOnTile w f t) s1
  let s3 := foldN 8 s2 (fun a r => a.wr (R.FD_CTRL w f + 4 * r) 0)
  s3.setFlow w f {}

/-- The checks of a DISP_CMD operation in the order of R188: 0 when it may act. -/
def State.dispCheck (s : State) (m w f op : Nat) : Nat :=
  let st := s.fstate w f
  let course := s.fl (R.FD_BIND w f) F.FD_BIND_course
  if op = 0 && !s.isReady w then stWallLoading
  else if !s.flowLease w m f then stAccessDenied
  else if op ≤ 1 && !s.courseLease w m course then stAccessDenied
  else match op with
    | 0 => if st ≠ 0 then stBadArg
      else if (s.tileSet w f).isEmpty then stBadArg
      else if (s.wall w).freeCount < 2 * (s.tileSet w f).length then stSaveExhausted else 0
    | 1 => if st ≠ 1 then stBadArg else s.enableCheck w f
    | 2 => if 2 ≤ st && st ≤ 5 then 0 else stBadArg
    | 3 => if st = 6 || (st = 1 && s.fl (R.FD_CTRL w f) F.FD_CTRL_susp = 1) then 0 else stBadArg
    | 4 => if st = 1 then 0 else stBadArg
    | 5 => 0
    | _ => stBadArg

/-- The effect of an accepted operation. -/
def State.dispRun (s : State) (w f op : Nat) : State :=
  match op with
  | 0 => ((s.createHomes w f (s.tileSet w f)).setFlow w f {}).setFstate w f 1
  | 1 => s.enableFlow w f
  | 2 => s.disableFlow w f
  | 3 => s.restartFlow w f
  | 4 => s.destroyFlow w f
  | _ => s.trigger w f

/-- The effect of a write of DISP_CMD: refused while one is in progress; otherwise the status is in DISP_CMD_STATUS. -/
def State.dispCmd (s : State) (m w f op : Nat) : State × Nat :=
  if s.fl (R.DISP_CMD_STATUS w) F.DISP_CMD_STATUS_busy = 1 then refuse s stBusy
  else
    let st := s.dispCheck m w f op
    let s1 := s.wr (R.DISP_CMD_STATUS w) (BitVec.ofNat 32 (st + f * 131072 + op * 67108864))
    (if st = 0 then s1.dispRun w f op else s1, 0)

/-- The shape of a DISP_CMD row. -/
def dispRow (m : Mid) (w : Wall) (f : FlowIx) (op : Nat) (s : State) : Out :=
  regRow s m (R.DISP_CMD w.val) (fun s => s.dispCmd m.toNat w.val f.val op)

/-- CREATE. -/
def execCreate (m : Mid) (w : Wall) (f : FlowIx) (s : State) : Out := dispRow m w f 0 s
/-- ENABLE. -/
def execEnable (m : Mid) (w : Wall) (f : FlowIx) (s : State) : Out := dispRow m w f 1 s
/-- DISABLE. -/
def execDisable (m : Mid) (w : Wall) (f : FlowIx) (s : State) : Out := dispRow m w f 2 s
/-- RESTART. -/
def execRestart (m : Mid) (w : Wall) (f : FlowIx) (s : State) : Out := dispRow m w f 3 s
/-- DESTROY. -/
def execDestroy (m : Mid) (w : Wall) (f : FlowIx) (s : State) : Out := dispRow m w f 4 s
/-- WAKE. -/
def execWake (m : Mid) (w : Wall) (f : FlowIx) (s : State) : Out := dispRow m w f 5 s

/-! ### Doorbells, fill windows, HOD_CFG -/
/-- The effect of a write of DISP_DOORBELL (R204). -/
def State.doorbell (s : State) (w : Nat) (v : Word) : State × Nat :=
  (foldN 32 s (fun a d => if nbit v.toNat d then a.wakeFlows w 4 d else a), 0)

def execDispDoorbell (m : Mid) (w : Wall) (v : Word) (s : State) : Out :=
  regRow s m (R.DISP_DOORBELL w.val) (fun s => s.doorbell w.val v)

/-- The effect of a write of FW_CTRL: `en` from 0 to 1 zeroes the count (R205). -/
def State.fwWrite (s : State) (w n : Nat) (v : Word) : State × Nat :=
  let rises := s.fl (R.FW_CTRL w n) F.FW_CTRL_en = 0 && fld v F.FW_CTRL_en = 1
  let s1 := s.plain (R.FW_CTRL w n) v
  (if rises then s1.setFl (R.FW_COUNT w n) F.FW_COUNT_count 0 else s1, 0)

def execFwCtrlWrite (m : Mid) (w : Wall) (n : Fin 64) (v : Word) (s : State) : Out :=
  regRow s m (R.FW_CTRL w.val n.val) (fun s => s.fwWrite w.val n.val v)

/-- The free list holds the areas of HOD_CFG (R215). -/
def State.rebuildFree (s : State) (w : Nat) : State :=
  let c := s.rd (R.HOD_CFG w)
  let x := s.wall w
  (s.setWall w { x with free := [], freeLo := fld c F.HOD_CFG_first, freeEnd := fld c F.HOD_CFG_last + 1 }).checkLow w x.freeCount

/-- The areas `first` to `last` are linked through the `next` fields of their headers (R168, R215). -/
def State.linkAreas (s : State) (w first last : Nat) : State :=
  (List.range (last + 1 - first)).foldr (fun k a =>
    a.setSram w 2 (areaOff (first + k)) (leBytes 2 (if first + k = last then 0xFFFF else first + k + 1))) s

/-- The effect of a write of HOD_CFG (R222). -/
def State.hodCfgWrite (s : State) (w : Nat) (v : Word) : State × Nat :=
  if (List.range 512).any (fun f => s.fstate w f ≠ 0) then refuse s stBusy
  else (((s.plain (R.HOD_CFG w) v).rebuildFree w).linkAreas w (fld v F.HOD_CFG_first) (fld v F.HOD_CFG_last), 0)

def execHodCfgWrite (m : Mid) (w : Wall) (v : Word) (s : State) : Out :=
  regRow s m (R.HOD_CFG w.val) (fun s => s.hodCfgWrite w.val v)

/-! ### Matches and pre-stages (R198 to R202, R251, R252) -/
/-- Whether a wall's dispatcher runs (R458). -/
def State.dispRuns (s : State) (w : Nat) : Bool := !(s.wall w).gsr

/-- Whether the comparator of a flow's armed target matches now. -/
def State.schedDue (s : State) (w f : Nat) : Bool :=
  match (s.flow w f).armed with
  | some t => reached (s.base w (s.schedAng w f)).v t
  | none => false

/-- SCHEDULE_MATCH: a near comparator's target, or one that had been passed when it was armed, matches. -/
def execScheduleMatch (w : Wall) (f : FlowIx) (s : State) : Out :=
  onWall w.val s (fun s =>
    let x := s.flow w.val f.val
    if s.dispRuns w.val && s.schedDue w.val f.val && (x.near || x.passed) then s.matchFlow w.val f.val false else s)

/-- TARGET_SWEEP: the next eight flows; an armed target without a near comparator that is reached matches, late. -/
def execTargetSweep (w : Wall) (s : State) : Out :=
  onWall w.val s (fun s =>
    if !s.dispRuns w.val then s
    else
      let w := w.val
      let p := (s.wall w).sweepPos
      let s1 := foldN 8 s (fun a k =>
        let f := p * 8 + k
        if a.schedDue w f && !(a.flow w f).near then a.matchFlow w f true else a)
      s1.setWall w { (s1.wall w) with sweepPos := (p + 1) % 64 })

/-- A near comparator is occupied; the peak follows. -/
def State.admitNear (s : State) (w f : Nat) : State :=
  let s1 := s.setFlow w f { (s.flow w f) with near := true }
  let n := s1.nearCount w
  if s1.fl (R.DISP_NEAR_PEAK w) F.DISP_NEAR_PEAK_peak < n then s1.setFl (R.DISP_NEAR_PEAK w) F.DISP_NEAR_PEAK_peak n else s1

/-- Whether a flow's target waits for a near comparator: it is armed, and its flow is one that is pre-staged (R199, R200). -/
def State.awaitsNear (s : State) (w f : Nat) : Bool :=
  !(s.flow w f).near && (s.flow w f).armed.isSome && decide (2 ≤ s.fstate w f) && decide (s.fstate w f ≤ 5)

/-- Whether target g is admitted before target f (R200, R251, R252): on one base in target order; of bases that predict in
order of the predicted match; ties to the lower flow index. -/
def State.admittedFirst (s : State) (w g f : Nat) : Bool :=
  let tie (a b : Nat) : Bool := decide (a < b) || (a = b && decide (g < f))
  if s.schedAng w g = s.schedAng w f then
    (match s.angDist w g, s.angDist w f with | some a, some b => tie a b | _, _ => false)
  else match s.predicted w g, s.predicted w f with | some a, some b => tie a b | _, _ => false

/-- Whether another target that waits for a near comparator, and is due for one as flow f's is, comes before it (R200). -/
def State.admittedBefore (s : State) (w f : Nat) : Bool :=
  (List.range 512).any (fun g => g ≠ f && s.awaitsNear w g && s.admittedFirst w g f &&
    (s.due w g || !s.basePred w (s.schedAng w g)))

/-- Whether the dispatcher tests a target at this edge (R251): fewer than eight targets of its base that are not yet
pre-staged come before it, those that this edge has pre-staged counted. -/
def State.tested (s : State) (w f : Nat) : Bool :=
  let b := s.base w (s.schedAng w f)
  let done := if b.stagedAt = (s.wall w).cycle then b.staged else 0
  let ahead := (List.range 512).filter (fun g => g ≠ f && s.schedAng w g = s.schedAng w f && !(s.flow w g).prestaged &&
    (s.flow w g).armed.isSome && decide (2 ≤ s.fstate w g) && decide (s.fstate w g ≤ 5) && s.admittedFirst w g f)
  decide (ahead.length + done < 8)

/-- A pre-stage of a base is counted for this edge. -/
def State.countStaged (s : State) (w f : Nat) : State :=
  let n := s.schedAng w f
  let b := s.base w n
  let c := (s.wall w).cycle
  s.setBase w n { b with stagedAt := c, staged := (if b.stagedAt = c then b.staged else 0) + 1 }

/-- PRESTAGE: a due target is given a near comparator, its start slot is requested on every tile, and a cold flow's
restore (R199); the target of a base that does not predict is admitted without pre-staging (R200, R252). -/
def execPrestage (w : Wall) (f : FlowIx) (s : State) : Out :=
  onWall w.val s (fun s =>
    let w := w.val
    let f := f.val
    let x := s.flow w f
    let st := s.fstate w f
    let pred := s.basePred w (s.schedAng w f)
    if !s.dispRuns w || x.armed.isNone || (x.near && (x.prestaged || !pred)) || st < 2 || 5 < st || (pred && !(s.due w f && s.tested w f)) ||
        (!x.near && s.admittedBefore w f) then s
    else if !x.near && 64 ≤ s.nearCount w then s.stickyWall (R.DISP_EVENT w) F.DISP_EVENT_near_full w 7 2 [flowNo w f, 0]
    else
      let s0 := if x.near then s else s.admitNear w f
      let s1 := if !x.near && 64 ≤ s0.nearCount w then s0.stickyWall (R.DISP_EVENT w) F.DISP_EVENT_near_full w 7 2 [flowNo w f, 0] else s0
      if !pred then s1
      else
        let s2 := (s1.countStaged w f).setFlow w f { (s1.flow w f) with prestaged := true, prot := s1.residentAll w f }
        let s3 := (s2.tileSet w f).foldl (fun (a : State) t => a.prestageRefill w f t (decide (st = 5))) s2
        if s3.residentAll w f then s3 else s3.requestRestore w f)

/-- PRESTAGE_WITHDRAW: the predicted match has moved beyond 4 times the lead (R202); not while the base does not
predict (R252). -/
def execPrestageWithdraw (w : Wall) (f : FlowIx) (s : State) : Out :=
  onWall w.val s (fun s =>
    if (s.flow w.val f.val).prestaged then
      match s.predicted w.val f.val with
      | some n => if 4 * s.lead w.val < n then s.withdraw w.val f.val else s
      | none => s
    else s)

/-! ### Starts (R193 to R196, R201, R206) -/
/-- The RUNNING flow in a resident bank of a tile. -/
def State.runningOn (s : State) (w t : Nat) : Option Nat :=
  let x := s.tile w t
  match x.c0.flow with
  | some f => if s.fstate w f = 4 then some f else
      (match x.c1.flow with | some g => if s.fstate w g = 4 then some g else none | none => none)
  | none => (match x.c1.flow with | some g => if s.fstate w g = 4 then some g else none | none => none)

/-- Whether candidate h comes before candidate f (R194). -/
def State.before (s : State) (w h f : Nat) : Bool :=
  decide (s.prio w f < s.prio w h) || (s.prio w f = s.prio w h &&
    (decide ((s.flow w h).trigTick < (s.flow w f).trigTick) || ((s.flow w h).trigTick = (s.flow w f).trigTick && decide (h < f))))

/-- The present cycle of a tile: the wall's, unless the tile's datapath is further. -/
def State.tileNow (s : State) (w t : Nat) : Nat := max (s.tile w t).cyc (s.wall w).cycle

/-- No run has been presented to a tile in its present cycle (R193). -/
def State.startFree (s : State) (w t : Nat) : Bool := decide ((s.tile w t).startAt ≠ some (s.tileNow w t))

/-- A fast-bound flow is RUNNABLE and in place on its tiles, one of them tile t: its entry falls in this cycle (R193). -/
def State.fastDue (s : State) (w t : Nat) : Bool :=
  (List.range 512).any (fun h => s.fstate w h = 3 && s.fastFlow w h && (s.tileSet w h).contains t && s.residentAll w h)

/-- Whether flow f may start on a tile of its set: neither a fast entry nor another start holds the tile, no earlier
candidate, and no flow runs there that f may not preempt. -/
def State.tileGrants (s : State) (w f t : Nat) : Bool :=
  (s.tile w t).cur ≠ some .fast && !s.fastDue w t && s.startFree w t &&
  !(List.range 512).any (fun h => h ≠ f && s.fstate w h = 3 && !s.fastFlow w h && (s.tileSet w h).contains t && s.before w h f &&
    (s.residentAll w h || decide (1 < (s.tileSet w h).length))) &&
  (match s.runningOn w t with
    | none => true
    | some g => s.fl (R.FD_CTRL w f) F.FD_CTRL_preempt = 1 && decide (s.prio w g < s.prio w f))

/-- A running flow is preempted (R196). -/
def State.preempt (s : State) (w g : Nat) : State :=
  (s.setFlow w g { (s.flow w g) with resume := true, lastRan := s.tick }).setFstate w g 3

/-- A tile is given a flow's bank, PC and start slot (R206) in its present cycle: the bank is current, and the first
instruction issues, from the next cycle on; the start slot is selected in that cycle, while the bricks still issue the
pattern in force, and its first words issue in the one after. -/
def State.present (s : State) (w f t : Nat) (fast : Bool) : State :=
  let now := s.tileNow w t
  let s0 := s.passTo w t now
  let x := s0.tile w t
  match x.bankOf f with
  | none => s
  | some b =>
    s0.setTile w t { x.unstall with
      cur := some b, interrupted := (if fast then x.cur else none), nextIns := now + 1, startAt := some now, starting := true
      deferSel := none, startSel := some (if (s.flow w f).resume then (x.bank b).slot else s.firstSlot w f) }

/-- A run of a flow starts on its tiles. -/
def State.startRun (s : State) (w f : Nat) (fast : Bool) : State :=
  let fresh := !(s.flow w f).resume
  let s1 := if fresh then (s.tileSet w f).foldl (fun (a : State) t => a.freshRun w f t) (s.clearMarks w f)
    else s
  let s2 := s1.setFstate w f 4
  let s3 := (s2.tileSet w f).foldl (fun (a : State) t => a.present w f t fast) s2
  let s4 := (s3.tileSet w f).foldl (fun (a : State) t =>
    let x := a.tile w t
    a.setTile w t ((List.range 8).foldl (fun (x : Tile) k =>
      let y := x.way k
      if y.prot && y.forFlow = some f then x.setWay k { y with prot := false, forFlow := none } else x) x)) s3
  let y := s4.flow w f
  s4.setFlow w f { y with prestaged := false, prot := false, nextSched := none
                          schedRun := (if fresh || y.nextSched.isSome then y.nextSched else y.schedRun) }

/-- FLOW_START: a RUNNABLE flow that is resident on all its tiles, and may start on each, is granted them. -/
def execFlowStart (w : Wall) (f : FlowIx) (s : State) : Out :=
  onWall w.val s (fun s =>
    let w := w.val
    let f := f.val
    let ts := s.tileSet w f
    if s.dispRuns w && s.fstate w f = 3 && !s.fastFlow w f && s.residentAll w f && ts.all (fun t => s.tileGrants w f t) then
      let victims := ts.filterMap (fun t => s.runningOn w t)
      (victims.foldl (fun (a : State) g => if a.fstate w g = 4 then a.preempt w g else a) s).startRun w f false
    else s)

/-- FAST_ENTRY: a RUNNABLE fast-bound flow enters the fast bank of its tiles (R139, R193). -/
def execFastEntry (w : Wall) (f : FlowIx) (s : State) : Out :=
  onWall w.val s (fun s =>
    let w := w.val
    let f := f.val
    if s.dispRuns w && s.fstate w f = 3 && s.fastFlow w f && s.residentAll w f &&
        (s.tileSet w f).all (fun t => decide ((s.tile w t).cur ≠ some .fast) && s.startFree w t) then s.startRun w f true
    else s)

/-- The first words of a scheduled run under its start slot have issued on its last tile: its lateness (R201). -/
def State.recordStart (s : State) (w f n : Nat) : State :=
  let x := s.flow w f
  match x.schedRun with
  | none => s
  | some (m, late) =>
    if (s.tileSet w f).any (fun t => (s.tile w t).starting) then s
    else
      let d := n - m - 4
      let s1 := (s.setFlow w f { x with schedRun := none }).setFl (R.FD_STAT w f) F.FD_STAT_late (min d 65535)
      if late || decide (s.fl (R.DISP_CFG w) F.DISP_CFG_late_tol < d) then
        let s2 := (s1.bump (R.DISP_LATE_COUNT w)).setFl (R.DISP_EVENT w) F.DISP_EVENT_late 1
        if s.fl (R.FD_CTRL w f) F.FD_CTRL_late_ev = 1 then s2.raiseWall w 7 1 [flowNo w f, d] else s2
      else s1

/-- PATTERN_ISSUE: one cycle of a tile's datapath (R71), a cycle of the PAT that it holds (R119, R145), and the record of
a run whose first words this cycle issued (R201). -/
def execPatternIssue (x : TileRef) (s : State) : Out :=
  onWall x.w.val s (fun s =>
    let w := x.w.val
    let t := x.t.val
    let s1 := s.tileCycle w x.t
    let y := s1.tile w t
    let s2 := match s1.seqBank w t with
      | none => s1
      | some b =>
        match (y.bank b).heldPat with
        | some f => if 0 < (y.bank b).hold && decide (y.nextCycle b ≤ y.cyc) then s1.holdCycle w t b y.cyc f else s1
        | none => s1
    if (s.tile w t).starting && !y.starting then
      match (match y.cur with | some b => (y.bank b).flow | none => none).filter (fun f => (s2.flow w f).schedRun.isSome), y.cf.flow with
      | some f, _ => s2.recordStart w f y.cyc
      | none, some g => s2.recordStart w g y.cyc
      | none, none => s2
    else s2)

end Sys2Proof.Machine
end

