-- ==== Sys2Proof/Machine/MemCmds.lean ====
section
/-!
DEFINITION. Machine/MemCmds.lean: the rows of wall SRAM and GDDR7 (chapter 08): bond accesses to banks and devices, patrol,
retention, march tests, the secure bank, the HDM range with its host-holding filter, training and region modes.
-/
namespace Sys2Proof.Machine
open Sys2Proof

/-! ### Wall SRAM accesses (R321 to R330) -/
/-- A read request at a bank. -/
def State.bankRead (s : State) (w b : Nat) (p : Packet) : State × Ans :=
  let off := bvf p.addr 0 22
  let m := p.mid.toNat
  if p.typ ≠ 1 then (s, .nack stBadArg)
  else if !s.bankOn w b then (s, .nack stDomainOff)
  else if !s.sramAllows w b m false then (s.sramDeny w b m off false, .nack stAccessDenied)
  else if 0x400000 < off + p.count then (s, .nack stBadArg)
  else
    let r := s.sramRead w b off p.count
    if r.2 then (r.1, .fail stDataError) else (r.1, .resp 0 (r.1.sramBytes w b off p.count))

/-- A write at a bank. Banks 4 and 5 need a lease of every region touched (R322). -/
def State.bankWrite (s : State) (w b : Nat) (p : Packet) : State × Ans :=
  let off := bvf p.addr 0 22
  let m := p.mid.toNat
  if p.typ ≠ 0 then (s, .nack stBadArg)
  else if !s.bankOn w b then (s, .nack stDomainOff)
  else if !s.sramAllows w b m true then (s.sramDeny w b m off true, .nack stAccessDenied)
  else if 0x400000 < off + p.count then (s, .nack stBadArg)
  else if (b = 4 || b = 5) && !s.regionLease w b m off p.count then (s.sramDeny w b m off true, .nack stAccessDenied)
  else
    let r := s.sramWrite w b off p.payload
    (r.1, .comp (if r.2 then 0 else stDataError))

/-- SRAM_READ. A message is refused (R571); a write packet is no read. -/
def execSramRead (w : Wall) (b : Fin 8) (p : Packet) (s : State) : Out :=
  if p.typ = 0 then .next s else endpointRow w.val (18 + b.val / 4) (b.val % 4) p s (fun s => s.bankRead w.val b.val p)

/-- SRAM_WRITE. -/
def execSramWrite (w : Wall) (b : Fin 8) (p : Packet) (s : State) : Out :=
  if p.typ = 1 then .next s else endpointRow w.val (18 + b.val / 4) (b.val % 4) p s (fun s => s.bankWrite w.val b.val p)

/-- The patrol's interval in cycles: one below 64 acts as 64 (R331). -/
def State.patrolCycles (s : State) (w : Nat) : Nat := max 64 (s.fl (R.SRAM_PATROL w) F.SRAM_PATROL_interval)

/-- Whether a bank's patrol read of the present interval is still to come. -/
def State.patrolDue (s : State) (w b : Nat) : Bool :=
  let x := s.wall w
  match x.patrolAt.find? (fun e => e.1 = b) with
  | some e => decide (e.2 / s.patrolCycles w < x.cycle / s.patrolCycles w)
  | none => true

/-- SRAM_PATROL_READ: one line in each interval, then the next position (R331). A bank in retention or under a march is
skipped, and so is the secure bank while it is wiped (R333). -/
def execSramPatrolRead (w : Wall) (b : Fin 8) (s : State) : Out :=
  onWall w.val s (fun s =>
    let w := w.val
    let b := b.val
    if s.fl (R.SRAM_PATROL w) F.SRAM_PATROL_interval = 0 || s.inRet w b || s.inTest w b || (b = 7 && !s.secureOpen w) || !s.patrolDue w b then s
    else
      let pos := s.fl (R.SRAM_PATROL_POS w b) F.SRAM_PATROL_POS_line
      let s0 := s.setWall w { (s.wall w) with patrolAt := Sp.put (s.wall w).patrolAt b (s.wall w).cycle }
      let s1 := (s0.sramRead w b (pos * 64) 64).1
      let s2 := s1.setFl (R.SRAM_PATROL_POS w b) F.SRAM_PATROL_POS_line (pos + 1)
      if pos = 65535 then s2.wrapFl (R.SRAM_PATROL_POS w b) F.SRAM_PATROL_POS_passes else s2)

/-! ### Retention (R335, R336) -/
/-- The effect of a write of SRAM_RET. -/
def State.retWrite (s : State) (w : Nat) (v : Word) : State × Nat :=
  let old := s.fl (R.SRAM_RET w) F.SRAM_RET_req
  let new := fld v F.SRAM_RET_req
  if [0, 1, 2, 6, 7].any (fun b => nbit new b) then refuse s stBusy
  else
    let s1 := s.setFl (R.SRAM_RET w) F.SRAM_RET_req new
    ([3, 4, 5].foldl (fun (a : State) b =>
      let x := a.wall w
      if nbit new b && !nbit old b then (a.setWall w { x with wakeAt := Sp.drop x.wakeAt b }).setBankOn w b false
      else if !nbit new b && nbit old b then a.setWall w { x with wakeAt := Sp.put x.wakeAt b a.tick }
      else a) s1, 0)

/-- SRAM_RET_WRITE. -/
def execSramRetWrite (m : Mid) (w : Wall) (v : Word) (s : State) : Out :=
  regRow s m (R.SRAM_RET w.val) (fun s => s.retWrite w.val v)

/-- RETENTION_ENTRY: the accesses already accepted have completed; a bank under test stays out of retention till the test
ends. -/
def execRetentionEntry (w : Wall) (b : Fin 8) (s : State) : Out :=
  onWall w.val s (fun s =>
    if nbit (s.fl (R.SRAM_RET w.val) F.SRAM_RET_req) b.val && !s.inTest w.val b.val then
      s.setFl (R.SRAM_STATUS w.val) F.SRAM_STATUS_ret (setNbit (s.fl (R.SRAM_STATUS w.val) F.SRAM_STATUS_ret) b.val true)
    else s)

/-- RETENTION_WAKE: 2,500 ticks after the write that cleared the bit the bank is online, or so when its test ends (R340). -/
def execRetentionWake (w : Wall) (b : Fin 8) (s : State) : Out :=
  onWall w.val s (fun s =>
    let w := w.val
    let b := b.val
    let x := s.wall w
    if (x.wakeAt.any (fun e => e.1 = b)) && decide (Sp.getD x.wakeAt b 0 + 2500 ≤ s.tick) then
      ((s.setWall w { x with wakeAt := Sp.drop x.wakeAt b }).setFl (R.SRAM_STATUS w) F.SRAM_STATUS_ret
        (setNbit (s.fl (R.SRAM_STATUS w) F.SRAM_STATUS_ret) b false)).setBankOn w b (!s.inTest w b)
    else s)

/-! ### March tests (R337 to R342) -/
/-- Whether every flow of a wall is FREE or STOPPED. -/
def State.flowsStill (s : State) (w : Nat) : Bool := (List.range 512).all (fun f => s.fstate w f ≤ 1)

/-- Whether a march that master m asks for is accepted on bank b, or its status (R340). -/
def State.marchCheck (s : State) (w b alg m : Nat) : Nat :=
  if alg = 3 then stBadArg
  else if 6 ≤ b && alg ≠ 2 then stBadArg
  else if s.inTest w b then stBusy
  else if b ≤ 1 then
    (if s.flowsStill w && (List.range 128).all (fun t => (s.tile w t).refill.isNone) then 0 else stBusy)
  else if b = 2 then
    (if s.flowsStill w && (List.range 128).all (fun t => (s.tile w t).chan.isNone && (s.tile w t).chanq.isEmpty) then 0 else stBusy)
  else if b ≤ 5 then (if s.bankOn w b then 0 else stBusy)
  else if b = 7 then (if m = 32 && (s.wall w).wipe.isNone then 0 else stBusy)
  else 0

/-- The banks that a mask names. -/
def maskBits (n mask : Nat) : List Nat := (List.range n).filter (fun b => nbit mask b)

/-- A march starts on a bank. -/
def State.marchOn (s : State) (w b : Nat) (m : March) : State :=
  let x := s.wall w
  let s1 := (s.setWall w { x with march := Sp.put x.march b { m with start := x.cycle } }).setBankOn w b false
  let s2 := s1.setFl (R.SRAM_STATUS w) F.SRAM_STATUS_test (setNbit (s1.fl (R.SRAM_STATUS w) F.SRAM_STATUS_test) b true)
  s2.setFl (R.MARCH_STATUS w) F.MARCH_STATUS_busy (setNbit (s2.fl (R.MARCH_STATUS w) F.MARCH_STATUS_busy) b true)

/-- A march request on a set of banks: it starts on all of them or changes nothing. -/
def State.marchRequest (s : State) (w mask alg bg m : Nat) : State × Nat :=
  match ((maskBits 8 mask).map (fun b => s.marchCheck w b alg m)).find? (fun st => st ≠ 0) with
  | some st => refuse s st
  | none => ((maskBits 8 mask).foldl (fun (a : State) b => a.marchOn w b { alg := alg, bg := bg }) s, 0)

/-- A march leaves a bank, which then serves unless it is to be in retention or wakes from it (R335). -/
def State.marchOff (s : State) (w b : Nat) : State :=
  let x := s.wall w
  let on := !nbit (s.fl (R.SRAM_RET w) F.SRAM_RET_req) b && !s.inRet w b && !x.wakeAt.any (fun e => e.1 = b)
  let s1 := (s.setWall w { x with march := Sp.drop x.march b }).setBankOn w b on
  let s2 := s1.setFl (R.SRAM_STATUS w) F.SRAM_STATUS_test (setNbit (s1.fl (R.SRAM_STATUS w) F.SRAM_STATUS_test) b false)
  s2.setFl (R.MARCH_STATUS w) F.MARCH_STATUS_busy (setNbit (s2.fl (R.MARCH_STATUS w) F.MARCH_STATUS_busy) b false)

/-- A bank whose contents the spec leaves undefined: every byte is a free value. -/
def State.looseBank (s : State) (w b : Nat) : State :=
  let k := sramKey w b 0
  let bytes := (List.range 0x400000).filterMap (fun i =>
    let v := Config.freeByte (s.fresh * 0x400000 + i)
    if v = 0 then none else some (k + i, v))
  { s with sram := s.sram.filter (fun e => decide (e.1 < k)) ++ bytes ++ s.sram.filter (fun e => decide (k + 0x400000 ≤ e.1))
           sramErr := zeroMarks s.sramErr (k / 8) 0x80000, fresh := s.fresh + 1 }

/-- The operations per line of a march (R337). -/
def March.ops (x : March) : Nat :=
  match x.alg with
  | 0 => 10 * (x.bg + 1)
  | 1 => 22 * (x.bg + 1)
  | _ => 2 + 4 * (x.bg + 1)

/-- The cycles of a march (R339). -/
def March.cycles (x : March) : Nat := 65536 * x.ops

/-- A march that writes its own data over the bank's (R337). -/
def March.destroys (x : March) : Bool := x.alg ≠ 2 && !x.keep

/-- A first failure that a march of this kind can meet, as MARCH_FAIL_ADDR gives it: the bit, the background and, of the six
elements of March C− and March SS, the element (R337, R341). -/
def March.canFail (x : March) (addr : Nat) : Bool :=
  decide (nbits addr 16 10 < 576) && decide (nbits addr 30 2 ≤ x.bg) && (x.alg = 2 || inRange 1 (nbits addr 26 4) 5)

/-- A march has failed on a bank: the first failure, and how many reads failed (R341). -/
def State.marchFailed (s : State) (w b addr count : Nat) : State :=
  let s1 := s.setFl (R.MARCH_STATUS w) F.MARCH_STATUS_fail (setNbit (s.fl (R.MARCH_STATUS w) F.MARCH_STATUS_fail) b true)
  (s1.wr (R.MARCH_FAIL_ADDR w b) (BitVec.ofNat 32 addr)).bumpBy (R.MARCH_FAIL_COUNT w b) count

/-- What an aborted march had found by then is free: whether a read failed, the first failure, and how many did (R341). -/
def State.marchCut (s : State) (w b : Nat) : State :=
  let s1 : State := { s with fresh := s.fresh + 3 }
  if Config.freeBit s.fresh = 1 then
    s1.marchFailed w b (Config.freeWord (s.fresh + 1)).toNat (max 1 (Config.freeWord (s.fresh + 2)).toNat)
  else s1

/-- The marches of the banks `p` of a wall end after their current line: a destructive one leaves its bank undefined
(R341). -/
def State.marchAbort (s : State) (w : Nat) (p : Nat → Bool) : State :=
  ((s.wall w).march.filter (fun e => p e.1)).foldl (fun (a : State) e =>
    let a1 := (a.marchOff w e.1).marchCut w e.1
    if e.2.destroys then a1.looseBank w e.1 else a1) s

/-- Every march of a wall ends so; a command whose march ends so is cancelled. -/
def State.marchStop (s : State) (w : Nat) : State :=
  let s1 := s.marchAbort w (fun _ => true)
  { s1 with longs := s1.longs.map (fun c =>
      if c.left ≠ 0 && c.ctx.wall.toNat = w && c.done.isNone then { c with done := some (0x13, 0, 0), left := 0 } else c) }

/-- The effect of a write of MARCH_CTRL. -/
def State.marchWrite (s : State) (m w : Nat) (v : Word) : State × Nat :=
  let s1 := if fld v F.MARCH_CTRL_abort = 1 then s.marchStop w else s
  let s2 := s1.plain (R.MARCH_CTRL w) v
  if fld v F.MARCH_CTRL_start = 1 then
    (if fld v F.MARCH_CTRL_alg = 3 then refuse s stBadArg
     else s2.marchRequest w (fld v F.MARCH_CTRL_banks) (fld v F.MARCH_CTRL_alg) (fld v F.MARCH_CTRL_bg) m)
  else (s2, 0)

/-- MARCH_START: a write of MARCH_CTRL. -/
def execMarchStart (m : Mid) (w : Wall) (v : Word) (s : State) : Out :=
  regRow s m (R.MARCH_CTRL w.val) (fun s => s.marchWrite m.toNat w.val v)

/-- MARCH_ABORT: a write of MARCH_CTRL with `abort` set, the other fields as they are. -/
def execMarchAbort (m : Mid) (w : Wall) (s : State) : Out :=
  regRow s m (R.MARCH_CTRL w.val) (fun s => s.marchWrite m.toNat w.val (setFld (s.rd (R.MARCH_CTRL w.val)) F.MARCH_CTRL_abort 1))

/-- A long command of an operation on a wall has its result (R424). -/
def State.finishLong (s : State) (p : LongCmd → Bool) (status : Nat) (r0 r1 : Word) : State :=
  { s with longs := s.longs.map (fun c => if p c && c.done.isNone then { c with done := some (status, r0, r1) } else c) }

/-- A command's march has finished bank b: with its last bank the command has its result, for MARCH the failing banks,
for the self-test the first failing bank and its address (R426, R538). -/
def State.marchTold (s : State) (w b : Nat) (fail : Bool) : State :=
  { s with longs := s.longs.map (fun c =>
      if c.ctx.wall.toNat = w && nbit c.left b && c.done.isNone then
        let c1 := { c with left := setNbit c.left b false, fails := (if fail then setNbit c.fails b true else c.fails) }
        let st : Nat := if c1.fails = 0 then 0 else 0x60
        if c1.left ≠ 0 then c1
        else if c.op = 24 then { c1 with done := some (st, BitVec.ofNat 32 c1.fails, 0) }
        else
          let k := ((maskBits 8 c1.fails).map (· + 1)).headD 0
          { c1 with done := some (st, BitVec.ofNat 32 (k + 0x400), if k = 0 then 0 else s.rd (R.MARCH_FAIL_ADDR w (k - 1))) }
      else c) }

/-- MARCH_END: a march has run its cycles on bank b; a destructive one leaves it zero with valid codes (R338, R339, R341,
R342). -/
def execMarchEnd (w : Wall) (b : Fin 8) (r : MarchResult) (s : State) : Out :=
  onWall w.val s (fun s =>
    let w := w.val
    let b := b.val
    match (s.wall w).march.find? (fun e => e.1 = b) with
    | none => s
    | some e =>
      if (s.wall w).cycle < e.2.start + e.2.cycles || (r.fail && !e.2.canFail r.addr) then s
      else
        let s1 := s.marchOff w b
        let s2 := if e.2.destroys then s1.zeroBank w b else s1
        let s3 := s2.setFl (R.MARCH_STATUS w) F.MARCH_STATUS_done (setNbit (s2.fl (R.MARCH_STATUS w) F.MARCH_STATUS_done) b true)
        if !r.fail then s3.marchTold w b false
        else
          let s4 := (s3.marchFailed w b r.addr (max 1 r.count)).marchTold w b true
          if e.2.boot then s4.raiseWall w 19 0 [b, r.addr % 4294967296] else s4)

/-! ### The secure bank (R332 to R334) -/
/-- A tamper event of a wall: the wipe starts and the hub event TAMPER is raised (R332, R513). -/
def State.tamper (s : State) (w cause : Nat) : State := (s.startWipe w cause).raiseHub 27 0 [cause]

/-- CLOCK_GLITCH: while the wall runs. -/
def execClockGlitch (w : Wall) (s : State) : Out :=
  onWall w.val s (fun s => if s.isReady w.val then s.tamper w.val 2 else s)

/-- TEMPERATURE_TAMPER. -/
def execTemperatureTamper (w : Wall) (s : State) : Out := onWall w.val s (fun s => s.tamper w.val 3)

/-- The effect of a write of SEC_STATUS: a 0 clears `wiped`, a 1 has no effect. -/
def State.secWrite (s : State) (w : Nat) (v : Word) : State × Nat :=
  (if fld v F.SEC_STATUS_wiped = 0 then s.setFl (R.SEC_STATUS w) F.SEC_STATUS_wiped 0 else s, 0)

/-- SEC_STATUS_WRITE. -/
def execSecStatusWrite (m : Mid) (w : Wall) (v : Word) (s : State) : Out :=
  regRow s m (R.SEC_STATUS w.val) (fun s => s.secWrite w.val v)

/-! ### GDDR7 devices (R343 to R349) -/
/-- The usable capacity of a device (R344). -/
def State.gdSize (s : State) (w : Nat) : Nat := if s.fl (R.GD_CFG w) F.GD_CFG_ecc = 1 then 0xB4000000 else 0xC0000000
def State.gdState (s : State) (w d : Nat) : Nat := s.fl (R.GD_STATUS w d) F.GD_STATUS_state
/-- Whether a device serves: ready, or retrain needed. -/
def State.gdServes (s : State) (w d : Nat) : Bool := s.gdState w d = 1 || s.gdState w d = 2

def State.gdBytes (s : State) (w d off n : Nat) : List Byte := memBytes s.gddr (gddrKey w d off) n
def State.setGd (s : State) (w d off : Nat) (bs : List Byte) : State :=
  { s with gddr := memSetBytes s.gddr (gddrKey w d off) bs }

/-- The mode in force in a region (R355). -/
def State.regionMode (s : State) (w d r : Nat) : Nat :=
  if s.fl (R.GD_REGION w d r) F.GD_REGION_busy = 1 then Sp.getD (s.gdx w d).oldMode r 0
  else s.fl (R.GD_REGION w d r) F.GD_REGION_mode

/-- Whether the tables of every region that [off, off + n) touches let a master in: those of the usable capacity, beyond
which there is none (R344, R352). -/
def State.gdAllows (s : State) (w d m off n : Nat) (write : Bool) : Bool :=
  (List.range (s.gdSize w / 0x4000000)).all (fun r =>
    !(decide (off / 0x4000000 ≤ r) && decide (r ≤ (off + n - 1) / 0x4000000)) ||
    (let e := s.accEntry (R.GD_ACC_A w d r) m
     if write then e = 2 else (e = 1 || e = 2)))

/-- A denied access to a device (R323). -/
def State.gdDeny (s : State) (w d m off : Nat) (write : Bool) : State :=
  let s1 := s.bump (R.GD_DENY_COUNT w d)
  if s1.fl (R.GD_EVENT w d) F.GD_EVENT_denied = 1 then s1
  else
    let r := off / 0x4000000
    ((s1.wr (R.GD_DENY_INFO w d) (BitVec.ofNat 32 (m + r % 64 * 64 + b2n write * 4096))).setFl (R.GD_EVENT w d)
      F.GD_EVENT_denied 1).raiseWall w 17 0 [m, r % 64 * 16 + d * 4096, off, b2n write]

/-- CRC retries of a transfer are counted; the device needs retraining when they reach the threshold (R346). -/
def State.gdCrc (s : State) (w d crc : Nat) : State :=
  let x := s.gdx w d
  let fresh := 1048576 ≤ x.accesses
  let n := (if fresh then 0 else x.crcRetries) + min crc 4
  let s1 := (s.setGdx w d { x with accesses := (if fresh then 1 else x.accesses + 1), crcRetries := n }).bumpBy (R.GD_CRC_COUNT w d) (min crc 4)
  if 0 < min crc 4 && decide (s1.fl (R.GD_CFG w) F.GD_CFG_crc_thresh ≤ n) && s1.gdState w d = 1 then
    ((s1.setFl (R.GD_STATUS w d) F.GD_STATUS_state 2).setFl (R.GD_EVENT w d) F.GD_EVENT_retrain 1).raiseWall w 22 0
      [d, wrapN 32 (sInt 8 (s1.fl (R.GD_STATUS w d) F.GD_STATUS_temp))]
  else s1

/-- An uncorrectable block at an offset: counted, recorded, reported (R345, R346). -/
def State.gdUe (s : State) (w d off : Nat) (link : Bool) : State :=
  let s1 := s.bump (R.GD_UE_COUNT w d)
  let s2 := if s1.fl (R.GD_UE_ADDR_HI w d) F.GD_UE_ADDR_HI_valid = 1 then s1
    else (s1.wr (R.GD_UE_ADDR_LO w d) (BitVec.ofNat 32 off)).wr (R.GD_UE_ADDR_HI w d) (BitVec.ofNat 32 (off / 4294967296 % 4 + 2147483648))
  let f := if link then F.GD_EVENT_link else F.GD_EVENT_ue
  s2.stickyWall (R.GD_EVENT w d) f w 21 (b2n link) [d, off % 4294967296, off / 4294967296]

/-- The marked 32-byte blocks that [off, off + n) touches, with their marks. -/
def State.gdMarks (s : State) (w d off n : Nat) : List (Nat × Nat) :=
  let k := gddrKey w d 0 / 32
  s.gddrErr.filter (fun e => decide (k + off / 32 ≤ e.1) && decide (e.1 ≤ k + (off + n - 1) / 32))

/-- A transfer of [off, off + n): CRC retries and inline SECDED; `skip` marks blocks that a write covers whole. True: an
uncorrectable block was met. -/
def State.gdTransfer (s : State) (w d off n crc : Nat) (skip : Nat → Bool) : State × Bool :=
  let s1 := s.gdCrc w d crc
  if 4 < crc then (s1.gdUe w d (off / 32 * 32) true, true)
  else if s1.fl (R.GD_CFG w) F.GD_CFG_ecc = 0 then (s1, false)
  else
    let base := gddrKey w d 0 / 32
    (s1.gdMarks w d off n).foldl (fun (a : State × Bool) e =>
      if skip (e.1 - base) then ({ a.1 with gddrErr := Sp.drop a.1.gddrErr e.1 }, a.2)
      else if e.2 = 1 then ({ (a.1.bump (R.GD_CE_COUNT w d)) with gddrErr := Sp.drop a.1.gddrErr e.1 }, a.2)
      else (a.1.gdUe w d ((e.1 - base) * 32) false, true)) (s1, false)

/-! ### The host-holding filter (R352 to R356) -/
def GddrX.holds (x : GddrX) (line : Nat) : Option HostLine := x.filter.find? (fun h => h.line = line)
def GddrX.waits (x : GddrX) (line : Nat) : Bool := x.pendingBi.any (fun e => e.1 = line)

/-- A back-invalidation of a line is sent to the host, unless one that asks for as much is unanswered: after a BISnpData a
BISnpInv is still to be sent. -/
def State.sendBi (s : State) (w d line : Nat) (dataOnly : Bool) : State :=
  let x := s.gdx w d
  if x.pendingBi.any (fun e => e.1 = line && (!e.2.1 || dataOnly)) then s
  else
    ({ (s.setGdx w d { x with pendingBi := x.pendingBi ++ [(line, dataOnly, s.tick)] }) with
        hostOut := s.hostOut ++ [HostOut.bi w d line dataOnly] }).bump (R.GD_BI_COUNT w d)

/-- The 64-byte lines of a device that [off, off + n) touches. -/
def linesOf (off n : Nat) : List Nat :=
  (List.range ((off + n - 1) / 64 - off / 64 + 1)).map (fun i => off / 64 + i)

/-- The lines of an access that a coherent region makes wait for the host: for a read, those held exclusive; for a write,
those held at all; and those whose back-invalidation is unanswered. -/
def State.waitLines (s : State) (w d off n : Nat) (write : Bool) : List Nat :=
  let x := s.gdx w d
  (linesOf off n).filter (fun l =>
    s.regionMode w d (l / 0x100000) = 0 &&
    (x.waits l || (match x.holds l with | some h => write || h.excl | none => false)))

/-- A wall access at a device: the table, then the range, then the device's state (R323, R344, R347). -/
def State.gdCheck (s : State) (w d : Nat) (p : Packet) (write : Bool) : Nat :=
  let off := bvf p.addr 0 32
  if !s.gdAllows w d p.mid.toNat off p.count write then stAccessDenied
  else if s.gdSize w < off + p.count then stBadArg
  else if !s.gdServes w d then stDomainOff
  else 0

/-- A wall read (R345, R352). -/
def State.devRead (s : State) (w d : Nat) (p : Packet) (crc : Nat) : State × Ans :=
  let off := bvf p.addr 0 32
  if p.typ ≠ 1 then (s, .nack stBadArg)
  else
    let st := s.gdCheck w d p false
    if st = stAccessDenied then (s.gdDeny w d p.mid.toNat off false, .nack st)
    else if st ≠ 0 then (s, .nack st)
    else
      let r := s.gdTransfer w d off p.count crc (fun _ => false)
      if r.2 then (r.1, .fail stDataError) else (r.1, .resp 0 (r.1.gdBytes w d off p.count))

/-- A wall write: in a stream region it lands at once and the lines that the host holds are back-invalidated. -/
def State.devWrite (s : State) (w d : Nat) (p : Packet) (crc : Nat) : State × Ans :=
  let off := bvf p.addr 0 32
  if p.typ ≠ 0 then (s, .nack stBadArg)
  else
    let st := s.gdCheck w d p true
    if st = stAccessDenied then (s.gdDeny w d p.mid.toNat off true, .nack st)
    else if st ≠ 0 then (s, .nack st)
    else
      let r := s.gdTransfer w d off p.count crc (fun b => decide (off ≤ b * 32) && decide (b * 32 + 32 ≤ off + p.count))
      if r.2 then (r.1, .comp stDataError)
      else
        let s1 := r.1.setGd w d off p.payload
        ((linesOf off p.count).foldl (fun (a : State) l =>
          if ((a.gdx w d).holds l).isSome then a.sendBi w d l false else a) s1, .comp 0)

/-! ### The controller's queue (R354) -/
/-- The lines of a device that a waiting request touches. -/
def GdReq.lines : GdReq → List Nat
  | .wall p => linesOf (bvf p.addr 0 32) p.count
  | .read l _ _ => [l]
  | .write l _ => [l]

/-- The same request, presented again. -/
def GdReq.same : GdReq → GdReq → Bool
  | .wall p, .wall q => p = q
  | .read l e _, .read k f _ => l = k && e = f
  | .write l a, .write k b => l = k && a = b
  | _, _ => false

/-- The requests that wait at a controller: a packet that the network has discarded waits no longer. -/
def State.gdQueue (s : State) (w d : Nat) : List GdReq :=
  (s.gdx w d).queue.filter (fun q =>
    match q with
    | .wall p => s.flight.any (fun e => e.at_ = .atPort w (16 + d) 0 && e.pkt = p)
    | _ => true)

/-- A request takes its place in the queue, where it has none yet. -/
def State.enqueue (s : State) (w d : Nat) (q : GdReq) : State :=
  if (s.gdQueue w d).any (fun e => e.same q) then s
  else s.setGdx w d { (s.gdx w d) with queue := s.gdQueue w d ++ [q] }

/-- The queue without the first place of a request. -/
def dropReq (q : GdReq) : List GdReq → List GdReq
  | [] => []
  | e :: r => if e.same q then r else e :: dropReq q r

/-- A request leaves the queue as it is served. -/
def State.dequeue (s : State) (w d : Nat) (q : GdReq) : State :=
  if (s.gdx w d).queue.isEmpty then s else s.setGdx w d { (s.gdx w d) with queue := dropReq q (s.gdQueue w d) }

/-- Whether an earlier request for a line of this one still waits. -/
def State.queuedBefore (s : State) (w d : Nat) (q : GdReq) : Bool :=
  ((s.gdQueue w d).takeWhile (fun e => !e.same q)).any (fun e => e.lines.any (fun l => q.lines.contains l))

/-- A packet at a device: it is served at once, or waits in the queue for the host's answers and for the earlier requests
for its lines. -/
def gdRow (w : Wall) (d : Fin 2) (p : Packet) (s : State) (write : Bool) (run : State → State × Ans) : Out :=
  onWall w.val s (fun s =>
    let w := w.val
    let d := d.val
    let q := GdReq.wall p
    let ls := if s.gdCheck w d p write = 0 then s.waitLines w d (bvf p.addr 0 32) p.count write else []
    if p.typ ≠ (if write then 0 else 1) || (ls.isEmpty && !s.queuedBefore w d q) then (s.dequeue w d q).serve w (16 + d) 0 p run
    else match s.take (.atPort w (16 + d) 0) p (s.wall w).cycle (fun e => sameStream e.pkt p) with
      | none => s
      | some (_, e) => if e.arriving w then s else ls.foldl (fun (a : State) l => a.sendBi w d l (!write)) (s.enqueue w d q))

/-- GDDR_READ; `crc` is how many times the transfer's data CRC failed. A message is refused (R571); a write packet is no
read. -/
def execGddrRead (w : Wall) (d : Fin 2) (p : Packet) (crc : Nat) (s : State) : Out :=
  if p.typ = 0 then .next s else gdRow w d p s false (fun s => s.devRead w.val d.val p crc)

/-- GDDR_WRITE. -/
def execGddrWrite (w : Wall) (d : Fin 2) (p : Packet) (crc : Nat) (s : State) : Out :=
  if p.typ = 1 then .next s else gdRow w d p s true (fun s => s.devWrite w.val d.val p crc)

/-! ### The HDM range (R348, R351 to R356) -/
/-- The wall, device and offset of a device physical address (R351). -/
def State.hdmPlace (s : State) (dpa : Nat) : Option (Nat × Nat × Nat) :=
  let sz := s.gdSize 0
  let k := dpa / sz
  if k / 2 < s.part.walls then some (k / 2, k % 2, dpa % sz) else none

/-- Whether a device answers host reads with poisoned data (R347, R348, R357, R358). -/
def State.poisons (s : State) (w d : Nat) : Bool := !s.gdServes w d || s.fl (R.GD_STATUS w d) F.GD_STATUS_stale = 1

/-- The host's way to a wall's devices leads over the crossing switch, which refuses what it carries for a wall that is
closing or whose route is withdrawn (R16, R19, R308). -/
def State.hdmShut (s : State) (w : Nat) : Bool := s.crossing 0 w ≠ 0

/-- The read is served: the filter records the host's copy, an uncorrectable block gives poisoned data (R345). -/
def State.hostServe (s : State) (w d dpa off crc : Nat) (filter : List HostLine) : State :=
  let r := s.gdTransfer w d off 64 crc (fun _ => false)
  let s1 := r.1.setGdx w d { (r.1.gdx w d) with filter := filter }
  { s1 with hostOut := s1.hostOut ++ [.data dpa r.2 (if r.2 then [] else s1.gdBytes w d off 64)] }

/-- A host read at its controller: it waits for the answers of its line's back-invalidations, in a stream region for those
of the region that were unanswered when it arrived, for the earlier requests for its line, and for an entry of the filter
(R353, R354, R356). -/
def State.hostRead (s : State) (w d dpa off crc : Nat) (excl : Bool) : State :=
  let x := s.gdx w d
  let line := off / 64
  let mode := s.regionMode w d (line / 0x100000)
  let now := if mode = 1 then x.pendingBi.filter (fun e => e.1 / 0x100000 = line / 0x100000) else []
  let q := ((s.gdQueue w d).find? (fun e => e.same (.read line excl []))).getD (.read line excl now)
  let after := match q with | .read _ _ l => l | _ => []
  let own : HostLine := { line := line, excl := excl && mode = 0 }
  if s.queuedBefore w d q || x.waits line || after.any (fun e => x.pendingBi.contains e) then s.enqueue w d q
  else
    match x.holds line, x.filter with
    | none, h :: _ =>
      if 131072 ≤ x.filter.length then (s.enqueue w d q).sendBi w d h.line false
      else (s.dequeue w d q).hostServe w d dpa off crc (x.filter ++ [own])
    | none, [] => (s.dequeue w d q).hostServe w d dpa off crc [own]
    | some h, l => (s.dequeue w d q).hostServe w d dpa off crc (l.map (fun e => if e = h then own else e))

/-- HDM_READ: a host read of the 64-byte line at a device physical address. -/
def execHdmRead (dpa : Nat) (excl : Bool) (crc : Nat) (s : State) : Out :=
  .next (match s.hdmPlace dpa with
    | none => s
    | some (w, d, o) =>
      let off := o / 64 * 64
      let gone (s : State) : State := s.dequeue w d (.read (off / 64) excl [])
      let poison (s : State) : State := { s with hostOut := s.hostOut ++ [.data dpa true []] }
      if !s.cxl.flit256 then s
      else if s.hdmShut w then poison (gone s)
      else if !s.gdAllows w d 0 off 64 false then poison ((gone s).gdDeny w d 0 off false)
      else if s.poisons w d then poison (gone s)
      else s.hostRead w d dpa off crc excl)

/-- Whether a host write of a line is taken: by a device in service, behind the earlier requests for the line; and, ahead of
them and of a flush, when it writes back a line that the controller has asked the host for (R352, R357). -/
def State.hostWrites (s : State) (w d line : Nat) : Bool :=
  let x := s.gdx w d
  if x.waits line then s.gdServes w d || x.flushing.isSome else s.gdServes w d && !s.hdmShut w

/-- HDM_WRITE: a host write of the 64-byte line at a device physical address. -/
def execHdmWrite (dpa : Nat) (data : Bytes) (crc : Nat) (s : State) : Out :=
  .next (match s.hdmPlace dpa with
    | none => s
    | some (w, d, o) =>
      let off := o / 64 * 64
      let q := GdReq.write (off / 64) data
      let bs := (data ++ List.replicate 64 0).take 64
      if !s.cxl.flit256 then s
      else if !s.gdAllows w d 0 off 64 true then (s.dequeue w d q).gdDeny w d 0 off true
      else if !s.hostWrites w d (off / 64) then s.dequeue w d q
      else if !(s.gdx w d).waits (off / 64) && s.queuedBefore w d q then s.enqueue w d q
      else
        let r := (s.dequeue w d q).gdTransfer w d off 64 crc (fun _ => true)
        if r.2 then r.1 else r.1.setGd w d off bs)

/-- A back-invalidation response, to the oldest unanswered one of the line: the host holds the line no more, or (BISnpData)
no longer exclusive; the longest wait is kept. -/
def State.biResponse (s : State) (w d line : Nat) : State :=
  let x := s.gdx w d
  match x.pendingBi.find? (fun e => e.1 = line) with
  | none => s
  | some e =>
    let fl := if e.2.1 then x.filter.map (fun h => if h.line = line then { h with excl := false } else h)
      else x.filter.filter (fun h => h.line ≠ line)
    let s1 := s.setGdx w d { x with pendingBi := x.pendingBi.erase e, filter := fl }
    let lat := s.tick - e.2.2
    if (s1.rd (R.GD_BI_MAXLAT w d)).toNat < lat then s1.wr (R.GD_BI_MAXLAT w d) (BitVec.ofNat 32 (min lat 0xFFFFFFFF)) else s1

/-! ### Tracking, patrol, temperature, training -/
/-- GDDR_TRACKING: the controller tracks timing inside refresh windows; nothing that the spec names changes (R347). -/
def execGddrTracking (w : Wall) (_ : Fin 2) (s : State) : Out := onWall w.val s (fun s => s)

/-- GDDR_PATROL: one 64-byte line every 4,096 ticks, with inline SECDED in force and `patrol` = 1 (R345). -/
def execGddrPatrol (w : Wall) (d : Fin 2) (s : State) : Out :=
  onWall w.val s (fun s =>
    let w := w.val
    let d := d.val
    if s.fl (R.GD_CFG w) F.GD_CFG_ecc = 1 && s.fl (R.GD_CFG w) F.GD_CFG_patrol = 1 && s.gdServes w d && decide ((s.gdx w d).patrolAt + 4096 ≤ s.tick) then
      let pos := (s.gdx w d).patrolPos
      let s1 := (s.gdTransfer w d pos 64 0 (fun _ => false)).1
      s1.setGdx w d { (s1.gdx w d) with patrolPos := (if s.gdSize w ≤ pos + 64 then 0 else pos + 64), patrolAt := s.tick }
    else s)

/-- GDDR_HOT: a temperature of the device; above 85 °C its refresh rate is doubled (R349). -/
def execGddrHot (w : Wall) (d : Fin 2) (temp : BitVec 8) (s : State) : Out :=
  onWall w.val s (fun s =>
    let a := R.GD_STATUS w.val d.val
    let s1 := s.setFl a F.GD_STATUS_temp temp.toNat
    if 85 < temp.toInt then
      (if s1.fl a F.GD_STATUS_hot = 1 then s1
       else ((s1.setFl a F.GD_STATUS_hot 1).setFl (R.GD_EVENT w.val d.val) F.GD_EVENT_hot 1).raiseWall w.val 22 1 [d.val, wrapN 32 temp.toInt])
    else s1.setFl a F.GD_STATUS_hot 0)

/-- GD_UNSTALE: a write of 1 to GD_CMD.`unstale` (R357). -/
def State.gdCmdWrite (s : State) (w d : Nat) (v : Word) : State × Nat :=
  (if fld v F.GD_CMD_unstale = 1 then s.setFl (R.GD_STATUS w d) F.GD_STATUS_stale 0 else s, 0)

def execGdUnstale (m : Mid) (w : Wall) (d : Fin 2) (s : State) : Out :=
  regRow s m (R.GD_CMD w.val d.val) (fun s => s.gdCmdWrite w.val d.val 1)

/-! ### Region modes (R352, R355) -/
/-- The effect of a write of GD_REGION. -/
def State.regionWrite (s : State) (w d r : Nat) (v : Word) : State × Nat :=
  if s.gdSize w ≤ r * 0x4000000 then (s, 0)
  else if 2 ≤ fld v F.GD_REGION_mode then refuse s stBadArg
  else if s.fl (R.GD_REGION w d r) F.GD_REGION_busy = 1 then refuse s stBusy
  else
    let x := s.gdx w d
    let s1 := s.setGdx w d { x with oldMode := Sp.set x.oldMode r (s.fl (R.GD_REGION w d r) F.GD_REGION_mode) 0 }
    let s2 := (s1.setFl (R.GD_REGION w d r) F.GD_REGION_mode (fld v F.GD_REGION_mode)).setFl (R.GD_REGION w d r) F.GD_REGION_busy 1
    ((x.filter.filter (fun h => h.line / 0x100000 = r)).foldl (fun (a : State) h => a.sendBi w d h.line false) s2, 0)

/-- GD_REGION_WRITE. -/
def execGdRegionWrite (m : Mid) (w : Wall) (d : Fin 2) (r : Fin 48) (v : Word) (s : State) : Out :=
  regRow s m (R.GD_REGION w.val d.val r.val) (fun s => s.regionWrite w.val d.val r.val v)

/-- REGION_MODE_CHANGE_DONE: the host has answered every back-invalidation of the region. Copies that it has taken since
the write, under the old mode, are back-invalidated first. -/
def execRegionModeChangeDone (w : Wall) (d : Fin 2) (r : Fin 48) (s : State) : Out :=
  onWall w.val s (fun s =>
    let a := R.GD_REGION w.val d.val r.val
    let x := s.gdx w.val d.val
    let left := x.filter.filter (fun h => h.line / 0x100000 = r.val)
    if s.fl a F.GD_REGION_busy ≠ 1 || x.pendingBi.any (fun e => e.1 / 0x100000 = r.val) then s
    else if !left.isEmpty then left.foldl (fun (b : State) h => b.sendBi w.val d.val h.line false) s
    else (s.setGdx w.val d.val { x with oldMode := Sp.drop x.oldMode r.val }).setFl a F.GD_REGION_busy 0)

end Sys2Proof.Machine
end

