-- ==== Sys2Proof/Machine/Pins.lean ====
section
/-!
DEFINITION. Machine/Pins.lean: the field pins (R388 to R395): edges, trip outputs, pin and bank settings, and the bank's VIO.
-/
namespace Sys2Proof.Machine
open Sys2Proof

def State.pinFunc (s : State) (w p : Nat) : Nat := s.fl (R.FP_CFG w p) F.FP_CFG_func

/-! ### Trips (R392) -/
/-- A trip output trips, from a write (src 0) or from input pin `inp` (src 1). -/
def State.trip (s : State) (w p src inp : Nat) : State :=
  let s1 := s.setPin w p { (s.pin w p) with outReg := false, tripAt := (s.wall w).cycle + 1 }
  let s2 := (s1.setFl (R.FP_TRIP w p) F.FP_TRIP_tripped 1).setFl (R.FP_TRIP w p) F.FP_TRIP_src src
  s2.raiseWall w 11 0 [p, src + inp * 256]

/-- An edge of event input `q` trips every trip output whose mask names it and whose polarity it has. -/
def State.tripAll (s : State) (w q : Nat) (rising : Bool) : State :=
  foldN 24 s (fun a p =>
    let e := a.fl (R.FP_CFG w p) F.FP_CFG_tedge
    if a.pinFunc w p = 4 && nbit (a.fl (R.FP_TRIPMASK w p) F.FP_TRIPMASK_mask) q && nbit e (if rising then 0 else 1) then a.trip w p 1 q
    else a)

/-- Flows that wait for an edge of event input `q` are triggered (R204). -/
def State.wakeEdge (s : State) (w q : Nat) (rising : Bool) : State :=
  foldN 512 s (fun a f =>
    let r := a.rd (R.FD_WAKE w f)
    if fld r F.FD_WAKE_kind = 5 && fld r F.FD_WAKE_index = q && nbit (fld r F.FD_WAKE_edge) (if rising then 0 else 1) then a.trigger w f
    else a)

/-- FIELD_PIN_EDGE: a filtered edge at a pin (R389, R390). -/
def execFieldPinEdge (w : Wall) (p : Fin 24) (rising : Bool) (s : State) : Out :=
  onWall w.val s (fun s =>
    let w := w.val
    let p := p.val
    if !s.vioLive w || s.pinFunc w p = 0 then s
    else
      let s1 := s.seePin w p rising
      if s1.pinFunc w p = 2 then (s1.wakeEdge w p rising).tripAll w p rising else s1)

/-- The effect of a write of FP_TRIP: `set` wins over `clr`, and so does a trip of the same cycle. -/
def State.fpTripWrite (s : State) (m w p : Nat) (v : Word) : State × Nat :=
  let set := fld v F.FP_TRIP_set = 1
  let clr := fld v F.FP_TRIP_clr = 1
  if !s.holds (claimPin w p) m then refuse s stBusy
  else if !set && !clr then (s, 0)
  else if s.pinFunc w p ≠ 4 then refuse s stBadArg
  else if set then (s.trip w p 0 0, 0)
  else if (s.pin w p).tripAt = (s.wall w).cycle + 1 then (s, 0)
  else
    let s1 := s.setPin w p { (s.pin w p) with outReg := true }
    (s1.setFl (R.FP_TRIP w p) F.FP_TRIP_tripped 0, 0)

/-- FP_TRIP_SET: a write of 1 to FP_TRIP.`set`. -/
def execFpTripSet (m : Mid) (w : Wall) (p : Fin 24) (s : State) : Out :=
  regRow s m (R.FP_TRIP w.val p.val) (fun s => s.fpTripWrite m.toNat w.val p.val 1)

/-- FP_TRIP_CLR: a write of 1 to FP_TRIP.`clr`. -/
def execFpTripClr (m : Mid) (w : Wall) (p : Fin 24) (s : State) : Out :=
  regRow s m (R.FP_TRIP w.val p.val) (fun s => s.fpTripWrite m.toNat w.val p.val 2)

/-! ### Pin and bank settings (R388, R391, R395) -/
/-- Whether an angle base that is not off uses a pin, or an enabled compare unit names it. -/
def State.pinInUse (s : State) (w p : Nat) : Bool :=
  (List.range 4).any (fun n => s.angSrc w n ≠ 0 && (s.refPins w n (s.angSrc w n)).contains p) ||
  (List.range 16).any (fun u => s.fl (R.ACU_CTRL w u) F.ACU_CTRL_en = 1 && s.fl (R.ACU_CTRL w u) F.ACU_CTRL_pin = p)

/-- The effect of a write of FP_CFG: a timed output takes its initial level, a trip output its tripped state. -/
def State.fpCfgWrite (s : State) (m w p : Nat) (v : Word) : State × Nat :=
  if !s.holds (claimPin w p) m then refuse s stBusy
  else if s.pinInUse w p then refuse s stBusy
  else if 5 ≤ fld v F.FP_CFG_func || fld v F.FP_CFG_pull = 3 then refuse s stBadArg
  else
    let s1 := s.plain (R.FP_CFG w p) v
    let out := match fld v F.FP_CFG_func with
      | 3 => fld v F.FP_CFG_init = 1
      | 4 => s.fl (R.FP_TRIP w p) F.FP_TRIP_tripped = 0
      | _ => false
    let input := inRange 1 (fld v F.FP_CFG_func) 2
    (s1.setPin w p { (s1.pin w p) with outReg := out, sampled := input && (s1.pin w p).sampled }, 0)

/-- FP_CFG_WRITE. -/
def execFpCfgWrite (m : Mid) (w : Wall) (p : Fin 24) (v : Word) (s : State) : Out :=
  regRow s m (R.FP_CFG w.val p.val) (fun s => s.fpCfgWrite m.toNat w.val p.val v)

/-- The effect of a write of FP_TRIPMASK: only the pin's claimant. -/
def State.fpMaskWrite (s : State) (m w p : Nat) (v : Word) : State × Nat :=
  if !s.holds (claimPin w p) m then refuse s stBusy else (s.plain (R.FP_TRIPMASK w p) v, 0)

/-- The effect of a write of FP_BANK. -/
def State.fpBankWrite (s : State) (w : Nat) (v : Word) : State × Nat :=
  let vio := fld v F.FP_BANK_vio
  if 5 ≤ vio then refuse s stBadArg
  else if vio ≠ s.fl (R.FP_BANK w) F.FP_BANK_vio && (List.range 24).any (fun p => s.pinFunc w p ≠ 0) then refuse s stBusy
  else (s.plain (R.FP_BANK w) v, 0)

/-- FP_BANK_WRITE. -/
def execFpBankWrite (m : Mid) (w : Wall) (v : Word) (s : State) : Out :=
  regRow s m (R.FP_BANK w.val) (fun s => s.fpBankWrite w.val v)

/-! ### VIO (R394) -/
/-- Nominal millivolts of FP_BANK.`vio`. -/
def vioNominal (v : Nat) : Nat :=
  match v with
  | 0 => 1200 | 1 => 1500 | 2 => 1800 | 3 => 2500 | _ => 3300

/-- Whether a measured VIO, in units of 20 mV, is within 10 % of the bank's nominal. -/
def State.vioInside (s : State) (w meas : Nat) : Bool :=
  let n := vioNominal (s.fl (R.FP_BANK w) F.FP_BANK_vio)
  decide (n * 90 ≤ meas * 2000) && decide (meas * 2000 ≤ n * 110)

/-- VIO_INVALID: VIO has been out of range for 2 us. Inputs read 0. -/
def execVioInvalid (w : Wall) (meas : BitVec 8) (s : State) : Out :=
  onWall w.val s (fun s =>
    let w := w.val
    if s.vioInside w meas.toNat then s
    else
      let was := s.fl (R.FP_BANK w) F.FP_BANK_valid = 1
      let s1 := (s.setFl (R.FP_BANK w) F.FP_BANK_valid 0).setFl (R.FP_BANK w) F.FP_BANK_meas meas.toNat
      let s2 := s1.setWall w { (s1.wall w) with vioLive := false }
      let s3 := foldN 24 s2 (fun a p => a.setPin w p { (a.pin w p) with sampled := false })
      if was then s3.raiseWall w 12 0 [meas.toNat] else s3)

/-- VIO_VALID: VIO has been within range for 10 us. -/
def execVioValid (w : Wall) (meas : BitVec 8) (s : State) : Out :=
  onWall w.val s (fun s =>
    let w := w.val
    if !s.vioInside w meas.toNat then s
    else
      let was := s.fl (R.FP_BANK w) F.FP_BANK_valid = 1
      let s1 := (s.setFl (R.FP_BANK w) F.FP_BANK_valid 1).setFl (R.FP_BANK w) F.FP_BANK_meas meas.toNat
      if was then s1 else s1.setWall w { (s1.wall w) with vioAt := s1.tick })

/-- FIELD_OUTPUT_RETURN: 100 us (125,000 ticks) after VIO became valid. A tripped output returns tripped. -/
def execFieldOutputReturn (w : Wall) (s : State) : Out :=
  onWall w.val s (fun s =>
    let x := s.wall w.val
    if s.fl (R.FP_BANK w.val) F.FP_BANK_valid = 1 && !x.vioLive && decide (x.vioAt + 125000 ≤ s.tick)
    then s.setWall w.val { x with vioLive := true } else s)

/-- FP_LEVEL: filtered input, or output register, of each pin (R395). -/
def State.fpLevel (s : State) (w : Nat) : Nat :=
  ((List.range 24).map (fun p =>
    let f := s.pinFunc w p
    let b := if f = 1 || f = 2 then (s.pin w p).sampled else if f = 3 || f = 4 then (s.pin w p).outReg else false
    b2n b * 2 ^ p)).foldl (· + ·) 0

end Sys2Proof.Machine
end

