-- ==== Sys2Proof/Machine/Links.lean ====
section
/-!
DEFINITION. Machine/Links.lean: the stream links (R362 to R387): link control and states, stream frames received and sent,
legacy frames, Ethernet rings and the wall's PTP clock.
-/
namespace Sys2Proof.Machine
open Sys2Proof

/-! ### Settings (R362 to R366, R369) -/
/-- Rate of a rate code in kb/s (R363), with whether it is NRZ; a custom rate outside 1,250 to 32,000 Mb/s is none. -/
def lineRate (code mbps : Nat) : Option (Nat × Bool) :=
  match code with
  | 0 => some (1250000, true) | 1 => some (2500000, true) | 2 => some (3125000, true) | 3 => some (5000000, true)
  | 4 => some (6250000, true) | 5 => some (10312500, true) | 6 => some (12500000, true) | 7 => some (25781250, true)
  | 8 => some (28125000, true) | 9 => some (32000000, true)
  | 16 => some (53125000, false) | 17 => some (56000000, false)
  | 31 => if 1250 ≤ mbps && mbps ≤ 32000 then some (mbps * 1000, true) else none
  | _ => none

/-- Whether R362's table allows a mode with a rate code. With mode off every defined code is allowed. -/
def rateAllowed (mode code mbps : Nat) : Bool :=
  match mode with
  | 0 => decide (code ≤ 9) || code = 16 || code = 17 || code = 31
  | 1 => (lineRate code mbps).isSome
  | 2 => code = 5
  | 3 => code = 7
  | 4 => match lineRate code mbps with
    | some (k, nrz) => nrz && decide (k ≤ 6250000)
    | none => false
  | _ => false

def State.lkState (s : State) (w n : Nat) : Nat := s.fl (R.LK_STATUS w n) F.LK_STATUS_state
def State.setLkState (s : State) (w n v : Nat) : State := s.setFl (R.LK_STATUS w n) F.LK_STATUS_state v
def State.lkMode (s : State) (w n : Nat) : Nat := s.fl (R.LK_CTRL w n) F.LK_CTRL_mode
def State.lkRate (s : State) (w n : Nat) : Nat :=
  match lineRate (s.fl (R.LK_CTRL w n) F.LK_CTRL_rate) (s.fl (R.LK_RATE w n) F.LK_RATE_mbps) with
  | some (k, _) => k
  | none => 1250000

/-- Ticks of 0.8 ns that `bits` bits last on a link's line, rounded up. -/
def State.lkTicks (s : State) (w n bits : Nat) : Nat := (bits * 1250000 + s.lkRate w n - 1) / s.lkRate w n

/-- The transmitter runs frames of its own (R368, R369). -/
def State.lkSends (s : State) (w n : Nat) : Bool := decide (1 ≤ s.lkState w n) && decide (s.lkState w n ≤ 3)

/-! ### The angle-periodic target (R378, R198) -/
def State.lkTarget (s : State) (w n : Nat) : W64 :=
  schedTarget (s.rd (R.LK_SF_REV w n)).toNat (s.rd (R.LK_SF_OFS w n)).toNat (s.fl (R.LK_SF_CFG w n) F.LK_SF_CFG_div)
    (s.fl (R.LK_SF_IDX w n) F.LK_SF_IDX_k)

def State.lkPos (s : State) (w n : Nat) : W64 := (s.base w (s.fl (R.LK_SF_CFG w n) F.LK_SF_CFG_ang)).v

def State.setLkIndex (s : State) (w n v k : Nat) : State :=
  (s.wr (R.LK_SF_REV w n) (BitVec.ofNat 32 v)).setFl (R.LK_SF_IDX w n) F.LK_SF_IDX_k k

/-- The link's comparator is armed from its registers, or disarmed where the link does not send at angles. -/
def State.armLink (s : State) (w n : Nat) : State :=
  let c := s.rd (R.LK_SF_CFG w n)
  if s.lkSends w n && fld c F.LK_SF_CFG_txmode = 2 && (s.lkMode w n = 1 || s.lkMode w n = 4) then
    let s1 := if fld c F.LK_SF_CFG_skip = 1 then
        let p := skipPassed (s.lkPos w n) (s.rd (R.LK_SF_REV w n)).toNat (s.rd (R.LK_SF_OFS w n)).toNat (fld c F.LK_SF_CFG_div)
          (s.fl (R.LK_SF_IDX w n) F.LK_SF_IDX_k)
        s.setLkIndex w n p.1 p.2.1
      else s
    s1.setLink w n { (s1.link w n) with armed := some (s1.lkTarget w n), passed := reached (s1.lkPos w n) (s1.lkTarget w n) }
  else s.setLink w n { (s.link w n) with armed := none, passed := false }

/-- The link goes to electrical idle (R365): an open frame is given up; slot writes already injected complete. -/
def State.idleLink (s : State) (w n : Nat) : State :=
  (s.setLink w n { (s.link w n).dropOpen with armed := none, passed := false, sendingUntil := 0 }).setLkState w n 0

/-- `en` is set: training, or loopback at once (R366, R369); mode off leaves the link off, and so does a wall before its
PINS step (R458). -/
def State.startLink (s : State) (w n : Nat) : State :=
  let st := if s.lkMode w n = 0 || !(s.wall w).pinsOn then 0 else if s.fl (R.LK_CTRL w n) F.LK_CTRL_lpbk = 0 then 1 else 4
  let s1 := (s.setLkState w n st).setLink w n { (s.link w n) with nextFree := s.tick, lastRx := s.tick }
  s1.armLink w n

/-- The effect of a write of LK_CTRL. -/
def State.lkCtrlWrite (s : State) (m w n : Nat) (v : Word) : State × Nat :=
  let a := R.LK_CTRL w n
  let old := s.rd a
  let mask : Word := 0x1EFF
  if !s.holds (claimLink w n) m then refuse s stBusy
  else if !rateAllowed (fld v F.LK_CTRL_mode) (fld v F.LK_CTRL_rate) (s.fl (R.LK_RATE w n) F.LK_RATE_mbps) then refuse s stBadArg
  else if fld v F.LK_CTRL_lpbk = 3 then refuse s stBadArg
  else if fld old F.LK_CTRL_en = 1 && v &&& mask ≠ old &&& mask then refuse s stBusy
  else
    let s1 := s.plain a v
    if fld old F.LK_CTRL_en = fld v F.LK_CTRL_en then (s1, 0)
    else if fld v F.LK_CTRL_en = 1 then (s1.startLink w n, 0)
    else (s1.idleLink w n, 0)

/-- LK_CTRL_WRITE. -/
def execLkCtrlWrite (m : Mid) (w : Wall) (n : Fin 16) (v : Word) (s : State) : Out :=
  regRow s m (R.LK_CTRL w.val n.val) (fun s => s.lkCtrlWrite m.toNat w.val n.val v)

/-- The effect of a write of another register of a link: only the lane's claimant. The LK_SF registers rearm the
comparator; setting LK_PRBS.`chk` clears the errors. -/
def State.lkSetupWrite (s : State) (m w n a : Nat) (v : Word) : State × Nat :=
  if !s.holds (claimLink w n) m then refuse s stBusy
  else if a = R.LK_SF_CFG w n && (fld v F.LK_SF_CFG_txmode = 3 || (fld v F.LK_SF_CFG_txmode = 2 && fld v F.LK_SF_CFG_div = 0)) then
    refuse s stBadArg
  else
    let s1 := s.plain a v
    if a = R.LK_SF_CFG w n || a = R.LK_SF_OFS w n || a = R.LK_SF_REV w n || a = R.LK_SF_IDX w n then (s1.armLink w n, 0)
    else if a = R.LK_PRBS w n && fld v F.LK_PRBS_chk = 1 && s.fl a F.LK_PRBS_chk = 0 then (s1.setFl a F.LK_PRBS_errors 0, 0)
    else (s1, 0)

/-- The PRBS checker of a link in loopback while a tick passes (R369): of the bits received, up to as many as the line
carries, a free number are wrong. -/
def State.prbsCheck (s : State) (w n : Nat) : State :=
  let a := R.LK_PRBS w n
  if s.lkState w n = 4 && s.fl a F.LK_PRBS_chk = 1 then
    let k := (Config.freeWord s.fresh).toNat % (s.lkRate w n / 1250000 + 2)
    { (s.setFl a F.LK_PRBS_errors (min 0xFFFF (s.fl a F.LK_PRBS_errors + k))) with fresh := s.fresh + 1 }
  else s

/-- The PRBS checkers of a wall's links. -/
def State.prbsTick (s : State) (w : Nat) : State :=
  (s.links.filter (fun e => e.1 / 16 = w)).foldl (fun (a : State) e => a.prbsCheck w (e.1 % 16)) s

/-! ### States (R366, R367) -/
/-- LINK_TRAINING_DONE: from training to searching. -/
def execLinkTrainingDone (w : Wall) (n : Fin 16) (s : State) : Out :=
  onWall w.val s (fun s => if s.lkState w.val n.val = 1 then s.setLkState w.val n.val 2 else s)

/-- LINK_UP: from searching to up. The receiver's eye margin, which it then measures, is a free value. -/
def execLinkUp (w : Wall) (n : Fin 16) (s : State) : Out :=
  onWall w.val s (fun s =>
    if s.lkState w.val n.val = 2 then
      let s1 := (s.setLkState w.val n.val 3).setLink w.val n.val { (s.link w.val n.val) with lastRx := s.tick }
      { (s1.setFl (R.LK_STATUS w.val n.val) F.LK_STATUS_eye (Config.freeByte s.fresh).toNat) with fresh := s.fresh + 1 }
    else s)

/-- An up link returns to searching. -/
def State.loseLink (s : State) (w n : Nat) : State :=
  let s1 := (s.setLkState w n 2).setLink w n (s.link w n).dropOpen
  let s2 := s1.bump (R.LK_DOWN_COUNT w n)
  s2.stickyWall (R.LK_EVENT w n) F.LK_EVENT_down w 13 0 [16 * w + n, (s2.rd (R.LK_DOWN_COUNT w n)).toNat]

/-- LINK_DOWN: loss of lock. -/
def execLinkDown (w : Wall) (n : Fin 16) (s : State) : Out :=
  onWall w.val s (fun s => if s.lkState w.val n.val = 3 then s.loseLink w.val n.val else s)

/-- LINK_RX_TIMEOUT: no valid frame for `limit` * 1,024 ticks, in stream and legacy modes. -/
def execLinkRxTimeout (w : Wall) (n : Fin 16) (s : State) : Out :=
  onWall w.val s (fun s =>
    let l := s.fl (R.LK_RX_TIMEOUT w.val n.val) F.LK_RX_TIMEOUT_limit
    let md := s.lkMode w.val n.val
    if s.lkState w.val n.val = 3 && (md = 1 || md = 4) && decide (l ≠ 0) && decide ((s.link w.val n.val).lastRx + l * 1024 ≤ s.tick)
    then s.loseLink w.val n.val else s)

/-! ### Receiving stream frames (R370 to R375) -/
def State.sfSlots (s : State) (w n : Nat) : Nat := s.fl (R.LK_SF_CFG w n) F.LK_SF_CFG_slots + 1
def State.sfBlocks (s : State) (w n : Nat) : Nat := s.fl (R.LK_SF_CFG w n) F.LK_SF_CFG_blocks + 1

/-- Words of a slot of n blocks (R371). -/
def slotWords (n : Nat) : Nat := (64 * n - 32) / 24

/-- The CRC-16 of the low k bits of a number, in transmit order (R371). -/
def crc16 (x k : Nat) : Nat := crcBits 16 0x1021 ((List.range k).map (nbit x)) 0xFFFF

/-- Frames whose writes have not all been answered. -/
def LinkX.awaiting (x : LinkX) : Nat := (x.rx.filter (fun f => !f.tags.isEmpty)).length

/-- A further frame begins: whether its slots are to be written (R375). -/
def State.openFrame (s : State) (w n : Nat) : State :=
  let x := (s.link w n).dropOpen
  let full := decide (2 ≤ x.awaiting)
  let s1 := s.setLink w n { x with rx := x.rx ++ [{}], rxOpen := true, rxNext := 0, rxDrop := full, lastRx := s.tick }
  if full then
    let s2 := s1.bump (R.LK_RXOVF_COUNT w n)
    s2.stickyWall (R.LK_EVENT w n) F.LK_EVENT_ovf w 14 2 [16 * w + n, (s2.rd (R.LK_RXOVF_COUNT w n)).toNat]
  else s1

/-- The open frame's last slot has been checked. -/
def LinkX.closeFrame (x : LinkX) : LinkX :=
  { x with rxOpen := false, rx := x.rx.dropLast ++ (match x.rx.getLast? with | some f => [{ f with closed := true }] | none => []) }

/-- A write of the open frame waits for injection at the link's port (R372). -/
def State.slotSend (s : State) (w n : Nat) (dst : BitVec 16) (addr : Word) (ws : List Nat) : State :=
  let x := s.link w n
  let r := 20 + n / 8
  let j := n % 8
  let data : Bytes := ws.flatMap (leBytes 4)
  let p : Packet :=
    { typ := 0, cls := false, vc := false, epoch := false, len := BitVec.ofNat 4 (flitsFor data.length - 1), la := 0, ack := true,
      dst := dst, src := mkDst w r j, mid := BitVec.ofNat 6 (midLinks w), bytes := BitVec.ofNat 10 (data.length - 1),
      tag := x.rxTag, conn := 0, status := 0, aux := 0, addr := BitVec.ofNat 64 addr.toNat, payload := data }
  let f := x.rx.getLast?.getD {}
  let x1 := { x with rxTag := x.rxTag + 1, rx := x.rx.dropLast ++ [{ f with tags := f.tags ++ [x.rxTag] }] }
  (s.setLink w n x1).fly (.queue w r j) p ((s.wall w).cycle + 1)

/-- Receive entry e writes words of a frame, where it is enabled and the frame's slots are written. -/
def State.rxWrite (s : State) (w n e : Nat) (ws : List Nat) : State :=
  let d := s.rd (R.LK_RXS_DST w n e)
  if fld d F.LK_RXS_DST_en = 0 || (s.link w n).rxDrop then s
  else s.slotSend w n (BitVec.ofNat 16 (fld d F.LK_RXS_DST_dst)) (s.rd (R.LK_RXS_ADDR w n e))
    (ws.take (min ws.length (max 1 (fld d F.LK_RXS_DST_words))))

/-- A slot or frame with a bad CRC (R373). -/
def State.crcFail (s : State) (w n : Nat) : State :=
  let s1 := s.bump (R.LK_CRC_COUNT w n)
  s1.stickyWall (R.LK_EVENT w n) F.LK_EVENT_crc w 14 0 [16 * w + n, (s1.rd (R.LK_CRC_COUNT w n)).toNat]

/-- STREAM_START_BLOCK: a control block arrives at an up link. -/
def execStreamStartBlock (w : Wall) (n : Fin 16) (b : BitVec 64) (s : State) : Out :=
  onWall w.val s (fun s =>
    let w := w.val
    let n := n.val
    if s.lkMode w n ≠ 1 || s.lkState w n ≠ 3 || bvf b 0 8 ≠ 0xC3 then s
    else if bvf b 16 6 + 1 = s.sfSlots w n && bvf b 22 3 + 1 = s.sfBlocks w n then s.openFrame w n
    else
      let s1 := (s.setLink w n (s.link w n).dropOpen).bump (R.LK_FMT_COUNT w n)
      s1.stickyWall (R.LK_EVENT w n) F.LK_EVENT_fmt w 14 1 [16 * w + n, (s1.rd (R.LK_FMT_COUNT w n)).toNat])

/-- STREAM_SLOT_RECEIVE: the slot at a position of the open frame arrives. -/
def execStreamSlotReceive (w : Wall) (n : Fin 16) (pos : Fin 64) (bits : BitVec 512) (s : State) : Out :=
  onWall w.val s (fun s =>
    let w := w.val
    let n := n.val
    let x := s.link w n
    if s.lkMode w n ≠ 1 || s.lkState w n ≠ 3 || !x.rxOpen || x.rxNext ≠ pos.val then s
    else
      let k := 64 * s.sfBlocks w n
      let good := bvf bits 0 6 = pos.val && bvf bits (k - 16) 16 = crc16 bits.toNat (k - 16)
      let s1 := if good then
          let s1 := (s.setFl (R.LK_SLOT_STAT w n pos.val) F.LK_SLOT_STAT_rxseq (bvf bits 6 8)).setFl
            (R.LK_SLOT_STAT w n pos.val) F.LK_SLOT_STAT_rxfresh (bvf bits 14 1)
          s1.rxWrite w n pos.val ((List.range (slotWords (s.sfBlocks w n))).map (fun i => bvf bits (16 + 24 * i) 24))
        else s.crcFail w n
      let y := s1.link w n
      s1.setLink w n (if pos.val + 1 = s.sfSlots w n then y.closeFrame else { y with rxNext := pos.val + 1 }))

/-- FRAME_ARRIVAL: the oldest frame whose writes have all been answered (R374, R204). -/
def execFrameArrival (w : Wall) (n : Fin 16) (s : State) : Out :=
  onWall w.val s (fun s =>
    let w := w.val
    let n := n.val
    let x := s.link w n
    match x.rx.find? (fun f => f.closed && !f.dead && f.tags.isEmpty) with
    | none => s
    | some f => ((s.setLink w n { x with rx := x.rx.erase f }).bump (R.LK_RXFRAME_COUNT w n)).wakeFlows w 1 n)

/-- LEGACY_FRAME_RECEIVE: a frame of 1 to 60 data bytes (R385). -/
def execLegacyFrameReceive (w : Wall) (n : Fin 16) (data : Bytes) (crcOk : Bool) (s : State) : Out :=
  onWall w.val s (fun s =>
    let w := w.val
    let n := n.val
    if s.lkMode w n ≠ 4 || s.lkState w n ≠ 3 || data.length = 0 || 60 < data.length then s
    else if s.fl (R.LK_LG_CFG w n) F.LK_LG_CFG_crc = 1 && !crcOk then s.crcFail w n
    else
      let s1 := s.openFrame w n
      let e := if s.fl (R.LK_LG_CFG w n) F.LK_LG_CFG_sel = 1 then ((data.getD 0 0).toNat % 64) else 0
      let byte (i : Nat) : Nat := (data.getD i 0).toNat
      let ws := (List.range ((data.length + 2) / 3)).map (fun j => byte (3 * j) * 65536 + byte (3 * j + 1) * 256 + byte (3 * j + 2))
      let s2 := s1.rxWrite w n e ws
      s2.setLink w n (s2.link w n).closeFrame)

/-! ### Transmitting (R376 to R379) -/
/-- LINK_UNIT_WRITE: a bond write into a transmit slot's pending copy. -/
def execLinkUnitWrite (w : Wall) (n : Fin 16) (p : Packet) (s : State) : Out :=
  endpointRow w.val (20 + n.val / 8) (n.val % 8) p s (fun s =>
    let w := w.val
    let n := n.val
    let slot := bvf p.addr 2 6
    let word := bvf p.addr 8 5
    if p.typ ≠ 0 then (s, .nack stBadArg)
    else if s.crossDenied w (R.LK_CTRL w n) p then (s, .nack stAccessDenied)
    else if bvf p.addr 0 2 ≠ 0 || p.count % 4 ≠ 0 || 20 < word + p.count / 4 then (s, .nack stBadArg)
    else
      let x := s.link w n
      let pend := (wordsOfBytes p.payload).zipIdx.foldl (fun (a : Sp Word) e =>
        Sp.set a (20 * slot + word + e.2) (BitVec.ofNat 32 (e.1.toNat % 16777216)) 0) x.txPend
      ((s.setLink w n { x with txPend := pend }).setFl (R.LK_SLOT_STAT w n slot) F.LK_SLOT_STAT_pending 1, .comp 0))

/-- A slot is latched: a pending enabled slot takes its pending contents and the next `seq`; true: it is fresh. -/
def State.latchSlot (s : State) (w n e : Nat) : State × Bool :=
  let a := R.LK_SLOT_STAT w n e
  if s.fl a F.LK_SLOT_STAT_pending = 1 && s.fl (R.LK_TXS_CFG w n e) F.LK_TXS_CFG_en = 1 then
    let x := s.link w n
    let buf := (List.range 20).foldl (fun (b : Sp Word) i => Sp.set b (20 * e + i) (Sp.getD x.txPend (20 * e + i) 0) 0) x.txBuf
    (((s.setLink w n { x with txBuf := buf }).setFl a F.LK_SLOT_STAT_pending 0).wrapFl a F.LK_SLOT_STAT_txseq, true)
  else (s, false)

/-- Every slot is latched (R377); the fresh ones. -/
def State.latchAll (s : State) (w n : Nat) : State × List Nat :=
  (List.range 64).foldl (fun (a : State × List Nat) e =>
    let r := a.1.latchSlot w n e
    (r.1, if r.2 then a.2 ++ [e] else a.2)) (s, [])

/-- The word i that slot e sends. -/
def State.txWord (s : State) (w n e i : Nat) : Nat :=
  if s.fl (R.LK_TXS_CFG w n e) F.LK_TXS_CFG_en = 0 then 0 else (Sp.getD (s.link w n).txBuf (20 * e + i) 0).toNat

/-- The bits of slot e with nb blocks (R371). -/
def State.slotBits (s : State) (w n nb e : Nat) (fresh : Bool) : Nat :=
  let head := e + s.fl (R.LK_SLOT_STAT w n e) F.LK_SLOT_STAT_txseq * 64 + b2n fresh * 16384
  let x := ((List.range (slotWords nb)).map (fun i => s.txWord w n e i * 2 ^ (16 + 24 * i))).foldl (· + ·) head
  x + crc16 x (64 * nb - 16) * 2 ^ (64 * nb - 16)

/-- The start block (R370): the sender's frame count is LK_TXFRAME_COUNT before the frame. -/
def State.startBlock (s : State) (w n : Nat) : Nat :=
  let st := s.wallStamp w
  0xC3 + (s.rd (R.LK_TXFRAME_COUNT w n)).toNat % 256 * 256 + (s.sfSlots w n - 1) * 65536 + (s.sfBlocks w n - 1) * 4194304 +
    (if st.av then st.angle.toNat % 4294967296 else 0) * 4294967296

/-- The legacy frame of slot e: `bytes` bytes of its words, then its CRC-16 where LK_LG_CFG.`crc` asks for one (R385). -/
def State.legacyFrame (s : State) (w n e : Nat) : Bytes :=
  let k := min 60 (max 1 (s.fl (R.LK_TXS_CFG w n e) F.LK_TXS_CFG_bytes))
  let b : Bytes := (List.range k).map (fun i => BitVec.ofNat 8 (s.txWord w n e (i / 3) / 256 ^ (2 - i % 3)))
  if s.fl (R.LK_LG_CFG w n) F.LK_LG_CFG_crc = 1 then b ++ leBytes 2 (crc16 (ofLeBytes b) (8 * k)) else b

/-- A transmit trigger: dropped while a frame is being sent, else every slot is latched and the frame goes out. -/
def State.transmit (s : State) (w n : Nat) : State :=
  if !s.lkSends w n || !(s.lkMode w n = 1 || s.lkMode w n = 4) then s
  else if s.tick < (s.link w n).sendingUntil then s.bump (R.LK_TXOVR_COUNT w n)
  else
    let r := s.latchAll w n
    let s1 := r.1
    if s.lkMode w n = 1 then
      let nb := s.sfBlocks w n
      let wire := leBytes 8 (s1.startBlock w n) ::
        (List.range (s.sfSlots w n)).map (fun e => leBytes (8 * nb) (s1.slotBits w n nb e (r.2.contains e)))
      (s1.setLink w n { (s1.link w n) with txWire := wire, sendingUntil := s.tick + 8 + s.lkTicks w n (66 * (1 + s.sfSlots w n * nb)) }).bump
        (R.LK_TXFRAME_COUNT w n)
    else
      let es := (List.range 64).filter (fun e => s.fl (R.LK_TXS_CFG w n e) F.LK_TXS_CFG_en = 1)
      let wire := es.map (s1.legacyFrame w n)
      let chars := (wire.map (fun f => f.length + 2)).foldl (· + ·) 0
      (s1.setLink w n { (s1.link w n) with txWire := wire, sendingUntil := s.tick + 8 + s.lkTicks w n (10 * chars) }).bumpBy
        (R.LK_TXFRAME_COUNT w n) wire.length

/-- The effect of a write of LK_SF_GO. -/
def State.lkGoWrite (s : State) (m w n : Nat) (v : Word) : State × Nat :=
  if !s.holds (claimLink w n) m then refuse s stBusy
  else if fld v F.LK_SF_GO_go = 1 && s.fl (R.LK_SF_CFG w n) F.LK_SF_CFG_txmode = 0 then (s.transmit w n, 0) else (s, 0)

/-- LK_SF_GO: a write of 1. -/
def execLkSfGo (m : Mid) (w : Wall) (n : Fin 16) (s : State) : Out :=
  regRow s m (R.LK_SF_GO w.val n.val) (fun s => s.lkGoWrite m.toNat w.val n.val 1)

/-- FREE_RUN_TRIGGER: one frame every LK_SF_PERIOD blocks, or back to back when the period is shorter than the frame. -/
def execFreeRunTrigger (w : Wall) (n : Fin 16) (s : State) : Out :=
  onWall w.val s (fun s =>
    let w := w.val
    let n := n.val
    let x := s.link w n
    if s.fl (R.LK_SF_CFG w n) F.LK_SF_CFG_txmode ≠ 1 || !s.lkSends w n || s.tick < x.nextFree || s.tick < x.sendingUntil then s
    else
      let s1 := s.transmit w n
      let blocks := max (s.fl (R.LK_SF_PERIOD w n) F.LK_SF_PERIOD_blocks) (1 + s.sfSlots w n * s.sfBlocks w n)
      s1.setLink w n { (s1.link w n) with nextFree := s.tick + s.lkTicks w n (66 * blocks) })

/-- ANGLE_TRANSMIT_MATCH: the link's comparator has reached its target. -/
def execAngleTransmitMatch (w : Wall) (n : Fin 16) (s : State) : Out :=
  onWall w.val s (fun s =>
    let w := w.val
    let n := n.val
    match (s.link w n).armed with
    | none => s
    | some t =>
      if !reached (s.lkPos w n) t then s
      else
        let p := nextIndex (s.rd (R.LK_SF_REV w n)).toNat (s.fl (R.LK_SF_CFG w n) F.LK_SF_CFG_div) (s.fl (R.LK_SF_IDX w n) F.LK_SF_IDX_k)
        ((s.setLkIndex w n p.1 p.2).armLink w n).transmit w n)

/-! ### The PTP clock (R383, R387) -/
def ptpScale : Nat := 16777216

/-- The clock as a count of 2^-24 ns. -/
def WallX.ptpTotal (x : WallX) : Int := (((x.ptpSec * 1000000000 + x.ptpNs) * ptpScale + x.ptpFrac : Nat) : Int)

/-- The clock at a count, modulo 2^48 seconds. -/
def WallX.ptpSet (x : WallX) (t : Int) : WallX :=
  let k := (t % ((281474976710656 * 1000000000 * ptpScale : Nat) : Int)).toNat
  { x with ptpSec := k / (1000000000 * ptpScale), ptpNs := k / ptpScale % 1000000000, ptpFrac := k % ptpScale }

/-- The clock moves on by a number of ticks. -/
def State.ptpAdvance (s : State) (w : Nat) (d : Int) : WallX :=
  (s.wall w).ptpSet ((s.wall w).ptpTotal + d * ((s.rd (R.PTP_INC w)).toNat : Int))

/-- The effect of a write of PTP_ADJ. -/
def State.ptpAdj (s : State) (w : Nat) (v : Word) : State × Nat :=
  (s.setWall w ((s.wall w).ptpSet ((s.wall w).ptpTotal + v.toInt * (ptpScale : Int))), 0)

/-- PTP_ADJ_WRITE. -/
def execPtpAdjWrite (m : Mid) (w : Wall) (v : Word) (s : State) : Out :=
  regRow s m (R.PTP_ADJ w.val) (fun s => s.ptpAdj w.val v)

/-- A read of PTP_NS latches the seconds. -/
def State.ptpRead (s : State) (w : Nat) : State × Word :=
  (s.setWall w { (s.wall w) with ptpLatch := (s.wall w).ptpSec }, BitVec.ofNat 32 (s.wall w).ptpNs)

/-- PTP_NS_READ. A wall that is off reads 0 (R516). -/
def execPtpNsRead (m : Mid) (w : Wall) (s : State) : Out :=
  let st := s.regCheck m.toNat (R.PTP_NS w.val) false
  if !s.powered then .next s
  else if st ≠ 0 then .next (s.answer m (R.PTP_NS w.val) false st 0)
  else if s.wallOff w.val then .next (s.answer m (R.PTP_NS w.val) false 0 0)
  else .next ((s.ptpRead w.val).1.answer m (R.PTP_NS w.val) false 0 (s.ptpRead w.val).2)

/-! ### Ethernet (R380 to R384) -/
/-- A frame's check sequence (CRC-32 of IEEE 802.3), in transmit order. -/
def ethFcs (f : Bytes) : Bytes :=
  let c := Nat.xor (crcBits 32 0x04C11DB7 (f.flatMap byteBitsLsb) 0xFFFFFFFF) 0xFFFFFFFF
  (List.range 4).map (fun k => BitVec.ofNat 8 (((List.range 8).map (fun i => b2n (nbit c (31 - 8 * k - i)) * 2 ^ i)).foldl (· + ·) 0))

/-- A big-endian number at an offset of a frame. -/
def beAt (f : Bytes) (o n : Nat) : Nat := ((List.range n).map (fun i => (f.getD (o + i) 0).toNat * 256 ^ (n - 1 - i))).foldl (· + ·) 0

/-- Bytes replaced at an offset. -/
def putAt (f : Bytes) (o : Nat) (b : Bytes) : Bytes := f.take o ++ b ++ f.drop (o + b.length)

/-- Where the EtherType stands, past VLAN tags. -/
def typeAt (f : Bytes) : Nat := if beAt f 12 2 = 0x8100 || beAt f 12 2 = 0x88A8 then (if beAt f 16 2 = 0x8100 then 20 else 16) else 12

/-- A PAUSE frame (MAC control). -/
def isPause (f : Bytes) : Bool := beAt f 12 2 = 0x8808

/-- The receive address filter. -/
def State.ethAccepts (s : State) (w n : Nat) (f : Bytes) : Bool :=
  let d := beAt f 0 6
  let own := (s.rd (R.LK_ETH_MAC_LO w n)).toNat + s.fl (R.LK_ETH_MAC_HI w n) F.LK_ETH_MAC_HI_addr * 4294967296
  d = 281474976710655 || (if nbit d 40 then s.fl (R.LK_ETH_CFG w n) F.LK_ETH_CFG_mcast = 1 else d = own)

/-- Bytes written in a ring of bank 3 at an offset, wrapping at its size, 64 bytes at a time. -/
def State.ringPut (s : State) (w base size off : Nat) (b : Bytes) : State :=
  foldN ((b.length + 63) / 64) s (fun a i =>
    (a.sramWrite w 3 ((base + (off + 64 * i) % size) % 0x400000) ((b.drop (64 * i)).take 64)).1)

/-- Bytes read from a ring of bank 3; an uncorrectable word is reported as any read of it is. -/
def State.ringGet (s : State) (w base size off n : Nat) : State × Bytes :=
  (List.range ((n + 63) / 64)).foldl (fun (a : State × Bytes) i =>
    let o := (base + (off + 64 * i) % size) % 0x400000
    ((a.1.sramRead w 3 o 64).1, a.2 ++ a.1.sramBytes w 3 o 64)) (s, [])

/-- The PTP time and the stamp block of a timestamp point `d` ticks from now, as they stand in a header: 24 bytes at
0x08, then seconds and nanoseconds at 0x20 (R381, R382). -/
def State.ethStamp (s : State) (w : Nat) (d : Int) : Bytes × Nat × Nat :=
  let st := s.wallStamp w
  let x := s.ptpAdvance w d
  ({ st with tick := ((st.tick : Int) + d).toNat }.bytes ++ leBytes 8 x.ptpSec ++ leBytes 4 x.ptpNs, x.ptpSec, x.ptpNs)

/-- Whether a link runs Ethernet. -/
def State.ethMode (s : State) (w n : Nat) : Bool := s.lkMode w n = 2 || s.lkMode w n = 3

def roundUp64 (n : Nat) : Nat := (n + 63) / 64 * 64

/-- ETH_FRAME_RECEIVE: a frame without its FCS. The address filter passes over frames for others without a count. -/
def execEthFrameReceive (w : Wall) (n : Fin 16) (data : Bytes) (fcsOk : Bool) (s : State) : Out :=
  onWall w.val s (fun s =>
    let w := w.val
    let n := n.val
    let base := s.fl (R.LK_ETH_RXBASE w n) F.LK_ETH_RXBASE_bytes
    let size := s.fl (R.LK_ETH_RXSIZE w n) F.LK_ETH_RXSIZE_bytes
    let wp := s.fl (R.LK_ETH_RXWR w n) F.LK_ETH_RXWR_offset
    let rp := s.fl (R.LK_ETH_RXRD w n) F.LK_ETH_RXRD_offset
    let rec_ := 64 + roundUp64 data.length
    let used := (wp + size - rp % max 1 size) % max 1 size
    let maxlen := min 9216 (s.fl (R.LK_ETH_CFG w n) F.LK_ETH_CFG_maxlen)
    if !s.ethMode w n || s.lkState w n ≠ 3 then s
    else if !fcsOk || isPause data || data.length < 60 || maxlen < data.length + 4 then s.bump (R.LK_ETH_DROP_COUNT w n)
    else if !s.ethAccepts w n data then s
    else if size ≤ used + rec_ || !s.bankOn w 3 then s.bump (R.LK_ETH_DROP_COUNT w n)
    else
      let st := s.ethStamp w (-(s.fl (R.LK_PTP_LAT w n) F.LK_PTP_LAT_rx : Int))
      let head : Bytes := leBytes 8 data.length ++ st.1 ++ List.replicate 20 0
      let body := data ++ List.replicate (roundUp64 data.length - data.length) 0
      let s1 := (s.ringPut w base size wp (head ++ body)).takeSeq w
      (s1.setFl (R.LK_ETH_RXWR w n) F.LK_ETH_RXWR_offset ((wp + rec_) % size)).wakeFlows w 1 n)

/-- Where a PTP Sync message begins in a frame, with where its UDP checksum stands (R380, R384). -/
def syncAt (f : Bytes) : Option (Nat × Option Nat) :=
  let t := typeAt f
  if beAt f t 2 = 0x88F7 then (if beAt f (t + 2) 1 % 16 = 0 then some (t + 2, none) else none)
  else if beAt f t 2 = 0x0800 && beAt f (t + 11) 1 = 17 then
    let u := t + 2 + beAt f (t + 2) 1 % 16 * 4
    if (beAt f (u + 2) 2 = 319) && beAt f (u + 8) 1 % 16 = 0 then some (u + 8, some (u + 6)) else none
  else none

/-- A one-step Sync has its originTimestamp written, and its UDP checksum set to 0. -/
def oneStep (f : Bytes) (sec ns : Nat) : Bytes :=
  match syncAt f with
  | none => f
  | some (o, u) =>
    let f1 := putAt f (o + 34) ((leBytes 6 sec).reverse ++ (leBytes 4 ns).reverse)
    match u with
    | some c => putAt f1 c [0, 0]
    | none => f1

/-- ETH_TRANSMIT: the frame at LK_ETH_TXRD goes out and its stamp and PTP time are written back. -/
def execEthTransmit (w : Wall) (n : Fin 16) (s : State) : Out :=
  onWall w.val s (fun s =>
    let w := w.val
    let n := n.val
    let base := s.fl (R.LK_ETH_TXBASE w n) F.LK_ETH_TXBASE_bytes
    let size := s.fl (R.LK_ETH_TXSIZE w n) F.LK_ETH_TXSIZE_bytes
    let wp := s.fl (R.LK_ETH_TXWR w n) F.LK_ETH_TXWR_offset
    let rp := s.fl (R.LK_ETH_TXRD w n) F.LK_ETH_TXRD_offset
    if !s.ethMode w n || !s.lkSends w n || size = 0 || wp = rp || !s.bankOn w 3 || s.tick < (s.link w n).sendingUntil then s
    else
      let h := s.ringGet w base size rp 64
      let len := ofLeBytes (h.2.take 2)
      let body := h.1.ringGet w base size (rp + 64) len
      let st := s.ethStamp w (s.fl (R.LK_PTP_LAT w n) F.LK_PTP_LAT_tx : Int)
      let f := if nbit (ofLeBytes (h.2.take 4)) 16 then oneStep (body.2.take len) st.2.1 st.2.2 else body.2.take len
      let s1 := (body.1.ringPut w base size rp (putAt h.2 8 st.1)).takeSeq w
      let s2 := s1.setLink w n { (s1.link w n) with
        txWire := [f ++ ethFcs f], sendingUntil := s.tick + s.lkTicks w n ((len + 24) * 8 * 66 / 64) }
      (s2.setFl (R.LK_ETH_TXRD w n) F.LK_ETH_TXRD_offset ((rp + 64 + roundUp64 len) % size)).bump (R.LK_TXFRAME_COUNT w n))

end Sys2Proof.Machine
end

