-- ==== Sys2Proof/Machine/Events.lean ====
section
/-!
DEFINITION. Machine/Events.lean: event records on their way (R263, R429 to R434): the walls' event units, the hub log, the
event matrix with its MSI-X messages, and the host event ring.
-/
namespace Sys2Proof.Machine
open Sys2Proof

/-! ### Records -/
/-- The 64 bytes of an event record (R429). -/
def EvRec.bytes (r : EvRec) : Bytes :=
  leBytes 4 r.code ++ leBytes 4 (b2n r.lost + 2 * b2n r.late) ++
  (List.range 4).flatMap (fun i => leBytes 4 (r.args.getD i 0).toNat) ++ r.stamp.bytes ++ List.replicate 16 0

/-- The order of the hub log between sources: tick, then source (R263). The records of one source stand in the order in
which it produced them (R264), which is that of their numbers, a return to 0 apart (log 132). -/
def EvRec.before (a b : EvRec) : Bool :=
  decide (a.stamp.tick < b.stamp.tick) || (a.stamp.tick = b.stamp.tick && decide (a.stamp.source < b.stamp.source))

/-- The first record of a list in the order of the log; of records that the order does not tell apart, the one that came
first. -/
def firstRec : List EvRec → Option EvRec
  | [] => none
  | r :: l => match firstRec l with
    | some q => if q.before r then some q else some r
    | none => some r

/-! ### MSI-X (R433) -/
/-- A message on a vector: sent, or kept in the pending bit while the vector is masked. -/
def State.msi (s : State) (v : Nat) : State :=
  if s.fl (R.MSIX_CTRL v) F.MSIX_CTRL_mask = 1 then s.setFl (R.MSIX_PBA (v / 32)) ⟨v % 32, 1⟩ 1
  else { s with hostOut := s.hostOut ++ [.msi v ((s.rd (R.MSIX_ADDR_LO v)).toNat + (s.rd (R.MSIX_ADDR_HI v)).toNat * 4294967296) (s.rd (R.MSIX_DATA v))] }

/-- The effect of a write of a vector's control word: unmasking sends the message that is pending. -/
def State.msixCtrlWrite (s : State) (v : Nat) (d : Word) : State × Nat :=
  let s1 := s.plain (R.MSIX_CTRL v) d
  let pend := s.fl (R.MSIX_PBA (v / 32)) ⟨v % 32, 1⟩ = 1
  if pend && s1.fl (R.MSIX_CTRL v) F.MSIX_CTRL_mask = 0 then ((s1.setFl (R.MSIX_PBA (v / 32)) ⟨v % 32, 1⟩ 0).msi v, 0) else (s1, 0)

/-- MSIX_UNMASK: the mask bit of a vector is cleared. -/
def execMsixUnmask (m : Mid) (n : Fin 128) (s : State) : Out :=
  regRow s m (R.MSIX_CTRL n.val) (fun s => s.msixCtrlWrite n.val 0)

/-! ### The host event ring (R434) -/
/-- A PASID register's value, where its enable holds. -/
def pasidOf (on : Bool) (r : Word) : Option Nat := if on then some (r.toNat % 1048576) else none

def State.ringSize (s : State) : Nat := 2 ^ s.fl R.EVR_CFG F.EVR_CFG_lsize

/-- A record is copied to the ring, or counted as lost; EVENT_RING is raised once until EVR_RD is written. -/
def State.ringCopy (s : State) (r : EvRec) : State :=
  let wr := s.fl R.EVR_WR F.EVR_WR_index
  let next := (wr + 1) % s.ringSize
  if next = s.fl R.EVR_RD F.EVR_RD_index then
    let s1 := s.bump R.EVR_LOST_COUNT
    if s1.ringLostSeen then s1 else ({ s1 with ringLostSeen := true }).raiseHub 21 0 [(s1.rd R.EVR_LOST_COUNT).toNat]
  else
    let base := (s.rd R.EVR_BASE_LO).toNat / 4096 * 4096 + (s.rd R.EVR_BASE_HI).toNat * 4294967296
    let out := HostOut.mem (base + 64 * wr) (pasidOf (s.fl R.EVR_CFG F.EVR_CFG_pasid_en = 1) (s.rd R.EVR_PASID)) r.bytes
    { (s.setFl R.EVR_WR F.EVR_WR_index next) with hostOut := s.hostOut ++ [out] }

/-- The effect of a write of EVR_RD. -/
def State.evrRdWrite (s : State) (v : Word) : State × Nat :=
  ({ (s.plain R.EVR_RD v) with ringLostSeen := false }, 0)

/-- EVR_RD_WRITE. -/
def execEvrRdWrite (m : Mid) (v : Word) (s : State) : Out := regRow s m R.EVR_RD (fun s => s.evrRdWrite v)

/-- The effect of a write of EVR_CFG (R437). -/
def State.evrCfgWrite (s : State) (v : Word) : State × Nat :=
  let old := s.rd R.EVR_CFG
  let mask : Word := 0x3F
  if fld old F.EVR_CFG_en = 1 && v &&& mask ≠ old &&& mask then refuse s stBusy
  else if fld v F.EVR_CFG_en = 1 && !inRange 6 (fld v F.EVR_CFG_lsize) 16 then refuse s stBadArg
  else (s.plain R.EVR_CFG v, 0)

/-! ### The hub log (R263, R430) -/
/-- Records that the 12 MB of the hub log hold. -/
def logCapacity : Nat := 196608

/-- The event-matrix entry of a record's source. -/
def emOf (r : EvRec) : Nat := if r.stamp.source = 8 then R.EM_HUB (r.code / 8) else R.EM_WALL r.stamp.source (r.code / 8)

/-- Writes of an MRAM line at which WEAR_LIMIT is raised for it, once (R482). -/
def wearLimit : Nat := 9000000000

/-- A record is appended: to the log, as a message, to the ring. -/
def State.append (s : State) (r : EvRec) : State :=
  let wraps := decide (logCapacity ≤ s.logCount) && s.logCount % logCapacity = 0
  let s1 := { s with log := (if s.log.length < logCapacity then s.log else s.log.drop 1) ++ [r], logCount := s.logCount + 1 }
  let s2w := if wraps then s1.raiseHub 22 0 [s.logCount / logCapacity] else s1
  let s2 := if s.logCount / logCapacity + 1 = wearLimit then s2w.raiseHub 17 1 [0x1400000 / 64 + s.logCount % logCapacity] else s2w
  let e := s2.rd (emOf r)
  let s3 := if fld e F.EM_HUB_en = 1 then s2.msi (fld e F.EM_HUB_vec) else s2
  if fld e F.EM_HUB_ring = 1 && s3.fl R.EVR_CFG F.EVR_CFG_en = 1 then s3.ringCopy r else s3

/-- A wall that reports to the hub: READY and open, and not silent. -/
def State.live (s : State) (w : Nat) : Bool :=
  s.populated w && s.isReady w && wallState s w = 0 && !(s.wall w).silent

/-- Whether every live source has reported a tick later than t (R263). -/
def State.allPast (s : State) (t : Nat) : Bool :=
  decide (t < s.tick) && (List.range 8).all (fun w => !s.live w || decide (t < (s.wall w).lastReport))

/-- HUB_LOG_APPEND: the first record that waits, once every live source has reported a later tick. -/
def execHubLogAppend (s : State) : Out :=
  .next (match firstRec s.hubWait with
    | none => s
    | some r => if s.powered && s.allPast r.stamp.tick then ({ s with hubWait := s.hubWait.erase r }).append r else s)

/-! ### A wall's event unit (R430) -/
/-- A record is written to the log ring in bank 6. -/
def State.wevLog (s : State) (w : Nat) (r : EvRec) : State :=
  let size := s.fl (R.WEV_LOG_SIZE w) F.WEV_LOG_SIZE_bytes
  if size = 0 || !s.bankOn w 6 then s
  else
    let o := s.fl (R.WEV_LOG_WR w) F.WEV_LOG_WR_offset
    let s1 := (s.sramWrite w 6 ((s.fl (R.WEV_LOG_BASE w) F.WEV_LOG_BASE_offset + o) % 0x400000) r.bytes).1
    s1.setFl (R.WEV_LOG_WR w) F.WEV_LOG_WR_offset ((o + 64) % size)

/-- A record of a silent wall is appended at once (R430), after the records of the same wall that still wait (R264). -/
def State.appendLate (s : State) (w : Nat) (r : EvRec) : State :=
  let own (q : EvRec) : Bool := q.stamp.source = w
  ((s.hubWait.filter own).foldl State.append { s with hubWait := s.hubWait.filter (fun q => !own q) }).append r

/-- WALL_EVENT_RECORD: the oldest buffered record is logged and sent to the hub. While bank 6 is under test the event
unit's access waits, and the record with it (R340). -/
def execWallEventRecord (w : Wall) (s : State) : Out :=
  onWall w.val s (fun s =>
    let w := w.val
    let x := s.wall w
    match x.raised with
    | [] => s
    | r :: rest =>
      if s.inTest w 6 then s
      else
      let r1 := { r with lost := x.lostFlag, late := x.silent }
      let s1 := (s.setWall w { x with raised := rest, lostFlag := false, lastReport := max x.lastReport r.stamp.tick }).wevLog w r1
      if x.silent then s1.appendLate w r1 else { s1 with hubWait := s1.hubWait ++ [r1] })

/-- EVENT_LOST: a record with the count lost, once the buffer has room. -/
def execEventLost (w : Wall) (s : State) : Out :=
  onWall w.val s (fun s =>
    let x := s.wall w.val
    if x.lostPend = 0 || 256 ≤ x.raised.length then s
    else (s.setWall w.val { x with lostPend := 0 }).raiseWall w.val 30 0 [x.lostPend])

/-- WALL_HEARTBEAT: the wall reports its tick. A heartbeat follows the records that its event unit still buffers: while
there are any, they report (R263, R264). -/
def execWallHeartbeat (w : Wall) (s : State) : Out :=
  onWall w.val s (fun s =>
    if s.isReady w.val && (s.wall w.val).raised.isEmpty then s.setWall w.val { (s.wall w.val) with lastReport := s.wtick w.val, silent := false } else s)

/-- WALL_SILENT: a live wall that has not reported for 4,096 ticks. -/
def execWallSilent (w : Wall) (s : State) : Out :=
  onWall w.val s (fun s =>
    if s.live w.val && decide ((s.wall w.val).lastReport + 4096 ≤ s.tick) then
      (s.setWall w.val { (s.wall w.val) with silent := true }).raiseHub 30 0 [w.val]
    else s)

/-- The effect of a write of EV_RAISE. -/
def State.evRaise (s : State) (v : Word) : State × Nat := (s.raiseHub 31 0 [v.toNat], 0)

/-- EV_RAISE. -/
def execEvRaise (m : Mid) (v : Word) (s : State) : Out := regRow s m R.EV_RAISE (fun s => s.evRaise v)

end Sys2Proof.Machine
end

