-- ==== Sys2Proof/Machine/Queues.lean ====
section
/-!
DEFINITION. Machine/Queues.lean: the command queues (R418 to R425): settings, doorbells, completions, the checks and the
acknowledgement of every command (R426), and what a Function Level Reset and the CXL link do (R404, R406, R407).
-/
namespace Sys2Proof.Machine
open Sys2Proof

/-! ### Queue settings (R420) -/
def State.sqOn (s : State) (q : Nat) : Bool := s.fl (R.SQ_CFG q) F.SQ_CFG_en = 1
def State.cqOn (s : State) (c : Nat) : Bool := s.fl (R.CQ_CFG c) F.CQ_CFG_en = 1
def State.sqSize (s : State) (q : Nat) : Nat := 2 ^ s.fl (R.SQ_CFG q) F.SQ_CFG_lsize
def State.cqSize (s : State) (c : Nat) : Nat := 2 ^ s.fl (R.CQ_CFG c) F.CQ_CFG_lsize
def State.sqCq (s : State) (q : Nat) : Nat := s.fl (R.SQ_CFG q) F.SQ_CFG_cq
def State.sqMid (s : State) (q : Nat) : Nat := s.fl (R.SQ_CFG q) F.SQ_CFG_mid
def State.sqPasid (s : State) (q : Nat) : Option Nat := pasidOf (s.fl (R.SQ_CFG q) F.SQ_CFG_pasid_en = 1) (s.rd (R.SQ_PASID q))

/-- The effect of a write of SQ_CFG. -/
def State.sqCfgWrite (s : State) (q : Nat) (v : Word) : State × Nat :=
  let old := s.rd (R.SQ_CFG q)
  let mask : Word := 0xFFFF
  if fld old F.SQ_CFG_en = 1 then
    (if v &&& mask ≠ old &&& mask then refuse s stBusy
     else if fld v F.SQ_CFG_en = 1 then (s.plain (R.SQ_CFG q) v, 0)
     else ((s.plain (R.SQ_CFG q) v).setQueue q { (s.queue q) with fenced := none }, 0))
  else if fld v F.SQ_CFG_en = 0 then (s.plain (R.SQ_CFG q) v, 0)
  else if !inRange 4 (fld v F.SQ_CFG_lsize) 12 || !s.cqOn (fld v F.SQ_CFG_cq) then refuse s stBadArg
  else
    let s1 := (s.plain (R.SQ_CFG q) v).setFl (R.SQ_HEAD q) F.SQ_HEAD_head 0
    (s1.setQueue q { (s1.queue q) with tail := 0, fetched := 0, stopped := false, fenced := none }, 0)

/-- SQ_CFG_WRITE. -/
def execSqCfgWrite (m : Mid) (q : Fin 64) (v : Word) (s : State) : Out :=
  regRow s m (R.SQ_CFG q.val) (fun s => s.sqCfgWrite q.val v)

/-- The effect of a write of CQ_CFG: `vec` and `ien` stay writable. -/
def State.cqCfgWrite (s : State) (c : Nat) (v : Word) : State × Nat :=
  let old := s.rd (R.CQ_CFG c)
  let mask : Word := 0x100F
  if fld old F.CQ_CFG_en = 1 then
    (if v &&& mask ≠ old &&& mask then refuse s stBusy
     else if fld v F.CQ_CFG_en = 1 then (s.plain (R.CQ_CFG c) v, 0)
     else if (List.range 64).any (fun q => s.sqOn q && s.sqCq q = c) then refuse s stBusy
     else (((s.plain (R.CQ_CFG c) v).setFl (R.CQ_CFG c) F.CQ_CFG_full 0).setQueue c { (s.queue c) with held := [] }, 0))
  else if fld v F.CQ_CFG_en = 0 then (s.plain (R.CQ_CFG c) v, 0)
  else if !inRange 4 (fld v F.CQ_CFG_lsize) 12 then refuse s stBadArg
  else
    let s1 := (s.plain (R.CQ_CFG c) v).setFl (R.CQ_TAIL c) F.CQ_TAIL_tail 0
    (s1.setQueue c { (s1.queue c) with chead := 0, phase := true, held := [] }, 0)

/-- CQ_CFG_WRITE. -/
def execCqCfgWrite (m : Mid) (q : Fin 64) (v : Word) (s : State) : Out :=
  regRow s m (R.CQ_CFG q.val) (fun s => s.cqCfgWrite q.val v)

/-- The effect of a write of a queue's base or PASID: only while the queue is disabled. -/
def State.queueSetup (s : State) (on : Bool) (a : Nat) (v : Word) : State × Nat :=
  if on then refuse s stBusy else (s.plain a v, 0)

/-! ### Completions (R423, R425) -/
/-- Whether a completion queue takes a record: one entry stays free. -/
def State.cqRoom (s : State) (c : Nat) : Bool :=
  (s.fl (R.CQ_TAIL c) F.CQ_TAIL_tail + 1) % s.cqSize c ≠ (s.queue c).chead

/-- The 64 bytes of a completion record. -/
def Cpl.bytes (r : Cpl) (phase : Bool) (sqHead : Nat) (st : Stamp) : Bytes :=
  leBytes 4 r.handle.toNat ++ leBytes 2 r.status ++ leBytes 2 r.cid.toNat ++ leBytes 4 (r.q + b2n r.final * 64 + b2n phase * 2147483648) ++
  leBytes 4 r.res0.toNat ++ leBytes 4 r.res1.toNat ++ leBytes 4 sqHead ++ st.bytes ++ List.replicate 16 0

/-- A record is posted to completion queue c, which has room. -/
def State.postTo (s : State) (c : Nat) (r : Cpl) : State :=
  let tail := s.fl (R.CQ_TAIL c) F.CQ_TAIL_tail
  let base := (s.rd (R.CQ_BASE_LO c)).toNat / 4096 * 4096 + (s.rd (R.CQ_BASE_HI c)).toNat * 4294967296
  let pas := pasidOf (s.fl (R.CQ_CFG c) F.CQ_CFG_pasid_en = 1) (s.rd (R.CQ_PASID c))
  let st : Stamp := { tick := s.tick, seq := s.hubSeq, source := 8 }
  let out := HostOut.mem (base + 64 * tail) pas (r.bytes (s.queue c).phase (s.fl (R.SQ_HEAD r.q) F.SQ_HEAD_head) st)
  let next := (tail + 1) % s.cqSize c
  let s1 : State := { (s.setFl (R.CQ_TAIL c) F.CQ_TAIL_tail next) with
    hostOut := s.hostOut ++ [out]
    hubSeq := (s.hubSeq + 1) % 4294967296 }
  let s2 := if next = 0 then s1.setQueue c { (s1.queue c) with phase := !(s1.queue c).phase } else s1
  let s3 := if s2.fl (R.CQ_CFG c) F.CQ_CFG_ien = 1 then s2.msi (s2.fl (R.CQ_CFG c) F.CQ_CFG_vec) else s2
  if s3.cqRoom c then s3
  else (s3.setFl (R.CQ_CFG c) F.CQ_CFG_full 1).raiseHub 0 1 [c]

/-- A record is produced: posted, held while its completion queue is full, or discarded where that is disabled. -/
def State.complete_ (s : State) (r : Cpl) : State :=
  let c := s.sqCq r.q
  if !s.cqOn c then s
  else if s.cqRoom c && (s.queue c).held.isEmpty then s.postTo c r
  else s.setQueue c { (s.queue c) with held := (s.queue c).held ++ [r] }

/-- Held records are posted in order while there is room. -/
def State.resumeCq (s : State) (c : Nat) : State :=
  (s.queue c).held.foldl (fun (a : State) r =>
    if a.cqRoom c then (a.postTo c r).setQueue c { ((a.postTo c r).queue c) with held := (a.queue c).held.drop 1 } else a) s

/-! ### Doorbells (R422, R425) -/
/-- The effect of a write of SQ_DB. -/
def State.sqDbWrite (s : State) (q : Nat) (v : Word) : State × Nat :=
  let t := fld v F.SQ_DB_tail
  if !s.sqOn q then refuse s stBusy
  else if s.sqSize q ≤ t then
    ((s.setFl (R.SQ_CFG q) F.SQ_CFG_err 1).setQueue q { (s.queue q) with stopped := true }, stBadArg)
  else (s.setQueue q { (s.queue q) with tail := t }, 0)

/-- SQ_DB. -/
def execSqDb (m : Mid) (q : Fin 64) (v : Word) (s : State) : Out := regRow s m (R.SQ_DB q.val) (fun s => s.sqDbWrite q.val v)

/-- The effect of a write of CQ_DB. -/
def State.cqDbWrite (s : State) (c : Nat) (v : Word) : State × Nat :=
  let h := fld v F.CQ_DB_head
  if !s.cqOn c then refuse s stBusy
  else if s.cqSize c ≤ h then refuse s stBadArg
  else
    let s1 := s.setQueue c { (s.queue c) with chead := h }
    let s2 := if s1.cqRoom c then s1.setFl (R.CQ_CFG c) F.CQ_CFG_full 0 else s1
    (s2.resumeCq c, 0)

/-- CQ_DB. -/
def execCqDb (m : Mid) (q : Fin 64) (v : Word) (s : State) : Out := regRow s m (R.CQ_DB q.val) (fun s => s.cqDbWrite q.val v)

/-! ### Commands (R418, R424, R426) -/
/-- What a command's start gives: its final result, or a long command with the claim it took, the banks it marches and
the image it brings. -/
inductive CmdRes where
  | final (status : Nat) (r0 r1 : Word)
  | long (claim : Option Nat) (left : Nat) (img : Option Image)
  /-- A long command whose result is there at once. -/
  | longDone (status : Nat) (r0 r1 : Word)
  deriving DecidableEq, Repr

/-- A command as R426's table has it: its number, whether a reserved bit is set, the walls it names, whether its master
has the access it needs, the buffer bytes it needs, its kind, its effect once the checks have passed, and what a failed
check leaves (a self-test's verdict, R535). -/
structure Cmd where
  op : Nat
  bad : Bool := false
  ws : List Nat := []
  access : Bool := true
  minLen : Nat := 0
  isLong : Bool := false
  run : State → State × CmdRes
  failed : State → State := id

/-- Argument word W(5 + i) of a command. -/
def cmdArg (c : CmdCtx) (i : Nat) : Nat := (c.args.getD i 0).toNat

def State.cmdMid (s : State) (c : CmdCtx) : Nat := s.sqMid c.q.val

/-- The walls on which a long command works. -/
def LongCmd.onWall (l : LongCmd) (w : Nat) : Bool := if l.op = 16 then nbit (cmdArg l.ctx 0) w else l.ctx.wall.toNat = w

/-- Commands that work on a wall, rather than on the hub. -/
def wallOp (op : Nat) : Bool := 16 ≤ op && op < 48

/-- Commands that a wall's being loaded, closing or off does not keep from starting. -/
def exemptOp (op : Nat) : Bool := op = 16 || op = 17 || op = 18 || op = 32

/-- Whether a running command keeps another from starting on a wall. -/
def State.cmdBusy (s : State) (op w : Nat) : Bool :=
  s.longs.any (fun l => l.onWall w && wallOp l.op && (l.op = op || l.op = 16 || l.op = 17 || l.op = 18))

/-- The checks of R426 in their order, on the walls `ws` that the command names: a status, 0 to go on. -/
def State.cmdCheck (s : State) (c : CmdCtx) (op : Nat) (ws : List Nat) (access : Bool) (minLen : Nat) : Nat :=
  if !s.populated c.wall.toNat || ws.any (fun w => !s.populated w) then stBadArg
  else if !access then stAccessDenied
  else if wallOp op && !exemptOp op && ws.any (fun w => wallState s w = 1) then stWallLoading
  else if wallOp op && !exemptOp op && ws.any (fun w => wallState s w ≠ 0 || s.wallOff w) then stDomainOff
  else if wallOp op && ws.any (fun w => s.cmdBusy op w) then stBusy
  else if (0 < minLen && decide (c.len.toNat < minLen)) || (0 < minLen && c.buf.toNat % 64 ≠ 0) then stBadArg
  else 0

def cplOf (c : CmdCtx) (status : Nat) (final : Bool) (r0 r1 : Word) : Cpl :=
  { handle := c.handle, cid := c.cid, status := status, final := final, q := c.q.val, res0 := r0, res1 := r1 }

/-- A command starts: its checks in the order of R426, then its effect. A command that fails a check has changed nothing. -/
def State.startCmd (s : State) (c : CmdCtx) (d : Cmd) : State × CmdRes :=
  let st := if d.bad then stBadArg else s.cmdCheck c d.op d.ws d.access d.minLen
  if st ≠ 0 then (d.failed s, .final st 0 0)
  else if d.isLong && decide (256 ≤ s.longs.length) then (d.failed s, .final stBusy 0 0)
  else
    let r := d.run s
    match r.2 with
    | .final st _ _ => if st ≠ 0 && d.isLong then (d.failed s, r.2) else r
    | _ => r

/-- A long command joins those in progress. -/
def State.addLong (s : State) (c : CmdCtx) (op : Nat) (console : Bool) (r : CmdRes) : State :=
  match r with
  | .final _ _ _ => s
  | .long claim left img =>
    { s with longs := s.longs ++ [{ op := op, ctx := c, claim := claim, start := s.tick, console := console, left := left, img := img }] }
  | .longDone st r0 r1 => { s with longs := s.longs ++ [{ op := op, ctx := c, done := some (st, r0, r1), start := s.tick, console := console }] }

/-- A queue's command runs: its start and its acknowledgement. -/
def State.runCmd (s : State) (c : CmdCtx) (d : Cmd) : State :=
  let r := s.startCmd c d
  match r.2 with
  | .final st r0 r1 => r.1.complete_ (cplOf c st true r0 r1)
  | x => (r.1.addLong c d.op false x).complete_ (cplOf c stAccepted false 0 0)

/-- A row that starts a command. -/
def cmdRow (s : State) (c : CmdCtx) (d : Cmd) : Out := .next (if s.powered then s.runCmd c d else s)

/-- Write access (R426): 0b10 in a block's table for the master; read access: 0b01 or 0b10. -/
def State.mayWrite (s : State) (m table : Nat) : Bool := s.accEntry table m = 2
def State.mayRead (s : State) (m table : Nat) : Bool := s.accEntry table m = 1 || s.accEntry table m = 2

/-- A command's use of a claimable resource (R418): held already, taken now, or busy. -/
def State.cmdClaim (s : State) (m a : Nat) : Option (State × Option Nat) :=
  if s.holds a m then some (s, none)
  else if s.claimed a then none
  else some ((s.setFl a F.CLAIM_holder m).setFl a F.CLAIM_held 1, some a)

/-- A claim is released: no command holds it any longer. -/
def State.dropClaim (s : State) (a : Nat) : State :=
  let s1 := (s.setFl a F.CLAIM_held 0).setFl a F.CLAIM_holder 0
  { s1 with longs := s1.longs.map (fun l => if l.claim = some a then { l with claim := none } else l) }

/-- Bytes that a command writes to its buffer, from an offset. -/
def State.toBuffer (s : State) (c : CmdCtx) (off : Nat) (b : Bytes) : State :=
  { s with hostOut := s.hostOut ++ [.mem ((c.buf.toNat + off) % 18446744073709551616) (s.sqPasid c.q.val) b] }

/-- Running commands on a wall end with a status (R428), those that `p` names apart. -/
def State.endLongs (s : State) (w status : Nat) (p : LongCmd → Bool) : State :=
  s.finishLong (fun l => wallOp l.op && l.onWall w && !p l) status 0 0

/-- NOP. -/
def nopCmd : Cmd := { op := 0, run := fun s => (s, .final 0 0 0) }

/-- NOP. -/
def execNop (c : CmdCtx) (s : State) : Out := cmdRow s c nopCmd

/-- Whether the hub may fetch from a queue. -/
def State.canFetch (s : State) (q : Nat) : Bool :=
  let c := s.sqCq q
  let pastPoint := match s.trowel.act with | some a => a.reached.isSome && !a.restarted | none => false
  s.powered && s.cxl.up && !s.service.safe && s.trowel.running && !pastPoint && s.sqOn q && !(s.queue q).stopped &&
    decide (s.fl (R.SQ_HEAD q) F.SQ_HEAD_head ≠ (s.queue q).tail) && (!s.cqOn c || (s.cqRoom c && (s.queue c).held.isEmpty))

/-- Whether a queue is the next of the round that the hub makes over the queues it may fetch from (R422). -/
def State.fetchesNext (s : State) (q : Nat) : Bool :=
  let rank (k : Nat) : Nat := (k + 127 - s.sqTurn) % 64
  s.canFetch q && (List.range 64).all (fun k => rank q ≤ rank k || !s.canFetch k)

/-- FETCH_FAIL: the host does not complete the fetch of an entry. -/
def execFetchFail (q : Fin 64) (s : State) : Out :=
  .next (let x := s.queue q.val
    if x.fenced.isSome || !s.fetchesNext q.val then s
    else (({ s with sqTurn := q.val }.setFl (R.SQ_CFG q.val) F.SQ_CFG_err 1).setQueue q.val { x with stopped := true }).raiseHub 0 0 [q.val])

/-! ### The CXL link (R404, R406, R407) -/
/-- CXL_LINK_UP: in 256-byte flit mode, or degraded to 68-byte flits. A module stopped for boundary scan keeps the link
down (R541). -/
def execCxlLinkUp (flit256 : Bool) (width : BitVec 5) (rate : BitVec 4) (s : State) : Out :=
  .next (if !s.powered || s.service.scanHold then s
    else ({ s with cxl := { up := true, flit256 := flit256, width := width.toNat, rate := rate.toNat } } : State).raiseHub 19
      (if flit256 then 1 else 2) [width.toNat + rate.toNat * 256])

/-- The CXL link goes down: every host-window request that waits is answered with a DOMAIN_OFF NACK. -/
def State.cxlDown (s : State) : State :=
  if !s.cxl.up then s
  else
    let s1 := ({ s with cxl := { s.cxl with up := false } }).raiseHub 19 0 [s.cxl.width + s.cxl.rate * 256]
    (s.awaiting.filter (fun e => !dHub e.pkt.src)).foldl (fun (a : State) e => a.switchRefuse e.pkt stDomainOff)
      { s1 with awaiting := s.awaiting.filter (fun e => dHub e.pkt.src) }

/-- CXL_LINK_DOWN. -/
def execCxlLinkDown (s : State) : Out := .next s.cxlDown

/-- FUNCTION_LEVEL_RESET (R407): queues, event ring, MSI-X table, event matrix and REG_STAT; completions not yet written
are discarded, and those of the long commands in progress will be. -/
def State.flr (s : State) : State :=
  let s1 := s.dropRegs (fun a => (decide (0x10000 ≤ a) && decide (a < 0x30000)) || (decide (0x77000 ≤ a) && decide (a < 0x77100)))
  { s1 with queues := [], ringLostSeen := false, longs := s1.longs.map (fun l => { l with orphan := true }) }

/-- FUNCTION_LEVEL_RESET. -/
def execFunctionLevelReset (s : State) : Out := .next (if s.powered then s.flr else s)

/-- CXL_ERROR: an error that AER or IDE reports (R431). -/
def execCxlError (kind : BitVec 2) (aer : Word) (s : State) : Out :=
  .next (if kind = 3 || !s.powered then s else s.raiseHub 20 kind.toNat [aer.toNat])

end Sys2Proof.Machine
end

