-- ==== Sys2Proof/Machine/Reset.lean ====
section
/-!
DEFINITION. Machine/Reset.lean: what a wall reset, a wall load and a stop do to a wall (R105, R189, R357, R361, R419,
R459, R466, R518), and the flush of the host's copies before them (R356, R357).
-/
namespace Sys2Proof.Machine
open Sys2Proof

/-! ### The elements of a wall (R459) -/
/-- A tile under global set-reset (R105): tile memories and program memory keep their contents; the clock goes on. -/
def Tile.stopped (x : Tile) : Tile := { cyc := x.cyc, tmem := x.tmem, pmem := x.pmem }

/-- A tile of a woken course: its pattern cache is kept too (R517). -/
def Tile.woken (x : Tile) : Tile := { x.stopped with ways := x.ways, useCtr := x.useCtr }

/-- Whether a key of a map with `n` entries a wall belongs to wall w. -/
def ofWall (w n : Nat) (k : Nat) : Bool := k / n = w

/-- A map without the entries of wall w. -/
def Sp.offWall {α : Type} (m : Sp α) (w n : Nat) : Sp α := m.filter (fun e => !ofWall w n e.1)

/-- The pointing engine stops: its voted settings stay (R334, R459). -/
def PointX.stopped (p : PointX) : PointX := { set1 := p.set1, set2 := p.set2, set3 := p.set3 }

/-- The elements of a wall take the states of RESET, LOCK, LOAD, REPLAY and FAILED (R459): set-reset asserted, pattern
cache invalid, tile-memory writes off, links idle, pins and angle units off, flows FREE, the capture discarded, the
pointing engine and the marches stopped; packets for the wall are refused from now on (R302). -/
def State.stopElements (s : State) (w : Nat) : State :=
  let s1 := foldN 16 ((s.marchStop w).capRelease w) (fun a n => a.idleLink w n)
  let x := s1.wall w
  let s2 := s1.setWall w { x with gsr := true, tmemWe := false, pinsOn := false, point := x.point.stopped }
  let s3 : State := { s2 with
    tiles := s2.tiles.map (fun e => if ofWall w 128 e.1 then (e.1, e.2.stopped) else e)
    flows := Sp.offWall s2.flows w 512
    bases := Sp.offWall s2.bases w 4
    acus := Sp.offWall s2.acus w 16
    links := Sp.offWall s2.links w 16
    pins := Sp.offWall s2.pins w 24 }
  let s4 := s3.dropRegs (fun a => (decide (R.FD_CTRL w 0 ≤ a) && decide (a < R.FD_CTRL w 512)) ||
    (decide (R.FW_CTRL w 0 ≤ a) && decide (a < R.FW_CTRL w 64)) ||
    (decide (R.HOD_HOME w 0 0 ≤ a) && decide (a < R.HOD_HOME w 512 0)))
  s4.setWallState w 1

/-! ### Registers (R13, R361, R479, R480) -/
/-- Wall-region offsets whose registers a wall reset does not clear: the kiln block (R479), PT_CFG and PT_POLICY (R480),
the region modes and tables (R361), and the status that follows what the reset does not touch: SEC_STATUS, GD_STATUS,
FP_BANK, and what the foundation frames set (R115). -/
def keptOffset (o : Nat) : Bool :=
  (decide (0x20000 ≤ o) && decide (o < 0x20800)) || o = 0x30000 || o = 0x30004 ||
  (decide (0x61000 ≤ o) && decide (o < 0x61C00)) || o = 0x60100 || o = 0x60140 || o = 0x50030 ||
  (decide (0x100000 ≤ o) && (o % 0x400 = 0x20 || o % 0x400 = 0x2C))

/-- What a wall reset leaves of a register's word: RWS fields, and the RO fields of GD_CFG and FP_BANK, which show the
part's ECC setting and the bank's supply. -/
def State.afterReset (s : State) (o a : Nat) (v : Word) : Word :=
  match regDef a with
  | none => v
  | some d =>
    let keep : Word := BitVec.ofNat 32 (fieldMask (fun t => t = .rws || (t = .ro && (o = 0x60000 || o = 0xA0200))) d.fields)
    let r := regReset s.part.walls s.part.gradeE a
    (v &&& keep) ||| (r &&& ~~~keep)

/-- The registers of a wall after a wall reset. -/
def State.clearWallRegs (s : State) (w : Nat) : State :=
  s.regs.foldl (fun (b : State) e =>
    match wallOfAddr e.1 with
    | some (v, o) => if v = w && !keptOffset o then b.wr e.1 (s.afterReset o e.1 e.2) else b
    | none => b) s

/-- Every claim on a wall's resources is released (R419). -/
def State.releaseClaims (s : State) (w : Nat) : State :=
  let mine (a : Nat) : Bool := decide (R.CLAIM w 0 ≤ a) && decide (a < R.CLAIM w 57)
  let s1 := s.dropRegs mine
  { s1 with longs := s1.longs.map (fun l => if l.claim.any mine then { l with claim := none } else l) }

/-! ### The flush of host copies (R357) -/
/-- Whether a device of a wall still waits for the host's answers. -/
def State.flushBusy (s : State) (w : Nat) : Bool := (s.gdx w 0).flushing.isSome || (s.gdx w 1).flushing.isSome

/-- A device's flush is over once no back-invalidation of it is unanswered; it then refreshes itself. -/
def State.flushCheck (s : State) (w d : Nat) : State :=
  let x := s.gdx w d
  if x.flushing.isSome && x.pendingBi.isEmpty then s.setGdx w d { x with flushing := none, filter := [] } else s

/-- Both devices of a wall back-invalidate every entry of their filters and leave service (R357, R358). -/
def State.startFlush (s : State) (w : Nat) : State :=
  foldN 2 s (fun a d =>
    let x := a.gdx w d
    let a1 := (a.setGdx w d { x with flushing := some a.tick }).setFl (R.GD_STATUS w d) F.GD_STATUS_state 0
    (x.filter.foldl (fun (b : State) h => b.sendBi w d h.line false) a1).flushCheck w d)

/-- HDM_FLUSH_TIMEOUT: 1 ms (1,250,000 ticks) after a flush began, the wall goes on without the missing answers. -/
def execHdmFlushTimeout (w : Wall) (d : Fin 2) (s : State) : Out :=
  onWall w.val s (fun s =>
    let w := w.val
    let d := d.val
    let x := s.gdx w d
    match x.flushing with
    | none => s
    | some t0 =>
      if t0 + 1250000 ≤ s.tick && !x.pendingBi.isEmpty then
        (((s.setGdx w d { x with flushing := none, filter := [], pendingBi := [] }).setFl (R.GD_STATUS w d) F.GD_STATUS_stale 1).setFl
          (R.GD_EVENT w d) F.GD_EVENT_flushto 1).raiseWall w 23 0 [d, x.pendingBi.length]
      else s)

/-- BACK_INVALIDATION_RESPONSE: the host answers for a line. -/
def execBackInvalidationResponse (w : Wall) (d : Fin 2) (line : Nat) (s : State) : Out :=
  onWall w.val s (fun s => (s.biResponse w.val d.val line).flushCheck w.val d.val)

/-! ### Entering RESET (R456, R459, R461, R466) -/
/-- The monitors whose stop-wall action stops a wall (R508, R510). -/
def wallMons (w : Nat) : List Nat := [0, 1, 2, 3, 4, 5] ++ (List.range 10).map (fun k => 8 + 10 * w + k)

/-- Whether a monitor with a stop-wall action on a wall is active (R511). -/
def State.monHold (s : State) (w : Nat) : Bool :=
  (wallMons w).any (fun m =>
    let c := s.rd (R.MON_CFG m)
    fld c F.MON_CFG_en = 1 && fld c F.MON_CFG_act = 2 && fld c F.MON_CFG_active = 1)

/-- What holds a wall in RESET is shown: HOLD_N (R464), a monitor or an overheated sensor (R511, R513). -/
def State.showHold (s : State) (w : Nat) : State :=
  let x := s.wall w
  (s.setFl (R.KILN_STATUS w) F.KILN_STATUS_hold (b2n (s.phase w = 1 && x.kiln.chainWait && !s.holdN))).setFl
    (R.WPWR_CTRL w) F.WPWR_CTRL_mhold (b2n (s.phase w = 1 && (s.monHold w || x.hot)))

/-- The level of HOLD_N changes (R431, R464). -/
def State.setHold (s : State) (level : Bool) : State :=
  if s.holdN = level then s
  else foldN 8 (({ s with holdN := level } : State).raiseHub 26 1 [b2n level]) (fun a w => a.showHold w)

/-- The level of DONE_OD changes (R431, R465): high ends the wait of every wall at its wait point. -/
def State.setDone (s : State) (level : Bool) : State :=
  if s.doneOd = level then s
  else
    let s1 := ({ s with doneOd := level } : State).raiseHub 26 0 [b2n level]
    if !level then s1
    else foldN 8 s1 (fun a w =>
      let x := a.wall w
      if x.kiln.waitFrom.isSome && !x.kiln.waited then
        (a.setWall w { x with kiln := { x.kiln with waited := true } }).setFl (R.KILN_STATUS w) F.KILN_STATUS_donew 0
      else a)

/-- The wall begins a start-up: a load or a reset. Commands on it end, those that `p` names apart (R428); its elements
stop, its registers are cleared, its claims released, its records numbered from 0 again (R262); the flush begins. -/
def State.enterReset (s : State) (w : Nat) (load chain : Bool) (p : LongCmd → Bool) : State :=
  let s1 := ((((s.endLongs w stWallLoading p).stopElements w).discardWall w).clearWallRegs w).releaseClaims w
  let gates := s1.fl (R.WPWR_GATE w) F.WPWR_GATE_req
  let s2 := (s1.setFl (R.WPWR_GATE w) F.WPWR_GATE_gated gates)
  let s3 := (maskBits 16 gates).foldl (fun (a : State) c => a.setFl (R.BOND_DOMAIN w) ⟨2 * c, 2⟩ 3) s2
  let x := s3.wall w
  let s4 := s3.setWall w { x with
    seq := 0, closing := [], wakeAt := [], gateWake := [], goal := none, realigning := false, sweepPos := 0
    ptpSec := 0, ptpNs := 0, ptpFrac := 0, ptpLatch := 0
    kiln := { isLoad := load, chainWait := chain, replayMaster := x.kiln.replayMaster } }
  let s5 := (((s4.setAligned w false).setFl (R.KILN_STATUS w) F.KILN_STATUS_stream 0).setFl (R.KILN_STATUS w) F.KILN_STATUS_donew 0).setFl
    (R.KILN_STATUS w) F.KILN_STATUS_step 0
  ((((s5.rebuildFree w).setPhase w 1).setFl (R.WPWR_CTRL w) F.WPWR_CTRL_state 0).startFlush w).showHold w

/-- WALL_STATE is raised (R466): variant 0 LOADING, 1 READY, 2 LOAD_FAILED, 3 RESET. -/
def State.wallEvent (s : State) (w var status : Nat) : State := s.raiseWall w 26 var [status]

/-- A wall load or boot load begins. -/
def State.beginLoad (s : State) (w : Nat) (chain : Bool) (p : LongCmd → Bool) : State := (s.enterReset w true chain p).wallEvent w 0 0

/-- A wall reset begins. A wall that has no successful load returns to LOAD with no stream open (R511). -/
def State.beginReset (s : State) (w : Nat) (p : LongCmd → Bool) : State :=
  (s.enterReset w (s.fl (R.KILN_STATUS w) F.KILN_STATUS_cfg = 0) false p).wallEvent w 3 0

/-! ### The end of a start-up -/
/-- The result of a WALL_LOAD once each of its walls is READY or FAILED: the status of the lowest that failed, the frames
written, the walls that are READY (R453). -/
def State.settleLoads (s : State) : State :=
  let res (l : LongCmd) : Option (Nat × Word × Word) :=
    let ws := maskBits 8 (cmdArg l.ctx 0 % 256)
    if ws.all (fun w => 6 ≤ s.phase w) then
      let st := match ws.find? (fun w => s.phase w = 7) with
        | some w => (s.wall w).kiln.result
        | none => 0
      let frames := (ws.map (fun w => (s.rd (R.KILN_FRAME_COUNT w)).toNat)).foldl (· + ·) 0
      let ready := ((ws.filter (fun w => s.phase w = 6)).map (fun w => 2 ^ w)).foldl (· + ·) 0
      some (st, BitVec.ofNat 32 frames, BitVec.ofNat 32 ready)
    else none
  { s with longs := s.longs.map (fun l => if l.op = 16 && l.done.isNone then { l with done := res l } else l) }

/-- The commands that wait for a wall's start-up to end: WALL_RESET and WALL_POWER with the status, WALL_LOAD when all of
its walls have ended. -/
def State.settleStart (s : State) (w status : Nat) : State :=
  (s.finishLong (fun l => (l.op = 17 || (l.op = 18 && cmdArg l.ctx 0 % 4 = 0)) && l.onWall w) status 0 0).settleLoads

/-- A kiln failure is recorded while no record is held (R479). -/
def State.kilnError (s : State) (w status : Nat) (floc : Word) : State :=
  if s.fl (R.KILN_ERR w) F.KILN_ERR_valid = 1 then s
  else (s.wr (R.KILN_ERR w) (BitVec.ofNat 32 (status + 65536))).wr (R.KILN_ERR_LOC w) floc

/-- The wall enters FAILED (R452, R462). -/
def State.failWall (s : State) (w status : Nat) : State :=
  let x := s.wall w
  let s1 := s.setWall w { x with kiln := { x.kiln with ended := true, result := status, got := [] } }
  let s2 := (((s1.setFl (R.KILN_STATUS w) F.KILN_STATUS_cfg 0).setFl (R.KILN_STATUS w) F.KILN_STATUS_donew 0).setFl
    (R.KILN_STATUS w) F.KILN_STATUS_step 0).setPhase w 7
  (s2.wallEvent w 2 status).settleStart w status

/-! ### The secure bank and the settings record (R334, R477, R492) -/
/-- CRC-32C of words, each least significant byte first (R443). -/
def crc32c (b : Bytes) : Nat :=
  let c := crcBits 32 0x1EDC6F41 (b.flatMap byteBitsLsb) 0xFFFFFFFF
  let r := ((List.range 32).map (fun i => b2n (nbit c i) * 2 ^ (31 - i))).foldl (· + ·) 0
  Nat.xor r 0xFFFFFFFF

/-- Offset of the pointing engine's settings record in bank 7 (R477). -/
def ptRecordOff : Nat := 0x3FFFC0

/-- The settings record: settings, sequence, CRC-32C, zeros. -/
def ptRecord (settings seq : Nat) : Bytes :=
  let b := leBytes 4 settings ++ leBytes 4 seq
  b ++ leBytes 4 (crc32c b) ++ List.replicate 52 0

/-- The trowel, where the secure bank admits it, writes the record from PT_CFG and the interval it wants, with the next sequence number. -/
def State.writePtRecord (s : State) (w interval : Nat) : State :=
  let seq := (s.sramWord w 7 (ptRecordOff + 4)).toNat
  let c := s.rd (R.PT_CFG w)
  let v := fld c F.PT_CFG_en + fld c F.PT_CFG_ue_act * 2 + interval * 65536
  if !s.secureOpen w then s else (s.sramWrite w 7 ptRecordOff (ptRecord v ((seq + 1) % 4294967296))).1

/-- The interval that the trowel's policy starts from, or that PT_CFG names (R475). -/
def State.ptWanted (s : State) (w : Nat) : Nat := s.fl (R.PT_CFG w) F.PT_CFG_interval

/-- The header CRC of an image (R485); of a Peger image the CRC-32C of its header (R487). -/
def imgCrc (i : Image) : Nat := if i.peger then crc32c i.header else ofLeBytes ((i.header.drop 0x1FC).take 4)

/-- Cells of a stretch of bytes from key k: bytes equal to what an unlisted address reads as are not listed. -/
def cellsAt (k : Nat) (b : Bytes) : List Host.Cell := ((List.range b.length).zip b).filterMap (fun e => if e.2 = memDefault (k + e.1) then none else some (k + e.1, e.2))

/-- The trowel rewrites the secure bank of a wall and clears `wiped` (R492). The key copies and the lease secrets are
free values: the spec gives none of their bytes. -/
def State.rewriteSecure (s : State) (w : Nat) : State :=
  let t := s.trowel
  let slot : ImgSlot := if t.runSlot then t.slotB else t.slotA
  let crc : Nat := match slot.image with
    | some i => imgCrc i
    | none => 0
  let k := sramKey w 7 0
  let seq := (s.sramWord w 7 (ptRecordOff + 4)).toNat
  let cells :=
    cellsAt k (leBytes 8 (Config.unitId 0).toNat ++ leBytes 4 1 ++ leBytes 4 t.lifecycle) ++
    cellsAt (k + 0x40) (leBytes 4 (b2n t.runSlot) ++ leBytes 4 slot.version ++ leBytes 4 crc) ++
    cellsAt (k + 0x1000) (s.freeBytes 0 0x1000) ++ cellsAt (k + 0x10000) (s.freeBytes 0x1000 0x400) ++
    cellsAt (k + ptRecordOff) (ptRecord (fld (s.rd (R.PT_CFG w)) F.PT_CFG_en + fld (s.rd (R.PT_CFG w)) F.PT_CFG_ue_act * 2 + s.ptWanted w * 65536)
      ((seq + 1) % 4294967296))
  let s1 : State := { s with
    sram := s.sram.filter (fun e => decide (e.1 < k)) ++ cells ++ s.sram.filter (fun e => decide (k + 0x400000 ≤ e.1))
    sramErr := zeroMarks s.sramErr (k / 8) 0x80000
    fresh := s.fresh + 1 }
  s1.setFl (R.SEC_STATUS w) F.SEC_STATUS_wiped 0

/-- SECURE_WIPE_DONE: 65,536 cycles after the wipe began bank 7 is zero with valid codes; the trowel, when it runs, rewrites it and clears `wiped` (R333,
R492). -/
def execSecureWipeDone (w : Wall) (s : State) : Out :=
  onWall w.val s (fun s =>
    let w := w.val
    match (s.wall w).wipe with
    | none => s
    | some c =>
      if (s.wall w).cycle < (s.wall w).wipeAt + 65536 then s
      else
      let s1 := (s.setWall w { (s.wall w) with wipe := none }).zeroBank w 7
      let s2 := (((s1.setFl (R.SEC_STATUS w) F.SEC_STATUS_wiping 0).setFl (R.SEC_STATUS w) F.SEC_STATUS_wiped 1).setFl
        (R.SEC_STATUS w) F.SEC_STATUS_cause c).raiseWall w 20 0 [c]
      if s2.trowel.running && !s2.wallOff w then s2.rewriteSecure w else s2)

end Sys2Proof.Machine
end

