-- ==== Sys2Proof/Machine/WallRegs.lean ====
section
/-!
DEFINITION. Machine/WallRegs.lean: the effect of a write of any register of a wall's blocks, by its offset in the wall's
region: the registers with an effect of their own, and the plain effect of the others (R13).
-/
namespace Sys2Proof.Machine
open Sys2Proof

/-! ### Start-up order and pointing settings (R458, R477) -/
/-- The effect of a write of STARTUP_ORDER: CLOCKS first, each step once. -/
def State.orderWrite (s : State) (w : Nat) (v : Word) : State × Nat :=
  let a := fld v F.STARTUP_ORDER_first
  let b := fld v F.STARTUP_ORDER_second
  let c := fld v F.STARTUP_ORDER_third
  let d := fld v F.STARTUP_ORDER_fourth
  if a ≠ 0 || b = 0 || c = 0 || d = 0 || b = c || b = d || c = d then refuse s stBadArg
  else (s.plain (R.STARTUP_ORDER w) v, 0)

/-- STARTUP_ORDER_WRITE. -/
def execStartupOrderWrite (m : Mid) (w : Wall) (v : Word) (s : State) : Out :=
  regRow s m (R.STARTUP_ORDER w.val) (fun s => s.orderWrite w.val v)

/-- The effect of a write of PT_CFG: the trowel rewrites the settings record with its interval. -/
def State.ptCfgWrite (s : State) (w : Nat) (v : Word) : State × Nat :=
  let s1 := s.plain (R.PT_CFG w) v
  (s1.writePtRecord w (s1.ptWanted w), 0)

/-- PT_CFG_WRITE. -/
def execPtCfgWrite (m : Mid) (w : Wall) (v : Word) (s : State) : Out :=
  regRow s m (R.PT_CFG w.val) (fun s => s.ptCfgWrite w.val v)

/-! ### Access tables (R321, R322, R325) -/
/-- Whether two entries of a bank's or region's table, over its four registers, hold 0b10. -/
def State.twoWriters (s : State) (a : Nat) : Bool := decide (1 < ((List.range 64).filter (fun m => s.accEntry a m = 2)).length)

/-- A write of an access-table register at `a` of the table whose first register is at `first`. -/
def State.tableWrite (s : State) (locked one : Bool) (first a : Nat) (v : Word) : State × Nat :=
  if locked then refuse s stAccessDenied
  else
    let s1 := s.plain a v
    if one && s1.twoWriters first then refuse s stBusy else (s1, 0)

/-- The effect of a write of a register of the SRAM block. -/
def State.sramRegWrite (s : State) (m w o : Nat) (v : Word) : State × Nat :=
  let a := wallBase w + o
  let locked := s.fl (R.SRAM_LOCK w) F.SRAM_LOCK_lock = 1
  if a = R.SRAM_RET w then s.retWrite w v
  else if a = R.SEC_STATUS w then s.secWrite w v
  else if a = R.MARCH_CTRL w then s.marchWrite m w v
  else if a = R.SRAM_LOCK w then (if locked then refuse s stAccessDenied else (s.plain a v, 0))
  else if 0x50100 ≤ o && o < 0x50200 && o % 0x20 < 0x10 then
    let b := (o - 0x50100) / 0x20
    if b = 7 && !locked then (s, 0) else s.tableWrite locked (b = 2 || b = 3 || b = 6) (R.SRAM_ACC_A w b) a v
  else (s.plain a v, 0)

/-- The effect of a write of a register of the GDDR7 block. -/
def State.gddrRegWrite (s : State) (w o : Nat) (v : Word) : State × Nat :=
  let a := wallBase w + o
  let locked := s.fl (R.GD_LOCK w) F.GD_LOCK_lock = 1
  if a = R.GD_LOCK w then (if locked then refuse s stAccessDenied else (s.plain a v, 0))
  else if a = R.GD_CMD w 0 then s.gdCmdWrite w 0 v
  else if a = R.GD_CMD w 1 then s.gdCmdWrite w 1 v
  else if 0x61000 ≤ o && o < 0x61C00 then
    let d := (o - 0x61000) / 0x600
    let r := (o - 0x61000) % 0x600 / 0x20
    if s.gdSize w ≤ r * 0x4000000 then (if locked && o % 0x20 ≠ 0 && decide (o % 0x20 ≤ 0x10) then refuse s stAccessDenied else (s, 0))
    else if o % 0x20 = 0 then s.regionWrite w d r v
    else if o % 0x20 ≤ 0x10 then s.tableWrite locked true (R.GD_ACC_A w d r) a v
    else (s, 0)
  else (s.plain a v, 0)

/-! ### The other blocks -/
/-- The effect of a write of a register of the dispatcher block. -/
def State.dispRegWrite (s : State) (m w o : Nat) (v : Word) : State × Nat :=
  let a := wallBase w + o
  if o = 0x8 then s.dispCmd m w (fld v F.DISP_CMD_flow) (fld v F.DISP_CMD_op)
  else if o = 0x10 then s.doorbell w v
  else if o = 0x24 then
    (let s1 := s.plain a v
     if s1.fl a F.DISP_NEAR_PEAK_peak < s1.nearCount w then s1.setFl a F.DISP_NEAR_PEAK_peak (s1.nearCount w) else s1, 0)
  else if 0x1000 ≤ o && o < 0x1400 then (if o % 0x10 = 0 then s.fwWrite w ((o - 0x1000) / 0x10) v else (s.plain a v, 0))
  else if 0x2000 ≤ o && o < 0x2200 then
    let l := (o - 0x2000) / 0x20
    if o % 0x20 = 0 then s.leaseWrite w l v else s.grantWrite w l a v
  else if 0x8000 ≤ o && o < 0xC000 then s.descWrite m w ((o - 0x8000) / 0x20) (o % 0x20 / 4) v
  else (s.plain a v, 0)

/-- The effect of a write of a register of the kiln block: the capture registers only for the capture's claimant. -/
def State.kilnRegWrite (s : State) (m w o : Nat) (v : Word) : State × Nat :=
  let a := wallBase w + o
  if a = R.STARTUP_ORDER w then s.orderWrite w v
  else if a = R.CAP_CTRL w then s.capWrite m w v
  else if 0x20800 ≤ o && o < 0x20818 && !s.holds (claimCap w) m then refuse s stBusy
  else (s.plain a v, 0)

/-- The effect of a write of a register of the bond block. `any` lets route and slot writes go to either bank (R449). -/
def State.bondRegWrite (s : State) (w : Wall) (o : Nat) (v : Word) (any : Bool) : State × Nat :=
  let a := wallBase w.val + o
  if a = R.BOND_EPOCH w.val then s.epochWrite (.wall w) v
  else if 0x41000 ≤ o && o < 0x43000 then
    let b := (o - 0x41000) / 0x1000
    let r := o % 0x1000 / 0x80
    let d := o % 0x80 / 4
    if routeExists (.wall w) r d then (if any then (s.plain a v, 0) else s.routeWrite (.wall w) (b = 1) r d v) else (s, 0)
  else if 0x44000 ≤ o && o < 0x44800 then (if o % 0x10 = 0 then s.ringWrite w.val ((o - 0x44000) / 0x10) v else (s.plain a v, 0))
  else if 0x45000 ≤ o && o < 0x45400 then
    let c := (o - 0x45000) / 0x10
    if o % 0x10 = 0 then s.gcWrite w.val c v else if o % 0x10 = 4 then s.gcDstWrite w.val c v else (s, 0)
  else if 0x46000 ≤ o && o < 0x4F000 then
    let b := (o - 0x46000) / 0x4800
    let x := (o - 0x46000) % 0x4800
    let r := x / 0x300
    let p := x % 0x300 / 0x40
    let j := x % 0x40 / 4
    if any then
      (match ([0, 1, 2, 3].map (fun k => s.slotEntryCheck (.wall w) b r p j k v)).find? (fun st => st ≠ 0) with
        | some st => refuse s st
        | none => (s.plain a v, 0))
    else s.slotWrite (.wall w) (b = 1) r p j v
  else (s.plain a v, 0)

/-- The effect of a write of a register of the reference angle unit's block. -/
def State.angleRegWrite (s : State) (m w o : Nat) (v : Word) : State × Nat :=
  let a := wallBase w + o
  if o < 0x70100 then
    let n := (o - 0x70000) / 0x40
    if o % 0x40 = 0 then s.angCfgWrite m w n v
    else if o % 0x40 = 4 || o % 0x40 = 8 then s.angSetupWrite w n a v
    else if o % 0x40 = 0x10 then ((s.plain a v).checkOvs w n, 0)
    else if o % 0x40 = 0x38 then s.angCmdWrite w n v
    else (s.plain a v, 0)
  else if 0x70400 ≤ o && o < 0x70600 then
    let u := (o - 0x70400) / 0x20
    if o % 0x20 = 0 then s.acuWrite m w u v else s.acuSetupWrite m w u a v
  else (s.plain a v, 0)

/-- The effect of a write of a register of a link. -/
def State.linkRegWrite (s : State) (m w o : Nat) (v : Word) : State × Nat :=
  let n := (o - 0x80000) / 0x1000
  if o % 0x1000 = 0 then s.lkCtrlWrite m w n v
  else if o % 0x1000 = 0x54 then s.lkGoWrite m w n v
  else if o % 0x1000 = 8 then (s.plain (wallBase w + o) v, 0)
  else s.lkSetupWrite m w n (wallBase w + o) v

/-- The effect of a write of a register of the field-pin block. -/
def State.pinRegWrite (s : State) (m w o : Nat) (v : Word) : State × Nat :=
  let p := (o - 0xA0000) / 0x10
  if o = 0xA0200 then s.fpBankWrite w v
  else if 0xA0180 ≤ o then (s, 0)
  else if o % 0x10 = 0 then s.fpCfgWrite m w p v
  else if o % 0x10 = 4 then s.fpTripWrite m w p v
  else if o % 0x10 = 8 then s.fpMaskWrite m w p v
  else (s, 0)

/-- The effect of a write of a tile's register. -/
def State.tileRegWrite (s : State) (w o : Nat) (v : Word) : State × Nat :=
  let t := (o - 0x100000) / 0x400
  if o % 0x400 = 0x10 then s.pinWrite w t false v
  else if o % 0x400 = 0x14 then s.pinWrite w t true v
  else if o % 0x400 = 0x18 then s.invalWrite w t v
  else if o % 0x400 = 0x58 then s.whandWrite w t v
  else (s.plain (wallBase w + o) v, 0)

/-- The effect of a write at offset o of wall w's region by master m. -/
def State.wallRegWrite (s : State) (m : Nat) (w : Wall) (o : Nat) (v : Word) : State × Nat :=
  match o / 0x10000 with
  | 0 => s.dispRegWrite m w.val o v
  | 1 => if o = 0x10000 then s.hodCfgWrite w.val v else (s.plain (wallBase w.val + o) v, 0)
  | 2 => s.kilnRegWrite m w.val o v
  | 3 => if o = 0x30000 then s.ptCfgWrite w.val v else (s.plain (wallBase w.val + o) v, 0)
  | 4 => s.bondRegWrite w o v false
  | 5 => s.sramRegWrite m w.val o v
  | 6 => s.gddrRegWrite w.val o v
  | 7 => s.angleRegWrite m w.val o v
  | 8 => s.linkRegWrite m w.val o v
  | 9 => if o = 0x90010 then s.ptpAdj w.val v else (s.plain (wallBase w.val + o) v, 0)
  | 10 => s.pinRegWrite m w.val o v
  | k => if 16 ≤ k && k < 18 then s.tileRegWrite w.val o v else (s.plain (wallBase w.val + o) v, 0)

end Sys2Proof.Machine
end

