-- ==== Sys2Proof/Machine/Kiln.lean ====
section
/-!
DEFINITION. Machine/Kiln.lean: frames and their codes (R440 to R449), bitstreams (R450 to R454), and the start-up of a
wall (R455 to R466).
-/
namespace Sys2Proof.Machine
open Sys2Proof

/-! ### Frame locators (R440, R441) -/
def flocWall (l : Word) : Nat := fld l ⟨29, 3⟩
def flocBcast (l : Word) : Bool := fld l ⟨28, 1⟩ = 1
/-- The wall-local tile index that a locator names. -/
def flocTile (l : Word) : Nat := fld l ⟨24, 4⟩ * 8 + fld l ⟨21, 3⟩
def flocType (l : Word) : Nat := fld l ⟨16, 5⟩
def flocSlot (l : Word) : Nat := fld l ⟨8, 8⟩
def flocSub (l : Word) : Nat := fld l ⟨0, 8⟩

/-- The locator of a frame of a tile. -/
def frameLoc (w t typ slot sub : Nat) : Word :=
  BitVec.ofNat 32 (w * 0x20000000 + t / 8 * 0x1000000 + t % 8 * 0x200000 + typ * 0x10000 + slot * 0x100 + sub)

/-- The wall-level frame types: the base of the block and the limit of its offsets (R441, R448). -/
def wallFrame (typ : Nat) : Option (Nat × Nat) :=
  if typ = 8 then some (0x80000, 0x20000)
  else if typ = 9 then some (0xA0000, 0x10000)
  else if typ = 10 then some (0x40000, 0x10000)
  else if typ = 11 then some (0x70000, 0x10000)
  else none

/-- Whether the fields of a wall image's frame are within R441. -/
def frameFieldsOk (l : Word) : Bool :=
  let typ := flocType l
  let slot := flocSlot l
  let sub := flocSub l
  if typ = 0 then slot = 0 && decide (sub ≤ 3)
  else if typ = 1 then slot = 0 && decide (sub ≤ 42)
  else if typ = 2 then decide (slot ≤ 3) && decide (sub ≤ 7)
  else if typ = 3 then decide (slot ≤ 127) && sub = 0
  else (wallFrame typ).isSome

/-! ### The SECDED code of a frame (R444) -/
/-- The powers of two that positions skip. -/
def codePowers : List Nat := [4, 8, 16, 32, 64, 128, 256, 512, 1024, 2048, 4096]

/-- The position after q: the next integer that is not a power of two. -/
def nextPos (q : Nat) : Nat := if codePowers.contains (q + 1) then q + 2 else q + 1

/-- The data bit at a position, for a position that carries one. -/
def posBit (q : Nat) : Option Nat :=
  if q < 3 || codePowers.contains q then none
  else
    let j := q - 3 - (codePowers.filter (fun p => decide (p < q))).length
    if j < 3072 then some j else none

/-- Exclusive OR of the positions of the set data bits, and their parity, from position q. -/
def codeFold : Nat → Nat → Nat → Nat → Bool → Nat × Bool
  | 0, _, _, x, p => (x, p)
  | k + 1, q, d, x, p => if d % 2 = 1 then codeFold k (nextPos q) (d / 2) (Nat.xor x q) (!p) else codeFold k (nextPos q) (d / 2) x p

def bitParity (x : Nat) : Bool := popCount 13 x % 2 = 1

/-- The 16-bit code of 3,072 data bits. -/
def frameCodeOf (d : Nat) : BitVec 16 :=
  let c := codeFold 3072 3 d 0 false
  BitVec.ofNat 16 (c.1 + b2n (c.2 != bitParity c.1) * 8192)

/-- The outcome of a check. -/
inductive CodeCheck where
  | ok | codeBit (i : Nat) | dataBit (j : Nat) | bad
  deriving DecidableEq, Repr

/-- A frame's data bits against its stored code. -/
def checkFrame (d : Nat) (stored : BitVec 16) : CodeCheck :=
  let c := codeFold 3072 3 d 0 false
  let st := stored.toNat
  let syn := Nat.xor (st % 8192) c.1
  let p := (c.2 != bitParity (st % 8192)) != nbit st 13
  if syn = 0 then (if p then .codeBit 13 else .ok)
  else if !p then .bad
  else match firstIdx (fun i => syn = 2 ^ i) (List.range 13) with
    | some i => .codeBit i
    | none => match posBit syn with
      | some j => .dataBit j
      | none => .bad

/-! ### Stores of a tile (R445, R447) -/
/-- The key of a foundation word. -/
def foundKey (w t sub i : Nat) : Nat := (tileKey w t * 4 + sub) * 96 + i
/-- The key of the code stored beside a frame. -/
def codeKey (w t typ sub : Nat) : Nat := tileKey w t * 64 + (if typ = 0 then sub else 4 + sub)

def State.foundWords (s : State) (w t sub : Nat) : Words := (List.range 96).map (fun i => Sp.getD s.found (foundKey w t sub i) 0)

/-- The words of PROGRAM sub-frame `sub` as stored: words 64 to 95 of sub-frame 42 are reserved zeros. -/
def Tile.programWords (x : Tile) (sub : Nat) : Words :=
  (List.range 96).map (fun i => if 4096 ≤ 96 * sub + i then 0 else Sp.getD x.pmem (96 * sub + i) 0)

def Tile.setProgram (x : Tile) (sub : Nat) (ws : Words) : Tile :=
  { x with
    pmem := foldN 96 x.pmem (fun m i => if 4096 ≤ 96 * sub + i then m else Sp.set m (96 * sub + i) (ws.getD i 0) 0)
    repValid := false }

def State.setFound (s : State) (w t sub : Nat) (ws : Words) : State :=
  { s with found := foldN 96 s.found (fun m i => Sp.set m (foundKey w t sub i) (ws.getD i 0) 0) }

def State.setFrameCode (s : State) (w t typ sub : Nat) (c : BitVec 16) : State :=
  { s with frameCode := Sp.set s.frameCode (codeKey w t typ sub) c 0 }

/-- A FOUNDATION frame is written (R445): sub-frame 0 sets the tile-memory modes. -/
def State.writeFoundation (s : State) (w t sub : Nat) (ws : Words) : State :=
  let s1 := (s.setFound w t sub ws).setFrameCode w t 0 sub (frameCodeOf (ofWords ws))
  if sub = 0 then s1.wr (R.TMEM_CFG w t) (ws.getD 4 0) else s1

/-- A PROGRAM frame is written (R164, R447). -/
def State.writeProgram (s : State) (w t sub : Nat) (ws : Words) : State :=
  let s1 := s.setTile w t ((s.tile w t).setProgram sub ws)
  s1.setFrameCode w t 1 sub (frameCodeOf (ofWords ((s1.tile w t).programWords sub)))

/-- A TMEM_INIT frame is written: memory bit 3072 sub + j of TMEM.m, six bits a unit (R447). -/
def State.writeTmem (s : State) (w t m sub : Nat) (ws : Words) : State :=
  let d := ofWords ws
  let x := s.tile w t
  s.setTile w t { x with tmem := foldN 512 x.tmem (fun mem i => Sp.set mem (m * 4096 + 512 * sub + i) (BitVec.ofNat 6 (d >>> (6 * i))) 0) }

/-- A library slot is written with its code (R91, R444), through the kiln write port: its SRAM words hold no error then. -/
def State.writeLibrary (s : State) (w t n : Nat) (ws : Words) : State :=
  (s.sramWrite w 0 (libOffset t n) (bytesOfWords (ws.take 96) ++ leBytes 2 (frameCodeOf (ofWords ws)).toNat ++ List.replicate 6 0)).1

/-! ### Wall-level frames (R448, R449) -/
/-- The claim that a wall-level write takes: of a pin, a compare unit or a link lane. -/
def wallClaim (w typ off : Nat) : Option Nat :=
  if typ = 8 && off < 0x10000 then some (claimLink w (off / 0x1000))
  else if typ = 9 && off < 0x180 then some (claimPin w (off / 0x10))
  else if typ = 11 && 0x400 ≤ off && off < 0x600 then some (claimAcu w ((off - 0x400) / 0x20))
  else none

def State.giveClaim (s : State) (a m : Nat) : State := (s.setFl a F.CLAIM_holder m).setFl a F.CLAIM_held 1

/-- One pair of a wall-level frame, as a register write of the load master. -/
def State.applyPair (s : State) (m : Nat) (w : Wall) (typ : Nat) (d v : Word) : State × Nat :=
  match wallFrame typ with
  | none => refuse s stBadArg
  | some (base, limit) =>
    let off := fld d ⟨0, 20⟩
    if fld d ⟨31, 1⟩ = 0 then (s, 0)
    else if limit ≤ off || off % 4 ≠ 0 then refuse s stBadArg
    else
      let s1 := match wallClaim w.val typ off with
        | some a => s.giveClaim a m
        | none => s
      if typ = 10 then s1.bondRegWrite w (base + off) v true else s1.wallRegWrite m w (base + off) v

/-- The pairs of a frame in order, up to the first that fails. -/
def State.applyPairs (s : State) (m : Nat) (w : Wall) (typ : Nat) : Words → State × Nat
  | d :: v :: r =>
    let a := s.applyPair m w typ d v
    if a.2 ≠ 0 then a else a.1.applyPairs m w typ r
  | _ => (s, 0)

/-! ### Failures and the header (R450, R452) -/
def State.kiln (s : State) (w : Nat) : KilnX := (s.wall w).kiln
def State.setKiln (s : State) (w : Nat) (k : KilnX) : State := s.setWall w { (s.wall w) with kiln := k }

/-- The length of the LOAD or REPLAY phase is recorded. -/
def State.loadTime (s : State) (w : Nat) : State :=
  s.wr (R.KILN_LOAD_TIME w) (BitVec.ofNat 32 ((s.tick - (s.kiln w).startedAt) / 1250))

/-- A wall's load or replay fails. -/
def State.failLoad (s : State) (w status : Nat) (floc : Word) : State :=
  ((s.loadTime w).kilnError w status floc).failWall w status

/-- The status that a header deserves, for a kind of image: 0 when it is good. -/
def headerStatus (kind : Nat) (h : Words) : Nat :=
  let h0 := (h.getD 0 0).toNat
  let h1 := (h.getD 1 0).toNat
  let h2 := (h.getD 2 0).toNat
  if h0 ≠ 0x5A3CC3A5 || h1 % 65536 ≠ 1 + kind * 256 || h2 % 65536 ≠ 1 then stBadArg
  else if crc32c (bytesOfWords (h.take 7)) ≠ (h.getD 7 0).toNat then stFrameCrc
  else 0

/-- Whether frames may be taken from a wall's stream. -/
def State.kilnTakes (s : State) (w : Nat) : Bool :=
  s.phase w = 3 && (s.kiln w).zeroed && !(s.kiln w).ended

/-- What the stream shows as soon as it can be seen: a bad header, or an end before the END record. -/
def State.kilnLook (s : State) (w : Nat) : State :=
  let k := s.kiln w
  if !s.kilnTakes w then s
  else
    let s1 :=
      if k.header.isNone && 8 ≤ k.got.length then
        let h := k.got.take 8
        let st := headerStatus 1 h
        if st ≠ 0 then s.failLoad w st 0 else s.setKiln w { k with header := some h, got := k.got.drop 8 }
      else s
    let k1 := s1.kiln w
    if s1.kilnTakes w && k1.fin && (k1.header.isNone || decide (k1.got.length < 98)) then s1.failLoad w stBadArg 0 else s1

/-! ### Streams (R454) -/
/-- KILN_STREAM_PACKET: a write packet at the kiln stream port. While the wall resets or is being zeroed, the port holds
it back. -/
def execKilnStreamPacket (w : Wall) (p : Packet) (s : State) : Out :=
  let busy := s.phase w.val = 1 || s.phase w.val = 2 || (s.phase w.val = 3 && !(s.kiln w.val).zeroed)
  if s.populated w.val && busy then .next s
  else endpointRow w.val 23 1 p s (fun s =>
    let w := w.val
    let k := s.kiln w
    let first := nbit p.addr.toNat 0
    let last := nbit p.addr.toNat 1
    if p.typ ≠ 0 then (s, .nack stBadArg)
    else if 32 < p.mid.toNat then (s, .nack stAccessDenied)
    else if 4 ≤ p.addr.toNat || p.count % 4 ≠ 0 then (s, .nack stBadArg)
    else if first = k.open_ then (s, .nack stBadArg)
    else
      let words := wordsOfBytes (p.payload.take p.count)
      let k1 := { k with
        open_ := !last
        got := if s.kilnTakes w then k.got ++ words else k.got
        fin := if s.kilnTakes w then last else k.fin }
      let s1 := (s.setKiln w k1).setFl (R.KILN_STATUS w) F.KILN_STATUS_stream (b2n (!last))
      (s1.kilnLook w, .comp 0))

/-! ### Frames (R452, R453) -/
/-- A taken frame whose CRC and fields are good is written: its status. -/
def State.writeFrame (s : State) (w : Wall) (m : Nat) (l : Word) (d : Words) : State × Nat :=
  let t := flocTile l
  let typ := flocType l
  if typ = 0 then (s.writeFoundation w.val t (flocSub l) d, 0)
  else if typ = 1 then (s.writeProgram w.val t (flocSub l) d, 0)
  else if typ = 2 then (s.writeTmem w.val t (flocSlot l) (flocSub l) d, 0)
  else if typ = 3 then (s.writeLibrary w.val t (flocSlot l) d, 0)
  else if 668 ≤ (s.kiln w.val).frames.length then refuse s stBadArg
  else
    let r := s.applyPairs m w typ d
    if r.2 = 0 then (r.1.setKiln w.val { (r.1.kiln w.val) with frames := (r.1.kiln w.val).frames ++ [(l, d)] }, 0) else r

/-- Whether the next record of a wall's stream is `ws`. -/
def State.nextRecord (s : State) (w : Nat) (ws : Words) : Bool :=
  let k := s.kiln w
  s.kilnTakes w && k.header.isSome && ws.length = 98 && k.got.take 98 = ws

/-- Whether a record's CRC word is right (R443). -/
def recordCrcOk (ws : Words) : Bool := crc32c (bytesOfWords (ws.take 97)) = (ws.getD 97 0).toNat

/-- KILN_FRAME: the next record of the stream, other than END. -/
def execKilnFrame (w : Wall) (ws : Words) (s : State) : Out :=
  onWall w.val s (fun s =>
    let l := ws.getD 0 0
    let k := s.kiln w.val
    if !s.nextRecord w.val ws || flocType l = 0x1F then s
    else
      let s1 := s.setKiln w.val { k with got := k.got.drop 98, records := k.records + 1 }
      if !(flocBcast l || flocWall l = w.val || k.bcast) then ((s1.bump (R.KILN_SKIP_COUNT w.val)).kilnLook w.val)
      else if !recordCrcOk ws then s1.failLoad w.val stFrameCrc l
      else if !frameFieldsOk l then s1.failLoad w.val stBadArg l
      else
        let r := s1.writeFrame w k.master.toNat l ((ws.drop 1).take 96)
        if r.2 ≠ 0 then r.1.failLoad w.val r.2 l else (r.1.bump (R.KILN_FRAME_COUNT w.val)).kilnLook w.val)

/-! ### The END record (R446, R451) -/
/-- The `kind` of a static-drive entry: code 0b11 acts as 0b00. -/
def staticKind (e : Nat) : Nat := if e / 64 = 3 then 0 else e / 64

/-- The mode of track k of the segment east of tile t: 0 arbitrated, 1 static west, 2 static east, 3 off; none:
DRIVE_CONFLICT. -/
def State.resolveTrack (s : State) (w t k : Nat) : Option Nat :=
  let a := staticKind (s.staticEntry w t (8 + k))
  let b := staticKind (s.staticEntry w (t + 1) k)
  if (a = 1 && b ≠ 0) || (a = 2 && b = 1) then none
  else if a = 2 || b = 2 then some 3
  else some (if a = 1 then 1 else if b = 1 then 2 else 0)

/-- The tiles that have a segment to their east. -/
def segmentTiles : List Nat := (List.range 128).filter (fun t => t % 8 ≠ 7)

/-- The west tile of the first conflicting segment, in course then segment order. -/
def State.driveConflict (s : State) (w : Nat) : Option Nat :=
  segmentTiles.find? (fun t => (List.range 8).any (fun k => (s.resolveTrack w t k).isNone))

/-- Every track of the wall takes its mode. -/
def State.setSpine (s : State) (w : Nat) : State :=
  segmentTiles.foldl (fun (a : State) t =>
    a.wr (R.SPINE_CFG w t) (BitVec.ofNat 32 (((List.range 8).map (fun k => (s.resolveTrack w t k).getD 0 * 4 ^ k)).foldl (· + ·) 0))) s

/-- Offset of the replay store in bank 6 (R470), and the bytes of one of its records. -/
def replayOff : Nat := 0x300000
def replayRecord : Nat := 392

/-- A wall-level frame as a record of 98 words. -/
def recordBytes (f : Word × Words) : Bytes :=
  let b := leBytes 4 f.1.toNat ++ bytesOfWords f.2
  b ++ leBytes 4 (crc32c b)

/-- The wall enters RELEASE (R456): the first step comes at the next frame boundary. -/
def State.enterRelease (s : State) (w : Nat) : State :=
  let s1 := (s.loadTime w).setKiln w { (s.kiln w) with ended := true, pos := 1, stepAt := some (s.wall w).cycle }
  let s2 := (s1.setFl (R.BOND_EPOCH w) F.BOND_EPOCH_cur 0).setFl (R.BOND_EPOCH w) F.BOND_EPOCH_drained 1
  (s2.setFl (R.KILN_STATUS w) F.KILN_STATUS_step 1).setPhase w 5

/-- END_RECORD: once nothing more can follow, or more has followed. -/
def execEndRecord (w : Wall) (ws : Words) (s : State) : Out :=
  onWall w.val s (fun s =>
    let w := w.val
    let l := ws.getD 0 0
    let k := s.kiln w
    let more := decide (98 < k.got.length)
    if !s.nextRecord w ws || flocType l ≠ 0x1F || !(k.fin || more) then s
    else
      let s1 := s.setKiln w { k with got := [] }
      let h := k.header.getD []
      if !recordCrcOk ws then s1.failLoad w stFrameCrc l
      else if flocSlot l ≠ 0 || flocSub l ≠ 0 then s1.failLoad w stBadArg l
      else if more || (ws.getD 1 0).toNat ≠ k.records || (h.getD 3 0).toNat ≠ k.records + 1 then s1.failLoad w stBadArg 0
      else match s1.driveConflict w with
        | some t => s1.failLoad w stDriveConflict (frameLoc w t 0 0 0)
        | none =>
          let s2 := (s1.setSpine w).sramWrite w 6 replayOff (k.frames.flatMap recordBytes)
          let s3 := (s2.1.setFl (R.KILN_REPLAY w) F.KILN_REPLAY_frames k.frames.length).wr (R.KILN_IMAGE w) (h.getD 4 0)
          let s4 := s3.setKiln w { (s3.kiln w) with replayMaster := k.master, frames := [] }
          (s4.setFl (R.KILN_STATUS w) F.KILN_STATUS_stream 0).enterRelease w)

/-! ### Boot loads (R455, R463) -/
/-- Setting BOOT_LOAD (R502). -/
def State.bootSetting (s : State) : Nat := (Sp.getD s.trowel.settings 1 0).toNat
def State.bootEntry (s : State) (w : Nat) : Nat := nbits s.bootSetting (3 * w) 2
def State.bootOn (s : State) (w : Nat) : Bool := nbit s.bootSetting (3 * w + 2)

/-- Whether the trowel is still to boot-load a wall. -/
def State.bootDue (s : State) (w : Nat) : Bool :=
  s.populated w && s.bootOn w && !(s.wall w).bootLoaded && s.trowel.lifecycle ≠ 3 && !s.service.safe && !s.trowel.recovery &&
    (Sp.getD s.trowel.store (s.bootEntry w) {}).image.isSome

/-- Whether a wall's boot load has its turn: the images are loaded one after another in index order, the walls of one image
together (R455). -/
def State.bootTurn (s : State) (w : Nat) : Bool :=
  (List.range 8).all (fun v =>
    let k := s.kiln v
    decide (s.bootEntry w ≤ s.bootEntry v) || !s.populated v || s.wallPower v ≠ 0 || s.phase v = 0 || decide (5 ≤ s.phase v) ||
      !(s.bootDue v || (k.isLoad && k.fin && !k.ended)))

/-- The start-up of a load from a store entry: its words stand ready at the kiln. -/
def State.loadEntry (s : State) (w entry : Nat) (chain : Bool) (p : LongCmd → Bool) : State :=
  let s1 := s.beginLoad w chain p
  match (Sp.getD s.trowel.store entry {}).image with
  | none => s1.setWall w { (s1.wall w) with kiln := { (s1.wall w).kiln with fin := true, bcast := true } }
  | some img => s1.setWall w { (s1.wall w) with kiln := { (s1.wall w).kiln with got := wordsOfBytes img.payload, fin := true, bcast := true } }

/-- BOOT_LOAD: the trowel loads a wall that is on from the store entry that its setting names. A load that takes part in
the chain wait holds DONE_OD low. -/
def execBootLoad (w : Wall) (s : State) : Out :=
  onWall w.val s (fun s =>
    let w := w.val
    let ok := s.trowel.running && s.bootDue w && s.wallPower w = 0 && decide (1 ≤ s.phase w) && decide (s.phase w ≤ 3) &&
      (s.kiln w).got.isEmpty && !(s.kiln w).open_ && s.bootTurn w
    if !ok then s
    else
      let chain := s.fl (R.STARTUP_ORDER w) F.STARTUP_ORDER_chain = 1
      let s1 := s.loadEntry w (s.bootEntry w) chain (fun l => l.op = 18)
      let s2 := s1.setWall w { (s1.wall w) with bootLoaded := true }
      if chain then s2.setDone false else s2)

/-! ### RESET, LOCK, LOAD and REPLAY (R456, R457, R461) -/
/-- RESET_PHASE_EXIT: the flush, a secure wipe and the holds are over; the trowel rewrites the secure bank (R492). -/
def execResetPhaseExit (w : Wall) (s : State) : Out :=
  onWall w.val s (fun s =>
    let w := w.val
    let x := s.wall w
    let ok := s.phase w = 1 && !s.flushBusy w && x.wipe.isNone && (!x.kiln.chainWait || s.holdN) &&
      (x.kiln.isLoad || !s.bootDue w) && !s.monHold w && !x.hot && !x.scan && !s.service.safe && !s.trowel.recovery && !s.service.scanHold
    if !ok then s
    else
      let s1 := if s.trowel.running then s.rewriteSecure w else s
      let c := s1.rd (R.MARCH_BOOT w)
      let alg := fld c F.MARCH_BOOT_alg
      let algOf (b : Nat) : Nat := if 6 ≤ b || !x.kiln.isLoad then 2 else alg
      let s2 := if alg = 3 then s1
        else (maskBits 8 (fld c F.MARCH_BOOT_banks)).foldl (fun (a : State) b => a.marchOn w b { alg := algOf b, bg := fld c F.MARCH_BOOT_bg, boot := true }) s1
      (s2.setPhase w 2).showHold w)

/-- LOCK_PHASE_EXIT: the PLLs are locked, training and the boot march are done, the tick copy is aligned. -/
def execLockPhaseExit (w : Wall) (s : State) : Out :=
  onWall w.val s (fun s =>
    let w := w.val
    let x := s.wall w
    if s.phase w ≠ 2 || s.gdState w 0 ≠ 1 || s.gdState w 1 ≠ 1 || !x.march.isEmpty then s
    else
      let s1 := (s.setWall w { x with tickErr := 0, kiln := { x.kiln with startedAt := s.tick } }).setAligned w true
      let s2 := s1.wr (R.KILN_FRAME_COUNT w) 0
      if x.kiln.isLoad then
        let s3 := (s2.wr (R.KILN_SKIP_COUNT w) 0).setPhase w 3
        if x.kiln.got.isEmpty && !x.kiln.open_ && !(s.trowel.running && s.bootDue w) then
          s3.finishLong (fun l => l.op = 18 && cmdArg l.ctx 0 % 4 = 0 && l.onWall w) 0 0 0
        else s3
      else s2.setPhase w 4)

/-- GDDR_TRAINING_DONE: full training, of the start-up or of a retraining command. -/
def execGddrTrainingDone (w : Wall) (d : Fin 2) (s : State) : Out :=
  onWall w.val s (fun s =>
    let w := w.val
    let mine (l : LongCmd) : Bool := l.op = 25 && l.done.isNone && l.onWall w && cmdArg l.ctx 0 % 2 = d.val
    if s.gdServes w d.val || !(s.phase w = 2 || s.longs.any mine) then s
    else (s.setFl (R.GD_STATUS w d.val) F.GD_STATUS_state 1).finishLong mine 0 0 0)

/-- LOAD_ZEROING_DONE: after 65,536 cycles, as many ticks, library, foundation and program frames are zero, with code 0 (R457). -/
def execLoadZeroingDone (w : Wall) (s : State) : Out :=
  onWall w.val s (fun s =>
    let w := w.val
    if s.phase w ≠ 3 || (s.kiln w).zeroed || s.tick < (s.kiln w).startedAt + 65536 then s
    else
      let s1 := (s.zeroBank w 0).zeroBank w 1
      let s2 : State := { s1 with
        found := Sp.offWall s1.found w 49152
        frameCode := Sp.offWall s1.frameCode w 8192
        tiles := s1.tiles.map (fun e => if ofWall w 128 e.1 then (e.1, { e.2 with pmem := [], repValid := false }) else e) }
      let s3 := foldN 128 s2 (fun a t => a.wr (R.TMEM_CFG w t) 0)
      (s3.setKiln w { (s3.kiln w) with zeroed := true }).kilnLook w)

/-- The records of the replay store, from number i: applied in order up to the first that fails. -/
def State.replayFrom (s : State) (w : Wall) : Nat → Nat → State × Option (Nat × Word)
  | 0, _ => (s, none)
  | n + 1, i =>
    let r := s.sramRead w.val 6 (replayOff + i * replayRecord) replayRecord
    let ws := wordsOfBytes (r.1.sramBytes w.val 6 (replayOff + i * replayRecord) replayRecord)
    let l := ws.getD 0 0
    if r.2 then (r.1, some (stDataError, l))
    else
      let a := if (wallFrame (flocType l)).isSome then r.1.applyPairs (r.1.kiln w.val).replayMaster.toNat w (flocType l) ((ws.drop 1).take 96)
        else refuse r.1 stBadArg
      if a.2 ≠ 0 then (a.1, some (a.2, l)) else (a.1.bump (R.KILN_FRAME_COUNT w.val)).replayFrom w n (i + 1)

/-- REPLAY_DONE: the replay store has been applied. -/
def execReplayDone (w : Wall) (s : State) : Out :=
  onWall w.val s (fun s =>
    if s.phase w.val ≠ 4 then s
    else
      let r := s.replayFrom w (s.fl (R.KILN_REPLAY w.val) F.KILN_REPLAY_frames) 0
      match r.2 with
      | some (st, l) => r.1.failLoad w.val st l
      | none => r.1.enterRelease w.val)

/-! ### RELEASE (R458, R459, R465) -/
/-- The start-up step in a position. -/
def State.stepCode (s : State) (w pos : Nat) : Nat := nbits (s.rd (R.STARTUP_ORDER w)).toNat (2 * pos) 2

/-- Global set-reset is released: angle bases and compare units begin to run. -/
def State.fabricStep (s : State) (w : Nat) : State :=
  let s1 := s.setWall w { (s.wall w) with gsr := false }
  let s2 := foldN 4 s1 (fun a n => if a.angSrc w n = 0 then a else a.startBase w n)
  foldN 16 s2 (fun a u => if a.fl (R.ACU_CTRL w u) F.ACU_CTRL_en = 1 then a.acuArm w u else a)

/-- Pins take their functions and links with `en` = 1 begin training. -/
def State.pinsStep (s : State) (w : Nat) : State :=
  let s1 := s.setWall w { (s.wall w) with pinsOn := true }
  foldN 16 s1 (fun a n => if a.fl (R.LK_CTRL w n) F.LK_CTRL_en = 1 then a.startLink w n else a)

def State.takeStep (s : State) (w code : Nat) : State :=
  if code = 1 then s.pinsStep w
  else if code = 2 then s.fabricStep w
  else if code = 3 then s.setWall w { (s.wall w) with tmemWe := true }
  else s

/-- The wall enters READY (R459, R466, R479). -/
def State.enterReady (s : State) (w : Nat) : State :=
  let x := s.wall w
  let s1 := s.setWall w { x with
    lastReport := s.wtick w, silent := false
    point := { x.point.stopped with lastHb := s.tick } }
  let s2 := if x.kiln.isLoad then s1.setFl (R.KILN_STATUS w) F.KILN_STATUS_cfg 1 else s1
  let s3 := ((s2.setFl (R.KILN_STATUS w) F.KILN_STATUS_step 0).setPhase w 6).setWallState w 0
  (s3.wallEvent w 1 (if x.kiln.timedOut then stBusy else 0)).settleStart w 0

/-- START_UP_STEP: at a frame boundary, the next step of RELEASE, the wait for the chain, or READY. -/
def execStartUpStep (w : Wall) (s : State) : Out :=
  onWall w.val s (fun s =>
    let w := w.val
    let k := s.kiln w
    let code := if k.pos = 4 then 0 else s.stepCode w k.pos
    let point := k.chainWait && !k.waited && code = s.fl (R.STARTUP_ORDER w) F.STARTUP_ORDER_done_step
    let waits := point && !s.doneOd
    if s.phase w ≠ 5 || s.slotNow w ≠ 0 || k.stepAt = some (s.wall w).cycle then s
    else if waits then
      (match k.waitFrom with
        | some _ => s
        | none => (s.setKiln w { k with waitFrom := some s.tick }).setFl (R.KILN_STATUS w) F.KILN_STATUS_donew 1)
    else
      let s0 := (s.setKiln w { k with waited := k.waited || point }).setFl (R.KILN_STATUS w) F.KILN_STATUS_donew 0
      if k.pos = 4 then s0.enterReady w
      else
        let s1 := s0.takeStep w code
        (s1.setKiln w { (s1.kiln w) with pos := k.pos + 1, stepAt := some (s1.wall w).cycle }).setFl
          (R.KILN_STATUS w) F.KILN_STATUS_step (if k.pos = 3 then 0 else k.pos + 1))

end Sys2Proof.Machine
end

