-- ==== Sys2Proof/Machine/Point.lean ====
section
/-!
DEFINITION. Machine/Point.lean: the pointing engine: passes over the frames of a wall, corrections, its settings, the
trowel's policy and the heartbeat (R471 to R478).
-/
namespace Sys2Proof.Machine
open Sys2Proof

/-! ### Settings (R476, R477) -/
/-- The majority of three copies, bit by bit. -/
def voted (a b c : Word) : Word := (a &&& b) ||| (a &&& c) ||| (b &&& c)

/-- The settings in force: `en` at bit 0, `ue_act` at [2:1], the interval at [31:16]. -/
def PointX.settings (p : PointX) : Word := voted p.set1 p.set2 p.set3

def PointX.en (p : PointX) : Bool := fld p.settings ⟨0, 1⟩ = 1
def PointX.ueAct (p : PointX) : Nat := fld p.settings ⟨1, 2⟩
def PointX.interval (p : PointX) : Nat := fld p.settings ⟨16, 16⟩

/-- The interval in ticks: one below 1 ms acts as 1 ms (R474). -/
def PointX.intervalTicks (p : PointX) : Nat := max 10 p.interval * 125000

def State.point (s : State) (w : Nat) : PointX := (s.wall w).point
def State.setPoint (s : State) (w : Nat) (p : PointX) : State := s.setWall w { (s.wall w) with point := p }

/-- The settings are loaded from the record in bank 7: not while `wiped` is 1 or the bank cannot be read, and not from a
record whose CRC fails (R334, R477). -/
def State.loadPoint (s : State) (w : Nat) : State :=
  if s.fl (R.SEC_STATUS w) F.SEC_STATUS_wiped = 1 || !s.secureOpen w || !s.bankOn w 7 then s
  else
    let r := s.sramRead w 7 ptRecordOff 12
    let b := r.1.sramBytes w 7 ptRecordOff 12
    if r.2 || crc32c (b.take 8) ≠ ofLeBytes (b.drop 8) then r.1.setFl (R.PT_EVENT w) F.PT_EVENT_rec 1
    else
      let v : Word := BitVec.ofNat 32 (ofLeBytes (b.take 4))
      r.1.setPoint w { (r.1.point w) with set1 := v, set2 := v, set3 := v }

/-- The interval in force is shown. -/
def State.showPoint (s : State) (w : Nat) : State :=
  (s.setFl (R.PT_STATUS w) F.PT_STATUS_interval (s.point w).interval).setFl (R.PT_STATUS w) F.PT_STATUS_running (b2n (s.point w).active)

/-- A pass starts at tile index 0 (R471, R474): the settings are reloaded first. A disabled engine makes no pass. -/
def State.startPass (s : State) (w : Nat) : State :=
  let s1 := s.loadPoint w
  let p := s1.point w
  (s1.setPoint w { p with active := p.en, start := some s.tick, startCycle := (s.wall w).cycle, clean := true, frame := 0, reading := false }).showPoint w

/-- SCRUB_PASS_START: the first pass at READY, the others an interval after the start before them, or when a late pass
ends. -/
def execScrubPassStart (w : Wall) (s : State) : Out :=
  onWall w.val s (fun s =>
    let w := w.val
    let p := s.point w
    if !s.isReady w || p.active then s
    else match p.start with
      | none => s.startPass w
      | some t0 =>
        if s.tick < t0 + p.intervalTicks then s
        else
          let s1 := if t0 + p.intervalTicks < p.endAt then
              (s.bump (R.PT_OVERRUN_COUNT w)).stickyWall (R.PT_EVENT w) F.PT_EVENT_overrun w 25 0 [(p.endAt - t0) / 1250]
            else s
          s1.startPass w)

/-! ### Frames (R471 to R473) -/
/-- Frames of a tile in a pass. -/
def tileFrames : Nat := 55

/-- Whether the engine reads frame p of a pass: not of a gated course (R517), not an invalid way. -/
def State.scrubs (s : State) (w p : Nat) : Bool :=
  let t := p / tileFrames
  let i := p % tileFrames
  !nbit (s.fl (R.WPWR_GATE w) F.WPWR_GATE_gated) (t / 8) && (decide (i < 47) || ((s.tile w t).way (i - 47)).valid)

/-- The first frame from p on that the engine reads; 128 * 55 when none is left. -/
def State.nextScrub (s : State) (w : Nat) : Nat → Nat → Nat
  | 0, p => p
  | k + 1, p => if s.scrubs w p then p else s.nextScrub w k (p + 1)

def State.scrubAt (s : State) (w : Nat) : Nat := s.nextScrub w (128 * tileFrames - (s.point w).frame) (s.point w).frame

def flipBit (d j : Nat) : Nat := setNbit d j (!nbit d j)

/-- A frame was corrected. -/
def State.scrubCe (s : State) (w : Nat) : State :=
  (s.bump (R.PT_CE_COUNT w)).setPoint w { (s.point w) with clean := false }

/-- An uncorrectable frame is counted, recorded and reported. -/
def State.scrubUe (s : State) (w : Nat) (floc : Word) : State :=
  let s1 := (s.bump (R.PT_UE_COUNT w)).setPoint w { (s.point w) with clean := false }
  let s2 := if s1.fl (R.PT_EVENT w) F.PT_EVENT_ue = 0 then s1.wr (R.PT_UE_LOC w) floc else s1
  (s2.setFl (R.PT_EVENT w) F.PT_EVENT_ue 1).raiseWall w 24 0 [floc.toNat]

/-- A FOUNDATION or PROGRAM frame is checked and mended. -/
def State.scrubFrame (s : State) (w t typ sub : Nat) : State :=
  let x := s.tile w t
  let ws := if typ = 0 then s.foundWords w t sub else x.programWords sub
  let code := Sp.getD s.frameCode (codeKey w t typ sub) 0
  match checkFrame (ofWords ws) code with
  | .ok => s
  | .codeBit i => (s.setFrameCode w t typ sub (code ^^^ BitVec.ofNat 16 (2 ^ i))).scrubCe w
  | .dataBit j =>
    let ws' := toWords 96 (flipBit (ofWords ws) j)
    (if typ = 0 then s.setFound w t sub ws' else s.setTile w t (x.setProgram sub ws')).scrubCe w
  | .bad =>
    let s1 := s.scrubUe w (frameLoc w t typ 0 sub)
    if (s.point w).ueAct = 1 then (s1.stopElements w).failWall w stDataError else s1

/-- A cache way is checked and mended, or invalidated; the way in force, or selected for the next cycle (R79), is refilled
as on a demand miss; a pinned slot is requested again (R86). -/
def State.scrubWay (s : State) (w t k : Nat) : State :=
  let x := s.tile w t
  let y := x.way k
  match checkFrame y.pat.toNat y.code with
  | .ok => s
  | .codeBit i => (s.setTile w t (x.setWay k { y with code := y.code ^^^ BitVec.ofNat 16 (2 ^ i) })).scrubCe w
  | .dataBit j => (s.setTile w t (x.setWay k { y with pat := BitVec.ofNat 3072 (flipBit y.pat.toNat j) })).scrubCe w
  | .bad =>
    let x1 := x.setWay k { y with valid := false, stale := false, prot := false, forFlow := none }
    let s1 := s.setTile w t { x1 with curWay := if x.curWay = some k then none else x.curWay }
    let s2 := if x.curWay = some k && decide (x.stall ≠ Stall.pattern) then s1.selectSlot w t y.slot else s1
    (s2.requestPins w t).scrubUe w (frameLoc w t 4 k 0)

/-- SCRUB_FRAME_CHECK: the next frame of the pass. A refill in progress in the tile has the frame port first: the scrub
of a way pauses, and gives the way up if a refill has filled it meanwhile (R93, R95, R473). -/
def execScrubFrameCheck (w : Wall) (s : State) : Out :=
  onWall w.val s (fun s =>
    let w := w.val
    let p := s.point w
    let f := s.scrubAt w
    if !s.isReady w || !p.active || 128 * tileFrames ≤ f then s
    else
      let t := f / tileFrames
      let i := f % tileFrames
      let x := s.tile w t
      let on := p.reading && f = p.frame
      let busy := x.refill.isSome || s.capReads w t
      if busy && !on then
        (if i < 47 then s
         else (s.setTile w t { x with scrubWay := some (i - 47) }).setPoint w { p with frame := f, reading := true })
      else if busy then s
      else
        let s0 := (s.setTile w t { x with scrubWay := none }).setPoint w { p with frame := f + 1, reading := false }
        if on && x.scrubWay.isNone then s0
        else if i < 4 then s0.scrubFrame w t 0 i
        else if i < 47 then s0.scrubFrame w t 1 (i - 4)
        else s0.scrubWay w t (i - 47))

/-! ### The end of a pass (R475, R478) -/
/-- The trowel's policy after a pass: the new interval, and clean passes in a row. -/
def policyAfter (clean : Bool) (passes iv lo hi : Nat) : Nat × Nat :=
  if !clean then (max lo (iv / 2), 0)
  else if 15 ≤ passes then (min hi (2 * iv), 0)
  else (iv, passes + 1)

/-- SCRUB_PASS_END. -/
def execScrubPassEnd (w : Wall) (s : State) : Out :=
  onWall w.val s (fun s =>
    let w := w.val
    let p := s.point w
    if !s.isReady w || !p.active || s.scrubAt w < 128 * tileFrames then s
    else
      let auto := s.fl (R.PT_CFG w) F.PT_CFG_auto = 1 && s.trowel.running
      let a := policyAfter p.clean p.cleanPasses p.interval (s.fl (R.PT_POLICY w) F.PT_POLICY_min) (s.fl (R.PT_POLICY w) F.PT_POLICY_max)
      let s1 := s.setPoint w { p with active := false, endAt := s.tick, lastHb := s.tick, cleanPasses := (if auto then a.2 else 0) }
      let s2 := ((s1.bump (R.PT_PASS_COUNT w)).wr (R.PT_PASS_TIME w) (BitVec.ofNat 32 ((s.wall w).cycle - p.startCycle))).showPoint w
      if auto && a.1 ≠ p.interval then (s2.writePtRecord w a.1).raiseHub 29 0 [1, w, a.1] else s2)

/-- SCRUB_HEARTBEAT: no heartbeat within twice the interval plus 1 ms; the hub resets the engine. -/
def execScrubHeartbeat (w : Wall) (s : State) : Out :=
  onWall w.val s (fun s =>
    let w := w.val
    let p := s.point w
    if !s.isReady w || s.fl (R.PT_CFG w) F.PT_CFG_en = 0 || s.tick ≤ p.lastHb + 2 * p.intervalTicks + 1250000 then s
    else
      let s1 := (s.setPoint w { lastHb := s.tick }).startPass w
      ((s1.bump (R.PT_HB_COUNT w)).setFl (R.PT_EVENT w) F.PT_EVENT_hb 1).raiseHub 8 0 [w])

end Sys2Proof.Machine
end

