-- ==== Sys2Proof/Machine/Power.lean ====
section
/-!
DEFINITION. Machine/Power.lean: power states, resets of the module, monitors, telemetry, course gating, clock steps and
the thermal policies (R505 to R526).
-/
namespace Sys2Proof.Machine
open Sys2Proof

/-! ### Module reset (R505, R518, R519, R526) -/
/-- The register whose reset value a setting holds (R526). -/
def settingReg (n : Nat) : Option Nat :=
  if inRange 0x100 n 0x107 then some (R.WPWR_CLK (n - 0x100))
  else if n = 0x108 then some R.PWR_FAN
  else if n = 0x109 then some R.PWR_WDT
  else if inRange 0x120 n 0x177 && monKind (n - 0x120) ≠ 0 then some (R.MON_LIM (n - 0x120))
  else if inRange 0x180 n 0x1D7 && monKind (n - 0x180) ≠ 0 then some (R.MON_CFG (n - 0x180))
  else none

/-- Setting GDDR_ECC in force: it takes effect at a module reset (R344, R502). -/
def State.loadEcc (s : State) : State :=
  if (Sp.getD s.trowel.settings 2 0).toNat % 2 = 0 then s
  else foldN 8 s (fun a w => a.setFl (R.GD_CFG w) F.GD_CFG_ecc 1)

/-- The registers of the power block take their settings, where one has been written. -/
def State.loadSettings (s : State) : State :=
  s.trowel.settings.foldl (fun (a : State) e =>
    match settingReg e.1 with
    | some r => a.plain r e.2
    | none => a) s.loadEcc

/-- What MRAM and the hub's key store keep of the trowel. -/
def TrowelX.kept (t : TrowelX) : TrowelX :=
  { slotA := t.slotA, slotB := t.slotB, store := t.store, settings := t.settings, settingsGen := t.settingsGen,
    settingLines := t.settingLines, bootFails := t.bootFails, bootCause := t.bootCause, bootSeq := t.bootSeq, lastBoot := t.lastBoot, lifecycle := t.lifecycle, schema := t.schema,
    runSlot := t.runSlot, tryPrevious := t.tryPrevious }

/-- A module reset: everything at its reset value but MRAM, the part, what has been sent, and what the CXL link keeps. HOLD_N and DONE_OD
are low, the trowel boots. -/
def State.moduleReset (s : State) (cause mon : Nat) (cxl : CxlX) : State :=
  let s0 : State := { State.reset with
    part := s.part, fresh := s.fresh, log := s.log, logCount := s.logCount, trowel := s.trowel.kept
    hostOut := s.hostOut, cxl := cxl, chain := { sent := s.chain.sent }, service := { ir := s.service.ir, out := s.service.out }, pending := s.pending }
  let s1 := (s0.wr R.PWR_CAUSE (BitVec.ofNat 32 (cause + mon * 256))).loadSettings
  if s.service.safe then s1.raiseHub 13 1 [] else s1

/-- Every regulator switches off at once. -/
def State.brownOut (s : State) : State :=
  let s1 := s.moduleReset 5 0 {}
  { s1 with powered := false, service := { s1.service with ir := 2 } }

/-- BROWN_OUT: VIN below 4.0 V for 1 µs. -/
def execBrownOut (s : State) : Out := .next (if s.powered then s.brownOut else s)

/-- POWER_ON: VIN rises above 4.2 V on a module that is off. -/
def execPowerOn (s : State) : Out :=
  .next (if s.powered then s else s.moduleReset (s.fl R.PWR_CAUSE F.PWR_CAUSE_cause) 0 {})

/-- RST_N_ASSERT: RST_N low for some nanoseconds (R518, R561): 1 µs or more resets the module, less than 100 ns does
nothing, and between them the outcome is free. -/
def execRstNAssert (ns : Nat) (s : State) : Out :=
  .next (if !s.powered then s
    else if 1000 ≤ ns then s.moduleReset 1 0 {}
    else if ns < 100 then s
    else if Config.freeReset s.fresh = 1 then ({ s with fresh := s.fresh + 1 } : State).moduleReset 1 0 {}
    else { s with fresh := s.fresh + 1 })

/-- CXL_RESET: a module reset that keeps the CXL link trained. -/
def execCxlReset (s : State) : Out := .next (if s.powered then s.moduleReset 2 0 s.cxl else s)

/-! ### Wall power states (R507, R514, R515) -/
/-- The clock step that a wall's settings ask for, where the policy does not choose it (R523). -/
def State.wantClock (s : State) (w : Nat) : State :=
  let x := s.wall w
  let h := s.fl (R.WPWR_CLK w) F.WPWR_CLK_hold
  let k := if h = 3 then 0 else h
  if s.fl (R.WPWR_CLK w) F.WPWR_CLK_auto = 1 then s
  else if k = s.clockStep w then s.setWall w { x with pendStep := none }
  else s.setWall w { x with pendStep := some (k, false) }

/-- A wall whose rails have been off powers up and enters RESET. -/
def State.powerUp (s : State) (w : Nat) (p : LongCmd → Bool) : State := (s.enterReset w true false p).wantClock w

/-- Everything that a wall holds is lost: registers, memories, flops. Cycles go on being counted, and the part's ECC setting
stays as the module reset left it (R344, R361). -/
def State.loseWall (s : State) (w : Nat) : State :=
  let x := s.wall w
  let s1 := (s.dropRegs (fun a => match wallOfAddr a with | some (v, _) => decide (v = w) | none => false)).releaseClaims w
  let s2 : State := { s1 with
    pairs := s1.pairs.filter (fun e => match wallOfAddr e.1 with | some (v, _) => decide (v ≠ w) | none => true)
    tiles := Sp.offWall s1.tiles w 128
    gddrx := Sp.offWall s1.gddrx w 2
    sram := Sp.offWall s1.sram w 0x2000000
    sramErr := Sp.offWall s1.sramErr w 0x400000
    gddr := Sp.offWall s1.gddr w (2 * 0xC0000000)
    gddrErr := Sp.offWall s1.gddrErr w (2 * 0xC0000000 / 32)
    found := Sp.offWall s1.found w 49152
    frameCode := Sp.offWall s1.frameCode w 8192 }
  let s3 := (s2.setFl (R.GD_CFG w) F.GD_CFG_ecc (s.fl (R.GD_CFG w) F.GD_CFG_ecc)).setFl R.MT_ALIGN ⟨w, 1⟩ 0
  s3.setWall w { cycle := x.cycle, frameOfs := x.frameOfs, tickErr := x.tickErr, hot := x.hot, tsbBy := x.tsbBy, coolSince := x.coolSince,
                 scan := x.scan }

/-- The monitors of a wall's rails and sensors that compare nothing in a power state (R512, R536): in STANDBY those of
rails 0 to 3. -/
def deadMons (w g : Nat) : List Nat := (List.range (if g = 1 then 4 else 10)).map (fun k => 8 + 10 * w + k)

/-- A wall's rails take the state STANDBY (1) or OFF (2): its flops stop. -/
def State.wallDown (s : State) (w : Wall) (g : Nat) : State :=
  let n := w.val
  let s1 := (s.stopElements n).discardWall n
  let s2 := if g = 2 then s1.loseWall n else s1
  let s3 := (deadMons n g).foldl (fun (a : State) m => (a.setFl (R.MON_CFG m) F.MON_CFG_active 0).setMon m { (a.mon m) with run := 0 }) s2
  let x := s3.wall n
  let s4 := s3.setWall n { x with
    goal := none, closing := [], release := Sp.put (Sp.drop (s.wall n).release 16) 16 (Sp.getD (s.wall n).release 16 s.tick), pendStep := none, stepCool := none, hotSince := none }
  let s5 := [F.KILN_STATUS_stream, F.KILN_STATUS_donew, F.KILN_STATUS_step].foldl (fun (a : State) f => a.setFl (R.KILN_STATUS n) f 0) s4
  let s6 := (((s5.setPhase n 0).setWallState n 3).setFl (R.WPWR_CTRL n) F.WPWR_CTRL_state g).showHold n
  s6.finishLong (fun l => l.op = 18 && l.onWall n && cmdArg l.ctx 0 % 4 = g) 0 0 0

/-- How far the change to STANDBY or OFF has come (R515): the drain, then the flush, then the rails. -/
def State.downProgress (s : State) (w : Wall) : State :=
  let n := w.val
  match (s.wall n).goal with
  | none => s
  | some g =>
    let s1 := if wallState s n = 2 && !s.inDomain (.wall w) then s.domainOff (.wall w) else s
    if wallState s1 n ≠ 3 then s1
    else
      let s2 := if s1.gdState n 0 = 0 && s1.gdState n 1 = 0 then s1 else s1.startFlush n
      if s2.flushBusy n then s2 else s2.wallDown w g

/-- A wall begins to enter STANDBY (1) or OFF (2); `p` names the command that asked for it. -/
def State.beginDown (s : State) (w : Wall) (g : Nat) (p : LongCmd → Bool) : State :=
  let n := w.val
  let s1 := s.endLongs n stDomainOff p
  if s1.wallOff n then s1.wallDown w g
  else
    let s2 := (s1.setWall n { (s1.wall n) with goal := some g }).setFl (R.WPWR_CTRL n) F.WPWR_CTRL_state 3
    (s2.closeDomain (.wall w)).downProgress w

/-- A wall leaves STANDBY or OFF. -/
def State.beginUp (s : State) (w : Nat) (p : LongCmd → Bool) : State :=
  let s1 := s.setWall w { (s.wall w) with tsbBy := false, coolSince := none }
  if s.wallPower w = 2 then s1.powerUp w p else s1.beginReset w p

/-- WALL_POWER_UP: after the boot the trowel powers up the walls one at a time, 1 ms apart (R507). -/
def execWallPowerUp (w : Wall) (s : State) : Out :=
  onWall w.val s (fun s =>
    let t := s.trowel
    let due := match t.upAt with | some t0 => decide (t0 + 1250000 ≤ s.tick) | none => true
    if !s.powered || !(t.running || t.recovery) || t.upNext ≠ w.val || !due then s
    else
      let s1 : State := { s with trowel := { t with upNext := w.val + 1, upAt := some s.tick } }
      if s1.wallPower w.val = 2 && s1.fl (R.WPWR_CTRL w.val) F.WPWR_CTRL_ocp = 0 then s1.powerUp w.val (fun _ => false) else s1)

/-! ### Stop-wall actions (R511) -/
/-- A stop-wall action on a wall: a wall reset unless it is in STANDBY or OFF. -/
def State.stopWall (s : State) (w : Nat) : State :=
  if s.populated w && !s.wallOff w then s.beginReset w (fun _ => false) else s

def State.stopWalls (s : State) (ws : List Nat) : State := ws.foldl (fun (a : State) w => a.stopWall w) s

def State.showHolds (s : State) : State := foldN 8 s (fun a w => a.showHold w)

/-! ### Monitors (R508 to R512) -/
/-- The wall of a monitor of a wall. -/
def monWall (m : Nat) : Nat := (m - 8) / 10
def isSensor (m : Nat) : Bool := monKind m = 3 || monKind m = 5

/-- The limits of a monitor, signed for a sensor. -/
def State.monLimits (s : State) (m : Nat) : Int × Int :=
  let v := s.rd (R.MON_LIM m)
  if isSensor m then (sInt 16 (fld v F.MON_LIM_lo), sInt 16 (fld v F.MON_LIM_hi)) else (fld v F.MON_LIM_lo, fld v F.MON_LIM_hi)

/-- Whether a monitor compares at all (R512). -/
def State.monLive (s : State) (m : Nat) : Bool :=
  monKind m ≠ 0 && decide (m < 88) && s.fl (R.MON_CFG m) F.MON_CFG_calfail = 0 &&
    (decide (m < 8) || (s.populated (monWall m) && s.wallPower (monWall m) ≠ 2 &&
      (s.wallPower (monWall m) ≠ 1 || decide (4 ≤ (m - 8) % 10))))

/-- The event of a monitor (R509), with the value of the compare. -/
def State.monEvent (s : State) (m : Nat) (low : Bool) (v : Int) : State :=
  let n := wrapN 32 v
  match monKind m with
  | 1 => s.raiseHub 9 (if low then 0 else 1) [n]
  | 2 => s.raiseHub 10 0 [m - 1, n]
  | 3 => s.raiseHub 11 0 [m - 4, n]
  | 4 => s.raiseWall (monWall m) 27 0 [(m - 8) % 10, n]
  | 5 => s.raiseWall (monWall m) 28 0 [(m - 8) % 10 - 6, n]
  | _ => s

/-- One compare of a monitor; the action that applies: 0 to 3. -/
def State.monCompare (s : State) (m : Nat) (v : Int) : State × Nat :=
  if !s.monLive m then (s, 0)
  else
    let c := s.rd (R.MON_CFG m)
    let l := s.monLimits m
    let out := decide (v < l.1) || decide (l.2 < v)
    let x := s.mon m
    if out = (fld c F.MON_CFG_active = 1 : Bool) then (s.setMon m { x with run := 0 }, 0)
    else if x.run < fld c F.MON_CFG_deb then (s.setMon m { x with run := x.run + 1 }, 0)
    else
      let s1 := (s.setMon m { x with run := 0 }).setFl (R.MON_CFG m) F.MON_CFG_active (b2n out)
      if !out || fld c F.MON_CFG_en = 0 then (s1, 0)
      else
        let s2 := s1.setFl (R.MON_CFG m) F.MON_CFG_seen 1
        let act := fld c F.MON_CFG_act
        if act = 0 then (s2, 0) else (s2.monEvent m (decide (v < l.1)) v, act)

/-- A set of compares, and the strongest action among the monitors that became active (R512). -/
def State.compareAll (s : State) (vs : List (Nat × Int)) : State :=
  let r := vs.foldl (fun (a : State × List (Nat × Nat)) e =>
    let c := a.1.monCompare e.1 e.2
    (c.1, if 2 ≤ c.2 then a.2 ++ [(e.1, c.2)] else a.2)) (s, [])
  match r.2.find? (fun e => e.2 = 3) with
  | some e => r.1.moduleReset 3 e.1 r.1.cxl
  | none =>
    let ws := r.2.flatMap (fun e => if e.1 < 8 then List.range 8 else [monWall e.1])
    (r.1.stopWalls ((List.range 8).filter (fun w => ws.contains w))).showHolds

/-- Whether a periodic event may come: never before, or `t` ticks after the last. -/
def State.periodOver (s : State) (last : Option Nat) (t : Nat) : Bool :=
  match last with
  | some t0 => decide (t0 + t ≤ s.tick)
  | none => true

/-- VOLTAGE_COMPARE: every 1 µs (1,250 ticks) each voltage monitor compares its rail. -/
def execVoltageCompare (mv : Samples) (s : State) : Out :=
  .next (if !s.powered || !s.periodOver s.service.cmpAt 1250 then s
    else ({ s with service := { s.service with cmpAt := some s.tick } } : State).compareAll
      ((mv.filter (fun e => !isSensor e.1)).map (fun e => (e.1, (e.2 : Int)))))

/-! ### Telemetry (R513, R521, R525) -/
/-- A sample of a monitored quantity: MON_VALUE and MON_PEAK. -/
def State.monSample (s : State) (m : Nat) (v : Int) (cur : Nat) : State :=
  let big := if isSensor m || monKind m = 1 then 0 else cur % 65536
  let s1 := s.wr (R.MON_VALUE m) (BitVec.ofNat 32 (wrapN 16 v + big * 65536))
  let p := s1.rd (R.MON_PEAK m)
  let get (f : Fld) : Int := if isSensor m then sInt 16 (fld p f) else fld p f
  let lo := if (s.mon m).fresh then v else min v (get F.MON_PEAK_min)
  let hi := if (s.mon m).fresh then v else max v (get F.MON_PEAK_max)
  (s1.wr (R.MON_PEAK m) (BitVec.ofNat 32 (wrapN 16 lo + wrapN 16 hi * 65536))).setMon m { (s1.mon m) with fresh := false }

/-- The latest sample of a sensor. -/
def State.sensor (s : State) (m : Nat) : Int := sInt 16 (s.fl (R.MON_VALUE m) F.MON_VALUE_value)

def maxInt : List Int → Int → Int
  | [], x => x
  | y :: r, x => maxInt r (max x y)

/-- The hottest sensor of a wall. -/
def State.hottest (s : State) (w : Nat) : Int :=
  maxInt ([7, 8, 9].map (fun k => s.sensor (8 + 10 * w + k))) (s.sensor (8 + 10 * w + 6))

def State.tmax (s : State) (w : Nat) : Int := sInt 16 (s.fl (R.WPWR_POWER w) F.WPWR_POWER_tmax)

/-- A threshold of WPWR_CLK in °C. -/
def State.stepLimit (s : State) (w k : Nat) : Int :=
  sInt 8 (s.fl (R.WPWR_CLK w) (if k = 1 then F.WPWR_CLK_step1 else F.WPWR_CLK_step2))

/-- How long a condition has held: since when, or not at all. -/
def since (on : Bool) (old : Option Nat) (now : Nat) : Option Nat :=
  if on then (match old with | some t => some t | none => some now) else none

/-- A wall's power and temperature, and how long the thermal policies' conditions have held (R523, R525). -/
def State.wallTelemetry (s : State) (w cw : Nat) : State :=
  let t := s.hottest w
  let s1 := s.wr (R.WPWR_POWER w) (BitVec.ofNat 32 (cw % 65536 + wrapN 16 t * 65536))
  let x := s1.wall w
  let k := s1.clockStep w
  s1.setWall w { x with
    stepCool := since (k ≠ 0 && decide (t < s1.stepLimit w k - 5)) x.stepCool s1.tick
    hotSince := since (s1.wallPower w = 0 && k = 2 && decide (s1.stepLimit w 2 + 5 ≤ t)) x.hotSince s1.tick
    coolSince := since (x.tsbBy && decide (t < s1.stepLimit w 1 - 5)) x.coolSince s1.tick }

/-- Over-temperature (R513): at or above 125 °C the wall stops, until every sensor is below 110 °C. -/
def State.overTemp (s : State) (w : Nat) : State :=
  let t := s.hottest w
  let x := s.wall w
  if s.wallPower w = 2 then s
  else if 125 ≤ t && !x.hot then ((s.setWall w { x with hot := true }).stopWall w).showHold w
  else if t < 110 && x.hot then (s.setWall w { x with hot := false }).showHold w
  else s

/-- The fan request for a temperature (R525). -/
def fanFor (t lo hi : Int) : Nat := if t ≤ lo then 0 else if hi ≤ t then 100 else ((t - lo) * 100 / (hi - lo)).toNat

/-- The fan request follows the hottest sensor of the module, where the policy sets it. -/
def State.fanPolicy (s : State) : State :=
  let c := s.rd R.PWR_FAN
  if fld c F.PWR_FAN_auto = 0 then s.setFl R.PWR_FAN F.PWR_FAN_req (fld c F.PWR_FAN_manual)
  else if !s.trowel.running then s
  else
    let walls := (List.range 8).filter (fun w => s.populated w && s.wallPower w ≠ 2)
    let t := maxInt (walls.map s.hottest) (max (s.sensor 4) (s.sensor 5))
    let r := fanFor t (sInt 8 (fld c F.PWR_FAN_lo)) (sInt 8 (fld c F.PWR_FAN_hi))
    if r = fld c F.PWR_FAN_req then s else (s.setFl R.PWR_FAN F.PWR_FAN_req r).raiseHub 29 0 [3, 0, r]

/-- TELEMETRY_SAMPLE: every 1 ms (1,250,000 ticks). -/
def execTelemetrySample (t : Telemetry) (s : State) : Out :=
  .next (if !s.powered || !s.periodOver s.service.telAt 1250000 then s
  else
    let s0 : State := { s with service := { s.service with telAt := some s.tick } }
    let s1 := ((s0.wr R.TEL_VIN (BitVec.ofNat 32 (t.vin % 65536))).wr R.TEL_IIN (BitVec.ofNat 32 (t.iin % 1048576))).wr
      R.TEL_PIN (BitVec.ofNat 32 (t.vin * t.iin / 10000 % 65536))
    let s2 := s1.bump R.TEL_COUNT
    let ms := t.mons.filter (fun e => monKind e.1 ≠ 0 && decide (e.1 < 88))
    let s3 := ms.foldl (fun (a : State) e => a.monSample e.1 e.2.1 e.2.2) s2
    let s4 := foldN s3.part.walls s3 (fun a w => a.wallTelemetry w (t.power.getD w 0))
    let s5 := (foldN s4.part.walls s4 (fun a w => a.overTemp w)).fanPolicy
    s5.compareAll ((ms.filter (fun e => isSensor e.1)).map (fun e => (e.1, e.2.1))))

/-- The monitors in calibration order, from number m on. -/
def nextMon (walls : Nat) : Nat → Nat → Nat
  | 0, m => m
  | k + 1, m => if m < 8 + 10 * walls then (if monKind m = 0 then nextMon walls k (m + 1) else m) else nextMon walls k 0

/-- CALIBRATION: every 10 ms (12,500,000 ticks) the trowel calibrates the next measurement (R522). -/
def execCalibration (ok : Bool) (s : State) : Out :=
  .next (if !s.powered || !s.trowel.running || !s.periodOver s.service.calAt 12500000 then s
  else
    let m := nextMon s.part.walls 100 s.trowel.calNext
    let s1 : State := { s with trowel := { s.trowel with calNext := nextMon s.part.walls 100 (m + 1) },
                               service := { s.service with calAt := some s.tick } }
    if ok then s1.setFl (R.MON_CFG m) F.MON_CFG_calfail 0
    else
      let s2 := ((s1.setFl (R.MON_CFG m) F.MON_CFG_calfail 1).setFl (R.MON_CFG m) F.MON_CFG_active 0).setMon m { (s1.mon m) with run := 0 }
      let bad := 0xFFFF8000
      let s3 := match monKind m with
        | 1 => s2.raiseHub 9 0 [s2.fl (R.MON_VALUE 0) F.MON_VALUE_value, bad]
        | 2 => s2.raiseHub 10 0 [m - 1, bad]
        | 3 => s2.raiseHub 11 0 [m - 4, bad]
        | 4 => s2.raiseWall (monWall m) 27 0 [(m - 8) % 10, bad]
        | _ => s2.raiseWall (monWall m) 28 0 [(m - 8) % 10 - 6, bad]
      s3.showHolds)

/-! ### Protections (R513) -/
/-- TAMPER: rail 0 or 1 of a wall more than 15 % from its present nominal for 50 ns. -/
def execTamper (w : Wall) (s : State) : Out :=
  onWall w.val s (fun s => if s.wallPower w.val = 2 then s else s.tamper w.val 1)

/-- CURRENT_LIMIT: a regulator's current limit reached for 10 µs. -/
def execCurrentLimit (r : RailRef) (s : State) : Out :=
  match r with
  | .hub _ => .next (if s.powered then s.brownOut else s)
  | .wall w _ => onWall w.val s (fun s =>
      if s.wallPower w.val = 2 then s
      else ((s.endLongs w.val stDomainOff (fun _ => false)).wallDown w 2).setFl (R.WPWR_CTRL w.val) F.WPWR_CTRL_ocp 1)

/-! ### Course gating (R517) -/
/-- Whether a course can be gated (R216): every flow bound to it is FREE, or STOPPED and cold. -/
def State.courseIdle (s : State) (w c : Nat) : Bool :=
  (List.range 512).all (fun f => s.fstate w f = 0 || s.fl (R.FD_BIND w f) F.FD_BIND_course ≠ c || s.fstate w f = 1) &&
  (List.range 8).all (fun t =>
    let x := s.tile w (8 * c + t)
    x.c0.flow.isNone && x.c1.flow.isNone && x.cf.flow.isNone &&
      (x.chan.toList ++ x.chanq).all (fun o => decide (o.kind = HodKind.areas)))

/-- A drained course is gated: its tiles hold memories, program, foundation frames and pattern cache only. -/
def State.gateCourse (s : State) (w : Wall) (c : Fin 16) : State :=
  let g := s.fl (R.WPWR_GATE w.val) F.WPWR_GATE_gated
  let s1 := (s.setFl (R.WPWR_GATE w.val) F.WPWR_GATE_gated (setNbit g c.val true)).wantRelease (.course w c)
  (foldN 8 s1 (fun a t => a.setTile w.val (8 * c.val + t) (a.tile w.val (8 * c.val + t)).woken)).setFl (R.BOND_DOMAIN w.val) ⟨2 * c.val, 2⟩ 3

/-- Closing courses that have drained go off and are gated. -/
def State.gateProgress (s : State) (w : Wall) : State :=
  let go := (s.fl (R.WPWR_GATE w.val) F.WPWR_GATE_req)
  (List.finRange 16).foldl (fun (a : State) c =>
    let d : Domain := .course w c
    if !nbit go c.val || nbit (a.fl (R.WPWR_GATE w.val) F.WPWR_GATE_gated) c.val || !a.isReady w.val then a
    else
      let a1 := if a.domState d = 2 && !a.inDomain d then a.domainOff d else a
      if a1.domState d = 3 then a1.gateCourse w c else a1) s

/-- The effect of a write of WPWR_GATE. -/
def State.gateWrite (s : State) (w : Wall) (v : Word) : State × Nat :=
  let n := w.val
  let old := s.fl (R.WPWR_GATE n) F.WPWR_GATE_req
  let new := fld v F.WPWR_GATE_req
  let gated := s.fl (R.WPWR_GATE n) F.WPWR_GATE_gated
  let set (c : Fin 16) : Bool := nbit new c.val && !nbit old c.val
  let clr (c : Fin 16) : Bool := nbit old c.val && !nbit new c.val
  if (List.finRange 16).any (fun c => set c && !s.courseIdle n c.val) then refuse s stBusy
  else
    let s1 := s.plain (R.WPWR_GATE n) v
    if s.wallOff n then (s1, 0)
    else
      let s2 := (List.finRange 16).foldl (fun (a : State) c =>
        if set c then
          let a0 := a.setWall n { (a.wall n) with gateWake := Sp.drop (a.wall n).gateWake c.val }
          (if nbit gated c.val then a0 else if a.isReady n then a0.closeDomain (.course w c) else a0.gateCourse w c)
        else if clr c then
          (if nbit gated c.val then a.setWall n { (a.wall n) with gateWake := Sp.put (a.wall n).gateWake c.val a.tick }
           else a.reopenDomain (.course w c))
        else a) s1
      (s2.gateProgress w, 0)

/-- WPWR_GATE_WRITE. -/
def execWpwrGateWrite (m : Mid) (w : Wall) (v : Word) (s : State) : Out :=
  regRow s m (R.WPWR_GATE w.val) (fun s => s.gateWrite w v)

/-- COURSE_WAKE: 2 µs (2,500 ticks) after its bit was cleared, a course's tiles leave global set-reset. -/
def execCourseWake (w : Wall) (c : Fin 16) (s : State) : Out :=
  onWall w.val s (fun s =>
    let x := s.wall w.val
    if x.gateWake.any (fun e => e.1 = c.val && decide (e.2 + 2500 ≤ s.tick)) then
      let s1 := s.setWall w.val { x with gateWake := Sp.drop x.gateWake c.val }
      let s2 := s1.setFl (R.WPWR_GATE w.val) F.WPWR_GATE_gated (setNbit (s1.fl (R.WPWR_GATE w.val) F.WPWR_GATE_gated) c.val false)
      (foldN 8 s2 (fun a t => a.setTile w.val (8 * c.val + t) (a.tile w.val (8 * c.val + t)).woken)).reopenDomain (.course w c)
    else s)

/-! ### Clock steps and thermal standby (R523 to R525) -/
def stepMhz (k : Nat) : Nat := if k = 1 then 1000 else if k = 2 then 800 else 1250

/-- The step that the policy wants now. -/
def State.policyStep (s : State) (w : Nat) : Nat :=
  let k := s.clockStep w
  let t := s.tmax w
  let cool := match (s.wall w).stepCool with | some t0 => decide (t0 + 1250000000 ≤ s.tick) | none => false
  if s.stepLimit w 2 ≤ t then 2
  else if k = 0 then (if s.stepLimit w 1 ≤ t then 1 else 0)
  else if cool then k - 1 else k

/-- CLOCK_STEP_POLICY: the trowel decides on a step for a wall whose `auto` is 1. -/
def execClockStepPolicy (w : Wall) (s : State) : Out :=
  onWall w.val s (fun s =>
    let x := s.wall w.val
    if !s.trowel.running || s.fl (R.WPWR_CLK w.val) F.WPWR_CLK_auto = 0 || s.wallOff w.val || x.pendStep.isSome ||
        s.policyStep w.val = s.clockStep w.val then s
    else s.setWall w.val { x with pendStep := some (s.policyStep w.val, true) })

/-- CLOCK_STEP: the step takes effect at the wall's frame boundary. -/
def execClockStep (w : Wall) (s : State) : Out :=
  onWall w.val s (fun s =>
    let w := w.val
    let x := s.wall w
    match x.pendStep with
    | none => s
    | some (k, policy) =>
      if s.phase w = 0 || s.slotNow w ≠ 0 then s
      else
        let s1 := s.setWall w { x with pendStep := none, stepCool := none, realigning := (k = 0) }
        let s2 := ((s1.setFl (R.WPWR_CLK w) F.WPWR_CLK_step k).bump (R.WPWR_STEP_COUNT w)).raiseWall w 29 0 [stepMhz k]
        if policy then s2.raiseHub 29 0 [2, w, stepMhz k] else s2)

/-- THERMAL_STANDBY: the trowel puts a hot wall into STANDBY, and returns a cool one to ON. -/
def execThermalStandby (w : Wall) (s : State) : Out :=
  onWall w.val s (fun s =>
    let n := w.val
    let x := s.wall n
    let longFor (o : Option Nat) (t : Nat) : Bool := match o with | some t0 => decide (t0 + t ≤ s.tick) | none => false
    if !s.trowel.running || s.fl (R.WPWR_CTRL n) F.WPWR_CTRL_tsb = 0 then s
    else if s.wallPower n = 0 && longFor x.hotSince 1250000000 then
      ((s.setWall n { x with tsbBy := true, hotSince := none }).raiseHub 29 0 [4, n, 1]).beginDown w 1 (fun _ => false)
    else if s.wallPower n = 1 && x.tsbBy && longFor x.coolSince 12500000000 then
      ((s.setWall n { x with tsbBy := false, coolSince := none }).raiseHub 29 0 [4, n, 0]).beginUp n (fun _ => false)
    else s)

end Sys2Proof.Machine
end

