-- ==== Sys2Proof/Machine/Trowel.lean ====
section
/-!
DEFINITION. Machine/Trowel.lean: the trowel: image checks and slots (R484 to R487), staging, life cycle, activation and
trials (R488 to R498), boot and the recovery ROM (R500, R501), the watchdog (R520) and safe mode (R543 to R545).
-/
namespace Sys2Proof.Machine
open Sys2Proof

/-! ### Images (R485 to R487) -/
/-- A little-endian field of a header. -/
def hdr (b : Bytes) (o n : Nat) : Nat := ofLeBytes ((b.drop o).take n)

def imgKind (i : Image) : Nat := if i.peger then 1 else hdr i.header 5 1
/-- The version: major, minor, patch. -/
def imgVersion (i : Image) : Nat :=
  if i.peger then (hdr i.header 5 1) * 65536 + (hdr i.header 4 1) * 256 else hdr i.header 12 3
def imgPayloadBytes (i : Image) : Nat := if i.peger then hdr i.header 8 4 else hdr i.header 16 4
def pegerMagic : Nat := 0x50E67A13

/-- Checks 1 to 5 of R486 on a native header: 0 when all pass. The head of the payload is that of check 5. -/
def State.nativeCheck (s : State) (i : Image) : Nat :=
  let h := i.header
  let kind := hdr h 5 1
  let n := hdr h 0x18 1
  let ids := (List.range (min n 16)).map (fun k => hdr h (0x20 + 8 * k) 8)
  let lc := hdr h 0xA0 1
  let cur := s.trowel.lifecycle
  let badSize := (kind = 1 && decide (0x800000 - 512 < (imgPayloadBytes i))) || (kind = 2 && decide (11010048 - 512 < (imgPayloadBytes i)))
  if hdr h 0 4 ≠ 0x7C3AA3C7 || hdr h 4 1 ≠ 1 || !inRange 1 kind 3 || badSize then stBadArg
  else if crc32c (h.take 0x1FC) ≠ hdr h 0x1FC 4 then stFrameCrc
  else if hdr h 8 2 ≠ 1 then stTypeMismatch
  else if n ≠ 0 && !ids.contains (Config.unitId 0).toNat then stUnitMismatch
  else if kind = 2 && (headerStatus 1 (wordsOfBytes (i.payload.take 32)) ≠ 0 || 2 < lc) then stBadArg
  else if kind = 3 && !((cur = 0 && lc = 1) || (cur = 1 && lc = 2) || (cur = 2 && lc = 1) || lc = 3) then stBadArg
  else 0

/-- The checks of an image before any payload byte is stored (R486, R487). A decommissioned module accepts no image. -/
def State.stageCheck (s : State) (i : Image) : Nat :=
  if s.trowel.lifecycle = 3 then stBadArg
  else if i.peger then
    (if (Sp.getD s.trowel.settings 5 0).toNat = 0 || hdr i.header 0 4 ≠ pegerMagic || 0x800000 - 352 < (imgPayloadBytes i) then stBadArg else 0)
  else s.nativeCheck i

/-- All checks at staging: a Peger image's signature waits for the boot. -/
def State.imageCheck (s : State) (i : Image) : Nat :=
  let st := s.stageCheck i
  if st ≠ 0 then st else if !i.peger && !i.sigOk then stSignature else 0

/-! ### Slots (R484) -/
def TrowelX.slot (t : TrowelX) (b : Bool) : ImgSlot := if b then t.slotB else t.slotA
/-- A slot changes; the boot record, which holds its state and version, is written anew (R483). -/
def TrowelX.setSlot (t : TrowelX) (b : Bool) (x : ImgSlot) : TrowelX :=
  if b then { t with slotB := x, bootSeq := t.bootSeq + 1 } else { t with slotA := x, bootSeq := t.bootSeq + 1 }
def TrowelX.setState (t : TrowelX) (b : Bool) (v : Nat) : TrowelX := t.setSlot b { (t.slot b) with state := v }
def TrowelX.slotIn (t : TrowelX) (v : Nat) : Option Bool :=
  if t.slotA.state = v then some false else if t.slotB.state = v then some true else none
/-- The slot that staging writes: the one that is not COMMITTED. -/
def TrowelX.stageSlot (t : TrowelX) : Bool := t.slotA.state = 5

/-- The boot record in force (R483), and the MRAM offset of the copy that holds it: the two are written alternately. -/
def TrowelX.bootRecord (t : TrowelX) : Bytes :=
  let b := leBytes 4 (t.slotA.state % 8 + t.slotB.state % 8 * 8 + t.bootFails % 4 * 64 + t.bootCause % 16 * 256) ++
    leBytes 4 (t.slotA.version % 16777216) ++ leBytes 4 (t.slotB.version % 16777216) ++ leBytes 4 t.bootSeq
  b ++ leBytes 4 (crc32c b) ++ List.replicate 44 0

def TrowelX.bootRecordAt (t : TrowelX) : Nat := 0x1000000 + 0x40 * (t.bootSeq % 2)

/-- TRW_STATUS.`state` (R503). -/
def State.trwState (s : State) : Nat :=
  let t := s.trowel
  if t.recovery then 5 else if s.service.safe then 4 else if !t.running then 0
  else if (t.slot t.runSlot).state = 4 then 1 else if t.reverted then 3 else 2

/-! ### Frames on the chain (R398, R399, R489, R499) -/
/-- A frame leaves a port that has a partner. -/
def State.chainOut (s : State) (down : Bool) (fr : ChainFrame) : State :=
  let c := s.chain
  if (if down then c.downPartner else c.upPartner) then { s with chain := { c with sent := c.sent ++ [(down, fr)] } } else s

/-- A frame of this module: to one position, or out of both ports to all (0xFF). -/
def State.chainSend (s : State) (typ dst : Nat) (seq : BitVec 8) (payload : Bytes) : State :=
  let me := s.chain.pos.getD 0
  let fr : ChainFrame := { typ := BitVec.ofNat 8 typ, dst := BitVec.ofNat 8 dst, src := BitVec.ofNat 8 me, seq := seq, payload := payload, crcOk := true }
  if dst = 0xFF then (s.chainOut true fr).chainOut false fr
  else s.chainOut (decide (me < dst)) fr

def State.nextSeq (s : State) : BitVec 8 := BitVec.ofNat 8 s.chain.txSeq
def State.takeTxSeq (s : State) : State := { s with chain := { s.chain with txSeq := (s.chain.txSeq + 1) % 256 } }

/-- The image that HEALTH reports: TRIAL, else COMMITTED. -/
def TrowelX.reported (t : TrowelX) : ImgSlot :=
  match t.slotIn 4 with
  | some b => t.slot b
  | none => match t.slotIn 5 with
    | some b => t.slot b
    | none => {}

def ImgSlot.crc (x : ImgSlot) : Nat := match x.image with | some i => (imgCrc i) | none => 0

/-- The module sends a HEALTH frame: position, running version, state, header CRC. -/
def State.sendHealth (s : State) : State :=
  match s.chain.pos with
  | none => s
  | some p =>
    let t := s.trowel
    let payload := leBytes 1 p ++ leBytes 3 (t.slot t.runSlot).version ++ leBytes 1 s.trwState ++ leBytes 4 t.reported.crc
    let s1 := (s.chainSend 5 0xFF s.nextSeq payload).takeTxSeq
    { s1 with chain := { s1.chain with lastHealth := some s.tick } }

/-- What follows `s`, with a HEALTH frame where the state of the trowel has changed. -/
def State.withHealth (s s' : State) : State := if s.trwState = s'.trwState then s' else s'.sendHealth

/-- An image in blocks of 1,008 bytes, each after its 16-byte block header (R489). -/
def imageBlocks (crc count : Nat) : Nat → Nat → Bytes → List Bytes
  | 0, _, _ => []
  | k + 1, i, b => (leBytes 4 crc ++ leBytes 4 i ++ leBytes 4 count ++ leBytes 4 0 ++ b.take 1008) :: imageBlocks crc count k (i + 1) (b.drop 1008)

/-- The bytes of an image. -/
def imgBytes (i : Image) : Bytes := i.header ++ i.payload

/-- The module begins to send an image along the chain. -/
def State.sendImage (s : State) (typ dst : Nat) (i : Image) : State :=
  let b := (imgBytes i)
  let count := (b.length + 1007) / 1008
  let blocks := imageBlocks (imgCrc i) count count 0 b
  let me := s.chain.pos.getD 0
  let frames := ((List.range count).zip blocks).map (fun e =>
    ({ typ := BitVec.ofNat 8 typ, dst := BitVec.ofNat 8 dst, src := BitVec.ofNat 8 me, seq := BitVec.ofNat 8 e.1, payload := e.2, crcOk := true } : ChainFrame))
  let s1 := frames.foldl (fun (a : State) f => a.chainSend typ dst f.seq f.payload) s
  { s1 with chain := { s1.chain with txFrames := frames, txOk := [], txRounds := 0 } }

/-! ### Staging (R488, R491) -/
/-- Whether staging is forbidden: a TRIAL slot, a pending activation, or a transfer into this module. -/
def State.stageBusy (s : State) : Bool :=
  (s.trowel.slotIn 4).isSome || s.trowel.act.isSome || s.chain.rx.isSome

/-- A stored or refused image raises FW_IMAGE. -/
def State.imageEvent (s : State) (status : Nat) (i : Image) : State :=
  s.raiseHub 14 (if status = 0 then 0 else 1) [status, (imgVersion i)]

/-- The life-cycle state changes: every wall's secure bank is wiped (R332 cause 5). -/
def State.lifeCycle (s : State) (lc : Nat) : State :=
  let s1 : State := { s with trowel := { s.trowel with lifecycle := lc } }
  (foldN 8 s1 (fun a w => if a.populated w && a.wallPower w ≠ 2 then a.startWipe w 5 else a)).raiseHub 28 0 [lc]

/-- An image that has passed its checks (status 0) is stored, which FW_IMAGE reports, or, a life-cycle request, acted on, which LIFECYCLE
reports (R486, R491); a refused one leaves its slot or entry EMPTY. -/
def State.storeImage (s : State) (i : Image) (status : Nat) : State :=
  let t := s.trowel
  let e := hdr i.header 0xA0 1
  let put (x : ImgSlot) : State :=
    if (imgKind i) = 1 then { s with trowel := t.setSlot t.stageSlot x }
    else if (imgKind i) = 2 && e ≤ 2 then { s with trowel := { t with store := Sp.put t.store e x } }
    else s
  if status ≠ 0 then (put {}).imageEvent status i
  else if (imgKind i) = 3 then s.lifeCycle e
  else (put { state := (if i.peger then 3 else 2), version := (imgVersion i), image := some i }).imageEvent 0 i

/-- FW_STAGE's end: its status and the version. A stored image goes along the chain where TRW_FWD says so (R489). -/
def State.fwStage (s : State) (i : Image) : State × Nat × Nat :=
  let st := s.imageCheck i
  let s1 := s.storeImage i st
  let s2 := if st = 0 && (imgKind i) ≠ 3 && s.fl R.TRW_FWD F.TRW_FWD_fwd = 1 then s1.sendImage 3 0xFF i else s1
  (s2, st, (imgVersion i))

/-! ### Activation (R493, R497, R498) -/
/-- Whether an activation's point has come: at once, at a chain tick that has occurred, or at a revolution. -/
def State.pointReached (s : State) (when_ target wall ang : Nat) : Bool :=
  match when_ with
  | 0 => true
  | 1 => decide (target ≤ (s.rd R.CHN_TICK).toNat) && decide (s.chain.tickAt.getD 0 ≤ s.tick)
  | _ => reached (s.base wall ang).v (BitVec.ofNat 64 (target * 4294967296))

/-- The activation of FW_ACTIVATE, or the status that refuses it. -/
def State.fwActivate (s : State) (when_ target wall ang : Nat) : State × Nat :=
  let t := s.trowel
  let slot := match t.slotIn 2 with | some b => some b | none => t.slotIn 3
  match slot with
  | none => refuse s stBadArg
  | some b =>
    if when_ = 3 || (when_ = 1 && decide (target ≤ (s.rd R.CHN_TICK).toNat)) || (when_ = 2 && s.pointReached 2 target wall ang) then refuse s stBadArg
    else if t.act.isSome then refuse s stBusy
    else ({ s with trowel := { t with act := some { slot := b, when_ := when_, target := target, wall := wall, ang := ang } } }, 0)

/-- The pending activation is withdrawn. -/
def State.withdrawAct (s : State) (status : Nat) : State :=
  ({ s with trowel := { s.trowel with act := none } } : State).finishLong (fun l => l.op = 0x31) status 0 0

/-- Whether every version that the chain reports lets an image run beside it (R498). -/
def State.versionsFit (s : State) (v : Nat) : Bool :=
  (List.range 64).all (fun p =>
    let r := s.rd (R.TRW_CHAIN p)
    let x := fld r F.TRW_CHAIN_version
    fld r F.TRW_CHAIN_valid = 0 ||
      (x / 65536 = v / 65536 && decide (x / 256 % 256 ≤ v / 256 % 256 + 1) && decide (v / 256 % 256 ≤ x / 256 % 256 + 1)))

/-- Whether a module at a lower position holds the roll back (R497): it reports the image and is not yet HEALTHY with its
version; of one that reports another image, whether it has a pending activation of this one is a free value. -/
def State.rollWaits (s : State) (x : ImgSlot) : Bool :=
  (List.range (s.chain.pos.getD 0)).any (fun p =>
    let r := s.rd (R.TRW_CHAIN p)
    fld r F.TRW_CHAIN_valid = 1 && !(fld r F.TRW_CHAIN_state = 2 && fld r F.TRW_CHAIN_version = x.version) &&
      (Sp.getD s.chain.crcs p 0 = x.crc || Config.freeBit (s.fresh * 64 + p) = 1))

/-- ACTIVATION_POINT: the point has come; the hub stops fetching commands. -/
def execActivationPoint (s : State) : Out :=
  .next (match s.trowel.act with
    | none => s
    | some a =>
      let x := s.trowel.slot a.slot
      let now := (s.rd R.CHN_TICK).toNat
      let put (a' : Activation) : State := { s with trowel := { s.trowel with act := some a' } }
      if a.reached.isSome || !s.trowel.running || !s.pointReached a.when_ a.target a.wall a.ang then s
      else if !s.versionsFit x.version then s.withdrawAct stBusy
      else if a.when_ = 1 && (Sp.getD s.trowel.settings 6 1).toNat = 1 && s.rollWaits x then
        { (put { a with waiting := true, waitTick := now }) with fresh := s.fresh + 1 }
      else if a.waiting && now ≤ a.waitTick then s
      else put { a with waiting := false, reached := some s.tick })

/-- Whether long commands other than the activation are in progress. -/
def State.othersRun (s : State) : Bool := s.longs.any (fun l => l.op ≠ 0x31)

/-- ACTIVATION_WITHDRAWN: other commands still run 10 s after the point. -/
def execActivationWithdrawn (s : State) : Out :=
  .next (match s.trowel.act with
    | none => s
    | some a => match a.reached with
      | none => s
      | some t0 => if !a.restarted && s.othersRun && decide (t0 + 12500000000 ≤ s.tick) then s.withdrawAct stBusy else s)

/-- The trowel alone restarts (R494): the loader boots it. -/
def State.restartTrowel (s : State) : State :=
  s.withHealth { s with trowel := { s.trowel with running := false, bootAt := s.tick, trialSince := none } }

/-- TROWEL_RESTART: past its point and with no other command in progress, the trowel restarts from the new slot. -/
def execTrowelRestart (s : State) : Out :=
  .next (match s.trowel.act with
    | none => s
    | some a =>
      if a.reached.isNone || a.restarted || s.othersRun then s
      else if !s.versionsFit (s.trowel.slot a.slot).version then s.withdrawAct stBusy
      else
        let a' := { a with restarted := true, ready := (List.range 8).filter (fun w => s.populated w && s.isReady w), cxlUp := s.cxl.up }
        let t := { (s.trowel.setState a.slot 4) with act := some a', reverted := false }
        ({ s with trowel := t } : State).restartTrowel)

/-! ### Safe mode and the recovery ROM (R500, R501, R543 to R545) -/
/-- Every wall that is on is held in RESET. -/
def State.holdWalls (s : State) : State := s.stopWalls (List.range 8)

/-- Safe mode is entered: cause 1 watchdog, 2 console, 3 SVC_SAFE. -/
def State.enterSafe (s : State) (cause : Nat) : State :=
  if s.service.safe then s
  else
    let s1 : State := { s with service := { s.service with safe := true, safeCause := cause } }
    s.withHealth (((s1.raiseHub 13 0 [cause]).setHold false).holdWalls)

/-- Safe mode is left: the boot loads follow, as after a module reset. -/
def State.leaveSafe (s : State) : State :=
  if !s.service.safe then s
  else
    let s1 : State := { s with service := { s.service with safe := false } }
    let s2 := (s1.setFl R.PWR_WDT F.PWR_WDT_count 0).raiseHub 13 1 [s.service.safeCause]
    s.withHealth (foldN 8 s2 (fun a w => a.setWall w { (a.wall w) with bootLoaded := false }))

/-- The recovery ROM is entered with a cause. -/
def State.enterRecovery (s : State) (cause : Nat) : State :=
  let t := { s.trowel with recovery := true, running := false, recCause := cause, rcvWin := [], rcvGot := [], xmodem := [] }
  s.withHealth ((({ s with trowel := t } : State).setHold false).holdWalls)

/-! ### Booting (R500) -/
/-- A slot that can be booted: its header CRC is valid. -/
def ImgSlot.bootable (x : ImgSlot) : Bool :=
  match x.image with
  | none => false
  | some i => i.peger || crc32c (i.header.take 0x1FC) = hdr i.header 0x1FC 4

def TrowelX.bootableIn (t : TrowelX) (v : Nat) : Option Bool :=
  match t.slotIn v with
  | some b => if (t.slot b).bootable then some b else none
  | none => none

/-- The slot that the loader boots: TRIAL, else COMMITTED and PREVIOUS by turns. -/
def TrowelX.bootSlot (t : TrowelX) : Option Bool :=
  match t.bootableIn 4 with
  | some b => some b
  | none =>
    match t.bootableIn 5, t.bootableIn 6 with
    | some c, some p => some (if t.tryPrevious then p else c)
    | some c, none => some c
    | none, p => p

/-- The loader's checks of an image that it boots: type and signature of a Peger image, and the range of settings
schemas that a native image imports (R487, R496). -/
def State.bootCheck (s : State) (i : Image) : Nat :=
  if i.peger then (if hdr i.header 12 2 ≠ 1 then stTypeMismatch else if !i.sigOk then stSignature else 0)
  else if !i.sigOk then stSignature
  else if s.trowel.schema < hdr i.header 0x15 1 || hdr i.header 0x14 1 < s.trowel.schema then stSettings
  else 0

/-- A trial is reverted (R496): the trowel restarts at once from the COMMITTED slot. -/
def State.revert (s : State) (b : Bool) (status : Nat) : State :=
  let x := s.trowel.slot b
  let t := { (s.trowel.setState b 7) with act := none, reverted := true }
  let s1 := ({ s with trowel := t } : State).raiseHub 15 1 [status, b2n b, x.version]
  (s1.finishLong (fun l => l.op = 0x31) status 0 0).restartTrowel

/-- A boot of a slot that is not a TRIAL slot fails (R500): causes as TRW_BOOT has them. -/
def State.bootFailed (s : State) (b : Bool) (cause status : Nat) : State :=
  let x := s.trowel.slot b
  let n := min 3 (s.trowel.bootFails + 1)
  let t := { s.trowel with bootFails := n, bootCause := cause, bootSeq := s.trowel.bootSeq + 1, lastBoot := b,
                           tryPrevious := !s.trowel.tryPrevious, running := false, bootAt := s.tick }
  let s1 := ({ s with trowel := t } : State).raiseHub 15 2 [status, b2n b, x.version]
  if n = 3 then s1.enterRecovery 1 else s1

/-- The firmware runs: the count of failed boots is cleared (R500), and secure banks that were wiped meanwhile are rewritten (R492). -/
def State.bootDone (s : State) (b : Bool) : State :=
  let trial := (s.trowel.slot b).state = 4
  let t := { s.trowel with
    running := true, booted := true, runSlot := b, lastBoot := b, bootAt := s.tick, tryPrevious := false
    bootFails := 0, bootSeq := (if s.trowel.bootFails = 0 then s.trowel.bootSeq else s.trowel.bootSeq + 1)
    trialSince := (if trial then some s.tick else none) }
  let s1 : State := { s with trowel := t }
  s.withHealth (foldN 8 s1 (fun a w =>
    if a.populated w && a.wallPower w = 0 && a.fl (R.SEC_STATUS w) F.SEC_STATUS_wiped = 1 && (a.wall w).wipe.isNone then a.rewriteSecure w else a))

/-- TROWEL_BOOT: the loader boots a slot, or finds an MRAM line of it uncorrectable (`ok` false), which counts as a bad
signature (R482). -/
def execTrowelBoot (ok : Bool) (s : State) : Out :=
  .next (let t := s.trowel
    if !s.powered || t.running || t.recovery then s
    else match t.bootSlot with
      | none => s.enterRecovery 2
      | some b =>
        let x := t.slot b
        let s1 : State := if ok then s else { (s.raiseHub 17 0 [(Config.freeWord s.fresh).toNat]) with fresh := s.fresh + 1 }
        let st := if !ok then stSignature else match x.image with | some i => s.bootCheck i | none => 0
        if st = 0 then s1.bootDone b
        else if x.state = 4 then s1.revert b st
        else if st = stSettings then s1.bootDone b
        else s1.bootFailed b (if !ok then 4 else if st = stTypeMismatch then 3 else 2) st)

/-- BOOT_TIME_EXCEEDED: not booted within 250 ms, or 650 ms for an image of the Peger format (R494). -/
def execBootTimeExceeded (s : State) : Out :=
  .next (let t := s.trowel
    if !s.powered || t.running || t.recovery then s
    else match t.bootSlot with
      | none => s
      | some b =>
        let peger := match (t.slot b).image with | some i => i.peger | none => false
        if s.tick < t.bootAt + (if peger then 812500000 else 312500000) then s
        else if (t.slot b).state = 4 then s.revert b stTestFail
        else s.bootFailed b 5 stTestFail)

/-! ### Trials (R495, R496) -/
/-- A new settings generation is written: a header line and one line a setting (R482, R495). A line that reaches
9 * 10^9 writes raises WEAR_LIMIT. -/
def State.newGeneration (s : State) : State :=
  let t := s.trowel
  let ring := 65534
  let n := t.settings.length + 1
  let s1 : State := { s with trowel := { t with settingsGen := t.settingsGen + 1, settingLines := t.settingLines + n } }
  foldN n s1 (fun a k =>
    if (t.settingLines + k) / ring + 1 = wearLimit then a.raiseHub 17 1 [0x1000080 / 64 + (t.settingLines + k) % ring] else a)

/-- TRIAL_COMMIT. -/
def execTrialCommit (s : State) : Out :=
  .next (let t := s.trowel
    let ms := (Sp.getD t.settings 4 5000).toNat
    match t.act, t.trialSince with
    | some a, some t0 =>
      let ok := t.running && a.restarted && decide (t0 + ms * 1250000 ≤ s.tick) && a.ready.all (fun w => s.isReady w) && (s.cxl.up = a.cxlUp)
      if !ok then s
      else
        let x := t.slot a.slot
        let old := t.slot (!a.slot)
        let t1 := (if old.state = 5 then t.setState (!a.slot) 6 else t).setState a.slot 5
        let schema := match x.image with | some i => if i.peger then t.schema else hdr i.header 0x14 1 | none => t.schema
        let s1 : State := { s with trowel := { t1 with act := none, trialSince := none, schema := schema, bootFails := 0 } }
        let s2 := (s1.newGeneration.raiseHub 15 0 [0, b2n a.slot, x.version]).finishLong (fun l => l.op = 0x31) 0 0 0
        s.withHealth s2
    | _, _ => s)

/-! ### Watchdog (R520) -/
/-- The watchdog's period in ticks: below 100 ms it acts as 100 ms. -/
def State.wdtTicks (s : State) : Nat := max 100 (s.fl R.PWR_WDT F.PWR_WDT_ms) * 1250000

/-- Whether the watchdog can have expired: a period has passed since the trowel began to boot or run, and since the last expiry. -/
def State.wdtOver (s : State) : Bool := decide (max s.trowel.bootAt s.service.wdtLast + s.wdtTicks ≤ s.tick)

/-- WATCHDOG: the trowel's watchdog expires. An expiry while the loader boots is a failed boot; in a trial it reverts. -/
def execWatchdog (s : State) : Out :=
  .next (if !s.powered || s.trowel.recovery || !s.wdtOver then s
  else
    let n := min 255 (s.fl R.PWR_WDT F.PWR_WDT_count + 1)
    let s1 : State := { (s.setFl R.PWR_WDT F.PWR_WDT_count n) with service := { s.service with wdtLast := s.tick } }
    let s2 := s1.raiseHub 12 0 [n]
    let s3 := match s2.trowel.slotIn 4, s2.trowel.running, s2.trowel.bootSlot with
      | some b, _, _ => s2.revert b stTestFail
      | none, true, _ => s2.restartTrowel
      | none, false, some b => s2.bootFailed b 1 stTestFail
      | none, false, none => s2
    if n = 4 then s3.enterSafe 1 else s3)

/-- WATCHDOG_COUNT_CLEAR: the trowel has run 60 s without an expiry. -/
def execWatchdogCountClear (s : State) : Out :=
  .next (if s.trowel.running && decide (max s.trowel.bootAt s.service.wdtLast + 75000000000 ≤ s.tick) then s.setFl R.PWR_WDT F.PWR_WDT_count 0
    else s)

/-! ### Recovery downloads (R501, R503) -/
/-- An image from its bytes. -/
def imageOf (b : Bytes) (sigOk : Bool) : Image :=
  let h := b.take 512
  { peger := false, header := h, payload := (b.drop 512).take (hdr h 16 4), sigOk := sigOk }

/-- A recovery download is refused: the ROM waits for another (R501). -/
def State.refuseRecovery (s : State) (st : Nat) (i : Image) : State :=
  let s1 : State := { (s.setFl R.RCV_STATUS F.RCV_STATUS_status st) with trowel := { s.trowel with rcvGot := [], xmodem := [] } }
  (s1.wr R.RCV_COUNT 0).imageEvent st i

/-- The recovery ROM checks a complete image: a good one becomes COMMITTED and the module resets. -/
def State.recover (s : State) (i : Image) : State :=
  let st := if i.peger || hdr i.header 5 1 ≠ 1 then stBadArg else s.imageCheck i
  let t := s.trowel
  if st ≠ 0 then s.refuseRecovery st i
  else
    let s1 : State := { (s.setFl R.RCV_STATUS F.RCV_STATUS_status st) with trowel := { t with rcvGot := [], xmodem := [] } }
    let b := !t.lastBoot
    let t1 := if (t.slot (!b)).state = 5 then t.setState (!b) 6 else t
    let t2 := { (t1.setSlot b { state := 5, version := (imgVersion i), image := some i }) with tryPrevious := false }
    (({ s1 with trowel := t2 } : State).moduleReset 4 0 {}).raiseHub 16 0 [t.recCause]

/-- Checks 1 to 5 on a header that has just arrived whole, with the head of its payload, before more of the payload is
stored: 0 when they pass, or when too little has arrived (R486, R501). -/
def State.headStatus (s : State) (b : Bytes) : Nat :=
  if b.length < 544 then 0
  else if hdr b 5 1 ≠ 1 then stBadArg
  else s.nativeCheck (imageOf b false)

/-- XMODEM_BLOCK: the ROM takes a block of 1,024 bytes; padding after the payload is ignored. -/
def execXmodemBlock (data : Bytes) (s : State) : Out :=
  .next (if !s.trowel.recovery || data.length ≠ 1024 then s
  else
    let b := s.trowel.xmodem ++ data
    let s1 : State := { s with trowel := { s.trowel with xmodem := b } }
    let st := s.headStatus b
    if st ≠ 0 then s1.refuseRecovery st (imageOf b false)
    else if b.length < 512 + hdr b 16 4 then s1
    else ({ s1 with fresh := s.fresh + 1 } : State).recover (imageOf b (Config.freeBit s.fresh = 1)))

/-- The recovery registers answer master 0 in the ROM only (R503). -/
def State.rcvOpen (s : State) (m : Nat) : Bool := s.trowel.recovery && m = 0

/-- The effect of a write of RCV_WIN. -/
def State.rcvWinWrite (s : State) (m j : Nat) (v : Word) : State × Nat :=
  if !s.rcvOpen m then refuse s stAccessDenied
  else ({ s with trowel := { s.trowel with rcvWin := Sp.put s.trowel.rcvWin j v } }, 0)

/-- The effect of a write of RCV_CTRL; `img` is the complete image that `done` checks. -/
def State.rcvCtrlWrite (s : State) (m : Nat) (v : Word) (img : Option Image) : State × Nat :=
  let t := s.trowel
  let len := fld v F.RCV_CTRL_len
  if !s.rcvOpen m then refuse s stAccessDenied
  else if fld v F.RCV_CTRL_abort = 1 then (({ s with trowel := { t with rcvGot := [], rcvWin := [] } } : State).wr R.RCV_COUNT 0, 0)
  else if fld v F.RCV_CTRL_push = 1 && !inRange 1 len 4096 then refuse s stBadArg
  else
    let s1 := if fld v F.RCV_CTRL_push = 1 then
        let got := t.rcvGot ++ (bytesOfWords ((List.range 1024).map (fun j => Sp.getD t.rcvWin j 0))).take len
        let s0 := ({ s with trowel := { t with rcvGot := got, rcvWin := [] } } : State).wr R.RCV_COUNT (BitVec.ofNat 32 (got.length % 16777216))
        (if s.headStatus got ≠ 0 then s0.refuseRecovery (s.headStatus got) (imageOf got false) else s0)
      else s
    if fld v F.RCV_CTRL_done = 0 then (s1, 0)
    else match img with
      | some i => (s1.recover i, 0)
      | none => (({ s1 with fresh := s1.fresh + 1 } : State).recover (imageOf s1.trowel.rcvGot (Config.freeBit s1.fresh = 1)), 0)

/-- RCV_PUSH: a write of RCV_CTRL that takes the window. -/
def execRcvPush (m : Mid) (v : Word) (s : State) : Out :=
  regRow s m R.RCV_CTRL (fun s => s.rcvCtrlWrite m.toNat (setFld v F.RCV_CTRL_push 1) none)

/-- RCV_DONE: a write of RCV_CTRL.`done`; the image tells whether its signature verifies. -/
def execRcvDone (m : Mid) (img : Image) (s : State) : Out :=
  regRow s m R.RCV_CTRL (fun s => s.rcvCtrlWrite m.toNat (setFld 0 F.RCV_CTRL_done 1) (some (imageOf s.trowel.rcvGot img.sigOk)))

/-- RCV_ABORT: a write of RCV_CTRL.`abort`. -/
def execRcvAbort (m : Mid) (s : State) : Out :=
  regRow s m R.RCV_CTRL (fun s => s.rcvCtrlWrite m.toNat (setFld 0 F.RCV_CTRL_abort 1) none)

/-- The effect of a write of TRW_RCV_SEND: the COMMITTED image goes to a position as RECOVERY frames. -/
def State.rcvSendWrite (s : State) (v : Word) : State × Nat :=
  if fld v F.TRW_RCV_SEND_go = 0 then (s, 0)
  else match s.trowel.slotIn 5 with
    | none => (s, 0)
    | some b => match (s.trowel.slot b).image with
      | none => (s, 0)
      | some i => (s.sendImage 4 (fld v F.TRW_RCV_SEND_pos) i, 0)

/-- TRW_RCV_SEND. -/
def execTrwRcvSend (m : Mid) (v : Word) (s : State) : Out := regRow s m R.TRW_RCV_SEND (fun s => s.rcvSendWrite v)

end Sys2Proof.Machine
end

