-- ==== Sys2Proof/Machine/Chain.lean ====
section
/-!
DEFINITION. Machine/Chain.lean: the Rueramo chain (R396 to R402): enumeration, chain ticks, health frames, images and
recovery downloads on the chain (R489, R490, R499, R501), and the HOLD_N and DONE_OD lines (R464, R465).
-/
namespace Sys2Proof.Machine
open Sys2Proof

/-! ### Enumeration (R399) -/
/-- The module is the head: it has no upstream partner, or `head` is 1. -/
def State.isHead (s : State) : Bool := !s.chain.upPartner || s.fl R.CHN_CFG F.CHN_CFG_head = 1

/-- An ENUM frame with a position or, upstream, the chain's length. -/
def State.sendEnum (s : State) (down : Bool) (n : Nat) : State :=
  s.chainOut down { typ := 1, dst := 0xFF, src := BitVec.ofNat 8 (s.chain.pos.getD 0), seq := 0, payload := leBytes 1 n, crcOk := true }

/-- The module takes a position: it passes the next one on, or, last of the chain, returns the length. -/
def State.takePos (s : State) (p : Nat) : State :=
  let s1 : State := { s with chain := { s.chain with pos := some p } }
  if s1.chain.downPartner then s1.sendEnum true (p + 1)
  else ({ s1 with chain := { s1.chain with len := p + 1 } } : State).sendEnum false (p + 1)

/-- CHAIN_PARTNER_CHANGE: a port gains or loses its partner, and enumeration repeats. -/
def execChainPartnerChange (up present : Bool) (s : State) : Out :=
  .next (let c := s.chain
    if !s.powered then s
    else
      let s1 : State := { s with chain := (if up then { c with upPartner := present } else { c with downPartner := present }) }
      if s1.isHead then s1.takePos 0
      else if up then { s1 with chain := { s1.chain with pos := none } }
      else match s1.chain.pos with
        | some p => s1.takePos p
        | none => s1)

/-- ENUM: a position from upstream, or the chain's length from downstream. -/
def execEnum (pos : BitVec 8) (fromUp : Bool) (s : State) : Out :=
  .next (let n := pos.toNat
    if !s.powered then s
    else if !fromUp then
      let s1 : State := { s with chain := { s.chain with len := n } }
      if s1.isHead then s1 else s1.sendEnum false n
    else if s.isHead then s
    else if 64 ≤ n then ({ s with chain := { s.chain with pos := none } } : State).stickyHub R.CHN_EVENT F.CHN_EVENT_long 3 0 [n]
    else s.takePos n)

/-! ### Frames (R398, R400) -/
/-- The bytes of a frame between K27.7 and K29.7: the 8-byte header, the payload, and the CRC-32C over both. -/
def chainBytes (fr : ChainFrame) : Bytes :=
  let b := [fr.typ, fr.dst, fr.src, fr.seq] ++ leBytes 2 fr.payload.length ++ [0, 0] ++ fr.payload
  b ++ leBytes 4 (crc32c b)

/-- The frame that such bytes hold; whether its CRC is right. -/
def chainFrameOf (b : Bytes) : ChainFrame :=
  let n := hdr b 4 2
  { typ := b.getD 0 0, dst := b.getD 1 0, src := b.getD 2 0, seq := b.getD 3 0, payload := (b.drop 8).take n
    crcOk := crc32c (b.take (8 + n)) = hdr b (8 + n) 4 }

/-- A frame is passed on unless it is addressed to this module only: away from its sender, out of one port. -/
def State.chainForward (s : State) (fr : ChainFrame) : State :=
  let me := s.chain.pos.getD 64
  if fr.dst.toNat = me then s else s.chainOut (decide (fr.src.toNat < me)) fr

/-- A frame with a bad CRC, or of a reserved type, is discarded and counted. -/
def State.chainBad (s : State) : State :=
  let s1 := s.bump R.CHN_ERR_COUNT
  s1.stickyHub R.CHN_EVENT F.CHN_EVENT_err 2 0 [(s1.rd R.CHN_ERR_COUNT).toNat]

/-- Whether a frame is for this module. -/
def State.chainMine (s : State) (fr : ChainFrame) : Bool := fr.dst = 0xFF || s.chain.pos = some fr.dst.toNat

/-- A good frame acts if it is for this module, and is passed on; a bad one is discarded. -/
def State.chainFrame (s : State) (fr : ChainFrame) (act : State → State) : State :=
  if !s.powered then s
  else if !fr.crcOk then s.chainBad
  else
    let s1 := s.chainForward fr
    if s.chainMine fr then act s1 else s1

/-- RESERVED_CHAIN_FRAME: a frame of a type that R398 does not list is discarded and counted. -/
def execReservedChainFrame (fr : ChainFrame) (s : State) : Out :=
  .next (if s.powered && (fr.typ = 0 || decide (6 < fr.typ.toNat)) then s.chainBad else s)

/-! ### Chain ticks (R401) -/
/-- The module takes a chain tick: it occurs 2 µs (2,500 ticks) later for each hop to the end of the chain. -/
def State.takeTick (s : State) (t : Word) : State :=
  let c := s.chain
  (({ s with chain := { c with tickAt := some (s.tick + (c.len - 1 - c.pos.getD 0) * 2500) } } : State).wr R.CHN_TICK t)

/-- A TICK frame. -/
def State.sendTick (s : State) (t : Word) : State :=
  s.chainOut true { typ := 2, dst := 0xFF, src := 0, seq := 0, payload := leBytes 4 t.toNat, crcOk := true }

/-- TICK_SEND: the head sends a tick once a millisecond (1,250,000 ticks). -/
def execTickSend (s : State) : Out :=
  .next (let due := match s.chain.tickSent with | some t0 => decide (t0 + 1250000 ≤ s.tick) | none => true
    if !s.powered || !s.isHead || !due then s
    else
      let t := s.rd R.CHN_TICK + 1
      let s1 : State := { s with chain := { s.chain with tickSent := some s.tick } }
      (s1.takeTick t).sendTick t)

/-- TICK: a tick from upstream. -/
def execTick (t : Word) (s : State) : Out := .next (if s.powered && !s.isHead then (s.takeTick t).sendTick t else s)

/-! ### Health (R497, R499) -/
/-- HEALTH_SEND: every 100 ms (125,000,000 ticks). -/
def execHealthSend (s : State) : Out :=
  .next (let due := match s.chain.lastHealth with | some t0 => decide (t0 + 125000000 ≤ s.tick) | none => true
    if s.powered && due then s.sendHealth else s)

/-- A report of position p: its version, state and header CRC. A change of its state raises CHAIN_HEALTH. REVERTED from a
lower position withdraws an activation of the same image that waits. -/
def State.takeHealth (s : State) (p version state crc : Nat) : State :=
  let old := s.rd (R.TRW_CHAIN p)
  let was := Sp.getD s.chain.crcs p 0
  let s1 := s.wr (R.TRW_CHAIN p) (BitVec.ofNat 32 (state % 8 + 8 + version % 16777216 * 256))
  let s2 : State := { s1 with chain := { s1.chain with crcs := Sp.put s1.chain.crcs p crc } }
  let s3 := if fld old F.TRW_CHAIN_state = state % 8 then s2 else s2.raiseHub 25 0 [p, state % 8]
  match s3.trowel.act with
  | some a =>
    let x := (s3.trowel.slot a.slot).crc
    if a.waiting && state = 3 && decide (p < s3.chain.pos.getD 0) && (was = x || crc = x) then s3.withdrawAct stBusy else s3
  | none => s3

/-- HEALTH: a report of another module. -/
def execHealth (fr : ChainFrame) (s : State) : Out :=
  .next (s.chainFrame fr (fun s =>
    let b := fr.payload
    if 64 ≤ hdr b 0 1 then s else s.takeHealth (hdr b 0 1) (hdr b 1 3) (hdr b 4 1) (hdr b 5 4)))

/-! ### Images from the chain (R489, R490, R501) -/
/-- An image from its bytes as they arrive; whether its signature verifies is a free value. -/
def State.chainImage (s : State) (b : Bytes) : Image :=
  let sig := Config.freeBit s.fresh = 1
  if hdr b 0 4 = pegerMagic then { peger := true, header := b.take 256, payload := (b.drop 256).take (hdr b 8 4 + 96), sigOk := sig }
  else { peger := false, header := b.take 512, payload := (b.drop 512).take (hdr b 16 4), sigOk := sig }

/-- The slot or store entry of an image is being written (1), or EMPTY (0). -/
def State.markStaging (s : State) (i : Image) (v : Nat) : State :=
  let t := s.trowel
  let e := hdr i.header 0xA0 1
  if imgKind i = 1 then { s with trowel := t.setSlot t.stageSlot { state := v } }
  else if imgKind i = 2 && e ≤ 2 then { s with trowel := { t with store := Sp.put t.store e { state := v } } }
  else s

/-- The receiver answers a block. -/
def State.chainAck (s : State) (fr : ChainFrame) (status : Nat) : State := s.chainSend 6 fr.src.toNat fr.seq (leBytes 2 status)

/-- The blocks of an image in index order. -/
def ChainRx.bytes (r : ChainRx) : Bytes := (r.blocks.map (fun e => e.2)).flatten

/-- All blocks have arrived: the signature check, and the image's storing or, in the recovery ROM, its commit. -/
def State.chainDone (s : State) (r : ChainRx) (fr : ChainFrame) : State :=
  let i := s.chainImage r.bytes
  let st := if i.peger || i.sigOk then 0 else stSignature
  let s1 : State := { s with fresh := s.fresh + 1, chain := { s.chain with rx := none } }
  if r.recovery then (s1.chainAck fr st).recover i else (s1.storeImage i st).chainAck fr st

/-- A block of an image that has been accepted. -/
def State.chainBlock (s : State) (r : ChainRx) (fr : ChainFrame) : State :=
  let idx := hdr fr.payload 4 4
  if r.count ≤ idx then s.chainAck fr stFrameCrc
  else
    let r1 := { r with blocks := Sp.put r.blocks idx (fr.payload.drop 16) }
    if r1.blocks.length = r1.count then s.chainDone r1 fr
    else ({ s with chain := { s.chain with rx := some r1 } } : State).chainAck fr 0

/-- A block of an IMAGE or RECOVERY frame: of the image under way; block 0 of another, which its header's checks accept
or refuse; or a block that no accepted header precedes. -/
def State.chainTake (s : State) (fr : ChainFrame) (recovery : Bool) : State :=
  let b := fr.payload
  let crc := hdr b 0 4
  let idx := hdr b 4 4
  let fresh_ : State :=
    if !recovery && s.stageBusy then s.chainAck fr stBusy
    else if idx ≠ 0 then s.chainAck fr (match s.chain.refused with | some (c, st) => if c = crc then st else stFrameCrc | none => stFrameCrc)
    else
      let i := s.chainImage (b.drop 16)
      let st := if recovery && (i.peger || imgKind i ≠ 1) then stBadArg else s.stageCheck i
      if st ≠ 0 then
        let s1 : State := { s with chain := { s.chain with refused := some (crc, st) } }
        (if recovery then (s1.setFl R.RCV_STATUS F.RCV_STATUS_status st).imageEvent st i else s1.storeImage i st).chainAck fr st
      else
        let s1 := if recovery then s else s.markStaging i 1
        s1.chainBlock { src := fr.src.toNat, crc := crc, count := hdr b 8 4, recovery := recovery } fr
  match s.chain.rx with
  | some r => if r.src = fr.src.toNat && r.crc = crc && r.recovery = recovery then s.chainBlock r fr else s.chainAck fr stBusy
  | none => fresh_

/-- IMAGE: a block, which a module with `accept` = 0 only passes on. -/
def execImage (fr : ChainFrame) (s : State) : Out :=
  .next (s.chainFrame fr (fun s =>
    if s.trowel.running && s.fl R.TRW_FWD F.TRW_FWD_accept = 1 && decide (16 ≤ fr.payload.length) then s.chainTake fr false else s))

/-- RECOVERY_FRAME: a block that a module in the recovery ROM takes when it is addressed to its position. -/
def execRecoveryFrame (fr : ChainFrame) (s : State) : Out :=
  .next (s.chainFrame fr (fun s =>
    if s.trowel.recovery && fr.dst ≠ 0xFF && decide (16 ≤ fr.payload.length) then s.chainTake fr true else s))

/-- Whether a block of the image being sent lacks an OK acknowledgement of a position. -/
def ChainX.lacks (c : ChainX) (p i : Nat) : Bool := !(c.txOk.contains (p, i))

/-- ACK: an OK acknowledges, for its sender, the first block with its `seq` that lacks one. -/
def execAck (fr : ChainFrame) (s : State) : Out :=
  .next (s.chainFrame fr (fun s =>
    let c := s.chain
    let p := fr.src.toNat
    if hdr fr.payload 0 2 ≠ 0 then s
    else match (List.range c.txFrames.length).zip c.txFrames |>.find? (fun e => e.2.seq = fr.seq && c.lacks p e.1) with
      | some e => { s with chain := { c with txOk := c.txOk ++ [(p, e.1)] } }
      | none => s))

/-- The positions that the image being sent is for. -/
def State.txTargets (s : State) : List Nat :=
  match s.chain.txFrames with
  | [] => []
  | f :: _ => if f.dst = 0xFF then (List.range s.chain.len).filter (fun p => s.chain.pos ≠ some p) else [f.dst.toNat]

/-- The sender's round: every block that a position has not acknowledged is sent to it again. -/
def State.resend (s : State) : State :=
  let c := s.chain
  if c.txFrames.isEmpty then s
  else if 3 ≤ c.txRounds then { s with chain := { c with txFrames := [], txOk := [] } }
  else
    let again (p : Nat) : List ChainFrame := ((List.range c.txFrames.length).zip c.txFrames).filterMap (fun e => if c.lacks p e.1 then some e.2 else none)
    let s1 : State := { s with chain := { c with txRounds := c.txRounds + 1 } }
    s1.txTargets.foldl (fun (a : State) p => (again p).foldl (fun (x : State) f => x.chainSend f.typ.toNat p f.seq f.payload) a) s1

/-- CHAIN_RESEND_ROUND: a resend round of the sender; a receiver that still lacks blocks after three discards the image. -/
def execChainResendRound (s : State) : Out :=
  .next (if !s.powered then s
  else
    let s1 := s.resend
    match s1.chain.rx with
    | none => s1
    | some r =>
      if r.rounds < 3 then { s1 with chain := { s1.chain with rx := some { r with rounds := r.rounds + 1 } } }
      else
        let i := s1.chainImage (Sp.getD r.blocks 0 [])
        let s2 : State := { s1 with chain := { s1.chain with rx := none } }
        (if r.recovery then s2.setFl R.RCV_STATUS F.RCV_STATUS_status stFrameCrc else s2.markStaging i 0).imageEvent stFrameCrc i)

/-! ### HOLD_N and DONE_OD (R464, R465) -/
/-- The module itself holds HOLD_N low: until its trowel has booted, in safe mode, in the recovery ROM. -/
def State.holdsHold (s : State) : Bool := !s.powered || !s.trowel.booted || s.service.safe || s.trowel.recovery

/-- A wall that takes part in the chain wait and has not reached its wait point, or whose boot load has yet to begin. -/
def State.wallHoldsDone (s : State) (w : Nat) : Bool :=
  let k := (s.wall w).kiln
  s.populated w &&
    ((k.chainWait && decide (1 ≤ s.phase w) && decide (s.phase w ≤ 5) && k.waitFrom.isNone && !k.waited) ||
     (s.bootDue w && s.fl (R.STARTUP_ORDER w) F.STARTUP_ORDER_chain = 1))

/-- The module itself holds DONE_OD low. -/
def State.holdsDone (s : State) : Bool := !s.powered || !(s.trowel.booted || s.trowel.recovery) || (List.range 8).any s.wallHoldsDone

/-- HOLD_N_RISE: every module has released the line. -/
def execHoldNRise (s : State) : Out := .next (if s.holdsHold then s else s.setHold true)
/-- HOLD_N_FALL. -/
def execHoldNFall (s : State) : Out := .next (if s.powered then s.setHold false else s)
/-- DONE_OD_RISE: every module has released the line. -/
def execDoneOdRise (s : State) : Out := .next (if s.holdsDone then s else s.setDone true)
/-- DONE_OD_FALL. -/
def execDoneOdFall (s : State) : Out := .next (if s.powered then s.setDone false else s)

/-- DONE_OD_WAIT_TIMEOUT: the wait has lasted longer than KILN_DONE_TO allows: the wall proceeds. -/
def execDoneOdWaitTimeout (w : Wall) (s : State) : Out :=
  onWall w.val s (fun s =>
    let w := w.val
    let k := s.kiln w
    let ms := s.fl (R.KILN_DONE_TO w) F.KILN_DONE_TO_ms
    match k.waitFrom with
    | none => s
    | some t0 =>
      if k.waited || s.doneOd || ms = 0 || s.phase w ≠ 5 || s.tick ≤ t0 + ms * 1250000 then s
      else ((s.setKiln w { k with waited := true, timedOut := true }).setFl (R.KILN_STATUS w) F.KILN_STATUS_done_to 1).setFl
        (R.KILN_STATUS w) F.KILN_STATUS_donew 0)

end Sys2Proof.Machine
end

