-- ==== Sys2Proof/Machine/Claims.lean ====
section
/-!
DEFINITION. Machine/Claims.lean: the claim registers (R415 to R419).
-/
namespace Sys2Proof.Machine
open Sys2Proof

/-- A claimable resource (R415). -/
inductive Res where
  | pin (w p : Nat)
  | acu (w u : Nat)
  | link (w n : Nat)
  | cap (w : Nat)
  | uart
  | meter
  deriving DecidableEq, Repr

def claimUart : Nat := R.CLAIM_SVC 0
def claimMeter : Nat := R.CLAIM_SVC 1

/-- The resource of the CLAIM register at an address. -/
def claimRes (a : Nat) : Option Res :=
  if a = claimUart then some .uart
  else if a = claimMeter then some .meter
  else if 0x78000 ≤ a && a < 0x78800 && a % 4 = 0 then
    let w := (a - 0x78000) / 0x100
    let k := (a - 0x78000) % 0x100 / 4
    if k < 24 then some (.pin w k) else if k < 40 then some (.acu w (k - 24)) else if k < 56 then some (.link w (k - 40))
    else if k = 56 then some (.cap w) else none
  else none

def Res.wall : Res → Option Nat
  | .pin w _ | .acu w _ | .link w _ | .cap w => some w
  | .uart | .meter => none

/-- Whether a resource is in use (R415). -/
def State.inUse (s : State) : Res → Bool
  | .pin w p => s.pinFunc w p ≠ 0
  | .acu w u => s.fl (R.ACU_CTRL w u) F.ACU_CTRL_en = 1
  | .link w n => s.fl (R.LK_CTRL w n) F.LK_CTRL_en = 1
  | .cap w => s.fl (R.CAP_STATUS w) F.CAP_STATUS_state ≠ 0
  | .uart => s.service.open_
  | .meter => s.fl R.SVC_METER_SEL F.SVC_METER_SEL_mode ≠ 0

/-- The console session closes (R529): its claim is released and CONSOLE CLOSED is raised. -/
def State.closeConsole (s : State) : State :=
  if !s.service.open_ then s
  else (({ s with service := { s.service with open_ := false } } : State).dropClaim claimUart).raiseHub 24 1 []

/-- A resource returns to its reset state (R416). -/
def State.resetRes (s : State) : Res → State
  | .pin w p => ((s.wr (R.FP_CFG w p) 0).dropRegs (fun a => decide (R.FP_CFG w p ≤ a) && decide (a < R.FP_CFG w p + 0x10))).setPin w p {}
  | .acu w u => (s.dropRegs (fun a => decide (R.ACU_CTRL w u ≤ a) && decide (a < R.ACU_CTRL w u + 0x20))).setAcu w u {}
  | .link w n => (s.idleLink w n).dropRegs (fun a => decide (R.LK_CTRL w n ≤ a) && decide (a < R.LK_CTRL w n + 0x1000))
  | .cap w => s.capRelease w
  | .uart => s.closeConsole
  | .meter => ({ (s.wr R.SVC_METER_SEL 0) with service := { s.service with verdict := none } } : State).wr R.SVC_VERDICT 0

/-- A claim is taken. The meter's verdict starts anew (R535). -/
def State.takeClaim (s : State) (a m : Nat) : State :=
  let s1 := (s.setFl a F.CLAIM_holder m).setFl a F.CLAIM_held 1
  if a = claimMeter then ({ s1 with service := { s1.service with verdict := none } } : State).wr R.SVC_VERDICT 0 else s1

/-- The effect of a write of a CLAIM register by master m: one of take, rel and force. -/
def State.claimWrite (s : State) (m a : Nat) (v : Word) : State × Nat :=
  match claimRes a with
  | none => refuse s stBadArg
  | some r =>
    let held := s.claimed a
    let mine := s.holds a m
    let leased := match r with
      | .link w n => (List.range 16).any (fun l =>
          s.fl (R.LS_CTRL w l) F.LS_CTRL_valid = 1 && nbit (s.fl (R.LS_LINKS w l) F.LS_LINKS_links) n && s.fl (R.LS_CTRL w l) F.LS_CTRL_holder ≠ m)
      | _ => false
    let bits := fld v F.CLAIM_take + fld v F.CLAIM_rel + fld v F.CLAIM_force
    if (match r.wall with | some w => !s.populated w | none => false) then refuse s stAccessDenied
    else if 1 < bits then refuse s stBadArg
    else if fld v F.CLAIM_take = 1 then
      (if mine then (s, 0) else if held then refuse s stBusy else if leased then refuse s stAccessDenied else (s.takeClaim a m, 0))
    else if fld v F.CLAIM_rel = 1 then
      (if !mine then refuse s stAccessDenied else if s.inUse r then refuse s stBusy else (s.dropClaim a, 0))
    else if fld v F.CLAIM_force = 1 then
      (if m ≠ 0 then refuse s stAccessDenied
       else (((s.resetRes r).dropClaim a).raiseHub 23 0 [a - 0x70000, s.fl a F.CLAIM_holder], 0))
    else (s, 0)

/-- CLAIM_TAKE: `r` is the address of the resource's CLAIM register. -/
def execClaimTake (m : Mid) (r : Nat) (s : State) : Out :=
  regRow s m r (fun s => s.claimWrite m.toNat r (setFld 0 F.CLAIM_take 1))

/-- CLAIM_RELEASE. -/
def execClaimRelease (m : Mid) (r : Nat) (s : State) : Out :=
  regRow s m r (fun s => s.claimWrite m.toNat r (setFld 0 F.CLAIM_rel 1))

/-- CLAIM_FORCE. -/
def execClaimForce (m : Mid) (r : Nat) (s : State) : Out :=
  regRow s m r (fun s => s.claimWrite m.toNat r (setFld 0 F.CLAIM_force 1))

end Sys2Proof.Machine
end

