-- ==== Sys2Proof/Machine/RegRead.lean ====
section
/-!
DEFINITION. Machine/RegRead.lean: what a read of a register returns (R10, R11, R13, R383, R409, R516): the stored word, or, for a
register that shows typed state, that state's view.
-/
namespace Sys2Proof.Machine
open Sys2Proof

/-! ### Views of a tile (R115, R180) -/
def w4 (b3 b2 b1 b0 : Nat) : Word := BitVec.ofNat 32 (b0 + b1 * 256 + b2 * 65536 + b3 * 16777216)

/-- Slot and valid bit of a way. -/
def Tile.wayByte (x : Tile) (k : Nat) : Nat := (x.way k).slot.toNat + b2n (x.way k).valid * 128

def Tile.pcStatus (x : Tile) : Word :=
  let k := x.curWay.getD 0
  let y := x.way k
  let on := x.curWay.isSome
  let valid := ((List.range 8).map (fun i => b2n (x.way i).valid * 2 ^ i)).foldl (· + ·) 0
  BitVec.ofNat 32 (k + (if on then y.slot.toNat else 0) * 8 + b2n (x.stall = .pattern) * 1024 + b2n x.refill.isSome * 2048 +
    (match x.refill with | some r => r.way | none => 0) * 4096 + valid * 65536 + (if on then patTag y.pat else 0) * 16777216)

/-- The user that holds a tile's frame port, in R93's order: a kiln access is one row, so 2 is never seen between rows
(log 99). -/
def State.portUser (s : State) (w t : Nat) : Nat :=
  let x := s.tile w t
  if x.refill.isSome then 1 else if s.capReads w t then 3 else if x.scrubWay.isSome then 4 else 0

def State.tileView (s : State) (w t o : Nat) : Option Word :=
  let x := s.tile w t
  if o = 0x00 then some (BitVec.ofNat 32 (t + w * 128))
  else if o = 0x04 then some x.pcStatus
  else if o = 0x08 then some (w4 (x.wayByte 3) (x.wayByte 2) (x.wayByte 1) (x.wayByte 0))
  else if o = 0x0C then some (w4 (x.wayByte 7) (x.wayByte 6) (x.wayByte 5) (x.wayByte 4))
  else if o = 0x38 then
    some (setFld (s.rd (R.FPORT_STATUS w t)) F.FPORT_STATUS_user (s.portUser w t))
  else if o = 0x40 then some (s.seqStatus w t)
  else if o = 0x48 then some (x.fpownWord w)
  else if o = 0x60 then some x.repcStatus
  else none

/-! ### Views of a wall -/
/-- The low and high halves of a 64-bit quantity. -/
def half (x : Nat) (hi : Bool) : Word := BitVec.ofNat 32 (if hi then x / 4294967296 else x)

def State.wallView (s : State) (w o : Nat) : Option Word :=
  let x := s.wall w
  if o = 0x4 then
    let n := ((List.range 512).filter (fun f => s.fstate w f = fRunnable)).length
    let fx := ((List.range 512).filter (fun f => (s.flow w f).placed && s.fixedFlow w f)).length
    some (BitVec.ofNat 32 (n + s.nearCount w * 1024 + fx * 131072))
  else if o = 0x10004 then some (BitVec.ofNat 32 x.freeCount)
  else if o = 0x20020 then some (BitVec.ofNat 32 (s.bootEntry w + b2n (s.bootOn w) * 4))
  else if o = 0x40004 then some (BitVec.ofNat 32 (s.slotNow w))
  else if o = 0x60124 then some (BitVec.ofNat 32 (s.gdx w 0).filter.length)
  else if o = 0x60164 then some (BitVec.ofNat 32 (s.gdx w 1).filter.length)
  else if 0x61000 ≤ o && o < 0x61C00 then (if s.gdSize w ≤ (o - 0x61000) % 0x600 / 0x20 * 0x4000000 then some 0 else none)
  else if 0x70000 ≤ o && o < 0x70100 then
    let b := s.base w ((o - 0x70000) / 0x40)
    if o % 0x40 = 0x14 then some (half b.v.toNat false)
    else if o % 0x40 = 0x18 then some (half b.v.toNat true)
    else if o % 0x40 = 0x1C then some b.vel
    else none
  else if 0x70400 ≤ o && o < 0x70600 && o % 0x20 = 0x14 then
    let u := (o - 0x70400) / 0x20
    let p := s.fl (R.ACU_CTRL w u) F.ACU_CTRL_pin
    some (setFld (s.rd (R.ACU_STATUS w u)) F.ACU_STATUS_level (if p < 24 then b2n (s.pin w p).outReg else 0))
  else if wallBase w + o = R.WTICK_LO w then some (half (s.wtick w) false)
  else if wallBase w + o = R.WTICK_HI w then some (half (s.wtick w) true)
  else if o = 0x90000 then some (half x.ptpLatch false)
  else if o = 0x90004 then some (BitVec.ofNat 32 (x.ptpLatch / 4294967296 % 65536))
  else if o = 0x90008 then some (BitVec.ofNat 32 x.ptpNs)
  else if o = 0xA0204 then some (BitVec.ofNat 32 (s.fpLevel w))
  else if o = 0xF0000 then some (BitVec.ofNat 32 x.raised.length)
  else if o = 0xF0004 then some (BitVec.ofNat 32 x.seq)
  else if 0x100000 ≤ o && o < 0x120000 then s.tileView w ((o - 0x100000) / 0x400) (o % 0x400)
  else none

/-! ### Views of the hub -/
/-- HUB_ID (R436). -/
def State.hubId (s : State) : Word := BitVec.ofNat 32 (s.part.walls + b2n s.part.gradeE * 16 + 125 * 256)

def State.trwStatus (s : State) : Word :=
  BitVec.ofNat 32 (s.trwState + b2n s.trowel.runSlot * 8 + (s.trowel.slot s.trowel.runSlot).version % 16777216 * 256)

def ImgSlot.word (x : ImgSlot) : Word := BitVec.ofNat 32 (x.state + x.version % 16777216 * 256)

def State.trwBoot (s : State) : Word := BitVec.ofNat 32 (s.trowel.bootFails + s.trowel.bootCause * 16)

def State.trwAct (s : State) : Word :=
  match s.trowel.act with
  | some a => BitVec.ofNat 32 (a.when_ % 4 + 4 + b2n a.waiting * 8)
  | none => 0

def State.chnStatus (s : State) : Word :=
  let c := s.chain
  BitVec.ofNat 32 (c.pos.getD 0 % 64 + b2n c.pos.isSome * 64 + c.len % 128 * 128 + b2n c.upPartner * 16384 + b2n c.downPartner * 32768 +
    b2n s.doneOd * 65536 + b2n s.holdN * 131072)

def State.pwrStatus (s : State) : Word :=
  let on := ((List.range 8).map (fun w => b2n (s.populated w && s.wallPower w = 0) * 2 ^ w)).foldl (· + ·) 0
  BitVec.ofNat 32 (b2n s.powered + b2n s.service.safe * 2 + on * 256)

/-- The console acts as master 0 (R530). -/
def State.consoleLocal (s : State) : Bool := !s.cxl.up || s.service.safe

def State.hubView (s : State) (a : Nat) : Option Word :=
  if a = R.HUB_ID then some s.hubId
  else if a = R.HUB_VERSION then some (Config.silicon 0)
  else if a = R.UNIT_ID_LO then some (half (Config.unitId 0).toNat false)
  else if a = R.UNIT_ID_HI then some (half (Config.unitId 0).toNat true)
  else if a = R.CMD_STATUS then some (BitVec.ofNat 32 s.longs.length)
  else if a = R.LOG_POS_LO then some (half s.logCount false)
  else if a = R.LOG_POS_HI then some (half s.logCount true)
  else if a = R.MT_TICK_LO then some (half s.tick false)
  else if a = R.MT_TICK_HI then some (half s.tick true)
  else if a = R.TRW_STATUS then some s.trwStatus
  else if a = R.TRW_SLOT 0 then some s.trowel.slotA.word
  else if a = R.TRW_SLOT 1 then some s.trowel.slotB.word
  else if a = R.TRW_BOOT then some s.trwBoot
  else if a = R.TRW_ACT then some s.trwAct
  else if a = R.TRW_ACT_AT then some (match s.trowel.act with | some x => BitVec.ofNat 32 x.target | none => 0)
  else if a = R.PWR_STATUS then some s.pwrStatus
  else if a = R.SEC_LC then some (BitVec.ofNat 32 s.trowel.lifecycle)
  else if a = R.SEC_KEY_ID then some (Config.keyId 0)
  else if a = R.CHN_STATUS then some s.chnStatus
  else if a = R.SVC_CONSOLE then some (BitVec.ofNat 32 (b2n s.service.open_ + b2n s.consoleLocal * 2))
  else none

/-- The word a register shows. -/
def State.view (s : State) (a : Nat) : Word :=
  match wallOfAddr a with
  | some (w, o) =>
    if s.wallOff w then 0
    else match s.wallView w o with
      | some v => v
      | none => s.rd a
  | none => match s.hubView a with
    | some v => v
    | none => s.rd a

/-! ### Pairs (R11) -/
/-- The region offsets of the first instances of the _LO registers of 64-bit quantities; the PTP seconds have latches of
their own (R383), and the MSI-X table is PCI Express's. -/
def pairRows (wall : Bool) : List Nat :=
  if wall then [0x20804, 0x20810, 0x8010, 0x70014, 0x70020, 0x70030, 0x70404, 0x70804, 0x60114]
  else [0x30000, 0x82000, 0x8, 0x10000, 0x10800, 0x22000, 0x22020]

/-- Whether an address is that of a _LO register. -/
def isPairLo (a : Nat) : Bool :=
  match regDef a with
  | some d => (pairRows (wallOfAddr a).isSome).contains d.off
  | none => false

/-- A read of a register that is let through: its value, and what the read does to a pair's latch and to the PTP latch. -/
def State.fetchReg (s : State) (m a : Nat) : State × Word :=
  let off := match wallOfAddr a with | some (w, _) => s.wallOff w | none => false
  if off then (s, 0)
  else if 0x48000 ≤ a && a < 0x4900C && !s.rcvOpen m then (s, 0)
  else if isPairLo a then ({ s with pairs := Sp.set s.pairs a (some (s.view (a + 4))) none }, s.view a)
  else if isPairLo (a - 4) && a % 4 = 0 && 4 ≤ a then
    (match Sp.getD s.pairs (a - 4) none with
      | some v => ({ s with pairs := Sp.set s.pairs (a - 4) none none }, v)
      | none => (s, s.view a))
  else match wallOfAddr a with
    | some (w, o) => if o = 0x90008 then s.ptpRead w else (s, s.view a)
    | none => (s, s.view a)

/-- A register read by master m (R409). -/
def State.regRead (s : State) (m a : Nat) : State :=
  let st := s.regCheck m a false
  if !s.powered then s
  else if st ≠ 0 then s.answer m a false st 0
  else ((s.fetchReg m a).1).answer m a false 0 (s.fetchReg m a).2

/-- REGISTER_READ. -/
def execRegisterRead (m : Mid) (a : Nat) (s : State) : Out := .next (s.regRead m.toNat a)

/-- PAIR_LO_READ: a read of a _LO register; of another register, a plain read. -/
def execPairLoRead (m : Mid) (a : Nat) (s : State) : Out := .next (s.regRead m.toNat a)

/-- PAIR_HI_READ: a read of a _HI register. -/
def execPairHiRead (m : Mid) (a : Nat) (s : State) : Out := .next (s.regRead m.toNat a)

end Sys2Proof.Machine
end

