-- ==== Sys2Proof/Machine/RegWrite.lean ====
section
/-!
DEFINITION. Machine/RegWrite.lean: the effect of a write of any register, by its BAR0 address, and the rows that write a
register or reach one over the register bus (R305, R316, R408 to R416, R436 to R438, R503, R527, R543, R545, R547).
-/
namespace Sys2Proof.Machine
open Sys2Proof

/-! ### The hub's blocks -/
/-- Command queues (R420, R422, R425). -/
def State.queueRegWrite (s : State) (a : Nat) (v : Word) : State × Nat :=
  match doorbellQueue a with
  | some q => if a % 8 = 0 then s.sqDbWrite q v else s.cqDbWrite q v
  | none =>
    if 0x10000 ≤ a && a < 0x10800 then
      let q := (a - 0x10000) / 0x20
      (if a % 0x20 = 8 then s.sqCfgWrite q v else if a % 0x20 < 0x10 then s.queueSetup (s.sqOn q) a v else (s.plain a v, 0))
    else if 0x10800 ≤ a && a < 0x11000 then
      let c := (a - 0x10800) / 0x20
      (if a % 0x20 = 8 then s.cqCfgWrite c v else if a % 0x20 < 0x10 then s.queueSetup (s.cqOn c) a v else (s.plain a v, 0))
    else (s.plain a v, 0)

/-- Events and MSI-X (R433, R434, R437). -/
def State.eventRegWrite (s : State) (a : Nat) (v : Word) : State × Nat :=
  if a = R.EVR_CFG then s.evrCfgWrite v
  else if a = R.EVR_RD then s.evrRdWrite v
  else if a = R.EV_RAISE then s.evRaise v
  else if 0x21000 ≤ a && a < 0x21800 && a % 16 = 12 then s.msixCtrlWrite ((a - 0x21000) / 16) v
  else (s.plain a v, 0)

/-- The trowel block (R503). -/
def State.trowelRegWrite (s : State) (m a : Nat) (v : Word) : State × Nat :=
  if a = R.TRW_RCV_SEND then s.rcvSendWrite v
  else if 0x48000 ≤ a && a < 0x49000 then s.rcvWinWrite m ((a - 0x48000) / 4) v
  else if a = R.RCV_CTRL then s.rcvCtrlWrite m v none
  else if a = R.RCV_STATUS || a = R.RCV_COUNT then (if s.rcvOpen m then (s, 0) else refuse s stAccessDenied)
  else (s.plain a v, 0)

/-- The power block (R512, R517, R521, R523, R525, R527). -/
def State.powerRegWrite (s : State) (a : Nat) (v : Word) : State × Nat :=
  let s1 := s.plain a v
  if a = R.PWR_FAN then
    (if fld v F.PWR_FAN_auto = 0 then (s1.setFl a F.PWR_FAN_req (fld v F.PWR_FAN_manual), 0) else (s1, 0))
  else if 0x50100 ≤ a && a < 0x50680 then
    let m := (a - 0x50100) / 16
    if a % 16 = 12 then (s1.setMon m { (s1.mon m) with fresh := true }, 0)
    else (s1.showHolds, 0)
  else if 0x51000 ≤ a && a < 0x51200 then
    let w : Wall := Fin.ofNat 8 ((a - 0x51000) / 0x40)
    if a % 0x40 = 4 then s.gateWrite w v
    else if a % 0x40 = 8 then (s1.wantClock w.val, 0)
    else (s1, 0)
  else (s1, 0)

/-- Access tables and claims (R412, R438). -/
def State.accessRegWrite (s : State) (m a : Nat) (v : Word) : State × Nat :=
  if (claimRes a).isSome then s.claimWrite m a v
  else if masterZeroOnly a then
    if s.fl R.HUB_ACC_LOCK F.HUB_ACC_LOCK_lock = 1 then refuse s stAccessDenied
    else if 0x76000 ≤ a && fld v F.HG_MAP_valid = 1 && (List.range 32).any (fun g =>
        R.HG_MAP g ≠ a && s.fl (R.HG_MAP g) F.HG_MAP_valid = 1 && s.fl (R.HG_MAP g) F.HG_MAP_pasid = fld v F.HG_MAP_pasid) then
      refuse s stBadArg
    else (s.plain a v, 0)
  else (s.plain a v, 0)

/-- The crossing switch (R305, R306, R316). -/
def State.switchRegWrite (s : State) (a : Nat) (v : Word) : State × Nat :=
  if a = R.XS_EPOCH then s.epochWrite .switch v
  else if 0x80800 ≤ a && a < 0x80880 then
    let b := (a - 0x80800) / 0x40
    let r := a % 0x40 / 4
    if routeExists .switch r 0 then s.routeWrite .switch (b = 1) r 0 v else (s, 0)
  else if 0x81000 ≤ a && a < 0x81800 then
    let b := (a - 0x81000) / 0x400
    let o := (a - 0x81000) % 0x400 / 0x40
    if o < 11 then s.slotWrite .switch (b = 1) 0 o (a % 0x40 / 4) v else (s, 0)
  else (s.plain a v, 0)

/-- SVC_METER_SEL (R533, R534): the level follows at the next update. -/
def State.meterSelWrite (s : State) (m : Nat) (v : Word) : State × Nat :=
  let mode := fld v F.SVC_METER_SEL_mode
  if !s.holds claimMeter m then refuse s stBusy
  else if mode = 3 || (mode = 1 && !inRange 1 (fld v F.SVC_METER_SEL_qty) 9) then refuse s stBadArg
  else (s.plain R.SVC_METER_SEL v, 0)

/-- SVC_SAFE (R543, R545): for master 0. -/
def State.safeWrite (s : State) (m : Nat) (v : Word) : State × Nat :=
  if m ≠ 0 then refuse s stAccessDenied
  else if fld v F.SVC_SAFE_enter = 1 then (s.enterSafe 3, 0)
  else if fld v F.SVC_SAFE_exit = 1 then (s.leaveSafe, 0)
  else (s, 0)

/-- The service block, with the chain (R402, R547). -/
def State.serviceRegWrite (s : State) (m a : Nat) (v : Word) : State × Nat :=
  if a = R.SVC_METER_SEL then s.meterSelWrite m v
  else if a = R.SVC_SAFE then s.safeWrite m v
  else (s.plain a v, 0)

/-- The effect of a write at a hub address. -/
def State.hubRegWrite (s : State) (m a : Nat) (v : Word) : State × Nat :=
  match a / 0x10000 with
  | 1 => s.queueRegWrite a v
  | 2 => s.eventRegWrite a v
  | 3 => if 0x30100 ≤ a && a < 0x30180 then s.ashWrite ((a - 0x30100) / 0x10) (a % 0x10 / 4) v else (s.plain a v, 0)
  | 4 => s.trowelRegWrite m a v
  | 5 => s.powerRegWrite a v
  | 7 => s.accessRegWrite m a v
  | 8 => s.switchRegWrite a v
  | 9 => s.serviceRegWrite m a v
  | _ => (s.plain a v, 0)

/-- The effect of a write at a BAR0 address: an unassigned offset takes none (R10). -/
def State.writeEffect (s : State) (m a : Nat) (v : Word) : State × Nat :=
  if (regDef a).isNone then (s, 0)
  else match wallOfAddr a with
    | some (w, o) => s.wallRegWrite m (Fin.ofNat 8 w) o v
    | none => s.hubRegWrite m a v

/-! ### Rows -/
/-- REGISTER_WRITE. -/
def execRegisterWrite (m : Mid) (a : Nat) (v : Word) (s : State) : Out := regRow s m a (fun s => s.writeEffect m.toNat a v)

/-- The answer that carries a register access's status (R409): a NACK where R313 has one, else a completion, which a write
gets where it asks for one. -/
def busFail (st : Nat) (read : Bool) : Ans :=
  if st = stAccessDenied || st = stBadArg || st = stDomainOff || st = stRouteWithdrawn || st = stWallLoading then .nack st
  else if read then .fail st else .comp st

/-- REGISTER_BUS_ACCESS: a packet at the register bus of a wall reads or writes one register (R280, R409, R571). -/
def execRegisterBusAccess (w : Wall) (p : Packet) (s : State) : Out :=
  endpointRow w.val 23 0 p s (fun s =>
    let off := p.addr.toNat
    let a := wallBase w.val + off
    if p.typ = 3 then (s, .nack stBadArg)
    else if 0x400000 ≤ off || p.count ≠ 4 then (s, .nack stBadArg)
    else if p.typ = 0 then
      let s1 := s.regWrite p.mid.toNat a (fun s => s.writeEffect p.mid.toNat a (BitVec.ofNat 32 (ofLeBytes (p.payload.take 4))))
      (s1, if s1.last.status = 0 then .comp 0 else busFail s1.last.status false)
    else
      let s1 := s.regRead p.mid.toNat a
      (s1, if s1.last.status = 0 then .resp 0 (leBytes 4 s1.last.value.toNat) else busFail s1.last.status true))

/-- SVC_METER_SEL_WRITE. -/
def execSvcMeterSelWrite (m : Mid) (v : Word) (s : State) : Out := regRow s m R.SVC_METER_SEL (fun s => s.meterSelWrite m.toNat v)

/-- SVC_SAFE_ENTER: a write of 1 to SVC_SAFE.`enter`. -/
def execSvcSafeEnter (m : Mid) (s : State) : Out := regRow s m R.SVC_SAFE (fun s => s.safeWrite m.toNat 1)

/-- SVC_SAFE_EXIT: a write of 1 to SVC_SAFE.`exit`. -/
def execSvcSafeExit (m : Mid) (s : State) : Out := regRow s m R.SVC_SAFE (fun s => s.safeWrite m.toNat 2)

end Sys2Proof.Machine
end

