-- ==== Sys2Proof/Machine/Capture.lean ====
section
/-!
DEFINITION. Machine/Capture.lean: the readback of a capture (R111, R112).
-/
namespace Sys2Proof.Machine
open Sys2Proof

/-- The configuration frames of a tile as they stand: foundation, program, cache ways (R112). -/
def State.configRecord (s : State) (w t : Nat) : Bytes :=
  let x := s.tile w t
  bytesOfWords ((List.range 4).flatMap (fun k => s.foundWords w t k) ++ (List.range 43).flatMap (fun k => x.programWords k) ++
    (List.range 8).flatMap (fun k => toWords 96 (x.way k).pat.toNat))

/-- Bytes that a readback of one tile returns: a record, or 55 frames of 384 bytes. -/
def captureBytes (config : Bool) : Nat := if config then 55 * 384 else 4096

/-- The tiles of the courses that a mask names, in ascending index. -/
def courseTiles (courses : Nat) : List Nat := (List.range 128).filter (fun t => nbit courses (t / 8))

/-- A readback of tiles: its bytes, and the cells once it is over: released when every tile has been read, else held for
the rest (R110). -/
def State.readback (s : State) (w : Nat) (config : Bool) (ts : List Nat) : State × Bytes :=
  let x := s.wall w
  let b := ts.flatMap (fun t => if config then s.configRecord w t else bytesOfWords (Sp.getD x.cap.held t []))
  let done := ts ++ x.cap.read
  (if (List.range 128).all (fun t => done.contains t) then s.capRelease w
   else (s.setWall w { x with cap := { x.cap with read := done } }).setFl (R.CAP_STATUS w) F.CAP_STATUS_state 2, b)

end Sys2Proof.Machine
end

