-- ==== Sys2Proof/Machine/Commands.lean ====
section
/-!
DEFINITION. Machine/Commands.lean: the commands of R426, each a `Cmd` for the master that makes it: the hub's, and those
that work on a wall, self-tests apart (R347, R418, R427, R428, R453, R461, R467 to R469, R488, R493, R502, R514, R546).
-/
namespace Sys2Proof.Machine
open Sys2Proof

/-- The context of a command whose row fixes argument word W5. -/
def withArg (c : CmdCtx) (v : Nat) : CmdCtx := { c with args := BitVec.ofNat 32 v :: c.args.drop 1 }

/-- Whether an argument word has a bit outside the lowest `n`. -/
def argOver (c : CmdCtx) (i n : Nat) : Bool := decide (2 ^ n ≤ cmdArg c i)

/-! ### What a command names and needs (R426) -/
/-- The walls that a command names. -/
def cmdWalls (op : Nat) (c : CmdCtx) : List Nat :=
  if op = 16 then maskBits 8 (cmdArg c 0 % 256) else if wallOp op then [c.wall.toNat] else []

/-- The table that governs a self-test's blocks (R538). -/
def testTable (t : Nat) (c : CmdCtx) : Nat :=
  let w := c.wall.toNat
  match t with
  | 4 => R.WB_ACC_A w 5
  | 5 => R.WB_ACC_A w 6
  | 6 | 7 => R.LK_ACC_A (16 * w + cmdArg c 1 % 16)
  | 8 => R.WB_ACC_A w 4
  | 9 => R.WB_ACC_A w 7
  | 10 => R.RB_ACC_A 9
  | 11 => R.RB_ACC_A 5
  | _ => R.WB_ACC_A w 11

/-- Whether master m has the access that a command needs; leases that need reading the buffer apart. -/
def State.cmdAccess (s : State) (m op : Nat) (c : CmdCtx) : Bool :=
  let w := c.wall.toNat
  match op with
  | 1 => s.mayRead m (R.RB_ACC_A 0)
  | 3 => s.mayRead m (R.RB_ACC_A 4)
  | 4 => s.mayWrite m (R.RB_ACC_A 4)
  | 5 => s.mayRead m (R.RB_ACC_A 2)
  | 16 => (cmdWalls 16 c).all (fun v => s.mayWrite m (R.WB_ACC_A v 2))
  | 17 => s.mayWrite m (R.WB_ACC_A w 2)
  | 18 => s.mayWrite m (R.RB_ACC_A 5)
  | 20 => s.mayWrite m (R.WB_ACC_A w 2) && (maskBits 16 (cmdArg c 1)).all (fun k => s.courseLease w m k)
  | 24 => s.mayWrite m (R.WB_ACC_A w 5)
  | 25 => s.mayWrite m (R.WB_ACC_A w 6)
  | 26 => s.mayWrite m (R.LK_ACC_A (16 * w + cmdArg c 0 % 16))
  | 32 => s.mayWrite m (testTable (cmdArg c 0) c)
  | 48 => s.mayWrite m (R.RB_ACC_A 4)
  | 49 => s.mayWrite m (R.RB_ACC_A 4)
  | _ => true

/-- A command whose walls and access are the table's. -/
def State.cmdOf (s : State) (m op : Nat) (c : CmdCtx) (isLong : Bool) (minLen : Nat) (bad : Bool) (run : State → State × CmdRes) : Cmd :=
  { op := op, bad := bad, ws := cmdWalls op c, access := s.cmdAccess m op c, minLen := minLen, isLong := isLong, run := run }

/-- A start that ends the command at once. -/
def fails (s : State) (st : Nat) : State × CmdRes := (s, .final st 0 0)

/-! ### IDENTIFY (R546, R570) -/
/-- The ordering code's 24 bytes. -/
def State.orderingCode (s : State) : Bytes :=
  let n := s.part.walls
  let gb := if n = 2 then "12" else if n = 4 then "24" else "48"
  let str := "YX-" ++ (if n = 2 then "2" else if n = 4 then "4" else "8") ++ "-125-" ++ (if s.part.gradeE then "E" else "C") ++ "-" ++ gb
  ((str.toList.map (fun (ch : Char) => BitVec.ofNat 8 ch.toNat)) ++ List.replicate 24 0).take 24

/-- The identity record of 256 bytes, with its stamp. -/
def State.identity (s : State) : Bytes :=
  let wd (a : Nat) : Bytes := leBytes 4 (s.view a).toNat
  let st : Stamp := { tick := s.tick, seq := s.hubSeq, source := 8 }
  wd R.HUB_ID ++ wd R.HUB_VERSION ++ wd R.UNIT_ID_LO ++ wd R.UNIT_ID_HI ++ s.orderingCode ++ wd R.TRW_STATUS ++ wd (R.TRW_SLOT 0) ++
  wd (R.TRW_SLOT 1) ++ wd R.TRW_BOOT ++ wd R.SEC_LC ++ wd R.SEC_KEY_ID ++ wd R.CHN_STATUS ++ wd R.PWR_CAUSE ++ leBytes 4 s.bootSetting ++
  leBytes 4 (s.fl (R.GD_CFG 0) F.GD_CFG_ecc) ++
  (List.range 8).flatMap (fun w => if s.populated w then wd (R.KILN_STATUS w) ++ wd (R.KILN_IMAGE w) ++ wd (R.WPWR_CTRL w) ++ wd (R.WPWR_CLK w)
    else List.replicate 16 0) ++
  st.bytes ++ List.replicate 24 0

/-- IDENTIFY. -/
def State.identifyCmd (s : State) (m : Nat) (c : CmdCtx) : Cmd :=
  s.cmdOf m 1 c false 256 false (fun s =>
    ({ (s.toBuffer c 0 s.identity) with hubSeq := (s.hubSeq + 1) % 4294967296 }, .final 0 0 0))

/-- IDENTIFY. -/
def execIdentify (c : CmdCtx) (s : State) : Out := cmdRow s c (s.identifyCmd (s.cmdMid c) c)

/-! ### Settings (R502, R526) -/
/-- A setting's default; none: the number is unknown. -/
def State.settingDefault (s : State) (n : Nat) : Option Word :=
  match n with
  | 1 => some 0
  | 2 => some 0
  | 3 => some 115200
  | 4 => some 5000
  | 5 => some 0
  | 6 => some 1
  | _ => (settingReg n).map (fun a => regReset s.part.walls s.part.gradeE a)

/-- Whether a value is within a setting's range. -/
def settingOk (n v : Nat) : Bool :=
  match n with
  | 1 => decide (v < 16777216) && (List.range 8).all (fun w => nbits v (3 * w) 2 ≠ 3)
  | 2 => decide (v ≤ 1)
  | 3 => inRange 115200 v 3000000
  | 4 => inRange 1000 v 60000
  | 5 => decide (v ≤ 1)
  | 6 => decide (v ≤ 1)
  | _ => true

/-- SETTING_GET. -/
def State.settingGetCmd (s : State) (m : Nat) (c : CmdCtx) : Cmd :=
  s.cmdOf m 3 c false 0 false (fun s =>
    match s.settingDefault (cmdArg c 0) with
    | none => fails s stBadArg
    | some d => (s, .final 0 (Sp.getD s.trowel.settings (cmdArg c 0) d) 0))

/-- SETTING_GET. -/
def execSettingGet (c : CmdCtx) (s : State) : Out := cmdRow s c (s.settingGetCmd (s.cmdMid c) c)

/-- SETTING_SET: a new generation, which a trial does not write (R495). -/
def State.settingSetCmd (s : State) (m : Nat) (c : CmdCtx) : Cmd :=
  s.cmdOf m 4 c false 0 false (fun s =>
    let n := cmdArg c 0
    if (s.settingDefault n).isNone || !settingOk n (cmdArg c 1) then fails s stBadArg
    else if (s.trowel.slotIn 4).isSome then fails s stBusy
    else
      let s1 : State := { s with trowel := { s.trowel with settings := Sp.put s.trowel.settings n (c.args.getD 1 0) } }
      (s1.newGeneration.raiseHub 18 0 [n], .final 0 0 0))

/-- SETTING_SET. -/
def execSettingSet (c : CmdCtx) (s : State) : Out := cmdRow s c (s.settingSetCmd (s.cmdMid c) c)

/-! ### LOG_READ -/
/-- LOG_READ: the records are copied as the command runs on to its end. -/
def State.logReadCmd (s : State) (m : Nat) (c : CmdCtx) : Cmd := s.cmdOf m 5 c true 64 false (fun s => (s, .long none 0 none))

/-- LOG_READ. -/
def execLogRead (c : CmdCtx) (s : State) : Out := cmdRow s c (s.logReadCmd (s.cmdMid c) c)

/-- The records of the hub log from a position, as far as the log still holds them. -/
def State.logFrom (s : State) (p n : Nat) : List EvRec :=
  let first := s.logCount - s.log.length
  (s.log.drop (p - first)).take n

/-! ### WALL_LOAD, WALL_RESET, WALL_POWER (R453, R461, R514) -/
/-- A wall begins a load: one that is off is powered up first; a wall held for scanning is let go (R542). -/
def State.loadWall (s : State) (w : Nat) (p : LongCmd → Bool) : State :=
  let up := s.wallPower w = 2
  let s1 := s.setWall w { (s.wall w) with tsbBy := false, coolSince := none, scan := false }
  let s2 := (s1.setFl (R.WPWR_CTRL w) F.WPWR_CTRL_ocp 0).beginLoad w false p
  let s3 := if up then s2.wantClock w else s2
  s3.setWall w { (s3.wall w) with bootLoaded := true }

/-- WALL_LOAD: the stream then comes as packets at each wall's kiln stream port. -/
def State.wallLoadCmd (s : State) (m : Nat) (c : CmdCtx) : Cmd :=
  s.cmdOf m 16 c true 424 (argOver c 0 9) (fun s =>
    if (cmdWalls 16 c).isEmpty || s.trowel.lifecycle = 3 then fails s stBadArg
    else
      ((cmdWalls 16 c).foldl (fun (a : State) w =>
        let a1 := a.loadWall w (fun _ => false)
        a1.setKiln w { (a1.kiln w) with master := BitVec.ofNat 6 m, bcast := nbit (cmdArg c 0) 8 }) s, .long none 0 none))

/-- WALL_LOAD. -/
def execWallLoad (c : CmdCtx) (s : State) : Out := cmdRow s c (s.wallLoadCmd (s.cmdMid c) c)

/-- WALL_RESET. -/
def State.wallResetCmd (s : State) (m : Nat) (c : CmdCtx) : Cmd :=
  s.cmdOf m 17 c true 0 false (fun s =>
    let w := c.wall.toNat
    if s.phase w = 7 || s.fl (R.KILN_STATUS w) F.KILN_STATUS_cfg = 0 then fails s stBadArg
    else (s.beginReset w (fun _ => false), .long none 0 none))

/-- WALL_RESET. -/
def execWallReset (c : CmdCtx) (s : State) : Out := cmdRow s c (s.wallResetCmd (s.cmdMid c) c)

/-- WALL_POWER to the state of W5. -/
def State.wallPowerCmd (s : State) (m : Nat) (c : CmdCtx) : Cmd :=
  s.cmdOf m 18 c true 0 (argOver c 0 2) (fun s =>
    let w : Wall := Fin.ofNat 8 c.wall.toNat
    let g := cmdArg c 0
    if g = 3 then fails s stBadArg
    else if s.wallPower w.val = g then (s, .longDone 0 0 0)
    else if s.wallPower w.val = 3 then fails s stBusy
    else
      let s1 := s.setFl (R.WPWR_CTRL w.val) F.WPWR_CTRL_ocp 0
      if g = 0 then (s1.beginUp w.val (fun _ => false), .long none 0 none)
      else
        let s2 := (s1.setWall w.val { (s1.wall w.val) with tsbBy := false, coolSince := none }).beginDown w g (fun _ => false)
        (s2, if s2.wallPower w.val = g then .longDone 0 0 0 else .long none 0 none))

/-- WALL_POWER_ON. -/
def execWallPowerOn (c : CmdCtx) (s : State) : Out := cmdRow s (withArg c 0) (s.wallPowerCmd (s.cmdMid c) (withArg c 0))

/-- WALL_POWER_STANDBY. -/
def execWallPowerStandby (c : CmdCtx) (s : State) : Out := cmdRow s (withArg c 1) (s.wallPowerCmd (s.cmdMid c) (withArg c 1))

/-- WALL_POWER_OFF. -/
def execWallPowerOff (c : CmdCtx) (s : State) : Out := cmdRow s (withArg c 2) (s.wallPowerCmd (s.cmdMid c) (withArg c 2))

/-! ### PATTERN_IMAGE (R467 to R470) -/
/-- Whether a valid lease of master m grants a library slot of a tile (R217). -/
def State.slotLease (s : State) (w m t n : Nat) : Bool :=
  s.hasLease w m (fun l =>
    let r := s.rd (R.LS_SLOTS w l)
    nbit (s.fl (R.LS_COURSES w l) F.LS_COURSES_courses) (t / 8) ||
    (nbit (fld r F.LS_SLOTS_courses) (t / 8) && inRange (fld r F.LS_SLOTS_first) n (fld r F.LS_SLOTS_last)))

/-- The records of an image after its header. -/
def imageRecords : Nat → Words → List Words
  | 0, _ => []
  | k + 1, ws => ws.take 98 :: imageRecords k (ws.drop 98)

/-- The first frame that fails a check, by its FLOC. -/
def firstBad (rs : List Words) (ok : Words → Bool) : Option Word := (rs.find? (fun r => !ok r)).map (fun r => r.getD 0 0)

/-- The checks of R468 in their order: the status and the FLOC of the first that fails. -/
def State.imageVerdict (s : State) (w m : Nat) (ws : Words) : Option (Nat × Word) :=
  let h := ws.take 8
  let n := (h.getD 3 0).toNat
  let rs := imageRecords (min n 2000) (ws.drop 8)
  let frames := rs.dropLast
  let e := rs.getLast?.getD []
  let isEnd (r : Words) : Bool := flocType (r.getD 0 0) = 0x1F
  let st := if ws.length < 8 then stBadArg else headerStatus 2 h
  if st ≠ 0 then some (st, 0)
  else if n = 0 || 2000 < n || ws.length ≠ 8 + 98 * n || !isEnd e || frames.any isEnd || (e.getD 1 0).toNat + 1 ≠ n then some (stBadArg, 0)
  else match firstBad rs recordCrcOk with
    | some l => some (stFrameCrc, l)
    | none => match firstBad frames (fun r =>
        let l := r.getD 0 0
        flocType l = 3 && decide (flocSlot l < 128) && flocSub l = 0 && flocWall l = w && !flocBcast l) with
      | some l => some (stBadArg, l)
      | none => (firstBad frames (fun r => s.slotLease w m (flocTile (r.getD 0 0)) (flocSlot (r.getD 0 0)))).map (fun l => (stOutOfRegion, l))

/-- Offset of the staging store in bank 6 (R470), and its bytes. -/
def stagingOff : Nat := 0x340000
def stagingBytes : Nat := 0xC0000

/-- PATTERN_IMAGE: the image is staged and checked; its slots are then written one after another. While bank 6, which is to
hold it, is under test the command ends in RESOURCE_BUSY (DESIGN CHOICE, log entry 134). -/
def State.patternImageCmd (s : State) (m : Nat) (c : CmdCtx) (ws : Words) : Cmd :=
  s.cmdOf m 19 c true 424 false (fun s =>
    let w := c.wall.toNat
    if s.inTest w 6 then fails s stBusy
    else
    let s1 := ((s.sramWrite w 6 stagingOff ((bytesOfWords ws).take stagingBytes)).1).wr (R.KILN_FRAME_COUNT w) 0
    match s1.imageVerdict w m ws with
    | some (st, l) => (s1.kilnError w st l, .longDone st 0 0)
    | none =>
      let slots := (imageRecords ((ws.getD 3 0).toNat - 1) (ws.drop 8)).map (fun r =>
        (flocTile (r.getD 0 0), flocSlot (r.getD 0 0), (r.drop 1).take 96))
      (s1.setKiln w { (s1.kiln w) with slots := slots }, if slots.isEmpty then .longDone 0 0 0 else .long none 0 none))

/-- PATTERN_IMAGE: `ws` is the image. -/
def execPatternImage (c : CmdCtx) (ws : Words) (s : State) : Out := cmdRow s c (s.patternImageCmd (s.cmdMid c) c ws)

/-- KILN_SLOT_WRITE: the next slot of an image is written, unless a refill of it is in progress or its bank is under test (R319, R340). -/
def execKilnSlotWrite (w : Wall) (s : State) : Out :=
  onWall w.val s (fun s =>
    let w := w.val
    match (s.kiln w).slots with
    | [] => s
    | (t, n, d) :: rest =>
      let slot := BitVec.ofNat 7 n
      let x := s.tile w t
      if s.inTest w (libOffset t n / 0x400000) then s
      else if (match x.refill with | some r => decide (r.req.slot = slot) | none => false) then s
      else
        let s1 := (s.writeLibrary w t n d).setKiln w { (s.kiln w) with slots := rest }
        let s2 := (s1.slotWritten w t slot).bump (R.KILN_FRAME_COUNT w)
        if rest.isEmpty then s2.finishLong (fun l => l.op = 19 && l.onWall w) 0 0 0 else s2)

/-! ### CAPTURE, MARCH, GDDR_RETRAIN, LINK_TRAIN -/
/-- The cells' control word that a CAPTURE arms. -/
def capWord (c : CmdCtx) : Word := BitVec.ofNat 32 (1 + cmdArg c 0 % 16 * 2)

/-- CAPTURE: the claim is used or taken (R418) and the capture armed. Where the cells are held, arming has no effect (R110)
and the held capture, or what is left of it, is read back. -/
def State.captureCmd (s : State) (m : Nat) (c : CmdCtx) : Cmd :=
  let n := (courseTiles (cmdArg c 1)).length
  s.cmdOf m 20 c true (n * captureBytes (nbit (cmdArg c 0) 4)) (argOver c 0 5 || argOver c 1 16) (fun s =>
    let w := c.wall.toNat
    if cmdArg c 0 % 4 = 3 then fails s stBadArg
    else match s.cmdClaim m (claimCap w) with
      | none => fails s stBusy
      | some (s1, k) =>
        if 2 ≤ s.fl (R.CAP_STATUS w) F.CAP_STATUS_state then
          ((s1.setWall w { (s1.wall w) with cap := { (s1.wall w).cap with owner := BitVec.ofNat 6 m } }).setFl (R.CAP_STATUS w)
            F.CAP_STATUS_state 3, .long k 0 none)
        else
          let s2 := (s1.wr (R.CAP_TRIG_LO w) (c.args.getD 2 0)).wr (R.CAP_TRIG_HI w) (c.args.getD 3 0)
          let r := s2.capWrite m w (capWord c)
          if r.2 ≠ 0 then fails s r.2 else (r.1, .long k 0 none))

/-- CAPTURE. -/
def execCapture (c : CmdCtx) (s : State) : Out := cmdRow s c (s.captureCmd (s.cmdMid c) c)

/-- MARCH. -/
def State.marchCmd (s : State) (m : Nat) (c : CmdCtx) : Cmd :=
  s.cmdOf m 24 c true 0 (argOver c 0 12) (fun s =>
    let a := cmdArg c 0
    let r := s.marchRequest c.wall.toNat (a % 256) (nbits a 8 2) (nbits a 10 2) m
    if r.2 ≠ 0 then fails s r.2 else (r.1, if a % 256 = 0 then .longDone 0 0 0 else .long none (a % 256) none))

/-- MARCH. -/
def execMarch (c : CmdCtx) (s : State) : Out := cmdRow s c (s.marchCmd (s.cmdMid c) c)

/-- GDDR_RETRAIN: the device goes off-line until its training is done. -/
def State.gddrRetrainCmd (s : State) (m : Nat) (c : CmdCtx) : Cmd :=
  s.cmdOf m 25 c true 0 (argOver c 0 1) (fun s => (s.setFl (R.GD_STATUS c.wall.toNat (cmdArg c 0)) F.GD_STATUS_state 3, .long none 0 none))

/-- GDDR_RETRAIN. -/
def execGddrRetrain (c : CmdCtx) (s : State) : Out := cmdRow s c (s.gddrRetrainCmd (s.cmdMid c) c)

/-- A lane leased to another master (R364). -/
def State.laneLeased (s : State) (w n m : Nat) : Bool :=
  (List.range 16).any (fun l =>
    s.fl (R.LS_CTRL w l) F.LS_CTRL_valid = 1 && nbit (s.fl (R.LS_LINKS w l) F.LS_LINKS_links) n && s.fl (R.LS_CTRL w l) F.LS_CTRL_holder ≠ m)

/-- A lane's claim for a command. -/
def State.laneClaim (s : State) (m w n : Nat) : Except Nat (State × Option Nat) :=
  if !s.holds (claimLink w n) m && s.laneLeased w n m then .error stAccessDenied
  else match s.cmdClaim m (claimLink w n) with
    | none => .error stBusy
    | some r => .ok r

/-- LINK_TRAIN: `en` is set with the configured mode and rate. -/
def State.linkTrainCmd (s : State) (m : Nat) (c : CmdCtx) : Cmd :=
  s.cmdOf m 26 c true 0 (argOver c 0 4) (fun s =>
    let w := c.wall.toNat
    let n := cmdArg c 0
    match s.laneClaim m w n with
    | .error st => fails s st
    | .ok (s1, k) =>
      let r := s1.lkCtrlWrite m w n (setFld (s.rd (R.LK_CTRL w n)) F.LK_CTRL_en 1)
      if r.2 ≠ 0 then fails s r.2 else (r.1, .long k 0 none))

/-- LINK_TRAIN. -/
def execLinkTrain (c : CmdCtx) (s : State) : Out := cmdRow s c (s.linkTrainCmd (s.cmdMid c) c)

/-! ### FW_STAGE, FW_ACTIVATE (R488, R493) -/
/-- FW_STAGE of an image. -/
def State.fwStageCmd (s : State) (m : Nat) (c : CmdCtx) (img : Image) : Cmd :=
  s.cmdOf m 48 c true 352 false (fun s =>
    if s.stageBusy || s.longs.any (fun l => l.op = 48 && l.done.isNone) then fails s stBusy
    else (s.markStaging img 1, .long none 0 (some img)))

/-- FW_STAGE. -/
def execFwStage (c : CmdCtx) (img : Image) (s : State) : Out := cmdRow s c (s.fwStageCmd (s.cmdMid c) c img)

/-- FW_ACTIVATE. -/
def State.fwActivateCmd (s : State) (m : Nat) (c : CmdCtx) : Cmd :=
  s.cmdOf m 49 c true 0 (argOver c 0 2 || argOver c 2 2) (fun s =>
    let r := s.fwActivate (cmdArg c 0) (cmdArg c 1) c.wall.toNat (cmdArg c 2)
    if r.2 ≠ 0 then fails s r.2 else (r.1, .long none 0 none))

/-- FW_ACTIVATE. -/
def execFwActivate (c : CmdCtx) (s : State) : Out := cmdRow s c (s.fwActivateCmd (s.cmdMid c) c)

end Sys2Proof.Machine
end

