-- ==== Sys2Proof/Machine/SelfTests.lean ====
section
/-!
DEFINITION. Machine/SelfTests.lean: the self-tests (R537 to R539) and the meter's verdict on them (R535).
-/
namespace Sys2Proof.Machine
open Sys2Proof

/-! ### Verdicts (R535) -/
/-- SVC_VERDICT: state 1 running, 2 passed, 3 failed in a stage, 4 failed before any stage. -/
def State.setVerdict (s : State) (num state stage : Nat) : State := s.wr R.SVC_VERDICT (BitVec.ofNat 32 (stage + num * 16 + state * 4096))

/-- A self-test that a check refuses, when the meter's holder asked for it. -/
def State.testRefused (s : State) (m num : Nat) : State :=
  if s.holds claimMeter m then ({ s with service := { s.service with verdict := none } } : State).setVerdict num 4 0 else s

/-! ### Conditions (R538, R539) -/
/-- The flows of a wall that use a tile that `p` names are FREE or STOPPED. -/
def State.stillOn (s : State) (w : Nat) (p : Nat → Bool) : Bool :=
  (List.range 512).all (fun f => decide (s.fstate w f ≤ 1) || !(s.tileSet w f).any p)

/-- Whether the scope of a test is the hub's. -/
def hubScope (num w a : Nat) : Bool := num = 10 || (num = 11 && w = 0 && nbit a 0)

/-- What a self-test's start meets: 0, or a status. -/
def State.testCheck (s : State) (num m : Nat) (c : CmdCtx) : Nat :=
  let w := c.wall.toNat
  let a := cmdArg c 1
  let b := cmdArg c 2
  let k := cmdArg c 3
  let busy (ok : Bool) : Nat := if ok then 0 else stBusy
  if hubScope num w a && s.runningTests.any (fun t => hubScope t.num t.wall t.a) then stBusy
  else match num with
    | 1 => if 128 ≤ a then stBadArg else busy (s.stillOn w (fun t => t = a))
    | 2 => if 16 ≤ a then stBadArg else busy (s.stillOn w (fun t => t / 8 = a))
    | 3 => if 128 ≤ a || 16 ≤ b then stBadArg else busy (s.stillOn w (fun t => t = a))
    | 4 =>
      if a = 0 || 256 ≤ a || 4 ≤ b || 4 ≤ k then stBadArg
      else (((maskBits 8 a).map (fun x => s.marchCheck w x b m)).find? (fun st => st ≠ 0)).getD 0
    | 5 => if 2 ≤ a || k = 0 || s.gdSize w < (b + k) * 0x4000000 then stBadArg else busy (s.flowsStill w && s.gdState w a = 1)
    | 6 => if 16 ≤ a then stBadArg else busy (s.fl (R.LK_CTRL w a) F.LK_CTRL_en = 0)
    | 7 => if 16 ≤ a then stBadArg else busy (s.fl (R.LK_CTRL w a) F.LK_CTRL_en = 0 && Config.freeBit s.fresh = 1)
    | 8 => busy (s.flowsStill w && s.fl (R.BOND_EPOCH w) F.BOND_EPOCH_drained = 1)
    | 9 => if 4 ≤ a then stBadArg else busy (s.angSrc w a = 0)
    | 10 => busy (!s.cxl.up)
    | 11 => 0
    | _ => stBadArg

/-- A self-test is in progress; the meter shows it if its holder started it. -/
def State.testBegin (s : State) (num m : Nat) (c : CmdCtx) (console : Bool) : State :=
  let t : SelfTest := { num := num, wall := c.wall.toNat, a := cmdArg c 1, b := cmdArg c 2, c := cmdArg c 3, handle := c.handle, console := console }
  let s1 : State := { s with service := { s.service with tests := s.service.tests ++ [t] }, fresh := s.fresh + 1 }
  if s.holds claimMeter m then ({ s1 with service := { s1.service with verdict := some (c.handle, console) } } : State).setVerdict num 1 0 else s1

/-- The SRAM march of self-test 4: contents are kept, whatever the algorithm (R537). -/
def State.testMarch (s : State) (w mask alg bg : Nat) : State :=
  (maskBits 8 mask).foldl (fun (a : State) b => a.marchOn w b { alg := alg, bg := bg, keep := true }) s

/-- SELF_TEST. -/
def State.selfTestCmd (s : State) (num m : Nat) (c : CmdCtx) (console : Bool) : Cmd :=
  { (s.cmdOf m 32 c true 0 false (fun s =>
      let w := c.wall.toNat
      let a := cmdArg c 1
      let st := s.testCheck num m c
      if st ≠ 0 then fails s st
      else if num = 6 || num = 7 then
        (match s.laneClaim m w a with
          | .error e => fails s e
          | .ok (s1, k) => (s1.testBegin num m c console, .long k 0 none))
      else if num = 4 then ((s.testMarch w a (cmdArg c 2) (cmdArg c 3)).testBegin num m c console, .long none a none)
      else (s.testBegin num m c console, .long none 0 none))) with
    failed := fun s => s.testRefused m num }

/-- SELF_TEST_BRICK_BIST. -/
def execSelfTestBrickBist (c : CmdCtx) (s : State) : Out := cmdRow s (withArg c 1) (s.selfTestCmd 1 (s.cmdMid c) (withArg c 1) false)

/-- SELF_TEST_MORTAR_SPINE. -/
def execSelfTestMortarSpine (c : CmdCtx) (s : State) : Out := cmdRow s (withArg c 2) (s.selfTestCmd 2 (s.cmdMid c) (withArg c 2) false)

/-- SELF_TEST_TMEM_MARCH. -/
def execSelfTestTmemMarch (c : CmdCtx) (s : State) : Out := cmdRow s (withArg c 3) (s.selfTestCmd 3 (s.cmdMid c) (withArg c 3) false)

/-- SELF_TEST_SRAM_MARCH. -/
def execSelfTestSramMarch (c : CmdCtx) (s : State) : Out := cmdRow s (withArg c 4) (s.selfTestCmd 4 (s.cmdMid c) (withArg c 4) false)

/-- SELF_TEST_GDDR_PATTERN. -/
def execSelfTestGddrPattern (c : CmdCtx) (s : State) : Out := cmdRow s (withArg c 5) (s.selfTestCmd 5 (s.cmdMid c) (withArg c 5) false)

/-- SELF_TEST_NEAR_LOOPBACK. -/
def execSelfTestNearLoopback (c : CmdCtx) (s : State) : Out := cmdRow s (withArg c 6) (s.selfTestCmd 6 (s.cmdMid c) (withArg c 6) false)

/-- SELF_TEST_FAR_LOOPBACK: whether the lane has a partner is a free value. -/
def execSelfTestFarLoopback (c : CmdCtx) (s : State) : Out := cmdRow s (withArg c 7) (s.selfTestCmd 7 (s.cmdMid c) (withArg c 7) false)

/-- SELF_TEST_BOND_ROUTE. -/
def execSelfTestBondRoute (c : CmdCtx) (s : State) : Out := cmdRow s (withArg c 8) (s.selfTestCmd 8 (s.cmdMid c) (withArg c 8) false)

/-- SELF_TEST_ANGLE_REFERENCE. -/
def execSelfTestAngleReference (c : CmdCtx) (s : State) : Out := cmdRow s (withArg c 9) (s.selfTestCmd 9 (s.cmdMid c) (withArg c 9) false)

/-- SELF_TEST_CXL_LOOPBACK. -/
def execSelfTestCxlLoopback (c : CmdCtx) (s : State) : Out := cmdRow s (withArg c 10) (s.selfTestCmd 10 (s.cmdMid c) (withArg c 10) false)

/-- SELF_TEST_REGULATOR_CHECK. -/
def execSelfTestRegulatorCheck (c : CmdCtx) (s : State) : Out := cmdRow s (withArg c 11) (s.selfTestCmd 11 (s.cmdMid c) (withArg c 11) false)

/-! ### Ends (R537, R538) -/
/-- The stages that a test runs. -/
def State.testStages (s : State) (t : SelfTest) : List Nat :=
  let upTo (n : Nat) : List Nat := (List.range n).map (· + 1)
  match t.num with
  | 1 => upTo 12
  | 2 => upTo 6
  | 3 => (maskBits 4 t.b).map (· + 1) ++ [5]
  | 4 => (maskBits 8 t.a).map (· + 1)
  | 5 => (upTo 7).filter (fun k => k ≠ 6 || s.fl (R.GD_CFG t.wall) F.GD_CFG_ecc = 1)
  | 6 => upTo 3
  | 7 => upTo 2
  | 8 => upTo 7
  | 9 => upTo 5
  | 10 => upTo 5
  | _ => if hubScope t.num t.wall t.a then [1, 2, 3, 7, 8] else upTo 8

/-- The bits of `res1` that a test's detail takes. -/
def detailMask (num : Nat) : Word :=
  match num with
  | 1 => 0x7F0F
  | 2 => 0x3F
  | 3 => 0x3FFFF
  | 7 => 0xFF
  | 8 => 0xF1F
  | 10 => 0xFFFF
  | 11 => 0xFFFF
  | _ => 0xFFFFFFFF

/-- The result of a test, SRAM march apart: whether it passes, the stage and the detail are free values. -/
def State.testResult (s : State) (t : SelfTest) : Nat × Word × Word :=
  let v := Config.freeWord s.fresh
  let ks := s.testStages t
  let k := ks.getD (v.toNat % ks.length) 1
  let detail := Config.freeWord (s.fresh + 1) &&& detailMask t.num
  if Config.freeBit s.fresh = 1 then (0, BitVec.ofNat 32 (t.num * 256), detail)
  else (stTestFail, BitVec.ofNat 32 (k + t.num * 256), detail)

/-- `n` free bytes from offset `off` of a device. -/
def State.looseGd (s : State) (w d off n : Nat) : State :=
  let k := gddrKey w d off
  let bytes := (List.range n).filterMap (fun i =>
    let v := Config.freeByte (s.fresh * 0xC0000000 + i)
    if v = 0 then none else some (k + i, v))
  { s with gddr := s.gddr.filter (fun e => decide (e.1 < k)) ++ bytes ++ s.gddr.filter (fun e => decide (k + n ≤ e.1))
           gddrErr := zeroMarks s.gddrErr (k / 32) (n / 32), fresh := s.fresh + 1 }

/-- A self-test is over: a destructive one leaves its regions undefined; the verdict follows. -/
def State.testEnd (s : State) (l : LongCmd) (status : Nat) (res0 : Word) : State :=
  match s.service.tests.find? (fun t => t.is l) with
  | none => s
  | some t =>
    let s1 := if t.num = 5 && s.wallPower t.wall ≠ 2 then s.looseGd t.wall t.a (t.b * 0x4000000) (t.c * 0x4000000) else s
    let s2 : State := { s1 with service := { s1.service with tests := s1.service.tests.filter (fun u => !(u.is l)) } }
    if s2.service.verdict ≠ some (l.ctx.handle, l.console) then s2
    else
      let s3 : State := { s2 with service := { s2.service with verdict := none } }
      if status = 0 then s3.setVerdict t.num 2 0
      else if status = stTestFail then s3.setVerdict t.num 3 (res0.toNat % 16)
      else s3.setVerdict t.num 4 0

end Sys2Proof.Machine
end

