-- ==== Sys2Proof/Machine/Finish.lean ====
section
/-!
DEFINITION. Machine/Finish.lean: the ends of long commands (R424), CANCEL (R427), and the fetch of entries (R421, R422, R425).
-/
namespace Sys2Proof.Machine
open Sys2Proof

/-! ### The console's lines (R531) -/
def hexDigit (n : Nat) : String :=
  ["0", "1", "2", "3", "4", "5", "6", "7", "8", "9", "A", "B", "C", "D", "E", "F"].getD (n % 16) "0"

/-- `n` hexadecimal digits of a number. -/
def hexN : Nat → Nat → String
  | 0, _ => ""
  | k + 1, x => hexN k (x / 16) ++ hexDigit x

def statusName (st : Nat) : String :=
  if st = 0 then "OK" else if st = 1 then "ACCEPTED" else if st = stAccessDenied then "ACCESS_DENIED" else if st = stBusy then "RESOURCE_BUSY"
  else if st = stBadArg then "BAD_ARGUMENT" else if st = stCancelled then "CANCELLED" else if st = stFrameCrc then "FRAME_CRC"
  else if st = stOutOfRegion then "FRAME_OUT_OF_REGION" else if st = stDriveConflict then "DRIVE_CONFLICT"
  else if st = stTypeMismatch then "IMAGE_TYPE_MISMATCH" else if st = stUnitMismatch then "IMAGE_UNIT_MISMATCH" else if st = stSignature then "SIGNATURE_FAIL"
  else if st = stDomainOff then "DOMAIN_OFF" else if st = stRouteWithdrawn then "ROUTE_WITHDRAWN" else if st = stWallLoading then "WALL_LOADING"
  else if st = stFlowDepth then "FLOW_DEPTH" else if st = stSaveExhausted then "SAVE_AREA_EXHAUSTED"
  else if st = stCollision then "COLLISION" else if st = stSpineConflict then "SPINE_CONFLICT" else if st = stDataError then "DATA_ERROR"
  else if st = stSettings then "SETTINGS_INCOMPATIBLE" else if st = stTestFail then "TEST_FAIL" else ""

/-- A line on the console. -/
def State.say (s : State) (line : String) : State := { s with service := { s.service with out := s.service.out ++ [line] } }

/-- The last line of a console command. -/
def State.sayEnd (s : State) (st : Nat) : State :=
  s.say (if st = 0 then "OK" else "ERR 0x" ++ hexN 4 st ++ " " ++ statusName st)

/-! ### Ends of long commands (R424, R426) -/
/-- What a command in progress has come to: its result, if it has one. -/
def State.longResult (s : State) (l : LongCmd) : State × Option (Nat × Word × Word) :=
  let w := l.ctx.wall.toNat
  match l.done with
  | some r => (s, some r)
  | none =>
    if l.op = 5 then
      let rs := s.logFrom (cmdArg l.ctx 0 + cmdArg l.ctx 1 * 4294967296) (l.ctx.len.toNat / 64)
      (if rs.isEmpty then s else s.toBuffer l.ctx 0 (rs.flatMap EvRec.bytes), some (0, BitVec.ofNat 32 rs.length, 0))
    else if l.op = 20 then
      (if 2 ≤ s.fl (R.CAP_STATUS w) F.CAP_STATUS_state then
        let r := s.readback w (nbit (cmdArg l.ctx 0) 4) (courseTiles (cmdArg l.ctx 1))
        (if r.2.isEmpty then r.1 else r.1.toBuffer l.ctx 0 r.2, some (0, s.rd (R.CAP_EDGE_LO w), s.rd (R.CAP_EDGE_HI w)))
      else (s, if s.fl (R.CAP_STATUS w) F.CAP_STATUS_state = 0 then some (stCancelled, 0, 0) else none))
    else if l.op = 26 then
      let n := cmdArg l.ctx 0
      (s, if s.lkState w n = 3 then some (0, s.rd (R.LK_STATUS w n), 0)
        else if l.start + cmdArg l.ctx 1 * 1250000 ≤ s.tick then some (stTestFail, s.rd (R.LK_STATUS w n), 0) else none)
    else if l.op = 32 then
      (match s.service.tests.find? (fun t => t.is l) with
        | none => (s, none)
        | some t => if t.num = 4 then (s, none) else ({ s with fresh := s.fresh + 2 }, some (s.testResult t)))
    else if l.op = 48 then
      (match l.img with
        | none => (s, none)
        | some i =>
          let r := s.fwStage i
          (r.1, some (r.2.1, BitVec.ofNat 32 r.2.2, 0)))
    else (s, none)

/-- Whether two long commands are one. -/
def LongCmd.same (a b : LongCmd) : Bool := a.ctx.handle = b.ctx.handle && a.console = b.console && a.op = b.op

/-- The master that made a long command. -/
def State.longMid (s : State) (l : LongCmd) : Nat := if l.console then (if s.consoleLocal then 0 else 34) else s.cmdMid l.ctx

/-- Whether a command of a queue is still without its final completion. -/
def State.unfinished (s : State) (q : Nat) : Bool :=
  s.longs.any (fun l => !l.console && !l.orphan && l.ctx.q.val = q) || (s.queue (s.sqCq q)).held.any (fun r => r.q = q)

/-- A long command ends: its claim is released, its test is over, and its result is posted or printed. -/
def State.endLong (s : State) (l : LongCmd) (r : Nat × Word × Word) : State :=
  let s0 : State := { s with longs := s.longs.eraseP (fun x => x.same l) }
  let s1 := match (s.longs.find? (fun x => x.same l)).bind (fun x => x.claim) with
    | some a => s0.dropClaim a
    | none => s0
  let s2 := if l.op = 32 then s1.testEnd l r.1 r.2.1 else s1
  if l.console then
    let ks := match s.service.tests.find? (fun t => t.is l) with
      | some t => s.testStages t
      | none => []
    let k := r.2.1.toNat % 16
    let ran := if r.1 = 0 then ks else if r.1 = stTestFail then ks.filter (fun j => decide (j ≤ k)) else []
    let s3 := ran.foldl (fun (a : State) j => a.say ("STAGE " ++ hexN 1 j)) s2
    (if r.1 = stTestFail then s3.say ("DETAIL 0x" ++ hexN 8 r.2.2.toNat) else s3).sayEnd r.1
  else if l.orphan then s2
  else s2.complete_ (cplOf l.ctx r.1 true r.2.1 r.2.2)

/-! ### CANCEL (R427) -/
/-- Whether a target can be cancelled, and what that does. -/
def State.cancelTarget (s : State) (l : LongCmd) : Option State :=
  let w := l.ctx.wall.toNat
  let ended (s : State) : Option State :=
    some { s with longs := s.longs.map (fun x => if x.same l then { x with done := some (stCancelled, 0, 0), left := 0 } else x) }
  if l.op = 5 then ended s
  else if l.op = 20 then (if s.fl (R.CAP_STATUS w) F.CAP_STATUS_state ≤ 1 then ended (s.capRelease w) else none)
  else if l.op = 24 then ended (s.marchAbort w (nbit l.left))
  else if l.op = 32 then ended (if l.left = 0 then s else s.marchAbort w (nbit l.left))
  else if l.op = 48 then ended (match l.img with | some i => s.markStaging i 7 | none => s)
  else if l.op = 49 then
    (match s.trowel.act with
      | some a => if a.reached.isNone then some (s.withdrawAct stCancelled) else none
      | none => none)
  else none

/-- CANCEL. -/
def State.cancelCmd (s : State) (m : Nat) (c : CmdCtx) : Cmd :=
  let target := s.longs.find? (fun l => l.ctx.handle.toNat = cmdArg c 0 && !l.console && !l.orphan && l.done.isNone && (m = 0 || l.ctx.q = c.q))
  { op := 2
    access := (match target with | some l => s.cmdAccess m l.op l.ctx | none => true)
    run := fun s =>
      match target with
      | none => fails s stBadArg
      | some l => match s.cancelTarget l with
        | none => fails s stBusy
        | some s1 => (s1, .final 0 0 0) }

/-- CANCEL. -/
def execCancel (c : CmdCtx) (s : State) : Out := cmdRow s c (s.cancelCmd (s.cmdMid c) c)

/-! ### Fetching (R421, R422, R425) -/
/-- The command of a submission entry; `data` is what its buffer holds. -/
def State.entryCmd (s : State) (m op : Nat) (c : CmdCtx) (data : Bytes) : Cmd :=
  match op with
  | 0 => nopCmd
  | 1 => s.identifyCmd m c
  | 2 => s.cancelCmd m c
  | 3 => s.settingGetCmd m c
  | 4 => s.settingSetCmd m c
  | 5 => s.logReadCmd m c
  | 16 => s.wallLoadCmd m c
  | 17 => s.wallResetCmd m c
  | 18 => s.wallPowerCmd m c
  | 19 => s.patternImageCmd m c (wordsOfBytes (data.take c.len.toNat))
  | 20 => s.captureCmd m c
  | 24 => s.marchCmd m c
  | 25 => s.gddrRetrainCmd m c
  | 26 => s.linkTrainCmd m c
  | 32 => s.selfTestCmd (cmdArg c 0) m c false
  | 48 => s.fwStageCmd m c (s.chainImage (data.take c.len.toNat))
  | 49 => s.fwActivateCmd m c
  | _ => { op := op, bad := true, run := fun s => fails s stBadArg }

/-- An entry's command starts. -/
def State.startEntry (s : State) (op : Nat) (c : CmdCtx) (data : Bytes) : State :=
  ({ s with fresh := s.fresh + 1 } : State).runCmd c (s.entryCmd (s.cmdMid c) op c data)

/-- A fenced entry starts once every earlier command of its queue has its final completion. -/
def State.startFenced (s : State) (q : Nat) : State :=
  match (s.queue q).fenced with
  | none => s
  | some (c, op, data) =>
    if s.unfinished q then s else (s.setQueue q { (s.queue q) with fenced := none }).startEntry op c data

/-- LONG_COMMAND_COMPLETE: the command of a handle has finished. -/
def execLongCommandComplete (h : Word) (s : State) : Out :=
  .next (match s.longs.find? (fun l => l.ctx.handle = h) with
    | none => s
    | some l =>
      let r := s.longResult l
      match r.2 with
      | none => s
      | some x =>
        let s1 := r.1.endLong l x
        if l.console then s1 else s1.startFenced l.ctx.q.val)

/-- The context and number of an entry: a reserved bit makes it a reserved command. -/
def State.decodeEntry (s : State) (q : Fin 64) (ws : Words) : CmdCtx × Nat :=
  let w0 := (ws.getD 0 0).toNat
  let w1 := (ws.getD 1 0).toNat
  let bad := nbits w0 9 7 ≠ 0 || 8 ≤ w1
  ({ q := q, handle := BitVec.ofNat 32 (q.val * 67108864 + (s.queue q.val).fetched % 67108864)
     cid := BitVec.ofNat 16 (w0 / 65536), fence := nbit w0 8, wall := BitVec.ofNat 3 w1
     buf := BitVec.ofNat 64 ((ws.getD 2 0).toNat + (ws.getD 3 0).toNat * 4294967296), len := ws.getD 4 0, args := (ws.drop 5).take 11 },
   if bad then 256 else w0 % 256)

/-- COMMAND_FETCH: the hub fetches a queue's next entry `ws`, which starts at once, or waits for earlier commands where its
fence says so. A queue whose fenced entry waits fetches nothing: that entry starts once it may. -/
def execCommandFetch (q : Fin 64) (ws : Words) (data : Bytes) (s : State) : Out :=
  .next (if (s.queue q.val).fenced.isSome then (if s.powered && s.trowel.running && !s.service.safe then s.startFenced q.val else s)
  else if !s.fetchesNext q.val then s
  else
    let e := s.decodeEntry q ws
    let head := (s.fl (R.SQ_HEAD q.val) F.SQ_HEAD_head + 1) % s.sqSize q.val
    let s0 : State := { s with sqTurn := q.val }
    let s1 := (s0.setFl (R.SQ_HEAD q.val) F.SQ_HEAD_head head).setQueue q.val { (s.queue q.val) with fetched := (s.queue q.val).fetched + 1 }
    if e.1.fence && s1.unfinished q.val then s1.setQueue q.val { (s1.queue q.val) with fenced := some (e.1, e.2, data) }
    else s1.startEntry e.2 e.1 data)

end Sys2Proof.Machine
end

