-- ==== Sys2Proof/Machine/Service.lean ====
section
/-!
DEFINITION. Machine/Service.lean: SVC_METER (R533 to R535) and boundary scan (R540 to R542).
-/
namespace Sys2Proof.Machine
open Sys2Proof

/-! ### SVC_METER -/
/-- A level in mV, within the meter's scale (R533). -/
def meterClamp (x : Int) : Nat := if x < 0 then 0 else if 2500 < x then 2500 else x.toNat

/-- The velocity scale F in revolutions per second (R534). -/
def velocityScale (range : Nat) : Option Nat := if range = 0 then some 10 else if range = 1 then some 100 else if range = 2 then some 1000 else none

/-- The level of a velocity: |velocity| in revolutions per second times 2.5 V / F. -/
def velocityLevel (vel : Word) (f : Nat) : Nat := (sInt 32 vel.toNat).natAbs * 1250000000 * 2500 / (2 ^ 48 * f)

/-- The level of a quantity (R534), in mV rounded down; none where the spec gives the instance no reading. -/
def State.meterQuantity (s : State) (v : Word) : Option Int :=
  let w := fld v F.SVC_METER_SEL_wall
  let i := fld v F.SVC_METER_SEL_index
  let hub := fld v F.SVC_METER_SEL_hub = 1
  let mon (m : Nat) : Int := s.fl (R.MON_VALUE m) F.MON_VALUE_value
  let onWall : Bool := s.populated w
  match fld v F.SVC_METER_SEL_qty with
  | 1 => some ((s.fl R.TEL_VIN F.TEL_VIN_mv : Int) / 8)
  | 2 => if i < 2 then some (mon (1 + i)) else if i = 2 then some (mon 3 / 2) else none
  | 3 => if onWall && i < 6 then some (mon (8 + 10 * w + i)) else none
  | 4 => some ((s.fl R.TEL_IIN F.TEL_IIN_ma : Int) / 40)
  | 5 =>
    if hub then (if i < 2 then some ((s.sensor (4 + i) + 50) * 10) else none)
    else if onWall && i < 4 then some ((s.sensor (8 + 10 * w + 6 + i) + 50) * 10) else none
  | 6 => if onWall && i < 16 then some ((fld (s.view (R.LK_STATUS w i)) F.LK_STATUS_eye * 2500 / 128 : Nat) : Int) else none
  | 7 =>
    match velocityScale (fld v F.SVC_METER_SEL_range) with
    | some f => if onWall && i < 4 then some (velocityLevel (s.view (R.ANG_VEL w i)) f : Nat) else none
    | none => none
  | 8 =>
    if onWall then
      let iv := fld (s.view (R.PT_STATUS w)) F.PT_STATUS_interval
      some (if iv = 0 then 2500 else ((25000 / iv : Nat) : Int))
    else none
  | 9 => if onWall then some ((fld (s.view (R.FP_BANK w)) F.FP_BANK_meas * 10 : Nat) : Int) else none
  | _ => none

/-- The level of the verdict (R535). -/
def State.meterVerdict (s : State) : Nat :=
  match s.fl R.SVC_VERDICT F.SVC_VERDICT_state with
  | 1 => 2400
  | 2 => 2000
  | 3 => 500 + 100 * s.fl R.SVC_VERDICT F.SVC_VERDICT_stage
  | 4 => 500
  | _ => 0

/-- The meter's output takes its level. -/
def State.meterUpdate (s : State) : State :=
  let v := s.rd R.SVC_METER_SEL
  match fld v F.SVC_METER_SEL_mode with
  | 1 =>
    (match s.meterQuantity v with
      | some x => s.setFl R.SVC_METER_MV F.SVC_METER_MV_mv (meterClamp x)
      | none => { (s.setFl R.SVC_METER_MV F.SVC_METER_MV_mv ((Config.freeWord s.fresh).toNat % 2501)) with fresh := s.fresh + 1 })
  | 2 => s.setFl R.SVC_METER_MV F.SVC_METER_MV_mv s.meterVerdict
  | _ => s.setFl R.SVC_METER_MV F.SVC_METER_MV_mv 0

/-- SVC_METER_UPDATE: every 1 ms (1,250,000 ticks). -/
def execSvcMeterUpdate (s : State) : Out :=
  .next (if !s.powered || !s.periodOver s.service.meterAt 1250000 then s
    else ({ s with service := { s.service with meterAt := some s.tick } } : State).meterUpdate)

/-! ### Boundary scan -/
/-- Update-IR loads an instruction. -/
def State.loadIr (s : State) (op : Nat) : State := { s with service := { s.service with ir := op } }

/-- A wall enters RESET at once, with no flush (R541): the host's copies are forgotten. -/
def State.scanWall (s : State) (w : Nat) : State :=
  if !s.populated w || s.wallOff w then s
  else
    let s1 := s.beginReset w (fun _ => false)
    foldN 2 s1 (fun a d => a.setGdx w d { (a.gdx w d) with flushing := none, pendingBi := [], filter := [] })

/-- An instruction that stops the module: every wall in RESET, the CXL link down, until a module reset. -/
def State.scanStop (s : State) (op : Nat) : State :=
  let s1 := s.loadIr op
  let s2 : State := { s1 with service := { s1.service with scanHold := true } }
  (foldN 8 s2 (fun a w => a.scanWall w)).cxlDown

/-- The test access port acts only while the module has its supply. -/
def tapRow (s : State) (f : State → State) : Out := .next (if s.powered then f s else s)

/-- EXTEST. -/
def execExtest (s : State) : Out := tapRow s (fun s => s.scanStop 0x00)
/-- SAMPLE_PRELOAD: no effect on the running module. -/
def execSamplePreload (s : State) : Out := tapRow s (fun s => s.loadIr 0x01)
/-- IDCODE: no effect on the running module. -/
def execIdcode (s : State) : Out := tapRow s (fun s => s.loadIr 0x02)
/-- HIGHZ. -/
def execHighz (s : State) : Out := tapRow s (fun s => s.scanStop 0x03)
/-- CLAMP. -/
def execClamp (s : State) : Out := tapRow s (fun s => s.scanStop 0x04)
/-- EXTEST_PULSE. -/
def execExtestPulse (s : State) : Out := tapRow s (fun s => s.scanStop 0x05)
/-- EXTEST_TRAIN. -/
def execExtestTrain (s : State) : Out := tapRow s (fun s => s.scanStop 0x06)
/-- BYPASS: no effect on the running module. -/
def execBypass (s : State) : Out := tapRow s (fun s => s.loadIr 0xFF)
/-- TEST_LOGIC_RESET: the register holds IDCODE. -/
def execTestLogicReset (s : State) : Out := tapRow s (fun s => s.loadIr 0x02)

/-- WALL_SCAN: the wall is held in RESET and its secure bank wiped; on an unpopulated wall the instruction acts as BYPASS. -/
def execWallScan (w : Wall) (s : State) : Out :=
  tapRow s (fun s =>
    let s1 := s.loadIr (0x40 + w.val)
    if !s.populated w.val then s1
    else
      let s2 := s1.setWall w.val { (s1.wall w.val) with scan := true }
      let s3 := if s2.wallOff w.val then s2 else s2.beginReset w.val (fun _ => false)
      if s3.wallPower w.val = 2 then s3 else s3.startWipe w.val 4)

/-- The identification register (R540). -/
def State.idCode (s : State) : Word :=
  let part := if s.part.walls = 2 then 0x5902 else if s.part.walls = 4 then 0x5904 else 0x5908
  BitVec.ofNat 32 (1 + 0x2C9 * 2 + part * 4096 + (Config.silicon 0).toNat % 16 * 268435456)

/-- What the test access port has between TDI and TDO: its instruction, with the identification word where it selects it. -/
def State.tapData (s : State) : Option Word := if s.service.ir = 2 then some s.idCode else none

end Sys2Proof.Machine
end

