-- ==== Sys2Proof/Machine/Console.lean ====
section
/-!
DEFINITION. Machine/Console.lean: the console on the service UART (R529 to R532).
-/
namespace Sys2Proof.Machine
open Sys2Proof

/-! ### Sessions (R529) -/
/-- The trowel, or the recovery ROM, answers the UART. -/
def State.uartAlive (s : State) : Bool := s.powered && (s.trowel.running || s.trowel.recovery)

/-- CONSOLE_OPEN: a carriage return. In a session it is input. -/
def execConsoleOpen (s : State) : Out :=
  .next (if !s.uartAlive then s
  else if s.service.open_ then { s with service := { s.service with lastInput := s.tick } }
  else if s.claimed claimUart then s.say "BUSY"
  else
    let s1 := s.takeClaim claimUart 34
    ({ s1 with service := { s1.service with open_ := true, lastInput := s.tick } } : State).raiseHub 24 0 [])

/-- 15 minutes in ticks. -/
def consoleLimit : Nat := 1125000000000

/-- CONSOLE_TIMEOUT. -/
def execConsoleTimeout (s : State) : Out :=
  .next (if s.service.open_ && decide (s.service.lastInput + consoleLimit ≤ s.tick) then s.closeConsole else s)

/-- A console command: only in a session. The recovery ROM offers `id` alone; it answers any other as a bad argument. -/
def consoleRow (s : State) (inRom : Bool) (f : State → State) : Out :=
  .next (if !s.service.open_ || !s.uartAlive then s
  else
    let s1 : State := { s with service := { s.service with lastInput := s.tick } }
    if s.trowel.recovery && !inRom then s1.sayEnd stBadArg else f s1)

/-- A command that prints lines and OK. -/
def State.print (s : State) (ls : List String) : State := (ls.foldl (fun (a : State) l => a.say l) s).sayEnd 0

/-- A line with a register's word. -/
def regLine (name : String) (v : Word) : String := name ++ " 0x" ++ hexN 8 v.toNat

/-- A number in decimal, up to three digits. -/
def dec (n : Nat) : String :=
  if n < 10 then hexDigit n else if n < 100 then hexDigit (n / 10) ++ hexDigit (n % 10)
  else hexDigit (n / 100) ++ hexDigit (n / 10 % 10) ++ hexDigit (n % 10)

/-- Lines of a register of each of n instances. -/
def State.lines (s : State) (name : String) (n : Nat) (a : Nat → Nat) : List String :=
  (List.range n).map (fun i => regLine (name ++ "." ++ dec i) (s.view (a i)))

def State.line (s : State) (name : String) (a : Nat) : String := regLine name (s.view a)

/-! ### Commands that read (R532) -/
def helpLines : List String :=
  ["help", "id", "page power", "page memory w", "page wall w", "page link w n", "page pin w", "page chain", "page event", "page host",
   "reg a [n]", "log p [n]", "meter q [args]", "meter verdict", "meter off", "test t [w] [a b c]", "march w banks alg bg",
   "loop w n near|far [s]", "wall reset w", "wall load w e", "wall power w on|standby|off", "raise v", "safe enter", "safe exit",
   "recovery", "quit"]

/-- HELP. -/
def execHelp (s : State) : Out := consoleRow s false (fun s => s.print helpLines)

/-- The walls of the part. -/
def State.wallList (s : State) : List Nat := List.range s.part.walls

/-- ID: the identity record, MT_ALIGN, WTICK_STATUS of every wall. -/
def execId (s : State) : Out :=
  consoleRow s true (fun s =>
    let ls := (wordsOfBytes s.identity).map (fun v => regLine "ID" v) ++ [s.line "MT_ALIGN" R.MT_ALIGN] ++
      s.wallList.map (fun w => s.line ("WTICK_STATUS." ++ dec w) (R.WTICK_STATUS w))
    ({ s with hubSeq := (s.hubSeq + 1) % 4294967296 } : State).print ls)

/-- The monitors of the part. -/
def State.monList (s : State) : List Nat := (List.range (8 + 10 * s.part.walls)).filter (fun m => monKind m ≠ 0)

/-- PAGE_POWER. -/
def execPagePower (s : State) : Out :=
  consoleRow s false (fun s => s.print (
    [s.line "TEL_VIN" R.TEL_VIN, s.line "TEL_IIN" R.TEL_IIN, s.line "TEL_PIN" R.TEL_PIN] ++
    s.monList.flatMap (fun m => [s.line ("MON_VALUE." ++ dec m) (R.MON_VALUE m), s.line ("MON_LIM." ++ dec m) (R.MON_LIM m),
      s.line ("MON_CFG." ++ dec m) (R.MON_CFG m)]) ++
    s.wallList.flatMap (fun w => [s.line ("WPWR_CTRL." ++ dec w) (R.WPWR_CTRL w), s.line ("WPWR_CLK." ++ dec w) (R.WPWR_CLK w)])))

/-- A page of a wall: a command that names an unpopulated one ends in BAD_ARGUMENT (R3). -/
def wallPage (w : Nat) (s : State) (ls : State → List String) : Out :=
  consoleRow s false (fun s => if s.populated w then s.print (ls s) else s.sayEnd stBadArg)

/-- PAGE_MEMORY. -/
def execPageMemory (w : Wall) (s : State) : Out :=
  let w := w.val
  wallPage w s (fun s =>
    [s.line "SRAM_STATUS" (R.SRAM_STATUS w), s.line "SRAM_CE_COUNT" (R.SRAM_CE_COUNT w), s.line "SRAM_UE_COUNT" (R.SRAM_UE_COUNT w)] ++
    s.lines "SRAM_PATROL_POS" 8 (R.SRAM_PATROL_POS w) ++
    (List.range 2).flatMap (fun d =>
      [s.line ("GD_STATUS." ++ dec d) (R.GD_STATUS w d), s.line "GD_CRC_COUNT" (R.GD_CRC_COUNT w d), s.line "GD_CE_COUNT" (R.GD_CE_COUNT w d),
       s.line "GD_UE_COUNT" (R.GD_UE_COUNT w d), s.line "GD_BI_COUNT" (R.GD_BI_COUNT w d), s.line "GD_DENY_COUNT" (R.GD_DENY_COUNT w d)]))

/-- PAGE_WALL. -/
def execPageWall (w : Wall) (s : State) : Out :=
  let w := w.val
  wallPage w s (fun s =>
    [s.line "KILN_STATUS" (R.KILN_STATUS w), s.line "KILN_ERR" (R.KILN_ERR w), s.line "KILN_ERR_LOC" (R.KILN_ERR_LOC w),
     s.line "PT_STATUS" (R.PT_STATUS w), s.line "PT_PASS_COUNT" (R.PT_PASS_COUNT w), s.line "PT_CE_COUNT" (R.PT_CE_COUNT w),
     s.line "PT_UE_COUNT" (R.PT_UE_COUNT w), s.line "PT_VOTE_COUNT" (R.PT_VOTE_COUNT w), s.line "PT_OVERRUN_COUNT" (R.PT_OVERRUN_COUNT w),
     s.line "PT_HB_COUNT" (R.PT_HB_COUNT w), s.line "DISP_STATUS" (R.DISP_STATUS w)])

/-- PAGE_LINK. -/
def execPageLink (w : Wall) (n : Fin 16) (s : State) : Out :=
  let w := w.val
  let n := n.val
  wallPage w s (fun s =>
    [s.line "LK_STATUS" (R.LK_STATUS w n), s.line "LK_EVENT" (R.LK_EVENT w n), s.line "LK_DOWN_COUNT" (R.LK_DOWN_COUNT w n),
     s.line "LK_CRC_COUNT" (R.LK_CRC_COUNT w n), s.line "LK_FMT_COUNT" (R.LK_FMT_COUNT w n), s.line "LK_RXOVF_COUNT" (R.LK_RXOVF_COUNT w n),
     s.line "LK_RXDROP_COUNT" (R.LK_RXDROP_COUNT w n), s.line "LK_RXFRAME_COUNT" (R.LK_RXFRAME_COUNT w n),
     s.line "LK_TXFRAME_COUNT" (R.LK_TXFRAME_COUNT w n), s.line "LK_TXOVR_COUNT" (R.LK_TXOVR_COUNT w n),
     s.line "LK_ETH_DROP_COUNT" (R.LK_ETH_DROP_COUNT w n)])

/-- PAGE_PIN. -/
def execPagePin (w : Wall) (s : State) : Out :=
  let w := w.val
  wallPage w s (fun s =>
    [s.line "FP_BANK" (R.FP_BANK w), s.line "FP_LEVEL" (R.FP_LEVEL w)] ++
    (List.range 24).flatMap (fun p => [s.line ("FP_CFG." ++ dec p) (R.FP_CFG w p), s.line ("CLAIM." ++ dec p) (claimPin w p)]))

/-- PAGE_CHAIN. -/
def execPageChain (s : State) : Out :=
  consoleRow s false (fun s => s.print (s.line "CHN_STATUS" R.CHN_STATUS :: s.lines "TRW_CHAIN" 64 R.TRW_CHAIN))

/-- A record on the console: tick, source, code and arguments. -/
def EvRec.line (r : EvRec) : String :=
  "0x" ++ hexN 16 r.stamp.tick ++ " SOURCE " ++ dec r.stamp.source ++ " CODE 0x" ++ hexN 4 r.code ++
    (r.args.map (fun a => " 0x" ++ hexN 8 a.toNat)).foldl (· ++ ·) ""

/-- PAGE_EVENT: the latest 32 records, newest last. -/
def execPageEvent (s : State) : Out :=
  consoleRow s false (fun s => s.print ((s.log.drop (s.log.length - 32)).map EvRec.line))

/-- PAGE_HOST. -/
def execPageHost (s : State) : Out :=
  consoleRow s false (fun s => s.print (
    ("CXL " ++ (if s.cxl.up then "UP" else "DOWN") ++ " WIDTH " ++ dec s.cxl.width ++ " RATE " ++ dec s.cxl.rate) ::
    (List.range 32).flatMap (fun g => [s.line ("REG_STAT." ++ dec g) (R.REG_STAT g), s.line ("REG_STAT_ADDR." ++ dec g) (R.REG_STAT_ADDR g)])))

/-- A word as `reg` reads it: of the recovery registers 0 outside the ROM. -/
def State.consoleWord (s : State) (a : Nat) : Word := if 0x48000 ≤ a && a < 0x4900C then 0 else s.view a

/-- REG: n words from offset a. -/
def execReg (a : Nat) (n : Nat) (s : State) : Out :=
  consoleRow s false (fun s =>
    if a % 4 ≠ 0 || 0x4000000 < a + 4 * n then s.sayEnd stBadArg
    else if (List.range n).any (fun k => match wallOfAddr (a + 4 * k) with | some (w, _) => !s.populated w | none => false) then
      s.sayEnd stAccessDenied
    else s.print ((List.range n).map (fun k => regLine ("0x" ++ hexN 7 (a + 4 * k)) (s.consoleWord (a + 4 * k)))))

/-- LOG: n records from a position. -/
def execLog (p : Nat) (n : Nat) (s : State) : Out := consoleRow s false (fun s => s.print ((s.logFrom p n).map EvRec.line))

/-! ### Commands that act (R530, R531) -/
/-- The master that the console acts as. -/
def State.consoleMid (s : State) : Nat := if s.consoleLocal then 0 else 34

/-- A register write of the console. -/
def State.consoleWrite (s : State) (a : Nat) (eff : State → State × Nat) : State :=
  let s1 := s.regWrite s.consoleMid a eff
  s1.sayEnd s1.last.status

/-- The context of a command given at the console. -/
def consoleCtx (w : Wall) (args : Words) : CmdCtx :=
  { q := 0, handle := 0xFFFFFFFF, cid := 0, fence := false, wall := BitVec.ofNat 3 w.val, buf := 0, len := 0, args := args }

/-- A command of R426 given at the console: a long one prints its final status when it ends. One is in progress at a
time. -/
def State.consoleCmd (s : State) (c : CmdCtx) (d : Cmd) : State :=
  if d.isLong && s.longs.any (fun l => l.console) then (d.failed s).sayEnd stBusy
  else
    let r := s.startCmd c d
    match r.2 with
    | .final st _ _ => r.1.sayEnd st
    | x => r.1.addLong c d.op true x

/-- Whether a selection of SVC_METER names a wall: its quantity is one of a wall's (R534). -/
def meterNamesWall (v : Word) : Bool :=
  let q := fld v F.SVC_METER_SEL_qty
  fld v F.SVC_METER_SEL_mode = 1 && (q = 3 || (q = 5 && fld v F.SVC_METER_SEL_hub = 0) || inRange 6 q 9)

/-- METER: the claim is taken at the first such command; one that names an unpopulated wall ends in BAD_ARGUMENT (R3). -/
def execMeter (v : Word) (s : State) : Out :=
  consoleRow s false (fun s =>
    let m := s.consoleMid
    if meterNamesWall v && !s.populated (fld v F.SVC_METER_SEL_wall) then s.sayEnd stBadArg
    else if s.claimed claimMeter && !s.holds claimMeter m then s.sayEnd stBusy
    else
      let s1 := if s.claimed claimMeter then s else s.takeClaim claimMeter m
      s1.consoleWrite R.SVC_METER_SEL (fun s => s.meterSelWrite m v))

/-- TEST. -/
def execTest (t : BitVec 8) (w : Wall) (a : Word) (b : Word) (c : Word) (s : State) : Out :=
  consoleRow s false (fun s =>
    let x := consoleCtx w [BitVec.ofNat 32 t.toNat, a, b, c]
    s.consoleCmd x (s.selfTestCmd t.toNat s.consoleMid x true))

/-- CONSOLE_MARCH. -/
def execConsoleMarch (w : Wall) (banks : BitVec 8) (alg : BitVec 2) (bg : BitVec 2) (s : State) : Out :=
  consoleRow s false (fun s =>
    let x := consoleCtx w [BitVec.ofNat 32 (banks.toNat + alg.toNat * 256 + bg.toNat * 1024)]
    s.consoleCmd x (s.marchCmd s.consoleMid x))

/-- LOOP: self-test 6 or 7. -/
def execLoop (w : Wall) (n : Fin 16) (far : Bool) (sec : Word) (s : State) : Out :=
  consoleRow s false (fun s =>
    let t := if far then 7 else 6
    let x := consoleCtx w [BitVec.ofNat 32 t, BitVec.ofNat 32 n.val, sec]
    s.consoleCmd x (s.selfTestCmd t s.consoleMid x true))

/-- CONSOLE_WALL_RESET. -/
def execConsoleWallReset (w : Wall) (s : State) : Out :=
  consoleRow s false (fun s =>
    let x := consoleCtx w []
    s.consoleCmd x (s.wallResetCmd s.consoleMid x))

/-- A load from an entry of the default image store. -/
def State.entryLoadCmd (s : State) (m : Nat) (c : CmdCtx) (e : Nat) : Cmd :=
  s.cmdOf m 16 c true 0 false (fun s =>
    let w := c.wall.toNat
    match (if e < 3 then (Sp.getD s.trowel.store e {}).image else none) with
    | none => fails s stBadArg
    | some img =>
      if s.trowel.lifecycle = 3 then fails s stBadArg
      else
        let s1 := s.loadWall w (fun _ => false)
        (s1.setKiln w { (s1.kiln w) with master := BitVec.ofNat 6 m, bcast := true, fin := true, got := wordsOfBytes img.payload }, .long none 0 none))

/-- CONSOLE_WALL_LOAD. -/
def execConsoleWallLoad (w : Wall) (e : BitVec 2) (s : State) : Out :=
  consoleRow s false (fun s =>
    let x := consoleCtx w [BitVec.ofNat 32 (2 ^ w.val)]
    s.consoleCmd x (s.entryLoadCmd s.consoleMid x e.toNat))

/-- CONSOLE_WALL_POWER: 0 on, 1 standby, 2 off. -/
def execConsoleWallPower (w : Wall) (p : BitVec 2) (s : State) : Out :=
  consoleRow s false (fun s =>
    let x := consoleCtx w [BitVec.ofNat 32 p.toNat]
    s.consoleCmd x (s.wallPowerCmd s.consoleMid x))

/-- RAISE. -/
def execRaise (v : Word) (s : State) : Out := consoleRow s false (fun s => s.consoleWrite R.EV_RAISE (fun s => s.evRaise v))

/-- SAFE_ENTER. -/
def execSafeEnter (s : State) : Out := consoleRow s false (fun s => (s.enterSafe 2).sayEnd 0)

/-- SAFE_EXIT. -/
def execSafeExit (s : State) : Out := consoleRow s false (fun s => s.leaveSafe.sayEnd 0)

/-- RECOVERY: the recovery ROM is entered with cause 3. -/
def execRecovery (s : State) : Out := consoleRow s false (fun s => (s.enterRecovery 3).sayEnd 0)

/-- QUIT. -/
def execQuit (s : State) : Out := consoleRow s false (fun s => (s.sayEnd 0).closeConsole)

end Sys2Proof.Machine
end

