-- ==== Sys2Proof/Machine/SeqAgu.lean ====
section
/-!
DEFINITION. Machine/SeqAgu.lean: the address-unit instructions (R148, R149, R165 to R167).
-/
namespace Sys2Proof.Machine
open Sys2Proof

/-- The shape of an AGU instruction. -/
def aguIns (x : TileRef) (s : State) (run : Bank → Ctx → Ctx) : Out := seqPlain x s true run

/-- LDP: Pk ← v. -/
def execLdp (x : TileRef) (f : AguF) (s : State) : Out := aguIns x s (fun b c => c.setPtr f.k.toNat (aguV c b f))
/-- LDB: Bk ← v; Pk does not move (R149). -/
def execLdb (x : TileRef) (f : AguF) (s : State) : Out := aguIns x s (fun b c => c.setBase f.k.toNat (aguV c b f))
/-- LDL: the shadow length of Pk ← v (R166). -/
def execLdl (x : TileRef) (f : AguF) (s : State) : Out := aguIns x s (fun b c => c.setShadow f.k.toNat (aguV c b f))

/-- LDLI: the length at once, with fold, and LENGTH_FOLD when it is not 0 (R167). -/
def execLdli (x : TileRef) (f : AguF) (s : State) : Out :=
  seqRow x s true false (fun _ => 0) (fun b _ s =>
    let c := s.ctx x.w.val x.t.val b
    let v := aguV c b f
    let old := c.len f.k.toNat
    let s1 := (s.onCtx x.w.val x.t.val b (fun c => c.lengthNow f.k.toNat v)).advance x.w.val x.t.val b
    if v = 0 then s1
    else s1.raiseWall x.w.val 4 0 [(match (s.tile x.w.val x.t.val).owner b with | some n => flowNo x.w.val n | none => 0), x.t.val,
      f.k.toNat, old.toNat + v.toNat * 65536])

/-- LDM: Mm ← v, imm14 sign-extended. -/
def execLdm (x : TileRef) (f : AguF) (s : State) : Out := aguIns x s (fun b c => c.setModif f.m.toNat (aguVs c b f))
/-- STEP: Pk ← Pk + M(selk), circular (R165). -/
def execStep (x : TileRef) (f : AguF) (s : State) : Out :=
  aguIns x s (fun _ c => c.stepPtr f.k.toNat (c.modif (c.selOf f.k.toNat)).toInt)
/-- STEPI: Pk ← Pk + imm14, circular (R165). -/
def execStepi (x : TileRef) (f : AguF) (s : State) : Out := aguIns x s (fun _ c => c.stepPtr f.k.toNat f.imm.toInt)
/-- RDP: `reg` ← Pk, zero-extended. -/
def execRdp (x : TileRef) (f : AguF) (s : State) : Out :=
  aguIns x s (fun b c => c.setReg b f.reg.toNat ((c.ptr f.k.toNat).setWidth 32))
/-- RDB: `reg` ← Bk. -/
def execRdb (x : TileRef) (f : AguF) (s : State) : Out :=
  aguIns x s (fun b c => c.setReg b f.reg.toNat ((c.base f.k.toNat).setWidth 32))
/-- RDL: `reg` ← the length in force. -/
def execAguRdl (x : TileRef) (f : AguF) (s : State) : Out :=
  aguIns x s (fun b c => c.setReg b f.reg.toNat ((c.len f.k.toNat).setWidth 32))
/-- RDM: `reg` ← Mm, sign-extended. -/
def execAguRdm (x : TileRef) (f : AguF) (s : State) : Out :=
  aguIns x s (fun b c => c.setReg b f.reg.toNat ((c.modif f.m.toNat).signExtend 32))
/-- AGSEL: selk ← m. -/
def execAgsel (x : TileRef) (f : AguF) (s : State) : Out :=
  aguIns x s (fun _ c => { c with agcfg := setFld c.agcfg ⟨2 * f.k.toNat, 2⟩ f.m.toNat })

end Sys2Proof.Machine
end

