-- ==== Sys2Proof/Machine/SeqAlu.lean ====
section
/-!
DEFINITION. Machine/SeqAlu.lean: the ALU and ALI instructions of the tile sequencer (R146, R147).
-/
namespace Sys2Proof.Machine
open Sys2Proof

/-- An ALU instruction whose condition holds: rd takes the result, and the flags follow when `setf` is 1 (R146). -/
def Ctx.aluWrite (c : Ctx) (b : Bank) (rd : RegCode) (setf : Bool) (x : AluRes) : Ctx :=
  let c1 := c.setReg b rd.toNat x.r
  if setf then c1.setFlags x else c1

/-- The shape of an ALU instruction: `op` gives the result from ra and rb. -/
def aluIns (x : TileRef) (f : AluF) (op : Word → Word → AluRes) (s : State) : Out :=
  seqPlain x s (condLegal f.cond) (fun b c =>
    if c.condHolds f.cond then c.aluWrite b f.rd f.setf (op (c.reg b f.ra.toNat) (c.reg b f.rb.toNat)) else c)

/-- The shape of a shift: with a count of 0 the carry is a free value, so the state's count of them advances. -/
def shiftIns (x : TileRef) (f : AluF) (op : Word → Word → BitVec 1 → AluRes) (s : State) : Out :=
  seqRow x s (condLegal f.cond) false (fun _ => 0) (fun b _ s =>
    let g (c : Ctx) : Ctx :=
      if c.condHolds f.cond then
        c.aluWrite b f.rd f.setf (op (c.reg b f.ra.toNat) (c.reg b f.rb.toNat) (Config.freeBit s.fresh))
      else c
    { ((s.onCtx x.w.val x.t.val b g).advance x.w.val x.t.val b) with fresh := s.fresh + 1 })

/-- ALU_ADD: a + b (R146). -/
def execAluAdd (x : TileRef) (f : AluF) (s : State) : Out := aluIns x f (fun a b => addRes a b) s

/-- ALU_SUB: a - b (R146). -/
def execAluSub (x : TileRef) (f : AluF) (s : State) : Out := aluIns x f (fun a b => subRes a b) s

/-- ALU_AND: bitwise AND (R146). -/
def execAluAnd (x : TileRef) (f : AluF) (s : State) : Out := aluIns x f (fun a b => { r := a &&& b }) s

/-- ALU_OR: bitwise OR (R146). -/
def execAluOr (x : TileRef) (f : AluF) (s : State) : Out := aluIns x f (fun a b => { r := a ||| b }) s

/-- ALU_XOR: bitwise exclusive OR (R146). -/
def execAluXor (x : TileRef) (f : AluF) (s : State) : Out := aluIns x f (fun a b => { r := a ^^^ b }) s

/-- ALU_SHL: shift left by rb[4:0] (R146). -/
def execAluShl (x : TileRef) (f : AluF) (s : State) : Out := shiftIns x f shlRes s

/-- ALU_SHR: shift right, zero fill (R146). -/
def execAluShr (x : TileRef) (f : AluF) (s : State) : Out := shiftIns x f shrRes s

/-- ALU_SRA: shift right, sign fill (R146). -/
def execAluSra (x : TileRef) (f : AluF) (s : State) : Out := shiftIns x f sraRes s

/-- ALU_MOV: ra (R146). -/
def execAluMov (x : TileRef) (f : AluF) (s : State) : Out := aluIns x f (fun a _ => { r := a }) s

/-- ALU_MIN: smaller, signed (R146). -/
def execAluMin (x : TileRef) (f : AluF) (s : State) : Out := aluIns x f (fun a b => { r := if a.toInt ≤ b.toInt then a else b }) s

/-- ALU_MAX: larger, signed (R146). -/
def execAluMax (x : TileRef) (f : AluF) (s : State) : Out := aluIns x f (fun a b => { r := if a.toInt ≤ b.toInt then b else a }) s

/-- ALU_MINU: smaller, unsigned (R146). -/
def execAluMinu (x : TileRef) (f : AluF) (s : State) : Out := aluIns x f (fun a b => { r := if a.toNat ≤ b.toNat then a else b }) s

/-- ALU_MAXU: larger, unsigned (R146). -/
def execAluMaxu (x : TileRef) (f : AluF) (s : State) : Out := aluIns x f (fun a b => { r := if a.toNat ≤ b.toNat then b else a }) s

/-- ALU_MUL: low word of the product (R146). -/
def execAluMul (x : TileRef) (f : AluF) (s : State) : Out := aluIns x f (fun a b => { r := a * b }) s

/-- ALU_MULH: high word of the signed product (R146). -/
def execAluMulh (x : TileRef) (f : AluF) (s : State) : Out := aluIns x f (fun a b => { r := w32 (a.toInt * b.toInt / 4294967296) }) s

/-- ALU_SX24: ra[23:0] sign-extended (R146). -/
def execAluSx24 (x : TileRef) (f : AluF) (s : State) : Out := aluIns x f (fun a _ => { r := (BitVec.ofNat 24 a.toNat).signExtend 32 }) s

/-- ALU_CLZ: leading zeros of ra (R146). -/
def execAluClz (x : TileRef) (f : AluF) (s : State) : Out := aluIns x f (fun a _ => { r := BitVec.ofNat 32 (clz32 a) }) s

/-- ALU_CMP: the flags of ra - rb, always, and no register (R146). -/
def execAluCmp (x : TileRef) (f : AluF) (s : State) : Out :=
  seqPlain x s (condLegal f.cond) (fun b c =>
    if c.condHolds f.cond then c.setFlags (subRes (c.reg b f.ra.toNat) (c.reg b f.rb.toNat)) else c)

/-- The shape of an ALI instruction: `op` gives the result from rd and imm16 (R147). -/
def aliIns (x : TileRef) (f : AliF) (op : Word → BitVec 16 → AluRes) (s : State) : Out :=
  seqPlain x s (condLegal f.cond) (fun b c =>
    if c.condHolds f.cond then c.aluWrite b f.rd f.setf (op (c.reg b f.rd.toNat) f.imm) else c)

/-- LDI: imm16 sign-extended (R147). -/
def execLdi (x : TileRef) (f : AliF) (s : State) : Out := aliIns x f (fun _ i => { r := i.signExtend 32 }) s

/-- LUI: imm16 * 2^16 (R147). -/
def execLui (x : TileRef) (f : AliF) (s : State) : Out := aliIns x f (fun _ i => { r := i.setWidth 32 <<< 16 }) s

/-- ADDI: rd + imm16 sign-extended (R147). -/
def execAddi (x : TileRef) (f : AliF) (s : State) : Out := aliIns x f (fun a i => addRes a (i.signExtend 32)) s

/-- ANDI: rd AND imm16 zero-extended (R147). -/
def execAndi (x : TileRef) (f : AliF) (s : State) : Out := aliIns x f (fun a i => { r := a &&& i.setWidth 32 }) s

/-- ORI: rd OR imm16 zero-extended (R147). -/
def execOri (x : TileRef) (f : AliF) (s : State) : Out := aliIns x f (fun a i => { r := a ||| i.setWidth 32 }) s

/-- XORI: rd XOR imm16 zero-extended (R147). -/
def execXori (x : TileRef) (f : AliF) (s : State) : Out := aliIns x f (fun a i => { r := a ^^^ i.setWidth 32 }) s

/-- CMPI: the flags of rd - imm16 sign-extended, and no register (R147). -/
def execCmpi (x : TileRef) (f : AliF) (s : State) : Out :=
  seqPlain x s (condLegal f.cond) (fun b c =>
    if c.condHolds f.cond then c.setFlags (subRes (c.reg b f.rd.toNat) (f.imm.signExtend 32)) else c)

end Sys2Proof.Machine
end

