-- ==== Sys2Proof/Machine/Tick.lean ====
section
/-!
DEFINITION. Machine/Tick.lean: what one module tick changes when no command is given (assumption 1): the module tick (R255),
each wall's fabric cycles (R8, R250), its PTP clock (R383), the PRBS checkers of its links (R369), and the drains that have run to their end (R310, R515, R517).
-/
namespace Sys2Proof.Machine
open Sys2Proof

/-- The fabric edges of a wall between module tick t and the next: 1 a tick at 1.25 GHz, fewer at a slower step. -/
def edgesAt (step t : Nat) : Nat := (t + 1) * 64 / tickRatio64 step - t * 64 / tickRatio64 step

/-- A wall that has its clock passes a module tick. -/
def State.wallTick (s : State) (w : Wall) : State :=
  if !s.populated w.val || s.wallOff w.val then s
  else
    let x := s.ptpAdvance w.val 1
    let e := x.tickErr + x.tickFix
    let s0 := if edgesAt (s.clockStep w.val) s.tick = 0 then s else s.meshCycle w.val x.cycle
    let s1 := s0.setWall w.val { x with cycle := x.cycle + edgesAt (s.clockStep w.val) s.tick, tickErr := e, tickFix := 0 }
    let s2 := if x.tickFix ≠ 0 && decide (e.natAbs ≤ 1) then s1.setAligned w.val true else s1
    ((s2.prbsTick w.val).gateProgress w).downProgress w

/-- One module tick passes. A module without its supply has no clock. -/
def State.idle (s : State) : State :=
  if !s.powered then s
  else
    let s1 := (List.finRange 8).foldl (fun (a : State) w => a.wallTick w) s
    ({ s1 with tick := s1.tick + 1 } : State).settleEpochs

end Sys2Proof.Machine
end

