-- ==== Sys2Proof/Machine/Dispatch.lean ====
section
/-!
DEFINITION. Machine/Dispatch.lean: one arm per command: a direct call of its meaning.
-/
namespace Sys2Proof.Machine
open Sys2Proof

/-- The effect of a command on everything but the queue. -/
def exec (i : Instr) (s : State) : Host.Outcome State Fault Refusal :=
  match i with
  | .registerWrite x0 x1 x2 => Sys2Proof.Machine.execRegisterWrite x0 x1 x2 s
  | .pairLoRead x0 x1 => Sys2Proof.Machine.execPairLoRead x0 x1 s
  | .pairHiRead x0 x1 => Sys2Proof.Machine.execPairHiRead x0 x1 s
  | .patternIssue x0 => Sys2Proof.Machine.execPatternIssue x0 s
  | .refillStart x0 => Sys2Proof.Machine.execRefillStart x0 s
  | .refillDone x0 => Sys2Proof.Machine.execRefillDone x0 s
  | .pcPinWrite x0 x1 x2 x3 => Sys2Proof.Machine.execPcPinWrite x0 x1 x2 x3 s
  | .pcInvalWrite x0 x1 x2 => Sys2Proof.Machine.execPcInvalWrite x0 x1 x2 s
  | .capArm x0 x1 x2 => Sys2Proof.Machine.execCapArm x0 x1 x2 s
  | .capDiscard x0 x1 => Sys2Proof.Machine.execCapDiscard x0 x1 s
  | .captureFire x0 => Sys2Proof.Machine.execCaptureFire x0 s
  | .bondInterfaceWrite x0 => Sys2Proof.Machine.execBondInterfaceWrite x0 s
  | .pat x0 x1 => Sys2Proof.Machine.execPat x0 x1 s
  | .aluAdd x0 x1 => Sys2Proof.Machine.execAluAdd x0 x1 s
  | .aluSub x0 x1 => Sys2Proof.Machine.execAluSub x0 x1 s
  | .aluAnd x0 x1 => Sys2Proof.Machine.execAluAnd x0 x1 s
  | .aluOr x0 x1 => Sys2Proof.Machine.execAluOr x0 x1 s
  | .aluXor x0 x1 => Sys2Proof.Machine.execAluXor x0 x1 s
  | .aluShl x0 x1 => Sys2Proof.Machine.execAluShl x0 x1 s
  | .aluShr x0 x1 => Sys2Proof.Machine.execAluShr x0 x1 s
  | .aluSra x0 x1 => Sys2Proof.Machine.execAluSra x0 x1 s
  | .aluMov x0 x1 => Sys2Proof.Machine.execAluMov x0 x1 s
  | .aluMin x0 x1 => Sys2Proof.Machine.execAluMin x0 x1 s
  | .aluMax x0 x1 => Sys2Proof.Machine.execAluMax x0 x1 s
  | .aluMinu x0 x1 => Sys2Proof.Machine.execAluMinu x0 x1 s
  | .aluMaxu x0 x1 => Sys2Proof.Machine.execAluMaxu x0 x1 s
  | .aluMul x0 x1 => Sys2Proof.Machine.execAluMul x0 x1 s
  | .aluMulh x0 x1 => Sys2Proof.Machine.execAluMulh x0 x1 s
  | .aluCmp x0 x1 => Sys2Proof.Machine.execAluCmp x0 x1 s
  | .aluSx24 x0 x1 => Sys2Proof.Machine.execAluSx24 x0 x1 s
  | .aluClz x0 x1 => Sys2Proof.Machine.execAluClz x0 x1 s
  | .ldi x0 x1 => Sys2Proof.Machine.execLdi x0 x1 s
  | .lui x0 x1 => Sys2Proof.Machine.execLui x0 x1 s
  | .addi x0 x1 => Sys2Proof.Machine.execAddi x0 x1 s
  | .andi x0 x1 => Sys2Proof.Machine.execAndi x0 x1 s
  | .ori x0 x1 => Sys2Proof.Machine.execOri x0 x1 s
  | .xori x0 x1 => Sys2Proof.Machine.execXori x0 x1 s
  | .cmpi x0 x1 => Sys2Proof.Machine.execCmpi x0 x1 s
  | .ldp x0 x1 => Sys2Proof.Machine.execLdp x0 x1 s
  | .ldb x0 x1 => Sys2Proof.Machine.execLdb x0 x1 s
  | .ldl x0 x1 => Sys2Proof.Machine.execLdl x0 x1 s
  | .ldli x0 x1 => Sys2Proof.Machine.execLdli x0 x1 s
  | .ldm x0 x1 => Sys2Proof.Machine.execLdm x0 x1 s
  | .step x0 x1 => Sys2Proof.Machine.execStep x0 x1 s
  | .stepi x0 x1 => Sys2Proof.Machine.execStepi x0 x1 s
  | .rdp x0 x1 => Sys2Proof.Machine.execRdp x0 x1 s
  | .rdb x0 x1 => Sys2Proof.Machine.execRdb x0 x1 s
  | .aguRdl x0 x1 => Sys2Proof.Machine.execAguRdl x0 x1 s
  | .aguRdm x0 x1 => Sys2Proof.Machine.execAguRdm x0 x1 s
  | .agsel x0 x1 => Sys2Proof.Machine.execAgsel x0 x1 s
  | .br x0 x1 x2 => Sys2Proof.Machine.execBr x0 x1 x2 s
  | .callw x0 x1 x2 => Sys2Proof.Machine.execCallw x0 x1 x2 s
  | .retw x0 x1 => Sys2Proof.Machine.execRetw x0 x1 s
  | .jmp x0 x1 x2 => Sys2Proof.Machine.execJmp x0 x1 x2 s
  | .rep x0 x1 => Sys2Proof.Machine.execRep x0 x1 s
  | .done x0 => Sys2Proof.Machine.execDone x0 s
  | .yield x0 => Sys2Proof.Machine.execYield x0 s
  | .waite x0 => Sys2Proof.Machine.execWaite x0 s
  | .retf x0 => Sys2Proof.Machine.execRetf x0 s
  | .tpset x0 x1 => Sys2Proof.Machine.execTpset x0 x1 s
  | .sync x0 => Sys2Proof.Machine.execSync x0 s
  | .signal x0 x1 => Sys2Proof.Machine.execSignal x0 x1 s
  | .savew x0 => Sys2Proof.Machine.execSavew x0 s
  | .restw x0 => Sys2Proof.Machine.execRestw x0 s
  | .savel x0 => Sys2Proof.Machine.execSavel x0 s
  | .saveu x0 => Sys2Proof.Machine.execSaveu x0 s
  | .loadl x0 => Sys2Proof.Machine.execLoadl x0 s
  | .loadu x0 => Sys2Proof.Machine.execLoadu x0 s
  | .rds x0 x1 x2 => Sys2Proof.Machine.execRds x0 x1 x2 s
  | .wrs x0 x1 x2 => Sys2Proof.Machine.execWrs x0 x1 x2 s
  | .send x0 x1 => Sys2Proof.Machine.execSend x0 x1 s
  | .fence x0 => Sys2Proof.Machine.execFence x0 s
  | .sysNop x0 => Sys2Proof.Machine.execSysNop x0 s
  | .fadd x0 x1 => Sys2Proof.Machine.execFadd x0 x1 s
  | .fsub x0 x1 => Sys2Proof.Machine.execFsub x0 x1 s
  | .fmul x0 x1 => Sys2Proof.Machine.execFmul x0 x1 s
  | .fma x0 x1 => Sys2Proof.Machine.execFma x0 x1 s
  | .fmin x0 x1 => Sys2Proof.Machine.execFmin x0 x1 s
  | .fmax x0 x1 => Sys2Proof.Machine.execFmax x0 x1 s
  | .fabs x0 x1 => Sys2Proof.Machine.execFabs x0 x1 s
  | .fneg x0 x1 => Sys2Proof.Machine.execFneg x0 x1 s
  | .fcmp x0 x1 => Sys2Proof.Machine.execFcmp x0 x1 s
  | .fdiv x0 x1 => Sys2Proof.Machine.execFdiv x0 x1 s
  | .fsqrt x0 x1 => Sys2Proof.Machine.execFsqrt x0 x1 s
  | .ftoq x0 x1 => Sys2Proof.Machine.execFtoq x0 x1 s
  | .qtof x0 x1 => Sys2Proof.Machine.execQtof x0 x1 s
  | .ftoi x0 x1 => Sys2Proof.Machine.execFtoi x0 x1 s
  | .itof x0 x1 => Sys2Proof.Machine.execItof x0 x1 s
  | .fmvr x0 x1 => Sys2Proof.Machine.execFmvr x0 x1 s
  | .fmvf x0 x1 => Sys2Proof.Machine.execFmvf x0 x1 s
  | .whandCtrlWrite x0 x1 x2 => Sys2Proof.Machine.execWhandCtrlWrite x0 x1 x2 s
  | .create x0 x1 x2 => Sys2Proof.Machine.execCreate x0 x1 x2 s
  | .enable x0 x1 x2 => Sys2Proof.Machine.execEnable x0 x1 x2 s
  | .disable x0 x1 x2 => Sys2Proof.Machine.execDisable x0 x1 x2 s
  | .restart x0 x1 x2 => Sys2Proof.Machine.execRestart x0 x1 x2 s
  | .destroy x0 x1 x2 => Sys2Proof.Machine.execDestroy x0 x1 x2 s
  | .wake x0 x1 x2 => Sys2Proof.Machine.execWake x0 x1 x2 s
  | .descriptorWrite x0 x1 x2 x3 x4 => Sys2Proof.Machine.execDescriptorWrite x0 x1 x2 x3 x4 s
  | .fdSchedWrite x0 x1 x2 x3 => Sys2Proof.Machine.execFdSchedWrite x0 x1 x2 x3 s
  | .dispDoorbell x0 x1 x2 => Sys2Proof.Machine.execDispDoorbell x0 x1 x2 s
  | .fwCtrlWrite x0 x1 x2 x3 => Sys2Proof.Machine.execFwCtrlWrite x0 x1 x2 x3 s
  | .lsCtrlWrite x0 x1 x2 x3 => Sys2Proof.Machine.execLsCtrlWrite x0 x1 x2 x3 s
  | .hodCfgWrite x0 x1 x2 => Sys2Proof.Machine.execHodCfgWrite x0 x1 x2 s
  | .scheduleMatch x0 x1 => Sys2Proof.Machine.execScheduleMatch x0 x1 s
  | .targetSweep x0 => Sys2Proof.Machine.execTargetSweep x0 s
  | .prestage x0 x1 => Sys2Proof.Machine.execPrestage x0 x1 s
  | .prestageWithdraw x0 x1 => Sys2Proof.Machine.execPrestageWithdraw x0 x1 s
  | .flowStart x0 x1 => Sys2Proof.Machine.execFlowStart x0 x1 s
  | .fastEntry x0 x1 => Sys2Proof.Machine.execFastEntry x0 x1 s
  | .hodOpStart x0 => Sys2Proof.Machine.execHodOpStart x0 s
  | .hodRestoreDone x0 => Sys2Proof.Machine.execHodRestoreDone x0 s
  | .makeColdDone x0 => Sys2Proof.Machine.execMakeColdDone x0 s
  | .windowSpillDone x0 => Sys2Proof.Machine.execWindowSpillDone x0 s
  | .windowFillDone x0 => Sys2Proof.Machine.execWindowFillDone x0 s
  | .blockSaveDone x0 => Sys2Proof.Machine.execBlockSaveDone x0 s
  | .blockRestoreDone x0 => Sys2Proof.Machine.execBlockRestoreDone x0 s
  | .fpSwapDone x0 => Sys2Proof.Machine.execFpSwapDone x0 s
  | .areaHousekeepingDone x0 => Sys2Proof.Machine.execAreaHousekeepingDone x0 s
  | .encoderEdge x0 x1 x2 x3 => Sys2Proof.Machine.execEncoderEdge x0 x1 x2 x3 s
  | .indexEdge x0 x1 => Sys2Proof.Machine.execIndexEdge x0 x1 s
  | .lineTriggerEdge x0 x1 => Sys2Proof.Machine.execLineTriggerEdge x0 x1 s
  | .mainsEdge x0 x1 x2 => Sys2Proof.Machine.execMainsEdge x0 x1 x2 s
  | .feed x0 x1 => Sys2Proof.Machine.execFeed x0 x1 s
  | .angleShareReport x0 x1 => Sys2Proof.Machine.execAngleShareReport x0 x1 s
  | .refLoss x0 x1 => Sys2Proof.Machine.execRefLoss x0 x1 s
  | .standstill x0 x1 => Sys2Proof.Machine.execStandstill x0 x1 s
  | .angCfgWrite x0 x1 x2 x3 => Sys2Proof.Machine.execAngCfgWrite x0 x1 x2 x3 s
  | .angPreset x0 x1 x2 => Sys2Proof.Machine.execAngPreset x0 x1 x2 s
  | .ashSrcWrite x0 x1 x2 x3 => Sys2Proof.Machine.execAshSrcWrite x0 x1 x2 x3 s
  | .acuCtrlWrite x0 x1 x2 x3 => Sys2Proof.Machine.execAcuCtrlWrite x0 x1 x2 x3 s
  | .acuMatch x0 x1 => Sys2Proof.Machine.execAcuMatch x0 x1 s
  | .acuBMatch x0 x1 => Sys2Proof.Machine.execAcuBMatch x0 x1 s
  | .acuTimePulseEnd x0 x1 => Sys2Proof.Machine.execAcuTimePulseEnd x0 x1 s
  | .tickAlignCheck x0 => Sys2Proof.Machine.execTickAlignCheck x0 s
  | .tickCorrection x0 => Sys2Proof.Machine.execTickCorrection x0 s
  | .wallHeartbeat x0 => Sys2Proof.Machine.execWallHeartbeat x0 s
  | .hubLogAppend => Sys2Proof.Machine.execHubLogAppend s
  | .wallEventRecord x0 => Sys2Proof.Machine.execWallEventRecord x0 s
  | .eventLost x0 => Sys2Proof.Machine.execEventLost x0 s
  | .wallSilent x0 => Sys2Proof.Machine.execWallSilent x0 s
  | .packetInject x0 x1 x2 x3 => Sys2Proof.Machine.execPacketInject x0 x1 x2 x3 s
  | .routerHeadEntry x0 x1 x2 => Sys2Proof.Machine.execRouterHeadEntry x0 x1 x2 s
  | .crossingSwitchEntry x0 x1 => Sys2Proof.Machine.execCrossingSwitchEntry x0 x1 s
  | .gatewayEntry x0 x1 => Sys2Proof.Machine.execGatewayEntry x0 x1 s
  | .tileWritePacket x0 x1 => Sys2Proof.Machine.execTileWritePacket x0 x1 s
  | .tileMessage x0 x1 => Sys2Proof.Machine.execTileMessage x0 x1 s
  | .sramRead x0 x1 x2 => Sys2Proof.Machine.execSramRead x0 x1 x2 s
  | .sramWrite x0 x1 x2 => Sys2Proof.Machine.execSramWrite x0 x1 x2 s
  | .registerBusAccess x0 x1 => Sys2Proof.Machine.execRegisterBusAccess x0 x1 s
  | .linkUnitWrite x0 x1 x2 => Sys2Proof.Machine.execLinkUnitWrite x0 x1 x2 s
  | .hostWindowAccess x0 => Sys2Proof.Machine.execHostWindowAccess x0 s
  | .answerReceipt x0 x1 x2 x3 => Sys2Proof.Machine.execAnswerReceipt x0 x1 x2 x3 s
  | .bondEpochFlipWrite x0 x1 => Sys2Proof.Machine.execBondEpochFlipWrite x0 x1 s
  | .epochFlip x0 => Sys2Proof.Machine.execEpochFlip x0 s
  | .routeTableWrite x0 x1 x2 x3 x4 x5 => Sys2Proof.Machine.execRouteTableWrite x0 x1 x2 x3 x4 x5 s
  | .slotTableWrite x0 x1 x2 x3 x4 x5 x6 => Sys2Proof.Machine.execSlotTableWrite x0 x1 x2 x3 x4 x5 x6 s
  | .gcCtrlWrite x0 x1 x2 x3 => Sys2Proof.Machine.execGcCtrlWrite x0 x1 x2 x3 s
  | .biRingWrite x0 x1 x2 => Sys2Proof.Machine.execBiRingWrite x0 x1 x2 s
  | .drainTimeout x0 => Sys2Proof.Machine.execDrainTimeout x0 s
  | .connectionRelease x0 => Sys2Proof.Machine.execConnectionRelease x0 s
  | .frameRealign x0 => Sys2Proof.Machine.execFrameRealign x0 s
  | .sramPatrolRead x0 x1 => Sys2Proof.Machine.execSramPatrolRead x0 x1 s
  | .sramRetWrite x0 x1 x2 => Sys2Proof.Machine.execSramRetWrite x0 x1 x2 s
  | .retentionEntry x0 x1 => Sys2Proof.Machine.execRetentionEntry x0 x1 s
  | .retentionWake x0 x1 => Sys2Proof.Machine.execRetentionWake x0 x1 s
  | .marchStart x0 x1 x2 => Sys2Proof.Machine.execMarchStart x0 x1 x2 s
  | .marchAbort x0 x1 => Sys2Proof.Machine.execMarchAbort x0 x1 s
  | .marchEnd x0 x1 x2 => Sys2Proof.Machine.execMarchEnd x0 x1 x2 s
  | .clockGlitch x0 => Sys2Proof.Machine.execClockGlitch x0 s
  | .temperatureTamper x0 => Sys2Proof.Machine.execTemperatureTamper x0 s
  | .secureWipeDone x0 => Sys2Proof.Machine.execSecureWipeDone x0 s
  | .secStatusWrite x0 x1 x2 => Sys2Proof.Machine.execSecStatusWrite x0 x1 x2 s
  | .gddrRead x0 x1 x2 x3 => Sys2Proof.Machine.execGddrRead x0 x1 x2 x3 s
  | .gddrWrite x0 x1 x2 x3 => Sys2Proof.Machine.execGddrWrite x0 x1 x2 x3 s
  | .hdmRead x0 x1 x2 => Sys2Proof.Machine.execHdmRead x0 x1 x2 s
  | .hdmWrite x0 x1 x2 => Sys2Proof.Machine.execHdmWrite x0 x1 x2 s
  | .backInvalidationResponse x0 x1 x2 => Sys2Proof.Machine.execBackInvalidationResponse x0 x1 x2 s
  | .gddrTracking x0 x1 => Sys2Proof.Machine.execGddrTracking x0 x1 s
  | .gddrPatrol x0 x1 => Sys2Proof.Machine.execGddrPatrol x0 x1 s
  | .gddrHot x0 x1 x2 => Sys2Proof.Machine.execGddrHot x0 x1 x2 s
  | .gddrTrainingDone x0 x1 => Sys2Proof.Machine.execGddrTrainingDone x0 x1 s
  | .gdRegionWrite x0 x1 x2 x3 x4 => Sys2Proof.Machine.execGdRegionWrite x0 x1 x2 x3 x4 s
  | .regionModeChangeDone x0 x1 x2 => Sys2Proof.Machine.execRegionModeChangeDone x0 x1 x2 s
  | .hdmFlushTimeout x0 x1 => Sys2Proof.Machine.execHdmFlushTimeout x0 x1 s
  | .gdUnstale x0 x1 x2 => Sys2Proof.Machine.execGdUnstale x0 x1 x2 s
  | .lkCtrlWrite x0 x1 x2 x3 => Sys2Proof.Machine.execLkCtrlWrite x0 x1 x2 x3 s
  | .linkTrainingDone x0 x1 => Sys2Proof.Machine.execLinkTrainingDone x0 x1 s
  | .linkUp x0 x1 => Sys2Proof.Machine.execLinkUp x0 x1 s
  | .linkDown x0 x1 => Sys2Proof.Machine.execLinkDown x0 x1 s
  | .linkRxTimeout x0 x1 => Sys2Proof.Machine.execLinkRxTimeout x0 x1 s
  | .streamStartBlock x0 x1 x2 => Sys2Proof.Machine.execStreamStartBlock x0 x1 x2 s
  | .streamSlotReceive x0 x1 x2 x3 => Sys2Proof.Machine.execStreamSlotReceive x0 x1 x2 x3 s
  | .frameArrival x0 x1 => Sys2Proof.Machine.execFrameArrival x0 x1 s
  | .lkSfGo x0 x1 x2 => Sys2Proof.Machine.execLkSfGo x0 x1 x2 s
  | .freeRunTrigger x0 x1 => Sys2Proof.Machine.execFreeRunTrigger x0 x1 s
  | .angleTransmitMatch x0 x1 => Sys2Proof.Machine.execAngleTransmitMatch x0 x1 s
  | .ethFrameReceive x0 x1 x2 x3 => Sys2Proof.Machine.execEthFrameReceive x0 x1 x2 x3 s
  | .ethTransmit x0 x1 => Sys2Proof.Machine.execEthTransmit x0 x1 s
  | .ptpAdjWrite x0 x1 x2 => Sys2Proof.Machine.execPtpAdjWrite x0 x1 x2 s
  | .ptpNsRead x0 x1 => Sys2Proof.Machine.execPtpNsRead x0 x1 s
  | .legacyFrameReceive x0 x1 x2 x3 => Sys2Proof.Machine.execLegacyFrameReceive x0 x1 x2 x3 s
  | .fieldPinEdge x0 x1 x2 => Sys2Proof.Machine.execFieldPinEdge x0 x1 x2 s
  | .fpTripSet x0 x1 x2 => Sys2Proof.Machine.execFpTripSet x0 x1 x2 s
  | .fpTripClr x0 x1 x2 => Sys2Proof.Machine.execFpTripClr x0 x1 x2 s
  | .fpCfgWrite x0 x1 x2 x3 => Sys2Proof.Machine.execFpCfgWrite x0 x1 x2 x3 s
  | .fpBankWrite x0 x1 x2 => Sys2Proof.Machine.execFpBankWrite x0 x1 x2 s
  | .vioInvalid x0 x1 => Sys2Proof.Machine.execVioInvalid x0 x1 s
  | .vioValid x0 x1 => Sys2Proof.Machine.execVioValid x0 x1 s
  | .fieldOutputReturn x0 => Sys2Proof.Machine.execFieldOutputReturn x0 s
  | .chainPartnerChange x0 x1 => Sys2Proof.Machine.execChainPartnerChange x0 x1 s
  | .enum x0 x1 => Sys2Proof.Machine.execEnum x0 x1 s
  | .tickSend => Sys2Proof.Machine.execTickSend s
  | .tick x0 => Sys2Proof.Machine.execTick x0 s
  | .image x0 => Sys2Proof.Machine.execImage x0 s
  | .ack x0 => Sys2Proof.Machine.execAck x0 s
  | .chainResendRound => Sys2Proof.Machine.execChainResendRound s
  | .healthSend => Sys2Proof.Machine.execHealthSend s
  | .health x0 => Sys2Proof.Machine.execHealth x0 s
  | .recoveryFrame x0 => Sys2Proof.Machine.execRecoveryFrame x0 s
  | .holdNRise => Sys2Proof.Machine.execHoldNRise s
  | .doneOdRise => Sys2Proof.Machine.execDoneOdRise s
  | .doneOdWaitTimeout x0 => Sys2Proof.Machine.execDoneOdWaitTimeout x0 s
  | .cxlLinkUp x0 x1 x2 => Sys2Proof.Machine.execCxlLinkUp x0 x1 x2 s
  | .cxlLinkDown => Sys2Proof.Machine.execCxlLinkDown s
  | .functionLevelReset => Sys2Proof.Machine.execFunctionLevelReset s
  | .cxlReset => Sys2Proof.Machine.execCxlReset s
  | .claimTake x0 x1 => Sys2Proof.Machine.execClaimTake x0 x1 s
  | .claimRelease x0 x1 => Sys2Proof.Machine.execClaimRelease x0 x1 s
  | .claimForce x0 x1 => Sys2Proof.Machine.execClaimForce x0 x1 s
  | .sqCfgWrite x0 x1 x2 => Sys2Proof.Machine.execSqCfgWrite x0 x1 x2 s
  | .cqCfgWrite x0 x1 x2 => Sys2Proof.Machine.execCqCfgWrite x0 x1 x2 s
  | .sqDb x0 x1 x2 => Sys2Proof.Machine.execSqDb x0 x1 x2 s
  | .cqDb x0 x1 x2 => Sys2Proof.Machine.execCqDb x0 x1 x2 s
  | .commandFetch x0 x1 x2 => Sys2Proof.Machine.execCommandFetch x0 x1 x2 s
  | .fetchFail x0 => Sys2Proof.Machine.execFetchFail x0 s
  | .longCommandComplete x0 => Sys2Proof.Machine.execLongCommandComplete x0 s
  | .nop x0 => Sys2Proof.Machine.execNop x0 s
  | .identify x0 => Sys2Proof.Machine.execIdentify x0 s
  | .cancel x0 => Sys2Proof.Machine.execCancel x0 s
  | .settingGet x0 => Sys2Proof.Machine.execSettingGet x0 s
  | .settingSet x0 => Sys2Proof.Machine.execSettingSet x0 s
  | .logRead x0 => Sys2Proof.Machine.execLogRead x0 s
  | .wallLoad x0 => Sys2Proof.Machine.execWallLoad x0 s
  | .wallReset x0 => Sys2Proof.Machine.execWallReset x0 s
  | .wallPowerOn x0 => Sys2Proof.Machine.execWallPowerOn x0 s
  | .wallPowerStandby x0 => Sys2Proof.Machine.execWallPowerStandby x0 s
  | .wallPowerOff x0 => Sys2Proof.Machine.execWallPowerOff x0 s
  | .patternImage x0 x1 => Sys2Proof.Machine.execPatternImage x0 x1 s
  | .kilnSlotWrite x0 => Sys2Proof.Machine.execKilnSlotWrite x0 s
  | .capture x0 => Sys2Proof.Machine.execCapture x0 s
  | .march x0 => Sys2Proof.Machine.execMarch x0 s
  | .gddrRetrain x0 => Sys2Proof.Machine.execGddrRetrain x0 s
  | .linkTrain x0 => Sys2Proof.Machine.execLinkTrain x0 s
  | .selfTestBrickBist x0 => Sys2Proof.Machine.execSelfTestBrickBist x0 s
  | .selfTestMortarSpine x0 => Sys2Proof.Machine.execSelfTestMortarSpine x0 s
  | .selfTestTmemMarch x0 => Sys2Proof.Machine.execSelfTestTmemMarch x0 s
  | .selfTestSramMarch x0 => Sys2Proof.Machine.execSelfTestSramMarch x0 s
  | .selfTestGddrPattern x0 => Sys2Proof.Machine.execSelfTestGddrPattern x0 s
  | .selfTestNearLoopback x0 => Sys2Proof.Machine.execSelfTestNearLoopback x0 s
  | .selfTestFarLoopback x0 => Sys2Proof.Machine.execSelfTestFarLoopback x0 s
  | .selfTestBondRoute x0 => Sys2Proof.Machine.execSelfTestBondRoute x0 s
  | .selfTestAngleReference x0 => Sys2Proof.Machine.execSelfTestAngleReference x0 s
  | .selfTestCxlLoopback x0 => Sys2Proof.Machine.execSelfTestCxlLoopback x0 s
  | .selfTestRegulatorCheck x0 => Sys2Proof.Machine.execSelfTestRegulatorCheck x0 s
  | .fwStage x0 x1 => Sys2Proof.Machine.execFwStage x0 x1 s
  | .fwActivate x0 => Sys2Proof.Machine.execFwActivate x0 s
  | .activationPoint => Sys2Proof.Machine.execActivationPoint s
  | .trowelRestart => Sys2Proof.Machine.execTrowelRestart s
  | .trowelBoot x0 => Sys2Proof.Machine.execTrowelBoot x0 s
  | .trialCommit => Sys2Proof.Machine.execTrialCommit s
  | .xmodemBlock x0 => Sys2Proof.Machine.execXmodemBlock x0 s
  | .rcvPush x0 x1 => Sys2Proof.Machine.execRcvPush x0 x1 s
  | .rcvDone x0 x1 => Sys2Proof.Machine.execRcvDone x0 x1 s
  | .rcvAbort x0 => Sys2Proof.Machine.execRcvAbort x0 s
  | .trwRcvSend x0 x1 => Sys2Proof.Machine.execTrwRcvSend x0 x1 s
  | .evrRdWrite x0 x1 => Sys2Proof.Machine.execEvrRdWrite x0 x1 s
  | .msixUnmask x0 x1 => Sys2Proof.Machine.execMsixUnmask x0 x1 s
  | .evRaise x0 x1 => Sys2Proof.Machine.execEvRaise x0 x1 s
  | .kilnStreamPacket x0 x1 => Sys2Proof.Machine.execKilnStreamPacket x0 x1 s
  | .kilnFrame x0 x1 => Sys2Proof.Machine.execKilnFrame x0 x1 s
  | .endRecord x0 x1 => Sys2Proof.Machine.execEndRecord x0 x1 s
  | .bootLoad x0 => Sys2Proof.Machine.execBootLoad x0 s
  | .resetPhaseExit x0 => Sys2Proof.Machine.execResetPhaseExit x0 s
  | .lockPhaseExit x0 => Sys2Proof.Machine.execLockPhaseExit x0 s
  | .loadZeroingDone x0 => Sys2Proof.Machine.execLoadZeroingDone x0 s
  | .replayDone x0 => Sys2Proof.Machine.execReplayDone x0 s
  | .startUpStep x0 => Sys2Proof.Machine.execStartUpStep x0 s
  | .startupOrderWrite x0 x1 x2 => Sys2Proof.Machine.execStartupOrderWrite x0 x1 x2 s
  | .scrubPassStart x0 => Sys2Proof.Machine.execScrubPassStart x0 s
  | .scrubFrameCheck x0 => Sys2Proof.Machine.execScrubFrameCheck x0 s
  | .scrubPassEnd x0 => Sys2Proof.Machine.execScrubPassEnd x0 s
  | .scrubHeartbeat x0 => Sys2Proof.Machine.execScrubHeartbeat x0 s
  | .ptCfgWrite x0 x1 x2 => Sys2Proof.Machine.execPtCfgWrite x0 x1 x2 s
  | .powerOn => Sys2Proof.Machine.execPowerOn s
  | .brownOut => Sys2Proof.Machine.execBrownOut s
  | .wallPowerUp x0 => Sys2Proof.Machine.execWallPowerUp x0 s
  | .voltageCompare x0 => Sys2Proof.Machine.execVoltageCompare x0 s
  | .telemetrySample x0 => Sys2Proof.Machine.execTelemetrySample x0 s
  | .calibration x0 => Sys2Proof.Machine.execCalibration x0 s
  | .tamper x0 => Sys2Proof.Machine.execTamper x0 s
  | .currentLimit x0 => Sys2Proof.Machine.execCurrentLimit x0 s
  | .wpwrGateWrite x0 x1 x2 => Sys2Proof.Machine.execWpwrGateWrite x0 x1 x2 s
  | .courseWake x0 x1 => Sys2Proof.Machine.execCourseWake x0 x1 s
  | .rstNAssert x0 => Sys2Proof.Machine.execRstNAssert x0 s
  | .watchdog => Sys2Proof.Machine.execWatchdog s
  | .watchdogCountClear => Sys2Proof.Machine.execWatchdogCountClear s
  | .clockStepPolicy x0 => Sys2Proof.Machine.execClockStepPolicy x0 s
  | .clockStep x0 => Sys2Proof.Machine.execClockStep x0 s
  | .thermalStandby x0 => Sys2Proof.Machine.execThermalStandby x0 s
  | .consoleOpen => Sys2Proof.Machine.execConsoleOpen s
  | .consoleTimeout => Sys2Proof.Machine.execConsoleTimeout s
  | .help => Sys2Proof.Machine.execHelp s
  | .id => Sys2Proof.Machine.execId s
  | .pagePower => Sys2Proof.Machine.execPagePower s
  | .pageMemory x0 => Sys2Proof.Machine.execPageMemory x0 s
  | .pageWall x0 => Sys2Proof.Machine.execPageWall x0 s
  | .pageLink x0 x1 => Sys2Proof.Machine.execPageLink x0 x1 s
  | .pagePin x0 => Sys2Proof.Machine.execPagePin x0 s
  | .pageChain => Sys2Proof.Machine.execPageChain s
  | .pageEvent => Sys2Proof.Machine.execPageEvent s
  | .pageHost => Sys2Proof.Machine.execPageHost s
  | .reg x0 x1 => Sys2Proof.Machine.execReg x0 x1 s
  | .log x0 x1 => Sys2Proof.Machine.execLog x0 x1 s
  | .meter x0 => Sys2Proof.Machine.execMeter x0 s
  | .test x0 x1 x2 x3 x4 => Sys2Proof.Machine.execTest x0 x1 x2 x3 x4 s
  | .consoleMarch x0 x1 x2 x3 => Sys2Proof.Machine.execConsoleMarch x0 x1 x2 x3 s
  | .loop x0 x1 x2 x3 => Sys2Proof.Machine.execLoop x0 x1 x2 x3 s
  | .consoleWallReset x0 => Sys2Proof.Machine.execConsoleWallReset x0 s
  | .consoleWallLoad x0 x1 => Sys2Proof.Machine.execConsoleWallLoad x0 x1 s
  | .consoleWallPower x0 x1 => Sys2Proof.Machine.execConsoleWallPower x0 x1 s
  | .raise x0 => Sys2Proof.Machine.execRaise x0 s
  | .safeEnter => Sys2Proof.Machine.execSafeEnter s
  | .safeExit => Sys2Proof.Machine.execSafeExit s
  | .recovery => Sys2Proof.Machine.execRecovery s
  | .quit => Sys2Proof.Machine.execQuit s
  | .svcMeterSelWrite x0 x1 => Sys2Proof.Machine.execSvcMeterSelWrite x0 x1 s
  | .svcMeterUpdate => Sys2Proof.Machine.execSvcMeterUpdate s
  | .svcSafeEnter x0 => Sys2Proof.Machine.execSvcSafeEnter x0 s
  | .svcSafeExit x0 => Sys2Proof.Machine.execSvcSafeExit x0 s
  | .extest => Sys2Proof.Machine.execExtest s
  | .samplePreload => Sys2Proof.Machine.execSamplePreload s
  | .idcode => Sys2Proof.Machine.execIdcode s
  | .highz => Sys2Proof.Machine.execHighz s
  | .clamp => Sys2Proof.Machine.execClamp s
  | .extestPulse => Sys2Proof.Machine.execExtestPulse s
  | .extestTrain => Sys2Proof.Machine.execExtestTrain s
  | .wallScan x0 => Sys2Proof.Machine.execWallScan x0 s
  | .bypass => Sys2Proof.Machine.execBypass s
  | .testLogicReset => Sys2Proof.Machine.execTestLogicReset s
  | .illegalInstruction x0 x1 => Sys2Proof.Machine.execIllegalInstruction x0 x1 s
  | .angleAdvance x0 x1 => Sys2Proof.Machine.execAngleAdvance x0 x1 s
  | .cxlError x0 x1 => Sys2Proof.Machine.execCxlError x0 x1 s
  | .holdNFall => Sys2Proof.Machine.execHoldNFall s
  | .doneOdFall => Sys2Proof.Machine.execDoneOdFall s
  | .activationWithdrawn => Sys2Proof.Machine.execActivationWithdrawn s
  | .bootTimeExceeded => Sys2Proof.Machine.execBootTimeExceeded s
  | .registerRead x0 x1 => Sys2Proof.Machine.execRegisterRead x0 x1 s
  | .reservedChainFrame x0 => Sys2Proof.Machine.execReservedChainFrame x0 s

end Sys2Proof.Machine
end

