-- ==== Sys2Proof/Machine/Flits.lean ====
section
/-!
DEFINITION. Machine/Flits.lean: the flits of a packet, bit by bit (R276, R278): the head in the low 192 bits of the first
flit, the payload above it and in the further flits; and the packet that flits spell.
-/
namespace Sys2Proof

/-- The head (R276), from `addr` down to `type`; bits [79:78] and [15] are reserved. -/
def Packet.head (p : Packet) : BitVec 192 :=
  p.addr ++ p.aux ++ p.status ++ (0 : BitVec 2) ++ p.conn ++ p.tag ++ p.bytes ++ p.mid ++ p.src ++ p.dst ++ (0 : BitVec 1) ++
    BitVec.ofBool p.ack ++ p.la ++ p.len ++ BitVec.ofBool p.epoch ++ BitVec.ofBool p.vc ++ BitVec.ofBool p.cls ++ p.typ

/-- Up to n bytes of a payload, byte i at bits [8i + 7 : 8i]. -/
def byteBits (n : Nat) (b : Bytes) : BitVec (8 * n) := BitVec.ofNat (8 * n) (Machine.ofLeBytes (b.take n))

/-- Flit k of a packet (R278): payload bytes 0 to 39 stand above the head, and 64 bytes in each further flit. -/
def Packet.flit (p : Packet) (k : Nat) : BitVec 512 :=
  match k with
  | 0 => byteBits 40 p.payload ++ p.head
  | k + 1 => byteBits 64 (p.payload.drop (40 + 64 * k))

/-- The flits of a packet, the first at the head of the list. -/
def Packet.flitList (p : Packet) : List (BitVec 512) := (List.range p.flits).map p.flit

/-- The bytes of n bytes' worth of bits, byte i from bits [8i + 7 : 8i]. -/
def bitBytes (n : Nat) (x : Nat) : Bytes := (List.range n).map (fun i => BitVec.ofNat 8 (x / 256 ^ i))

/-- The packet that flits spell; none: no flit, or a reserved bit of the head that is not 0. -/
def Packet.ofFlits : List (BitVec 512) → Option Packet
  | [] => none
  | f :: r =>
    if f.extractLsb' 15 1 ≠ 0 || f.extractLsb' 78 2 ≠ 0 then none
    else
      let typ := f.extractLsb' 0 3
      let bytes := f.extractLsb' 54 10
      let data := bitBytes 40 (f.toNat / 2 ^ 192) ++ r.flatMap (fun g => bitBytes 64 g.toNat)
      some { typ := typ, cls := f.getLsbD 3, vc := f.getLsbD 4, epoch := f.getLsbD 5, len := f.extractLsb' 6 4
             la := f.extractLsb' 10 4, ack := f.getLsbD 14, dst := f.extractLsb' 16 16, src := f.extractLsb' 32 16
             mid := f.extractLsb' 48 6, bytes := bytes, tag := f.extractLsb' 64 8, conn := f.extractLsb' 72 6
             status := f.extractLsb' 80 16, aux := f.extractLsb' 96 32, addr := f.extractLsb' 128 64
             payload := if typ = 0 || typ = 2 || typ = 3 then data.take (bytes.toNat + 1) else [] }

end Sys2Proof
end

