-- ==== Sys2Proof/Safety.lean ====
section
/-!
DEFINITION. Safety.lean: the terms in which the statements speak: when a wall or the module can act, when a tile issues
an instruction, and what "nothing else changed" means for the kinds of command.
-/
namespace Sys2Proof.Machine
open Sys2Proof

/-! ### The canonical form of both byte stores -/
abbrev MemWf (s : State) : Prop := Memory.wf s.sram = true ∧ Memory.wf s.gddr = true

/-! ### Walls -/
/-- The part populates the wall and the module has its supply (R2, R505). -/
abbrev OnWall (s : State) (w : Fin 8) : Prop := s.populated w.val = true ∧ s.powered = true

/-! ### Tile sequencers (R116 to R119) -/
/-- The tile issues its next instruction, from bank `b`. -/
abbrev Issues (s : State) (x : TileRef) (b : Bank) : Prop := OnWall s x.w ∧ s.seqBank x.w.val x.t.val = some b

/-- The state in the cycle in which an instruction without operand waits issues: the cycles that a PAT still holds and
the cycles of a resumption have passed (R118, R119). -/
def atIssue (s : State) (x : TileRef) (b : Bank) : State := (s.issueIns x.w.val x.t b false 0).1
/-- That cycle. -/
def issueCycleOf (s : State) (x : TileRef) (b : Bank) : Nat := (s.issueIns x.w.val x.t b false 0).2

/-- The context of a tile's bank. -/
def ctxOf (s : State) (x : TileRef) (b : Bank) : Ctx := s.ctx x.w.val x.t.val b
def tileOf (s : State) (x : TileRef) : Tile := s.tile x.w.val x.t.val

/-- From `u` to `t` nothing has changed but one bank's context and the repeat cache of one tile (and the count of free
values): every register, every byte of memory, every other tile and bank is as it was. -/
def OnlyContext (u t : State) (x : TileRef) (b : Bank) : Prop :=
  t = { u with tiles := t.tiles, fresh := t.fresh } ∧
  (∀ w i : Nat, i < 128 → ¬ (w = x.w.val ∧ i = x.t.val) → t.tile w i = u.tile w i) ∧
  (∀ b', b' ≠ b → ctxOf t x b' = ctxOf u x b') ∧
  tileOf t x = { tileOf u x with c0 := (tileOf t x).c0, c1 := (tileOf t x).c1, cf := (tileOf t x).cf
                                 repStart := (tileOf t x).repStart, repEnd := (tileOf t x).repEnd
                                 repValid := (tileOf t x).repValid }

/-- From `u` to `t` nothing has changed but one tile's banks and its hod channel's queue. -/
def OnlyContextOrChannel (u t : State) (x : TileRef) : Prop :=
  t = { u with tiles := t.tiles } ∧
  (∀ w i : Nat, i < 128 → ¬ (w = x.w.val ∧ i = x.t.val) → t.tile w i = u.tile w i) ∧
  tileOf t x = { tileOf u x with c0 := (tileOf t x).c0, c1 := (tileOf t x).c1, cf := (tileOf t x).cf
                                 chanq := (tileOf t x).chanq }

/-- The instruction after the one at the PC follows (R161): the next address, unless the innermost repeat ends here. -/
def StepsOn (c d : Ctx) : Prop := (∀ e r, c.loops = e :: r → e.fin ≠ c.pc) → d.pc = c.pc + 1 ∧ d.loops = c.loops

/-- Two register codes name different registers of a bank (R123). -/
abbrev OtherReg (c : Ctx) (b : Bank) (i j : Nat) : Prop := genIdx b c.wix.toNat i ≠ genIdx b c.wix.toNat j

/-- Register `rd` of the bank takes `v`, and every other register of the bank keeps its value. -/
def RegTakes (c d : Ctx) (b : Bank) (rd : Nat) (v : Word) : Prop :=
  d.reg b rd = v ∧ ∀ k, OtherReg c b k rd → d.reg b k = c.reg b k

/-! ### Register accesses (R408 to R414) -/
/-- The general checks let master `m` access the register at `a`. -/
abbrev Allowed (s : State) (m : Mid) (a : Nat) (write : Bool) : Prop := s.powered = true ∧ s.regCheck m.toNat a write = 0

/-- The last register access was master `m`'s at `a`, and it completed with `status`. -/
abbrev Answered (t : State) (m : Mid) (a status : Nat) : Prop := t.last.mid = m ∧ t.last.addr = a ∧ t.last.status = status

/-- From `s` to `t` no memory, no tile and no flow has changed. -/
abbrev MemAndTilesKept (s t : State) : Prop := t.sram = s.sram ∧ t.gddr = s.gddr ∧ t.tiles = s.tiles ∧ t.flows = s.flows

/-- Every register but those of `l` reads as before. -/
def RegsKeptBut (s t : State) (l : List Nat) : Prop := ∀ a, a ∉ l → t.rd a = s.rd a

/-- A wall raised one event, of code `source * 8 + variant`, as its next record (R262, R429, R432); its buffer had room. -/
def WallRaised (s t : State) (w source variant : Nat) : Prop :=
  (s.wall w).raised.length < 256 →
    ∃ e, e ∈ (t.wall w).raised ∧ e.code = source * 8 + variant ∧ (t.wall w).raised.length = (s.wall w).raised.length + 1

/-- The hub raised one event (R431). -/
def HubRaised (s t : State) (source variant : Nat) : Prop :=
  ∃ e, e ∈ t.hubWait ∧ e.code = source * 8 + variant ∧ t.hubWait.length = s.hubWait.length + 1

/-! ### Packets at their endpoints (R288 to R290, R571) -/
/-- It is packet `p`'s turn at local port `j` of router `r` of wall `w`, and its last flit has arrived there; `s1` is `s`
without it. (A packet that nothing lists comes from outside the model's queues: `s1` is then `s`.) -/
def Reaches (s s1 : State) (w r j : Nat) (p : Packet) : Prop :=
  ∃ e, s.take (.atPort w r j) p (s.wall w).cycle (fun e => sameStream e.pkt p) = some (s1, e) ∧ e.arriving w = false

end Sys2Proof.Machine
end

