-- ==== Sys2Proof/WellFormed.lean ====
section
/-!
DEFINITION. WellFormed.lean: the shapes of the operands that the outside world supplies: packets, frames, images, entries and
records. The meanings are defined on every command; a command that is not well formed is one that no sender can form.
-/
namespace Sys2Proof

/-- The flits that a payload of b bytes needs (R278). -/
def flitsOf (b : Nat) : Nat := if b ≤ 40 then 1 else 1 + (b - 40 + 63) / 64

/-- A packet's payload is empty, or the bytes that its head counts, in as many flits as its head says (R278). -/
def Packet.wf (p : Packet) : Bool :=
  decide (p.payload.length ≤ 1000) &&
    (p.payload.isEmpty || (decide (p.payload.length = p.bytes.toNat + 1) && decide (p.len.toNat + 1 = flitsOf p.payload.length)))

/-- A chain frame carries at most 1,024 payload bytes (R398). -/
def ChainFrame.wf (f : ChainFrame) : Bool := decide (f.payload.length ≤ 1024)

/-- A native image has a header of 512 bytes (R485), a Peger image one of 256 (R487). -/
def Image.wf (i : Image) : Bool := decide (i.header.length = (if i.peger then 256 else 512))

/-- A submission entry has eleven words after its buffer and length (R421). -/
def CmdCtx.wf (c : CmdCtx) : Bool := decide (c.args.length ≤ 11)

/-- The tables of a segment have the router r, or the port r of the switch (BOND_ROUTE, XS_ROUTE). -/
def Segment.has (seg : Segment) (r : Nat) : Bool :=
  match seg with
  | .wall _ => decide (r < 24)
  | .switch => decide (r < 11)

/-- An operand whose shape the spec bounds. -/
inductive Operand where
  | packet (p : Packet)
  | frame (f : ChainFrame)
  | image (i : Image)
  | entry (c : CmdCtx)
  /-- A record of n words. -/
  | words (n : Nat) (ws : Words)
  /-- A block of n bytes. -/
  | bytes (n : Nat) (b : Bytes)
  /-- An index below n. -/
  | index (v n : Nat)
  /-- A router or port of a segment. -/
  | place (seg : Segment) (r : Nat)
  /-- The monitors of a sample (R508), and the walls of its powers (R521). -/
  | monitors (ms : List Nat)
  | perWall (ps : List Nat)
  deriving DecidableEq, Repr

/-- Whether an operand has its shape. -/
def Operand.ok (o : Operand) : Bool :=
  match o with
  | .packet p => p.wf
  | .frame f => f.wf
  | .image i => i.wf
  | .entry c => c.wf
  | .words n ws => decide (ws.length = n)
  | .bytes n b => decide (b.length = n)
  | .index v n => decide (v < n)
  | .place seg r => seg.has r
  | .monitors ms => ms.all (fun m => decide (m < 88))
  | .perWall ps => decide (ps.length ≤ 8)

/-- The operands of a command whose shapes the spec bounds. -/
def Instr.operands (i : Instr) : List Operand :=
  match i with
  | .registerWrite _ _ _ => []
  | .pairLoRead _ _ => []
  | .pairHiRead _ _ => []
  | .patternIssue _ => []
  | .refillStart _ => []
  | .refillDone _ => []
  | .pcPinWrite _ _ _ _ => []
  | .pcInvalWrite _ _ _ => []
  | .capArm _ _ _ => []
  | .capDiscard _ _ => []
  | .captureFire _ => []
  | .bondInterfaceWrite _ => []
  | .pat _ _ => []
  | .aluAdd _ _ => []
  | .aluSub _ _ => []
  | .aluAnd _ _ => []
  | .aluOr _ _ => []
  | .aluXor _ _ => []
  | .aluShl _ _ => []
  | .aluShr _ _ => []
  | .aluSra _ _ => []
  | .aluMov _ _ => []
  | .aluMin _ _ => []
  | .aluMax _ _ => []
  | .aluMinu _ _ => []
  | .aluMaxu _ _ => []
  | .aluMul _ _ => []
  | .aluMulh _ _ => []
  | .aluCmp _ _ => []
  | .aluSx24 _ _ => []
  | .aluClz _ _ => []
  | .ldi _ _ => []
  | .lui _ _ => []
  | .addi _ _ => []
  | .andi _ _ => []
  | .ori _ _ => []
  | .xori _ _ => []
  | .cmpi _ _ => []
  | .ldp _ _ => []
  | .ldb _ _ => []
  | .ldl _ _ => []
  | .ldli _ _ => []
  | .ldm _ _ => []
  | .step _ _ => []
  | .stepi _ _ => []
  | .rdp _ _ => []
  | .rdb _ _ => []
  | .aguRdl _ _ => []
  | .aguRdm _ _ => []
  | .agsel _ _ => []
  | .br _ _ _ => []
  | .callw _ _ _ => []
  | .retw _ _ => []
  | .jmp _ _ _ => []
  | .rep _ _ => []
  | .done _ => []
  | .yield _ => []
  | .waite _ => []
  | .retf _ => []
  | .tpset _ _ => []
  | .sync _ => []
  | .signal _ _ => []
  | .savew _ => []
  | .restw _ => []
  | .savel _ => []
  | .saveu _ => []
  | .loadl _ => []
  | .loadu _ => []
  | .rds _ _ _ => []
  | .wrs _ _ _ => []
  | .send _ _ => []
  | .fence _ => []
  | .sysNop _ => []
  | .fadd _ _ => []
  | .fsub _ _ => []
  | .fmul _ _ => []
  | .fma _ _ => []
  | .fmin _ _ => []
  | .fmax _ _ => []
  | .fabs _ _ => []
  | .fneg _ _ => []
  | .fcmp _ _ => []
  | .fdiv _ _ => []
  | .fsqrt _ _ => []
  | .ftoq _ _ => []
  | .qtof _ _ => []
  | .ftoi _ _ => []
  | .itof _ _ => []
  | .fmvr _ _ => []
  | .fmvf _ _ => []
  | .whandCtrlWrite _ _ _ => []
  | .create _ _ _ => []
  | .enable _ _ _ => []
  | .disable _ _ _ => []
  | .restart _ _ _ => []
  | .destroy _ _ _ => []
  | .wake _ _ _ => []
  | .descriptorWrite _ _ _ _ _ => []
  | .fdSchedWrite _ _ _ _ => []
  | .dispDoorbell _ _ _ => []
  | .fwCtrlWrite _ _ _ _ => []
  | .lsCtrlWrite _ _ _ _ => []
  | .hodCfgWrite _ _ _ => []
  | .scheduleMatch _ _ => []
  | .targetSweep _ => []
  | .prestage _ _ => []
  | .prestageWithdraw _ _ => []
  | .flowStart _ _ => []
  | .fastEntry _ _ => []
  | .hodOpStart _ => []
  | .hodRestoreDone _ => []
  | .makeColdDone _ => []
  | .windowSpillDone _ => []
  | .windowFillDone _ => []
  | .blockSaveDone _ => []
  | .blockRestoreDone _ => []
  | .fpSwapDone _ => []
  | .areaHousekeepingDone _ => []
  | .encoderEdge _ _ _ _ => []
  | .indexEdge _ _ => []
  | .lineTriggerEdge _ _ => []
  | .mainsEdge _ _ _ => []
  | .feed _ p => [.packet p]
  | .angleShareReport _ _ => []
  | .refLoss _ _ => []
  | .standstill _ _ => []
  | .angCfgWrite _ _ _ _ => []
  | .angPreset _ _ _ => []
  | .ashSrcWrite _ _ _ _ => []
  | .acuCtrlWrite _ _ _ _ => []
  | .acuMatch _ _ => []
  | .acuBMatch _ _ => []
  | .acuTimePulseEnd _ _ => []
  | .tickAlignCheck _ => []
  | .tickCorrection _ => []
  | .wallHeartbeat _ => []
  | .hubLogAppend => []
  | .wallEventRecord _ => []
  | .eventLost _ => []
  | .wallSilent _ => []
  | .packetInject _ _ _ p => [.packet p]
  | .routerHeadEntry _ _ p => [.packet p]
  | .crossingSwitchEntry _ p => [.packet p]
  | .gatewayEntry _ p => [.packet p]
  | .tileWritePacket _ p => [.packet p]
  | .tileMessage _ p => [.packet p]
  | .sramRead _ _ p => [.packet p]
  | .sramWrite _ _ p => [.packet p]
  | .registerBusAccess _ p => [.packet p]
  | .linkUnitWrite _ _ p => [.packet p]
  | .hostWindowAccess p => [.packet p]
  | .answerReceipt _ _ _ p => [.packet p]
  | .bondEpochFlipWrite _ _ => []
  | .epochFlip _ => []
  | .routeTableWrite _ seg _ r d _ => [.place seg r, .index d 25]
  | .slotTableWrite _ seg _ r o j _ => [.place seg r, .index o 12, .index j 16]
  | .gcCtrlWrite _ _ _ _ => []
  | .biRingWrite _ _ _ => []
  | .drainTimeout _ => []
  | .connectionRelease _ => []
  | .frameRealign _ => []
  | .sramPatrolRead _ _ => []
  | .sramRetWrite _ _ _ => []
  | .retentionEntry _ _ => []
  | .retentionWake _ _ => []
  | .marchStart _ _ _ => []
  | .marchAbort _ _ => []
  | .marchEnd _ _ _ => []
  | .clockGlitch _ => []
  | .temperatureTamper _ => []
  | .secureWipeDone _ => []
  | .secStatusWrite _ _ _ => []
  | .gddrRead _ _ p _ => [.packet p]
  | .gddrWrite _ _ p _ => [.packet p]
  | .hdmRead _ _ _ => []
  | .hdmWrite _ data _ => [.bytes 64 data]
  | .backInvalidationResponse _ _ _ => []
  | .gddrTracking _ _ => []
  | .gddrPatrol _ _ => []
  | .gddrHot _ _ _ => []
  | .gddrTrainingDone _ _ => []
  | .gdRegionWrite _ _ _ _ _ => []
  | .regionModeChangeDone _ _ _ => []
  | .hdmFlushTimeout _ _ => []
  | .gdUnstale _ _ _ => []
  | .lkCtrlWrite _ _ _ _ => []
  | .linkTrainingDone _ _ => []
  | .linkUp _ _ => []
  | .linkDown _ _ => []
  | .linkRxTimeout _ _ => []
  | .streamStartBlock _ _ _ => []
  | .streamSlotReceive _ _ _ _ => []
  | .frameArrival _ _ => []
  | .lkSfGo _ _ _ => []
  | .freeRunTrigger _ _ => []
  | .angleTransmitMatch _ _ => []
  | .ethFrameReceive _ _ _ _ => []
  | .ethTransmit _ _ => []
  | .ptpAdjWrite _ _ _ => []
  | .ptpNsRead _ _ => []
  | .legacyFrameReceive _ _ _ _ => []
  | .fieldPinEdge _ _ _ => []
  | .fpTripSet _ _ _ => []
  | .fpTripClr _ _ _ => []
  | .fpCfgWrite _ _ _ _ => []
  | .fpBankWrite _ _ _ => []
  | .vioInvalid _ _ => []
  | .vioValid _ _ => []
  | .fieldOutputReturn _ => []
  | .chainPartnerChange _ _ => []
  | .enum _ _ => []
  | .tickSend => []
  | .tick _ => []
  | .image fr => [.frame fr]
  | .ack fr => [.frame fr]
  | .chainResendRound => []
  | .healthSend => []
  | .health fr => [.frame fr]
  | .recoveryFrame fr => [.frame fr]
  | .holdNRise => []
  | .doneOdRise => []
  | .doneOdWaitTimeout _ => []
  | .cxlLinkUp _ _ _ => []
  | .cxlLinkDown => []
  | .functionLevelReset => []
  | .cxlReset => []
  | .claimTake _ _ => []
  | .claimRelease _ _ => []
  | .claimForce _ _ => []
  | .sqCfgWrite _ _ _ => []
  | .cqCfgWrite _ _ _ => []
  | .sqDb _ _ _ => []
  | .cqDb _ _ _ => []
  | .commandFetch _ ws _ => [.words 16 ws]
  | .fetchFail _ => []
  | .longCommandComplete _ => []
  | .nop c => [.entry c]
  | .identify c => [.entry c]
  | .cancel c => [.entry c]
  | .settingGet c => [.entry c]
  | .settingSet c => [.entry c]
  | .logRead c => [.entry c]
  | .wallLoad c => [.entry c]
  | .wallReset c => [.entry c]
  | .wallPowerOn c => [.entry c]
  | .wallPowerStandby c => [.entry c]
  | .wallPowerOff c => [.entry c]
  | .patternImage c _ => [.entry c]
  | .kilnSlotWrite _ => []
  | .capture c => [.entry c]
  | .march c => [.entry c]
  | .gddrRetrain c => [.entry c]
  | .linkTrain c => [.entry c]
  | .selfTestBrickBist c => [.entry c]
  | .selfTestMortarSpine c => [.entry c]
  | .selfTestTmemMarch c => [.entry c]
  | .selfTestSramMarch c => [.entry c]
  | .selfTestGddrPattern c => [.entry c]
  | .selfTestNearLoopback c => [.entry c]
  | .selfTestFarLoopback c => [.entry c]
  | .selfTestBondRoute c => [.entry c]
  | .selfTestAngleReference c => [.entry c]
  | .selfTestCxlLoopback c => [.entry c]
  | .selfTestRegulatorCheck c => [.entry c]
  | .fwStage c img => [.entry c, .image img]
  | .fwActivate c => [.entry c]
  | .activationPoint => []
  | .trowelRestart => []
  | .trowelBoot _ => []
  | .trialCommit => []
  | .xmodemBlock data => [.bytes 1024 data]
  | .rcvPush _ _ => []
  | .rcvDone _ img => [.image img]
  | .rcvAbort _ => []
  | .trwRcvSend _ _ => []
  | .evrRdWrite _ _ => []
  | .msixUnmask _ _ => []
  | .evRaise _ _ => []
  | .kilnStreamPacket _ p => [.packet p]
  | .kilnFrame _ ws => [.words 98 ws]
  | .endRecord _ ws => [.words 98 ws]
  | .bootLoad _ => []
  | .resetPhaseExit _ => []
  | .lockPhaseExit _ => []
  | .loadZeroingDone _ => []
  | .replayDone _ => []
  | .startUpStep _ => []
  | .startupOrderWrite _ _ _ => []
  | .scrubPassStart _ => []
  | .scrubFrameCheck _ => []
  | .scrubPassEnd _ => []
  | .scrubHeartbeat _ => []
  | .ptCfgWrite _ _ _ => []
  | .powerOn => []
  | .brownOut => []
  | .wallPowerUp _ => []
  | .voltageCompare mv => [.monitors (mv.map (fun e => e.1))]
  | .telemetrySample t => [.monitors (t.mons.map (fun e => e.1)), .perWall t.power]
  | .calibration _ => []
  | .tamper _ => []
  | .currentLimit _ => []
  | .wpwrGateWrite _ _ _ => []
  | .courseWake _ _ => []
  | .rstNAssert _ => []
  | .watchdog => []
  | .watchdogCountClear => []
  | .clockStepPolicy _ => []
  | .clockStep _ => []
  | .thermalStandby _ => []
  | .consoleOpen => []
  | .consoleTimeout => []
  | .help => []
  | .id => []
  | .pagePower => []
  | .pageMemory _ => []
  | .pageWall _ => []
  | .pageLink _ _ => []
  | .pagePin _ => []
  | .pageChain => []
  | .pageEvent => []
  | .pageHost => []
  | .reg _ _ => []
  | .log _ _ => []
  | .meter _ => []
  | .test _ _ _ _ _ => []
  | .consoleMarch _ _ _ _ => []
  | .loop _ _ _ _ => []
  | .consoleWallReset _ => []
  | .consoleWallLoad _ _ => []
  | .consoleWallPower _ _ => []
  | .raise _ => []
  | .safeEnter => []
  | .safeExit => []
  | .recovery => []
  | .quit => []
  | .svcMeterSelWrite _ _ => []
  | .svcMeterUpdate => []
  | .svcSafeEnter _ => []
  | .svcSafeExit _ => []
  | .extest => []
  | .samplePreload => []
  | .idcode => []
  | .highz => []
  | .clamp => []
  | .extestPulse => []
  | .extestTrain => []
  | .wallScan _ => []
  | .bypass => []
  | .testLogicReset => []
  | .illegalInstruction _ _ => []
  | .angleAdvance _ _ => []
  | .cxlError _ _ => []
  | .holdNFall => []
  | .doneOdFall => []
  | .activationWithdrawn => []
  | .bootTimeExceeded => []
  | .registerRead _ _ => []
  | .reservedChainFrame fr => [.frame fr]

/-- A well-formed command: every operand has its shape. -/
def Instr.wellFormed (i : Instr) : Bool := i.operands.all Operand.ok

end Sys2Proof
end

