-- ==== Sys2Proof/Certificates/Slice0/Obligations.lean ====
section
/-!
DEFINITION. Certificates/Slice0/Obligations.lean: the statements for the provers. A statement that covers several kinds of
command is the conjunction of its parts, each a definition of its own with the rules it rests on.
-/
open Sys2Proof Sys2Proof.Machine

/-! ## The block as a whole -/

/-- A step with a command at the front of the queue is that command's effect on the state with the queue's rest. On an empty queue
a step is one module tick: the model's choice, log entry 1. -/
def Obligations.StepRunsTheFrontCommand : Prop :=
  (∀ (s : State) (c : Instr) (r : List Instr), s.pending = c :: r → step s = exec c { s with pending := r }) ∧
  (∀ s : State, s.pending = [] → step s = .next s.idle)

/-- R1, R2, R13, R505 and log entries 2 and 3: after a module reset the memories list nothing, no tile, flow or queue is in use, every
register the spec gives a reset value has it, and every populated wall is off. -/
def Obligations.ResetLeavesAnIdleModule : Prop :=
  MemWf State.reset ∧ State.reset.sram = [] ∧ State.reset.gddr = [] ∧ State.reset.tiles = [] ∧ State.reset.flows = [] ∧
  State.reset.pending = [] ∧ State.reset.queues = [] ∧ State.reset.longs = [] ∧ State.reset.log = [] ∧ State.reset.tick = 0 ∧
  (∀ a, State.reset.rd a = regReset 8 false a) ∧ (∀ w, w < 8 → State.reset.wallPower w = 2 ∧ State.reset.phase w = 0)

/-- The invariant of the machine: both byte stores are in their canonical form (keys strictly rising, no byte listed that equals
what an unlisted byte reads as). -/
def Obligations.EveryStepKeepsTheMemoryForm : Prop :=
  ∀ (s t : State), MemWf s → step s = .next t → MemWf t

/-- A command changes neither the queue of commands that wait nor the part: no command makes, drops or reorders others. -/
def Obligations.CommandsKeepQueueAndPart : Prop :=
  ∀ (c : Instr) (s t : State), exec c s = .next t → t.pending = s.pending ∧ t.part = s.part

/-- R2, R505: the one stop of the model: an event, a packet or an instruction of a wall that the part does not populate is a fault; on
a populated wall no command stops, and on a module without its supply it changes nothing. -/
def Obligations.OnlyUnpopulatedWallsStop : Prop :=
  ∀ (c : Instr) (s : State),
    (∀ r, exec c s ≠ .refused r) ∧
    (∀ f, exec c s = .fault f → f = .unpopulatedWall ∧ s.part.walls < 8)

/-! ## The tile sequencer (04_tile_sequencer) -/

/-- R118, R119: while an instruction waits for its issue cycle (for a held PAT, the program stream or the fp32 unit), nothing
of the scalar side of its bank moves, and no memory: general registers, bases, modifiers, scalar flags, tile predicate, PC,
loop stack, windows and save stack of the bank, wall SRAM and GDDR7 stay as they were, the flows of the tile's banks too, and
of all registers only the counters and records that the bricks and ports of those cycles feed can change. -/
def Rule.WaitForIssueKeepsScalarState : Prop :=
  ∀ (s : State) (x : TileRef) (b : Bank) (stream : Bool) (ready : Nat), Issues s x b →
    let u := (s.issueIns x.w.val x.t b stream ready).1
    let c := ctxOf s x b
    let d := ctxOf u x b
    d.gen = c.gen ∧ d.b = c.b ∧ d.m = c.m ∧ d.wix = c.wix ∧ d.sz = c.sz ∧ d.sn = c.sn ∧ d.sc = c.sc ∧ d.sv = c.sv ∧
    d.tp = c.tp ∧ d.pc = c.pc ∧ d.loops = c.loops ∧ d.depth = c.depth ∧ d.wres = c.wres ∧ d.saveDepth = c.saveDepth ∧
    d.saveHead = c.saveHead ∧ d.spilled = c.spilled ∧ d.agcfg = c.agcfg ∧ d.buscfg = c.buscfg ∧ d.sendStat = c.sendStat ∧
    (tileOf u x).cur = (tileOf s x).cur ∧ (tileOf u x).handlerOf = (tileOf s x).handlerOf ∧
    (tileOf u x).interrupted = (tileOf s x).interrupted ∧ (tileOf u x).fpown = (tileOf s x).fpown ∧
    (tileOf u x).f = (tileOf s x).f ∧ (tileOf u x).fpstat = (tileOf s x).fpstat ∧ (tileOf u x).chanq = (tileOf s x).chanq ∧
    (∀ i k, ((u.tile x.w.val i).bank k).flow = ((s.tile x.w.val i).bank k).flow ∧
      ((u.tile x.w.val i).bank k).mark = ((s.tile x.w.val i).bank k).mark) ∧
    u.sram = s.sram ∧ u.gddr = s.gddr ∧
    (∀ a, a ≠ R.WEV_LOST_COUNT x.w.val → (∀ i : Nat, i < 128 → a ∉ [R.SEQ_STALL_COUNT x.w.val i, R.PC_MISS_COUNT x.w.val i, R.SPINE_COUNT x.w.val i,
      R.SPINE_STATUS x.w.val i, R.TMEM_COLL x.w.val i, R.TMEM_COLL_COUNT x.w.val i]) → u.rd a = s.rd a)

/-- The last bit that a shift by n shifts out: bit 32 - n of the operand to the left, bit n - 1 to the right; none for 0. -/
def lastOut (a : Word) (n : Nat) (left : Bool) : Option Bool :=
  if n = 0 then none else some (a.getLsbD (if left then 32 - n else n - 1))

/-- R146: ADD, SUB, AND, OR, XOR, SHL, SHR, SRA, MOV, MIN, MAX, MINU, MAXU, MUL, MULH, SX24 and CLZ each complete: a condition
that holds delivers the result to rd and, with `setf`, writes `sz`, `sn`, `sc` (where R146 states a value: a shift by 0 has no
last bit shifted out) and `sv`; a false condition writes neither. Nothing else changes, and the next instruction follows. -/
def Rule.AluDeliversResultAndFlags : Prop :=
  ∀ (s : State) (x : TileRef) (b : Bank) (f : AluF), Issues s x b → f.cond.toNat ≤ 10 →
    let u := atIssue s x b
    let c := ctxOf s x b
    let p := c.reg b f.ra.toNat
    let q := c.reg b f.rb.toNat
    let n := q.toNat % 32
    let completes (i : Instr) (v : Word) (carry : Option Bool) (overflow : Bool) : Prop :=
      ∃ t, exec i s = .next t ∧ OnlyContext u t x b ∧ StepsOn c (ctxOf t x b) ∧
        (c.condHolds f.cond = true → RegTakes c (ctxOf t x b) b f.rd.toNat v) ∧
        (c.condHolds f.cond = true → f.setf = true →
          (ctxOf t x b).sz = decide (v = 0) ∧ (ctxOf t x b).sn = v.msb ∧ (ctxOf t x b).sv = overflow ∧
          (∀ k, carry = some k → (ctxOf t x b).sc = k)) ∧
        (c.condHolds f.cond = false ∨ f.setf = false →
          (ctxOf t x b).sz = c.sz ∧ (ctxOf t x b).sn = c.sn ∧ (ctxOf t x b).sc = c.sc ∧ (ctxOf t x b).sv = c.sv) ∧
        (c.condHolds f.cond = false → (ctxOf t x b).gen = c.gen)
    completes (.aluAdd x f) (p + q) (some (decide (4294967296 ≤ p.toNat + q.toNat))) (decide ((p + q).toInt ≠ p.toInt + q.toInt)) ∧
    completes (.aluSub x f) (p - q) (some (decide (q.toNat ≤ p.toNat))) (decide ((p - q).toInt ≠ p.toInt - q.toInt)) ∧
    completes (.aluAnd x f) (p &&& q) (some false) false ∧
    completes (.aluOr x f) (p ||| q) (some false) false ∧
    completes (.aluXor x f) (p ^^^ q) (some false) false ∧
    completes (.aluShl x f) (p <<< n) (lastOut p n true) false ∧
    completes (.aluShr x f) (p >>> n) (lastOut p n false) false ∧
    completes (.aluSra x f) (p.sshiftRight n) (lastOut p n false) false ∧
    completes (.aluMov x f) p (some false) false ∧
    completes (.aluMin x f) (if p.slt q then p else q) (some false) false ∧
    completes (.aluMax x f) (if p.slt q then q else p) (some false) false ∧
    completes (.aluMinu x f) (if p < q then p else q) (some false) false ∧
    completes (.aluMaxu x f) (if p < q then q else p) (some false) false ∧
    completes (.aluMul x f) (p * q) (some false) false ∧
    completes (.aluMulh x f) (((p.signExtend 64 * q.signExtend 64) >>> 32).setWidth 32) (some false) false ∧
    completes (.aluSx24 x f) ((p.setWidth 24).signExtend 32) (some false) false ∧
    completes (.aluClz x f) p.clz (some false) false

/-- R147 with the flag rules of R146: LDI, LUI, ADDI, ANDI, ORI and XORI each complete: a condition that holds delivers to rd
what the table gives from rd and imm16 and, with `setf`, writes the flags; a false condition writes neither. -/
def Rule.AliDeliversResult : Prop :=
  ∀ (s : State) (x : TileRef) (b : Bank) (f : AliF), Issues s x b → f.cond.toNat ≤ 10 →
    let u := atIssue s x b
    let c := ctxOf s x b
    let p := c.reg b f.rd.toNat
    let q := f.imm.signExtend 32
    let completes (i : Instr) (v : Word) (carry overflow : Bool) : Prop :=
      ∃ t, exec i s = .next t ∧ OnlyContext u t x b ∧ StepsOn c (ctxOf t x b) ∧
        (c.condHolds f.cond = true → RegTakes c (ctxOf t x b) b f.rd.toNat v) ∧
        (c.condHolds f.cond = true → f.setf = true →
          (ctxOf t x b).sz = decide (v = 0) ∧ (ctxOf t x b).sn = v.msb ∧ (ctxOf t x b).sc = carry ∧ (ctxOf t x b).sv = overflow) ∧
        (c.condHolds f.cond = false ∨ f.setf = false →
          (ctxOf t x b).sz = c.sz ∧ (ctxOf t x b).sn = c.sn ∧ (ctxOf t x b).sc = c.sc ∧ (ctxOf t x b).sv = c.sv) ∧
        (c.condHolds f.cond = false → (ctxOf t x b).gen = c.gen)
    completes (.ldi x f) q false false ∧
    completes (.lui x f) (BitVec.ofNat 32 (f.imm.toNat * 65536)) false false ∧
    completes (.addi x f) (p + q) (decide (4294967296 ≤ p.toNat + q.toNat)) (decide ((p + q).toInt ≠ p.toInt + q.toInt)) ∧
    completes (.andi x f) (p &&& f.imm.zeroExtend 32) false false ∧
    completes (.ori x f) (p ||| f.imm.zeroExtend 32) false false ∧
    completes (.xori x f) (p ^^^ f.imm.zeroExtend 32) false false

/-- R146, R147: CMP and CMPI complete: a condition that holds sets the flags of a difference, whatever `setf` says; no
register is written. -/
def Rule.CompareSetsFlagsOnly : Prop :=
  ∀ (s : State) (x : TileRef) (b : Bank), Issues s x b →
    let u := atIssue s x b
    let c := ctxOf s x b
    let completes (i : Instr) (k : Cond4) (p q : Word) : Prop :=
      ∃ t, exec i s = .next t ∧ OnlyContext u t x b ∧ StepsOn c (ctxOf t x b) ∧ (ctxOf t x b).gen = c.gen ∧
        (c.condHolds k = true →
          (ctxOf t x b).sz = decide (p = q) ∧ (ctxOf t x b).sn = (p - q).msb ∧
          (ctxOf t x b).sc = decide (q.toNat ≤ p.toNat) ∧ (ctxOf t x b).sv = decide ((p - q).toInt ≠ p.toInt - q.toInt)) ∧
        (c.condHolds k = false →
          (ctxOf t x b).sz = c.sz ∧ (ctxOf t x b).sn = c.sn ∧ (ctxOf t x b).sc = c.sc ∧ (ctxOf t x b).sv = c.sv)
    (∀ f : AluF, f.cond.toNat ≤ 10 → completes (.aluCmp x f) f.cond (c.reg b f.ra.toNat) (c.reg b f.rb.toNat)) ∧
    (∀ f : AliF, f.cond.toNat ≤ 10 → completes (.cmpi x f) f.cond (c.reg b f.rd.toNat) (f.imm.signExtend 32))

/-- R148, R149: LDP, LDB, LDL, LDM and AGSEL, which write one register of the address unit, and RDP, RDB, RDL and RDM, which
read one, complete: each has its effect, changes no other register of the bank, and the next instruction follows. -/
def Rule.AddressUnitMovesValues : Prop :=
  ∀ (s : State) (x : TileRef) (b : Bank) (f : AguF), Issues s x b →
    let u := atIssue s x b
    let c := ctxOf u x b
    let v : BitVec 16 := if f.i then f.imm.zeroExtend 16 else (c.reg b f.reg.toNat).setWidth 16
    let vs : BitVec 16 := if f.i then f.imm.signExtend 16 else (c.reg b f.reg.toNat).setWidth 16
    let k := f.k.toNat
    let m := f.m.toNat
    (∃ t, exec (.ldp x f) s = .next t ∧ OnlyContext u t x b ∧ StepsOn c (ctxOf t x b) ∧ (ctxOf t x b).ptr k = v ∧
      (ctxOf t x b).gen = c.gen ∧ (∀ j, j ≠ k → (ctxOf t x b).ptr j = c.ptr j) ∧ (ctxOf t x b).lpend = c.lpend) ∧
    (∃ t, exec (.ldb x f) s = .next t ∧ OnlyContext u t x b ∧ StepsOn c (ctxOf t x b) ∧ (ctxOf t x b).base k = v ∧
      (ctxOf t x b).p = c.p ∧ (ctxOf t x b).gen = c.gen ∧ ∀ j, j ≠ k → (ctxOf t x b).base j = c.base j) ∧
    (∃ t, exec (.ldl x f) s = .next t ∧ OnlyContext u t x b ∧ StepsOn c (ctxOf t x b) ∧ (ctxOf t x b).shadow k = v ∧
      (ctxOf t x b).l = c.l ∧ (ctxOf t x b).pendShadow k = true ∧ (ctxOf t x b).p = c.p ∧ (ctxOf t x b).gen = c.gen) ∧
    (∃ t, exec (.ldm x f) s = .next t ∧ OnlyContext u t x b ∧ StepsOn c (ctxOf t x b) ∧ (ctxOf t x b).modif m = vs ∧
      (ctxOf t x b).p = c.p ∧ (ctxOf t x b).gen = c.gen ∧ ∀ j, j ≠ m → (ctxOf t x b).modif j = c.modif j) ∧
    (∃ t, exec (.agsel x f) s = .next t ∧ OnlyContext u t x b ∧ StepsOn c (ctxOf t x b) ∧ (ctxOf t x b).selOf k = m ∧
      (∀ j, j < 8 → j ≠ k → (ctxOf t x b).selOf j = c.selOf j) ∧ (ctxOf t x b).p = c.p ∧ (ctxOf t x b).gen = c.gen) ∧
    (∃ t, exec (.rdp x f) s = .next t ∧ OnlyContext u t x b ∧ StepsOn c (ctxOf t x b) ∧ (ctxOf t x b).p = c.p ∧
      RegTakes c (ctxOf t x b) b f.reg.toNat ((c.ptr k).zeroExtend 32)) ∧
    (∃ t, exec (.rdb x f) s = .next t ∧ OnlyContext u t x b ∧ StepsOn c (ctxOf t x b) ∧ (ctxOf t x b).p = c.p ∧
      RegTakes c (ctxOf t x b) b f.reg.toNat ((c.base k).zeroExtend 32)) ∧
    (∃ t, exec (.aguRdl x f) s = .next t ∧ OnlyContext u t x b ∧ StepsOn c (ctxOf t x b) ∧ (ctxOf t x b).p = c.p ∧
      RegTakes c (ctxOf t x b) b f.reg.toNat ((c.len k).zeroExtend 32)) ∧
    (∃ t, exec (.aguRdm x f) s = .next t ∧ OnlyContext u t x b ∧ StepsOn c (ctxOf t x b) ∧ (ctxOf t x b).p = c.p ∧
      RegTakes c (ctxOf t x b) b f.reg.toNat ((c.modif m).signExtend 32))

/-- The offset after a circular step within a length (R165): wrapped once, then reduced, and whether it was reduced. -/
def steppedOffset (o len : Int) : Int × Bool :=
  let o1 := if len ≤ o then o - len else if o < 0 then o + len else o
  if 0 ≤ o1 ∧ o1 < len then (o1, false) else (o1 % len, true)

/-- R165, R166: STEP, with the modifier that `sel`k selects, and STEPI, with imm14 sign-extended, complete with a circular
step m of Pk. With a length of 0 and no shadow the pointer moves modulo 2^16. With a length L the offset o' = Pk - Bk + m wraps
by L once, and is reduced modulo L with `aoob` set where that does not bring it into the buffer. A pending shadow length waits
while o' lies inside [0, L); at the first step that leaves it, the wrap is by L, the shadow becomes the length in force, and a
pointer outside the new buffer is reduced modulo the new length, with `aoob` set. -/
def Rule.StepsAreCircular : Prop :=
  ∀ (s : State) (x : TileRef) (b : Bank) (f : AguF), Issues s x b →
    let u := atIssue s x b
    let c := ctxOf u x b
    let k := f.k.toNat
    let len : Int := (c.len k).toNat
    let new : Int := (c.shadow k).toNat
    let completes (i : Instr) (m : Int) : Prop :=
      let o : Int := (c.ptr k).toNat - (c.base k).toNat + m
      let r := steppedOffset o len
      ∃ t, exec i s = .next t ∧ OnlyContext u t x b ∧ (ctxOf t x b).gen = c.gen ∧ StepsOn c (ctxOf t x b) ∧
        (∀ j, j ≠ k → (ctxOf t x b).ptr j = c.ptr j) ∧ (ctxOf t x b).b = c.b ∧ (ctxOf t x b).m = c.m ∧
        (len = 0 → c.pendShadow k = false → (ctxOf t x b).ptr k = c.ptr k + BitVec.ofInt 16 m ∧ (ctxOf t x b).aoob = c.aoob) ∧
        (len ≠ 0 → c.pendShadow k = false ∨ (0 ≤ o ∧ o < len) →
          (ctxOf t x b).ptr k = c.base k + BitVec.ofInt 16 r.1 ∧ (ctxOf t x b).aoob = (c.aoob || r.2) ∧
          (ctxOf t x b).len k = c.len k ∧ (ctxOf t x b).pendShadow k = c.pendShadow k) ∧
        (c.pendShadow k = true → ¬ (0 ≤ o ∧ o < len) → (ctxOf t x b).len k = c.shadow k ∧ (ctxOf t x b).pendShadow k = false ∧
          (len ≠ 0 → (new = 0 ∨ r.1 < new →
              (ctxOf t x b).ptr k = c.base k + BitVec.ofInt 16 r.1 ∧ (ctxOf t x b).aoob = (c.aoob || r.2)) ∧
            (new ≠ 0 → new ≤ r.1 →
              (ctxOf t x b).ptr k = c.base k + BitVec.ofInt 16 (r.1 % new) ∧ (ctxOf t x b).aoob = true)))
    completes (.step x f) (c.modif (c.selOf k)).toInt ∧ completes (.stepi x f) f.imm.toInt

/-- R167: LDLI completes: the length is in force at once and a pending shadow is discarded. A non-zero length folds the
pointer into [Bk, Bk + Lk) and raises LENGTH_FOLD (source 4) with the flow, the tile, k and both lengths; a length of 0 leaves
the pointer and raises nothing. -/
def Rule.LdliFoldsThePointer : Prop :=
  ∀ (s : State) (x : TileRef) (b : Bank) (f : AguF), Issues s x b →
    let u := atIssue s x b
    let c := ctxOf u x b
    let v : BitVec 16 := if f.i then f.imm.zeroExtend 16 else (c.reg b f.reg.toNat).setWidth 16
    let k := f.k.toNat
    let w := x.w.val
    ∃ t, exec (.ldli x f) s = .next t ∧ StepsOn c (ctxOf t x b) ∧ (ctxOf t x b).len k = v ∧ (ctxOf t x b).pendShadow k = false ∧
      (ctxOf t x b).gen = c.gen ∧ t.sram = u.sram ∧ t.gddr = u.gddr ∧ (∀ j, j ≠ k → (ctxOf t x b).ptr j = c.ptr j) ∧
      (v = 0 → OnlyContext u t x b ∧ (ctxOf t x b).p = c.p) ∧
      (v ≠ 0 → (ctxOf t x b).ptr k = c.base k + BitVec.ofInt 16 ((((c.ptr k).toNat : Int) - (c.base k).toNat) % (v.toNat : Int)) ∧
        ((u.wall w).raised.length < 256 → ∃ e, (t.wall w).raised = (u.wall w).raised ++ [e] ∧ e.code = 4 * 8 ∧
          ∀ n, (tileOf u x).owner b = some n → e.args = [BitVec.ofNat 32 (512 * w + n), BitVec.ofNat 32 x.t.val, BitVec.ofNat 32 k,
            BitVec.ofNat 32 ((c.len k).toNat + v.toNat * 65536)]))

/-- The entries of a loop stack as R161 gives them: start, end, remaining count. -/
def loopEntries (l : List LoopEnt) : List (PC12 × PC12 × Nat) := l.map (fun a => (a.start, a.fin, a.count))

/-- R150, R163: BR and JMP complete: with a condition that holds they continue at their target after one cycle in which no
instruction issues; a target outside the innermost repeat's body leaves that repeat, and one inside does not. With a
false condition the next instruction follows. -/
def Rule.BranchesSetThePc : Prop :=
  ∀ (s : State) (x : TileRef) (b : Bank) (k : Cond4), Issues s x b → k.toNat ≤ 10 →
    let u := atIssue s x b
    let c := ctxOf s x b
    let completes (i : Instr) (target : PC12) : Prop :=
      ∃ t, exec i s = .next t ∧ OnlyContext u t x b ∧ (ctxOf t x b).gen = c.gen ∧
        (c.condHolds k = true → (ctxOf t x b).pc = target ∧ (ctxOf t x b).readyAt = issueCycleOf s x b + 2 ∧
          loopEntries (ctxOf t x b).loops = loopEntries (match c.loops with
            | e :: r => if target < e.start ∨ e.fin < target then r else e :: r
            | [] => [])) ∧
        (c.condHolds k = false → StepsOn c (ctxOf t x b))
    (∀ target, completes (.br x k target) target) ∧
    (∀ ra : RegCode, completes (.jmp x k ra) ((c.reg b ra.toNat).setWidth 12))

/-- R161, R162: REP completes: with a count of 0 it skips the body; with another it pushes an entry of start, end and count
and goes on with the body. (With four entries active, or an end before the body, it is the fault of
`SequencerFaultsHaltTheFlow`.) -/
def Rule.RepStartsARepeat : Prop :=
  ∀ (s : State) (x : TileRef) (b : Bank) (f : RepF), Issues s x b →
    let u := atIssue s x b
    let c := ctxOf s x b
    let n : Nat := if f.src then (c.reg b f.ra.toNat).toNat % 65536 else f.count.toNat + 1
    c.pc.toNat + 1 ≤ f.fin.toNat → c.loops.length < 4 →
    ∃ t, exec (.rep x f) s = .next t ∧ OnlyContext u t x b ∧ (ctxOf t x b).gen = c.gen ∧
      (n = 0 → (ctxOf t x b).pc = f.fin + 1 ∧ (ctxOf t x b).loops = c.loops) ∧
      (n ≠ 0 → (ctxOf t x b).pc = c.pc + 1 ∧
        ∃ e, (ctxOf t x b).loops = e :: c.loops ∧ e.start = c.pc + 1 ∧ e.fin = f.fin ∧ e.count = n)

/-- R161: at the end of the innermost repeat's body the body starts again while iterations remain, and after the last
the entry is popped and the next instruction follows (shown for NOP, which has no other effect). -/
def Rule.RepeatBodyRunsCountTimes : Prop :=
  ∀ (s : State) (x : TileRef) (b : Bank) (e : LoopEnt) (r : List LoopEnt), Issues s x b →
    let u := atIssue s x b
    let c := ctxOf s x b
    c.loops = e :: r → e.fin = c.pc →
    ∃ t, exec (.sysNop x) s = .next t ∧ OnlyContext u t x b ∧ (ctxOf t x b).gen = c.gen ∧
      (1 < e.count → (ctxOf t x b).pc = e.start ∧
        loopEntries (ctxOf t x b).loops = (e.start, e.fin, e.count - 1) :: loopEntries r) ∧
      (e.count ≤ 1 → (ctxOf t x b).pc = c.pc + 1 ∧ (ctxOf t x b).loops = r)

/-- The vector that TPSET tests: bit k is the flag of brick k (R127, R151). -/
def flagBit (s : State) (x : TileRef) (b : Bank) (n i k : Nat) : Bool :=
  flagSel i ((((tileOf s x).flagCtx b n)).brick k)

/-- R151: TPSET completes: with a condition that holds it sets `tp` from the flag vector ANDed with `mask`: any bit, all bits
of the mask, or none; with `flag` = 6 `tp` takes the value of cond. -/
def Rule.TpsetTestsTheFlagVector : Prop :=
  ∀ (s : State) (x : TileRef) (b : Bank) (f : TpF), Issues s x b → f.cond.toNat ≤ 10 → f.flag ≠ 7 → f.mode ≠ 3 →
    let u := atIssue s x b
    let c := ctxOf s x b
    let n := issueCycleOf s x b
    let bit (k : Nat) : Bool := flagBit u x b n f.flag.toNat k && f.mask.getLsbD k
    ∃ t, exec (.tpset x f) s = .next t ∧ OnlyContext u t x b ∧ StepsOn c (ctxOf t x b) ∧ (ctxOf t x b).gen = c.gen ∧
      (f.flag = 6 → (ctxOf t x b).tp = c.condHolds f.cond) ∧
      (f.flag ≠ 6 → c.condHolds f.cond = false → (ctxOf t x b).tp = c.tp) ∧
      (f.flag ≠ 6 → c.condHolds f.cond = true →
        (f.mode = 0 → ((ctxOf t x b).tp = true ↔ ∃ k, k < 16 ∧ bit k = true)) ∧
        (f.mode = 1 → ((ctxOf t x b).tp = true ↔ ∀ k, k < 16 → f.mask.getLsbD k = true → bit k = true)) ∧
        (f.mode = 2 → ((ctxOf t x b).tp = true ↔ ∀ k, k < 16 → bit k = false)))

/-- R127, R152, R156: RDS and WRS complete: RDS delivers a special register to ra (numbers 0x1A and above deliver 0) and WRS
writes one (a write of a number that is RO or reserved has no effect); an access of FPSTAT waits for the fp32 unit. A write of
FSW gives the flow-wide fields their value unless a later write of another tile is in force (R56, R121). -/
def Rule.SpecialRegistersReadAndWrite : Prop :=
  ∀ (s : State) (x : TileRef) (b : Bank) (ra : RegCode) (k : BitVec 6), Issues s x b →
    let q := s.issueIns x.w.val x.t b false (if k = 0x17 then Sp.getD (tileOf s x).fpBusy 16 0 else 0)
    let u := q.1
    let c := ctxOf u x b
    let v := (ctxOf s x b).reg b ra.toNat
    (∃ t, exec (.rds x ra k) s = .next t ∧ t.regs = u.regs ∧ t.sram = u.sram ∧ t.gddr = u.gddr ∧ StepsOn c (ctxOf t x b) ∧
      ∃ r, RegTakes c (ctxOf t x b) b ra.toNat r ∧
        (0x1A ≤ k.toNat → r = 0) ∧ (k = 0x0D → r = c.busA.zeroExtend 32) ∧ (k = 0x0E → r = c.busB.zeroExtend 32) ∧
        (k = 0x0F → r = c.busC.zeroExtend 32) ∧ (k = 0x10 → r = c.buscfg) ∧ (k = 0x11 → r = c.agcfg) ∧
        (k = 0x12 → r = c.lpend.zeroExtend 32) ∧ (k = 0x13 → r = c.csp.zeroExtend 32) ∧
        (k = 0x14 → r = BitVec.ofNat 32 (u.wtick x.w.val)) ∧ (k = 0x17 → r = (tileOf u x).fpstat.zeroExtend 32) ∧
        (k = 0x18 → r = c.sendStat) ∧ (k = 0x19 → r = c.saveDepth.zeroExtend 32)) ∧
    (∃ t, exec (.wrs x ra k) s = .next t ∧ t.regs = u.regs ∧ t.sram = u.sram ∧ t.gddr = u.gddr ∧ (ctxOf t x b).gen = c.gen ∧
      StepsOn c (ctxOf t x b) ∧
      (k = 0x00 → (ctxOf t x b).tp = v.getLsbD 7 ∧ (ctxOf t x b).sz = v.getLsbD 11 ∧
        (ctxOf t x b).sn = v.getLsbD 12 ∧ (ctxOf t x b).sc = v.getLsbD 13 ∧ (ctxOf t x b).sv = v.getLsbD 14 ∧
        ((∀ o i, c.fswBy = some (o, i) → o < q.2) → (∀ m ∈ c.fswRec, m.org ≤ q.2) →
          (ctxOf t x b).bexp = v.setWidth 4 ∧ (ctxOf t x b).rdef = (v >>> 4).setWidth 2 ∧ (ctxOf t x b).explim = v.getLsbD 6)) ∧
      (k = 0x0D → (ctxOf t x b).busA = v.setWidth 24) ∧ (k = 0x0E → (ctxOf t x b).busB = v.setWidth 24) ∧
      (k = 0x0F → (ctxOf t x b).busC = v.setWidth 24) ∧ (k = 0x13 → (ctxOf t x b).csp = v.setWidth 12) ∧
      (k = 0x10 → (ctxOf t x b).buscfg = (v.setWidth 24).zeroExtend 32) ∧ (k = 0x11 → (ctxOf t x b).agcfg = (v.setWidth 16).zeroExtend 32) ∧
      (k = 0x17 → (tileOf t x).fpstat = v.setWidth 5) ∧ (k = 0x18 → (ctxOf t x b).sendStat = v) ∧
      ((1 ≤ k.toNat ∧ k.toNat ≤ 0x0C) ∨ k.toNat = 0x12 ∨ (0x14 ≤ k.toNat ∧ k.toNat ≤ 0x16) ∨ 0x19 ≤ k.toNat →
        OnlyContext u t x b ∧ (ctxOf t x b).busA = c.busA ∧ (ctxOf t x b).sz = c.sz))

/-- R154, R156, R157: FADD, FSUB, FMUL, FMA, FMIN, FMAX, FABS, FNEG, FCMP, FDIV, FSQRT, FTOQ, QTOF, FTOI, ITOF, FMVR and FMVF of
the flow that owns F0 to F15 complete: FTOQ, FTOI and FMVR write the general register, QTOF, ITOF and FMVF read it, and FMVR
and FMVF move bit patterns unchanged; FCMP writes the scalar flags and clears `sc`; the others write fd with their result and
leave every other F register; the flags of FPSTAT only gather; the next instruction follows. Of a flow that is not the owner,
the instruction waits for a swap, which it requests of the hod engine. -/
def Obligations.FpInstructionsOfTheOwnerExecute : Prop :=
  ∀ (s : State) (x : TileRef) (b : Bank) (f : FpuF) (i : Instr) (op : Nat),
    (i = .fadd x f ∧ op = 0) ∨ (i = .fsub x f ∧ op = 1) ∨ (i = .fmul x f ∧ op = 2) ∨ (i = .fma x f ∧ op = 3) ∨
    (i = .fmin x f ∧ op = 4) ∨ (i = .fmax x f ∧ op = 5) ∨ (i = .fabs x f ∧ op = 6) ∨ (i = .fneg x f ∧ op = 7) ∨
    (i = .fcmp x f ∧ op = 8) ∨ (i = .fdiv x f ∧ op = 9) ∨ (i = .fsqrt x f ∧ op = 10) ∨ (i = .ftoq x f ∧ op = 11) ∨
    (i = .qtof x f ∧ op = 12) ∨ (i = .ftoi x f ∧ op = 13) ∨ (i = .itof x f ∧ op = 14) ∨ (i = .fmvr x f ∧ op = 15) ∨
    (i = .fmvf x f ∧ op = 16) →
    Issues s x b → ∀ k, (tileOf s x).owner b = some k →
    let u := (s.issueIns x.w.val x.t b false (fpReady op f (tileOf s x))).1
    let c := ctxOf u x b
    let y := tileOf s x
    let fr (k : BitVec 4) : Word := Sp.getD y.f k.toNat 0
    let res := fpResult op (fr f.fa) (fr f.fb) (fr f.fc) ((ctxOf s x b).reg b f.reg.toNat) u.fresh
    (y.fpown = some k →
      ∃ t, exec i s = .next t ∧ t.regs = u.regs ∧ t.sram = u.sram ∧ t.gddr = u.gddr ∧ StepsOn c (ctxOf t x b) ∧
        (tileOf t x).fpstat &&& (y.fpstat ||| res.flags) = y.fpstat ||| res.flags ∧
        (op ∈ [11, 13, 15] → (tileOf t x).f = y.f ∧ RegTakes c (ctxOf t x b) b f.reg.toNat res.r ∧ (op = 15 → res.r = fr f.fa)) ∧
        (op = 8 → (tileOf t x).f = y.f ∧ (ctxOf t x b).sc = false ∧ (ctxOf t x b).gen = c.gen ∧
          ((ctxOf t x b).sz = true → (ctxOf t x b).sn = false ∧ (ctxOf t x b).sv = false)) ∧
        (op ∉ [8, 11, 13, 15] → (ctxOf t x b).gen = c.gen ∧ (ctxOf t x b).sz = c.sz ∧
          (∀ k : Nat, k ≠ f.fd.toNat → Sp.getD (tileOf t x).f k 0 = Sp.getD y.f k 0) ∧
          Sp.getD (tileOf t x).f f.fd.toNat 0 = res.r ∧
          (op = 16 → res.r = (ctxOf s x b).reg b f.reg.toNat) ∧ (op = 6 → res.r.msb = false))) ∧
    (y.fpown ≠ some k →
      ∃ t, exec i s = .next t ∧ t.regs = u.regs ∧ (tileOf t x).f = y.f ∧ (ctxOf t x b).pc = c.pc ∧ (ctxOf t x b).gen = c.gen ∧
        (∃ o, (tileOf t x).chanq = y.chanq ++ [o] ∧ o.kind = .fpSwap ∧ o.flow = k ∧ o.bank = b) ∧ t.seqBank x.w.val x.t.val = none)

/-- The bus register i of a context: 0 A, 1 B, 2 C. -/
def busReg (c : Ctx) (i : Nat) : W24 := if i = 0 then c.busA else if i = 1 then c.busB else c.busC

/-- R144, R145, R159, R206, R79, R80: PAT completes. With a condition that holds it acts on its three buses (hold, load of a
general register, clear), leaves every pointer whose `step` bit is 0, holds for its further cycles and selects its slot; the
next instruction follows. The selection of the slot of the current way changes nothing; of a slot that another way holds, that
way is current from then on; a slot that no way holds stalls the tile, is requested and counts as a miss, the way in force
staying current. While a run's start slot has not yet issued, the selection is held back. With a false condition PAT has
no effect. -/
def Rule.PatActsOnBusesAndSelectsItsSlot : Prop :=
  ∀ (s : State) (x : TileRef) (b : Bank) (f : PatF), Issues s x b → patLegal f = true →
    patLoadsLegal (ctxOf s x b) f = true ∨ (ctxOf s x b).condHolds f.cond = false →
    let u := (s.issueIns x.w.val x.t b (patStream s x.w.val x.t.val f) 0).1
    let c := ctxOf u x b
    let y := tileOf u x
    let act (i : Nat) : BitVec 2 := if i = 0 then f.ba else if i = 1 then f.bb else f.bc
    let holds (slot : BitVec 7) (k : Nat) : Prop := (y.way k).valid = true ∧ (y.way k).stale = false ∧ (y.way k).slot = slot
    ∃ t, exec (.pat x f) s = .next t ∧ (ctxOf t x b).gen = c.gen ∧ t.sram = u.sram ∧ t.gddr = u.gddr ∧ StepsOn c (ctxOf t x b) ∧
      (∀ k, k ≠ b → ctxOf t x k = ctxOf u x k) ∧
      (c.condHolds f.cond = false → OnlyContext u t x b ∧ (ctxOf t x b).p = c.p ∧ (∀ i, i < 3 → busReg (ctxOf t x b) i = busReg c i)) ∧
      (c.condHolds f.cond = true →
        (∀ i, i < 3 → act i = 0 → busReg (ctxOf t x b) i = busReg c i) ∧
        (∀ i, i < 3 → act i = 2 → busReg (ctxOf t x b) i = 0) ∧
        (∀ i, i < 3 → act i = 1 → busKind c i = 0 →
          busReg (ctxOf t x b) i = (c.reg b (busByte c i % 32)).setWidth 24) ∧
        (∀ k, k < 8 → f.step.getLsbD k = false → (ctxOf t x b).ptr k = c.ptr k) ∧
        (ctxOf t x b).hold = f.hold.toNat ∧
        (y.starting = true → t.regs = u.regs ∧ (tileOf t x).deferSel = some f.slot ∧ (tileOf t x).curWay = y.curWay) ∧
        (y.starting = false → (ctxOf t x b).slot = f.slot ∧
          (∀ k, y.curWay = some k → holds f.slot k → y.stall ≠ .pattern →
            t.regs = u.regs ∧ (tileOf t x).curWay = some k ∧ (tileOf t x).stall = y.stall ∧ (tileOf t x).waitq = y.waitq) ∧
          (∀ k, y.findWay f.slot = some k → y.curWay ≠ some k → (∀ j, y.curWay = some j → (y.way j).stale = false) →
            (∀ j, y.curWay = some j → (y.way j).slot ≠ f.slot) →
            t.regs = u.regs ∧ (tileOf t x).curWay = some k ∧ (tileOf t x).prevWay = y.curWay ∧ (tileOf t x).stall ≠ .pattern) ∧
          (y.findWay f.slot = none → (∀ j, y.curWay = some j → j < 8 ∧ (y.way j).stale = false) →
            (tileOf t x).stall = .pattern ∧ (tileOf t x).curWay = y.curWay ∧
            t.rd (R.PC_MISS_COUNT x.w.val x.t.val) = satInc (u.rd (R.PC_MISS_COUNT x.w.val x.t.val)) ∧
            ((∃ r ∈ (tileOf t x).waitq, r.slot = f.slot) ∨ ∃ p, (tileOf t x).refill = some p ∧ p.req.slot = f.slot))))

/-- R122, R184: DONE, YIELD and WAITE on a tile of a flow while another tile of its set has not ended its part complete: the
tile records the end of its part and issues nothing more for the flow; no memory and no other tile changes, and from a
resident bank no register. -/
def Rule.EndOfPartWaitsForTheSet : Prop :=
  ∀ (s : State) (x : TileRef) (b : Bank) (f j : Nat), Issues s x b →
    let u := atIssue s x b
    let y := tileOf s x
    (b = .fast → y.handlerOf = none) → y.bankOf f = some b → j ∈ s.tileSet x.w.val f → j ≠ x.t.val →
    (∃ k, (s.tile x.w.val j).bankOf f = some k ∧ ((s.tile x.w.val j).bank k).mark = .none) →
    let completes (i : Instr) (m : Mark) : Prop :=
      ∃ t, exec i s = .next t ∧ (ctxOf t x b).mark = m ∧ t.sram = u.sram ∧ t.gddr = u.gddr ∧
        (ctxOf t x b).gen = (ctxOf u x b).gen ∧ t.bankRuns x.w.val (tileOf t x) b = false ∧
        (∀ i, i < 128 → i ≠ x.t.val → t.tile x.w.val i = u.tile x.w.val i) ∧
        (b ≠ .fast → t.regs = u.regs ∧ t.seqBank x.w.val x.t.val = none) ∧
        (b = .fast → (tileOf t x).cur = y.interrupted)
    completes (.done x) .done ∧ completes (.yield x) .yield ∧ completes (.waite x) .waite

/-- R122, R181, R183, R184: on the tile of a flow's set that ends its part last, the instruction ends the part of the whole
flow. YIELD, where every tile has ended with it, leaves the flow RUNNABLE; WAITE leaves it WAITING (or RUNNABLE when a trigger
is pending); and DONE, where every tile has ended with it, completes the flow: the run is counted and the flow is IDLE, or
RUNNABLE when it is triggered again at once. -/
def Rule.LastTileEndsTheRun : Prop :=
  ∀ (s : State) (x : TileRef) (b : Bank) (f : Fin 512), Issues s x b →
    let u := atIssue s x b
    let w := x.w.val
    let y := tileOf s x
    let others (p : Mark → Prop) : Prop := ∀ j ∈ s.tileSet w f.val, j ≠ x.t.val →
      ∃ k, (s.tile w j).bankOf f.val = some k ∧ p ((s.tile w j).bank k).mark
    let pending := u.fl (R.FD_CTRL w f.val) F.FD_CTRL_pending = 1
    (b = .fast → y.handlerOf = none) → y.bankOf f.val = some b → x.t.val ∈ s.tileSet w f.val →
    (others (fun m => m = .yield) →
      ∃ t, exec (.yield x) s = .next t ∧ t.fstate w f.val = fRunnable ∧ (t.flow w f.val).resume = true) ∧
    (others (fun m => m = .yield ∨ m = .waite) →
      ∃ t, exec (.waite x) s = .next t ∧ t.fstate w f.val = (if pending then fRunnable else fWaiting)) ∧
    (others (fun m => m = .done) →
      ∃ t, exec (.done x) s = .next t ∧ (t.fstate w f.val = fIdle ∨ t.fstate w f.val = fRunnable) ∧
        t.fl (R.FD_STAT w f.val) F.FD_STAT_runs = (u.fl (R.FD_STAT w f.val) F.FD_STAT_runs + 1) % 65536)

/-- R137, R141, R573: RETF in a window handler returns to the interrupted bank; the handler is over. RETF of a flow bound to
the fast bank acts as DONE. -/
def Rule.RetfReturnsFromTheHandler : Prop :=
  ∀ (s : State) (x : TileRef), Issues s x .fast →
    let u := atIssue s x .fast
    let y := tileOf s x
    (∀ (g : Nat) (r : Bank), y.handlerOf = some g → y.interrupted = some r → r ≠ .fast →
      ∃ t, exec (.retf x) s = .next t ∧ (tileOf t x).cur = some r ∧ (tileOf t x).handlerOf = none ∧
        (tileOf t x).interrupted = none ∧ t.sram = u.sram ∧ t.gddr = u.gddr ∧ (ctxOf t x r).gen = (ctxOf u x r).gen ∧
        (ctxOf t x r).pc = (ctxOf u x r).pc ∧ (ctxOf t x r).loops = (ctxOf u x r).loops) ∧
    (∀ g : Nat, y.handlerOf = none → y.cf.flow = some g →
      ∃ t, exec (.retf x) s = .next t ∧ exec (.done x) s = .next t)

/-- R120: SYNC completes: the tile stops until every tile of the set has issued it; the last one releases all, which issue
their next instruction together, 2 cycles after the cycle in which the last SYNC issued. -/
def Rule.SyncReleasesTheSetTogether : Prop :=
  ∀ (s : State) (x : TileRef) (b : Bank) (f : Nat), Issues s x b →
    let u := atIssue s x b
    let n := issueCycleOf s x b
    let w := x.w.val
    let set := s.tileSet w f
    (tileOf s x).owner b = some f → b ∈ (tileOf s x).flowBanks f → x.t.val ∈ set →
    ∃ t, exec (.sync x) s = .next t ∧ t.regs = u.regs ∧ t.sram = u.sram ∧ t.gddr = u.gddr ∧
      ((∃ j ∈ set, j ≠ x.t.val ∧ s.atSync w j f = false) →
        (ctxOf t x b).mark = .sync ∧ (ctxOf t x b).syncAt = some n ∧ t.seqBank w x.t.val = none ∧ StepsOn (ctxOf u x b) (ctxOf t x b)) ∧
      ((∀ j ∈ set, j ≠ x.t.val → s.atSync w j f = true) →
        ∃ last, n ≤ last ∧
          (∀ j ∈ set, j ≠ x.t.val → ∀ k ∈ (u.tile w j).flowBanks f, ((u.tile w j).bank k).mark = .sync →
            ((u.tile w j).bank k).syncAt.getD 0 ≤ last ∧ ((t.tile w j).bank k).mark = .none ∧
            ((t.tile w j).bank k).resumeAt = last + 2) ∧
          (last = n ∨ ∃ j ∈ set, ∃ k ∈ (u.tile w j).flowBanks f, ((u.tile w j).bank k).syncAt = some last) ∧
          (ctxOf t x b).mark = .none ∧ (ctxOf t x b).resumeAt = last + 2)

/-- R150, R429: SIGNAL completes: it raises the wall event FLOW_SIGNAL (source 3) with the flow, the tile and the code, and the
next instruction follows. -/
def Rule.SignalRaisesFlowSignal : Prop :=
  ∀ (s : State) (x : TileRef) (b : Bank) (f : Nat) (code : BitVec 16), Issues s x b →
    let u := atIssue s x b
    let w := x.w.val
    (tileOf s x).owner b = some f →
    ∃ t, exec (.signal x code) s = .next t ∧ t.sram = u.sram ∧ t.gddr = u.gddr ∧ StepsOn (ctxOf u x b) (ctxOf t x b) ∧
      (ctxOf t x b).gen = (ctxOf u x b).gen ∧
      ((u.wall w).raised.length < 256 → t.regs = u.regs ∧
        ∃ e, (t.wall w).raised = (u.wall w).raised ++ [e] ∧ e.code = 3 * 8 ∧
          e.args = [BitVec.ofNat 32 (512 * w + f), BitVec.ofNat 32 x.t.val, code.zeroExtend 32] ∧ e.stamp.seq = (u.wall w).seq ∧
          (t.wall w).seq = ((u.wall w).seq + 1) % 4294967296)

/-- R130, R133, R572: SAVEW and CALLW complete while a window can be resident without a spill (fewer than 7 resident
windows, or for a fixed flow a depth below 8): SAVEW opens a window, and CALLW then saves the return address in V7 of the new
window and branches. No window is overwritten: the other registers keep their values. With seven windows resident and an area
for the spill where it needs one, they wait for the spill, which they request of the hod engine (R131, R135). -/
def Rule.SavewAndCallwOpenAWindow : Prop :=
  ∀ (s : State) (x : TileRef) (b : Bank) (f : Nat) (k : Cond4) (target : PC12), Issues s x b → b ≠ .fast →
    let u := atIssue s x b
    let c := ctxOf s x b
    c.flow = some f →
    ((if s.fixedFlow x.w.val f then c.depth < 8 else c.wres < 7) →
      (∃ t, exec (.savew x) s = .next t ∧ OnlyContext u t x b ∧ (ctxOf t x b).depth = c.depth + 1 ∧
        (ctxOf t x b).wres = c.wres + 1 ∧ (ctxOf t x b).wix = c.wix + 1 ∧ (ctxOf t x b).gen = c.gen ∧
        StepsOn c (ctxOf t x b)) ∧
      (k.toNat ≤ 10 → ∃ t, exec (.callw x k target) s = .next t ∧ OnlyContext u t x b ∧
        (c.condHolds k = false → StepsOn c (ctxOf t x b) ∧ (ctxOf t x b).depth = c.depth ∧ (ctxOf t x b).gen = c.gen) ∧
        (c.condHolds k = true → (ctxOf t x b).depth = c.depth + 1 ∧ (ctxOf t x b).wres = c.wres + 1 ∧
          (ctxOf t x b).wix = c.wix + 1 ∧ (ctxOf t x b).pc = target ∧ loopEntries (ctxOf t x b).loops = loopEntries c.loops ∧
          RegTakes { c with wix := c.wix + 1 } (ctxOf t x b) b 23 ((c.pc + 1).zeroExtend 32)))) ∧
    (s.fixedFlow x.w.val f = false → 7 ≤ c.wres → s.spillTakesArea x.w.val c = false ∨ (s.wall x.w.val).freeHead ≠ none →
      ∀ i, i = .savew x ∨ (i = .callw x k target ∧ k.toNat ≤ 10 ∧ c.condHolds k = true) →
        ∃ t, exec i s = .next t ∧ OnlyContextOrChannel u t x ∧ t.seqBank x.w.val x.t.val = none ∧ (ctxOf t x b).wix = c.wix ∧
          ∃ o, (tileOf t x).chanq = (tileOf s x).chanq ++ [o] ∧ o.kind = .spill ∧ o.flow = f ∧ o.bank = b)

/-- R130, R132: RESTW and RETW complete while the window below the visible one is resident: RESTW closes the visible window,
and RETW also continues at V7[11:0] of the window it closes. With no other window resident they wait for the fill, which they
request of the hod engine (R135). -/
def Rule.RestwAndRetwCloseAWindow : Prop :=
  ∀ (s : State) (x : TileRef) (b : Bank) (f : Nat) (k : Cond4), Issues s x b → b ≠ .fast →
    let u := atIssue s x b
    let c := ctxOf s x b
    c.flow = some f → 1 < c.depth →
    (1 < c.wres →
      (∃ t, exec (.restw x) s = .next t ∧ OnlyContext u t x b ∧ (ctxOf t x b).depth = c.depth - 1 ∧
        (ctxOf t x b).wres = c.wres - 1 ∧ (ctxOf t x b).wix = c.wix - 1 ∧ (ctxOf t x b).gen = c.gen ∧
        StepsOn c (ctxOf t x b)) ∧
      (k.toNat ≤ 10 → ∃ t, exec (.retw x k) s = .next t ∧ OnlyContext u t x b ∧ (ctxOf t x b).gen = c.gen ∧
        (c.condHolds k = false → (ctxOf t x b).depth = c.depth ∧ StepsOn c (ctxOf t x b)) ∧
        (c.condHolds k = true → (ctxOf t x b).depth = c.depth - 1 ∧ (ctxOf t x b).wres = c.wres - 1 ∧
          (ctxOf t x b).wix = c.wix - 1 ∧ (ctxOf t x b).pc = (c.reg b 23).setWidth 12 ∧
          loopEntries (ctxOf t x b).loops = loopEntries c.loops))) ∧
    (c.wres ≤ 1 → ∀ i, i = .restw x ∨ (i = .retw x k ∧ k.toNat ≤ 10 ∧ c.condHolds k = true) →
      ∃ t, exec i s = .next t ∧ OnlyContextOrChannel u t x ∧ t.seqBank x.w.val x.t.val = none ∧ (ctxOf t x b).wix = c.wix ∧
        ∃ o, (tileOf t x).chanq = (tileOf s x).chanq ++ [o] ∧ o.kind = .fill ∧ o.flow = f ∧ o.bank = b)

/-- R134, word for word: at D = 1 RESTW and RETW do not execute, and the flow halts with SEQ_FAULT cause 0x4 (the cause is
recorded when SEQ_FAULT holds no earlier one, R179). -/
def Obligations.RestwAtDepthOneHaltsTheFlow : Prop :=
  ∀ (s : State) (x : TileRef) (b : Bank) (f : Fin 512) (k : Cond4) (i : Instr), Issues s x b → b ≠ .fast →
    let u := atIssue s x b
    let c := ctxOf s x b
    let a := R.SEQ_FAULT x.w.val x.t.val
    c.flow = some f.val → c.depth = 1 → (i = .restw x ∨ (i = .retw x k ∧ k.toNat ≤ 10 ∧ c.condHolds k = true)) →
    ∃ t, exec i s = .next t ∧ t.fstate x.w.val f.val = fHalted ∧
      (ctxOf t x b).depth = c.depth ∧ (ctxOf t x b).wres = c.wres ∧ (ctxOf t x b).wix = c.wix ∧ (ctxOf t x b).pc = c.pc ∧
      (ctxOf t x b).gen = c.gen ∧
      (u.fl a F.SEQ_FAULT_valid = 0 → t.fl a F.SEQ_FAULT_valid = 1 ∧ t.fl a F.SEQ_FAULT_cause = 4)

/-- R142, R141, R159, R162, R572, R573, R179: the sequencer faults of an illegal instruction and of a reserved field value
(cause 1), of a REP with four entries active (2), of a bus load that cannot take place (5), of RETF outside the fast bank
(6), and of a window instruction, or of the end of a part in a window handler, in the fast bank (7) halt the flow, and the
cause is recorded when none is. -/
def Obligations.SequencerFaultsHaltTheFlow : Prop :=
  ∀ (s : State) (x : TileRef) (b : Bank) (f : Fin 512) (i : Instr) (cause : Nat), Issues s x b →
    let a := R.SEQ_FAULT x.w.val x.t.val
    let c := ctxOf s x b
    (tileOf s x).owner b = some f.val →
    ((∃ v : Word, i = .illegalInstruction x v ∧ (7 ≤ v.toNat / 536870912) ∧ cause = 1) ∨
     (∃ g : AluF, i = .aluAdd x g ∧ 10 < g.cond.toNat ∧ cause = 1) ∨
     (∃ g : RepF, i = .rep x g ∧ g.fin.toNat ≤ c.pc.toNat ∧ cause = 1) ∨
     (∃ g : RepF, i = .rep x g ∧ c.pc.toNat + 1 ≤ g.fin.toNat ∧ 4 ≤ c.loops.length ∧ cause = 2) ∨
     (∃ g : PatF, i = .pat x g ∧ patLegal g = true ∧ c.condHolds g.cond = true ∧ patLoadsLegal c g = false ∧ cause = 5) ∨
     (i = .retf x ∧ b ≠ .fast ∧ cause = 6) ∨
     ((i = .savew x ∨ i = .restw x ∨ ((i = .done x ∨ i = .yield x ∨ i = .waite x) ∧ (tileOf s x).handlerOf ≠ none)) ∧
       b = .fast ∧ cause = 7)) →
    ∃ t, exec i s = .next t ∧ t.fstate x.w.val f.val = fHalted ∧
      (s.fl a F.SEQ_FAULT_valid = 0 → t.fl a F.SEQ_FAULT_valid = 1 ∧ t.fl a F.SEQ_FAULT_cause = cause)

/-- R173: SAVEL and SAVEU (with an area on the free list), and LOADL and LOADU (with an area of their kind at the head of
the save stack) complete their issue: they request their operation from the tile's hod channel and the tile stalls until it is
done (the operation's own effect: `Rule.WindowAndBlockOperationsComplete`). -/
def Rule.BlockInstructionsRequestTheHod : Prop :=
  ∀ (s : State) (x : TileRef) (b : Bank) (f : Nat), Issues s x b →
    let u := atIssue s x b
    let w := x.w.val
    let c := ctxOf s x b
    let head := nbits (s.areaWord w c.saveHead.toNat 0).toNat 16 4
    let completes (i : Instr) (kind : HodKind) : Prop :=
      ∃ t, exec i s = .next t ∧ OnlyContextOrChannel u t x ∧ (ctxOf t x b).gen = c.gen ∧ (ctxOf t x b).pc = c.pc ∧
        (∃ o, (tileOf t x).chanq = (tileOf s x).chanq ++ [o] ∧ o.kind = kind ∧ o.flow = f ∧ o.bank = b) ∧
        t.seqBank w x.t.val = none
    (tileOf s x).owner b = some f →
    ((s.wall w).freeHead ≠ none → completes (.savel x) .savel ∧ completes (.saveu x) .saveu) ∧
    (c.saveDepth ≠ 0 → head = 1 → completes (.loadl x) .loadl) ∧
    (c.saveDepth ≠ 0 → head = 2 → completes (.loadu x) .loadu)

/-- R152, R153, R284, R285: a SEND that nothing refuses puts one packet with its destination, target address and tag at the
tile's injection port and counts as outstanding; one that is refused records its status in SEND_STAT and sends nothing. In
both cases the flow runs on. -/
def Rule.SendPutsAPacketOnTheBond : Prop :=
  ∀ (s : State) (x : TileRef) (b : Bank) (f : SendF), Issues s x b → f.kind.toNat < 2 →
    let u := atIssue s x b
    let c := ctxOf u x b
    let ra := c.reg b f.ra.toNat
    let st := u.sendCheck x.w.val x.t.val ra f
    ∃ t, exec (.send x f) s = .next t ∧ t.regs = u.regs ∧ t.sram = u.sram ∧ t.gddr = u.gddr ∧ (ctxOf t x b).gen = c.gen ∧
      StepsOn c (ctxOf t x b) ∧
      (f.gen = false → 4 ≤ f.len.toNat → st = stBadArg) ∧
      (st ≠ 0 → t.flight = u.flight ∧ (tileOf t x).outst = (tileOf u x).outst ∧
        nbits (ctxOf t x b).sendStat.toNat 0 16 = st % 65536) ∧
      (st = 0 → (tileOf t x).sendCnt = (tileOf u x).sendCnt + 1 ∧
        (tileOf t x).outst.length = (tileOf u x).outst.length + 1 ∧
        ∃ e, t.flight = u.flight ++ [e] ∧ e.at_ = .queue x.w.val (x.t.val / 8) (x.t.val % 8) ∧ e.pkt.dst = ra.setWidth 16 ∧
          e.pkt.addr = (c.reg b f.rb.toNat).zeroExtend 64 ∧ e.pkt.tag = (tileOf u x).sendCnt ∧
          e.pkt.payload.length = 4 * (f.len.toNat + 1))

/-- R152, R153: FENCE waits while a send of its bank is outstanding: the sequencer then issues nothing; with none
outstanding it has no effect, and NOP never has one: the next instruction follows. -/
def Rule.FenceWaitsForTheSends : Prop :=
  ∀ (s : State) (x : TileRef) (b : Bank), Issues s x b →
    let u := atIssue s x b
    let c := ctxOf u x b
    (∃ t, exec (.sysNop x) s = .next t ∧ OnlyContext u t x b ∧ StepsOn c (ctxOf t x b) ∧ (ctxOf t x b).gen = c.gen) ∧
    ∃ t, exec (.fence x) s = .next t ∧ OnlyContext u t x b ∧ (ctxOf t x b).gen = c.gen ∧
      ((tileOf u x).sending b = false → StepsOn c (ctxOf t x b) ∧ (ctxOf t x b).fence = c.fence) ∧
      ((tileOf u x).sending b = true → (ctxOf t x b).pc = c.pc ∧ t.seqBank x.w.val x.t.val = none)

/-! ## Registers (01_module_overview, 10_host_interface) -/

/-- What a write of `v` leaves in the fields of a register (R13): RW, RWL and RWS fields hold the value written, a 1 has cleared
a W1C bit, RO and WO fields hold what they held. -/
def FieldsWritten (d : RegDef) (old new v : Word) : Prop :=
  ∀ f ∈ d.fields,
    (f.ty = .rw ∨ f.ty = .rwl ∨ f.ty = .rws → fld new ⟨f.lo, f.wd⟩ = fld v ⟨f.lo, f.wd⟩) ∧
    (f.ty = .w1c → ∀ k, k < f.wd → new.getLsbD (f.lo + k) = (old.getLsbD (f.lo + k) && !v.getLsbD (f.lo + k))) ∧
    (f.ty = .ro ∨ f.ty = .wo → fld new ⟨f.lo, f.wd⟩ = fld old ⟨f.lo, f.wd⟩)

/-- The registers of the register tables whose write has the effect of its fields' types only. -/
def PlainRegister (a : Nat) : Prop :=
  (∃ w : Wall, a ∈ [R.DISP_CFG w.val, R.DISP_EVENT w.val, R.HOD_LOW w.val, R.HOD_EVENT w.val, R.PT_POLICY w.val, R.PT_EVENT w.val,
      R.KILN_STATUS w.val, R.KILN_DONE_TO w.val, R.KILN_ERR w.val, R.BOND_EVENT w.val, R.SRAM_PATROL w.val, R.SRAM_EVENT w.val,
      R.SRAM_UE_ADDR w.val, R.MARCH_STATUS w.val, R.MARCH_BOOT w.val, R.GD_CFG w.val, R.PTP_INC w.val, R.WEV_LOG_BASE w.val,
      R.WEV_LOG_SIZE w.val]) ∨
  (∃ (w : Wall) (n : Fin 64), a ∈ [R.FW_RANGE w.val n.val, R.FW_THRESH w.val n.val]) ∨
  (∃ (w : Wall) (t : Fin 128), a ∈ [R.TMEM_COLL w.val t.val, R.SPINE_STATUS w.val t.val, R.SEQ_FAULT w.val t.val,
      R.BI_STATUS w.val t.val]) ∨
  (∃ (w : Wall) (n : Fin 4), a ∈ [R.ANG_LOSS w.val n.val, R.ANG_STATUS w.val n.val, R.ANG_SET_LO w.val n.val, R.ANG_SET_HI w.val n.val]) ∨
  (∃ (w : Wall) (d : Fin 2), a ∈ [R.GD_EVENT w.val d.val, R.GD_UE_ADDR_HI w.val d.val, R.GD_BI_MAXLAT w.val d.val]) ∨
  (∃ (w : Wall) (n : Fin 16), a = R.LK_EVENT w.val n.val) ∨
  a ∈ [R.MT_ALIGN, R.XS_EVENT, R.CHN_CFG, R.CHN_EVENT, R.EVR_BASE_LO, R.EVR_BASE_HI, R.EVR_PASID, R.TRW_FWD, R.PWR_WDT] ∨
  (∃ n : Fin 32, a ∈ [R.EM_HUB n.val, R.REG_STAT n.val, R.XS_HWIN_LO n.val, R.XS_HWIN_HI n.val, R.XS_HWIN_SIZE n.val]) ∨
  (∃ (w : Wall) (n : Fin 32), a = R.EM_WALL w.val n.val) ∨
  (∃ n : Fin 128, a ∈ [R.MSIX_ADDR_LO n.val, R.MSIX_ADDR_HI n.val, R.MSIX_DATA n.val]) ∨
  (∃ w : Wall, a = R.WPWR_CTRL w.val)

/-- R13, R409: REGISTER_WRITE of a register whose write has the effect of its fields' types only, and that the checks let
through, completes with OK: every field is as R13's type code says, and no other register changes. -/
def Rule.RegisterWriteStoresTheValue : Prop :=
  ∀ (s : State) (m : Mid) (a : Nat) (v : Word), PlainRegister a → Allowed s m a true →
    ∃ t, exec (.registerWrite m a v) s = .next t ∧ Answered t m a 0 ∧ MemAndTilesKept s t ∧ RegsKeptBut s t [a] ∧
      t.walls = s.walls ∧ t.hubWait = s.hubWait ∧
      ∃ d, regDef a = some d ∧ FieldsWritten d (s.rd a) (t.rd a) v

/-- R409, R10: REGISTER_WRITE of any register that the general checks let through completes with the status that the
register's own checks give: with another than OK it changes no register but the master's record and no memory (a doorbell
apart, which records a bad tail, R422); at an unassigned offset it completes with OK and changes nothing. -/
def Rule.RegisterWriteCompletes : Prop :=
  ∀ (s : State) (m : Mid) (a : Nat) (v : Word), Allowed s m a true →
    ∃ t, exec (.registerWrite m a v) s = .next t ∧ Answered t m a (s.writeEffect m.toNat a v).2 ∧
      ((s.writeEffect m.toNat a v).2 ≠ 0 → doorbellQueue a = none →
        MemAndTilesKept s t ∧ RegsKeptBut s t [R.REG_STAT m.toNat, R.REG_STAT_ADDR m.toNat]) ∧
      (regDef a = none → t.last.status = 0 ∧ MemAndTilesKept s t ∧ t.regs = s.regs ∧ t.walls = s.walls)

/-- REGISTER_WRITE of a register that has a command of its own is that command (its effect: that command's statements). -/
def Rule.RegisterWriteIsItsCommand : Prop :=
  ∀ (s : State) (m : Mid) (w : Wall) (x : TileRef) (v : Word),
    let is (a : Nat) (i : Instr) : Prop := ∃ t, exec (.registerWrite m a v) s = .next t ∧ exec i s = .next t
    is (R.PC_PIN_A x.w.val x.t.val) (.pcPinWrite m x false v) ∧ is (R.PC_PIN_B x.w.val x.t.val) (.pcPinWrite m x true v) ∧
    is (R.PC_INVAL x.w.val x.t.val) (.pcInvalWrite m x v) ∧ is (R.WHAND_CTRL x.w.val x.t.val) (.whandCtrlWrite m x v) ∧
    is (R.CAP_CTRL w.val) (.capArm m w v) ∧ is (R.HOD_CFG w.val) (.hodCfgWrite m w v) ∧
    is (R.STARTUP_ORDER w.val) (.startupOrderWrite m w v) ∧ is (R.PT_CFG w.val) (.ptCfgWrite m w v) ∧
    is (R.BI_RING x.w.val x.t.val) (.biRingWrite m x v) ∧
    (∀ (f : FlowIx) (r : Fin 8), is (R.FD_CTRL w.val f.val + 4 * r.val) (.descriptorWrite m w f r v)) ∧
    (∀ f : FlowIx, is (R.FD_SCHED w.val f.val) (.fdSchedWrite m w f v)) ∧
    (∀ c : Fin 64, is (R.GC_CTRL w.val c.val) (.gcCtrlWrite m w c v)) ∧
    (∀ u : Fin 16, is (R.ACU_CTRL w.val u.val) (.acuCtrlWrite m w u v))

/-- R409, R414, R431: a register access (REGISTER_WRITE, REGISTER_READ, PAIR_LO_READ, PAIR_HI_READ) that a check refuses
changes no register but the group's record, completes with the check's status, and an access that a table denies raises the
hub's ACCESS_DENIED event (source 4). -/
def Rule.RefusedAccessChangesNothing : Prop :=
  ∀ (s : State) (m : Mid) (a : Nat) (v : Word) (wr : Bool) (i : Instr),
    (i = .registerWrite m a v ∧ wr = true) ∨ ((i = .registerRead m a ∨ i = .pairLoRead m a ∨ i = .pairHiRead m a) ∧ wr = false) →
    s.powered = true → s.regCheck m.toNat a wr ≠ 0 →
    ∃ t, exec i s = .next t ∧ Answered t m a (s.regCheck m.toNat a wr) ∧ t.last.value = 0 ∧ MemAndTilesKept s t ∧
      RegsKeptBut s t [R.REG_STAT m.toNat, R.REG_STAT_ADDR m.toNat] ∧ t.walls = s.walls ∧
      (s.regCheck m.toNat a wr = stAccessDenied → HubRaised s t 4 0) ∧
      (m.toNat < 32 → s.fl (R.REG_STAT m.toNat) F.REG_STAT_valid = 0 → t.fl (R.REG_STAT m.toNat) F.REG_STAT_valid = 1 ∧
        t.fl (R.REG_STAT m.toNat) F.REG_STAT_status = s.regCheck m.toNat a wr)

/-- The wall (none: the hub) and the address of a _LO register of a 64-bit quantity (R11). -/
def PairLo (w : Option Wall) (a : Nat) : Prop :=
  match w with
  | none => a ∈ [R.MT_TICK_LO, R.LOG_POS_LO, R.UNIT_ID_LO, R.EVR_BASE_LO] ∨ (∃ q : Fin 64, a = R.SQ_BASE_LO q.val ∨ a = R.CQ_BASE_LO q.val) ∨
      (∃ k : Fin 32, a = R.XS_HWIN_LO k.val)
  | some w => a ∈ [R.CAP_TRIG_LO w.val, R.CAP_EDGE_LO w.val, R.WTICK_LO w.val] ∨
      (∃ n : Fin 4, a ∈ [R.ANG_VAL_LO w.val n.val, R.ANG_EDGE_LO w.val n.val, R.ANG_SET_LO w.val n.val]) ∨
      (∃ u : Fin 16, a = R.ACU_A_LO w.val u.val) ∨ (∃ f : Fin 512, a = R.FD_TGT_LO w.val f.val) ∨
      (∃ d : Fin 2, a = R.GD_UE_ADDR_LO w.val d.val)

/-- R11, R516: PAIR_LO_READ of a _LO register completes with its word and captures the _HI half as it is at that moment;
the next PAIR_HI_READ of the _HI register completes with that capture and uses it up, and with no capture waiting with the live
half. A read changes no register. Of a wall in STANDBY or OFF both read 0 and capture nothing. -/
def Rule.PairReadsAreCoherent : Prop :=
  ∀ (s : State) (m : Mid) (w : Option Wall) (a : Nat), PairLo w a →
    let off : Prop := ∃ v, w = some v ∧ s.wallOff v.val = true
    (Allowed s m a false →
      ∃ t, exec (.pairLoRead m a) s = .next t ∧ Answered t m a 0 ∧ t.regs = s.regs ∧ t.walls = s.walls ∧ MemAndTilesKept s t ∧
        (¬ off → t.last.value = s.view a ∧ Sp.getD t.pairs a none = some (s.view (a + 4)) ∧
          ∀ k, k ≠ a → Sp.getD t.pairs k none = Sp.getD s.pairs k none) ∧
        (off → t.last.value = 0 ∧ t.pairs = s.pairs)) ∧
    (Allowed s m (a + 4) false →
      ∃ t, exec (.pairHiRead m (a + 4)) s = .next t ∧ Answered t m (a + 4) 0 ∧ t.regs = s.regs ∧ t.walls = s.walls ∧
        MemAndTilesKept s t ∧
        (¬ off → t.last.value = (match Sp.getD s.pairs a none with | some v => v | none => s.view (a + 4)) ∧
          Sp.getD t.pairs a none = none ∧ ∀ k, k ≠ a → Sp.getD t.pairs k none = Sp.getD s.pairs k none) ∧
        (off → t.last.value = 0 ∧ t.pairs = s.pairs))

/-- R10, R13, R516: REGISTER_READ of a register that the checks let through completes with OK and changes no register: it
returns the word that the register holds where the register's write has the effect of its fields' types only, the module tick
for MT_TICK_LO, and 0 for a wall in STANDBY or OFF. -/
def Rule.RegisterReadReturnsTheWord : Prop :=
  ∀ (s : State) (m : Mid) (a : Nat), Allowed s m a false →
    ∃ t, exec (.registerRead m a) s = .next t ∧ Answered t m a 0 ∧ t.regs = s.regs ∧ MemAndTilesKept s t ∧
      (∀ w o, wallOfAddr a = some (w, o) → s.wallOff w = true → t.last.value = 0) ∧
      ((∀ w o, wallOfAddr a = some (w, o) → s.wallOff w = false) →
        (∀ w n : Nat, w < 8 → n < 64 → a = R.FW_RANGE w n ∨ a = R.HOD_LOW w → t.last.value = s.rd a) ∧
        (a = R.MT_TICK_LO → t.last.value = BitVec.ofNat 32 s.tick))

/-! ## Pattern cache, tile memories and captures (03_mortar_and_patterns) -/

/-- R88, word for word. -/
def Obligations.PcInvalInvalidatesFreeWays : Prop :=
  ∀ (s : State) (m : Mid) (x : TileRef) (v : Word), Allowed s m (R.PC_INVAL x.w.val x.t.val) true →
    let y := tileOf s x
    ∃ t, exec (.pcInvalWrite m x v) s = .next t ∧ Answered t m (R.PC_INVAL x.w.val x.t.val) 0 ∧ t.regs = s.regs ∧
      t.sram = s.sram ∧ t.gddr = s.gddr ∧ (∀ k, ((tileOf t x).way k).pat = (y.way k).pat) ∧
      ∀ k, k < 8 → ((tileOf t x).way k).valid =
        if v.getLsbD k && !(y.isCurrent k || s.pinned x.w.val x.t.val (y.way k).slot || (y.way k).prot ||
            (match y.refill with | some r => decide (r.way = k) | none => false))
        then false else (y.way k).valid

/-- R86: PC_PIN_WRITE sets the pin entries (the dispatcher's own entries apart), and a pinned slot that no way holds is
requested: it waits, or its refill is in progress. -/
def Rule.PinWriteRequestsPinnedSlots : Prop :=
  ∀ (s : State) (m : Mid) (x : TileRef) (b : Bool) (v : Word),
    let a := if b then R.PC_PIN_B x.w.val x.t.val else R.PC_PIN_A x.w.val x.t.val
    Allowed s m a true → (tileOf s x).pinA = none → (tileOf s x).pinB = none → (tileOf s x).refill = none →
    ∃ t, exec (.pcPinWrite m x b v) s = .next t ∧ Answered t m a 0 ∧ RegsKeptBut s t [a] ∧ t.sram = s.sram ∧
      (b = false → t.rd a = v) ∧ (b = true → (t.rd a).toNat % 256 = v.toNat % 256) ∧
      ∀ e slot, e < 5 → t.pinEntry x.w.val x.t.val e = some slot →
        ((tileOf t x).findWay (BitVec.ofNat 7 slot)).isSome ∨ ∃ r ∈ (tileOf t x).waitq, r.slot = BitVec.ofNat 7 slot

/-- R138: a write of WHAND_CTRL that enables a handler completes with RESOURCE_BUSY while a flow is bound to the tile's
fast bank; with none bound it takes the value. -/
def Rule.WindowHandlersExcludeFastFlows : Prop :=
  ∀ (s : State) (m : Mid) (x : TileRef) (v : Word),
    let a := R.WHAND_CTRL x.w.val x.t.val
    let bound := ∃ f, f < 512 ∧ s.fstate x.w.val f ≠ fFree ∧ (s.flow x.w.val f).placed = true ∧
      s.fastFlow x.w.val f = true ∧ x.t.val ∈ s.tileSet x.w.val f
    Allowed s m a true →
    (bound → v.getLsbD 0 = true ∨ v.getLsbD 1 = true →
      ∃ t, exec (.whandCtrlWrite m x v) s = .next t ∧ Answered t m a stBusy ∧ t.rd a = s.rd a) ∧
    (¬ bound → ∃ t, exec (.whandCtrlWrite m x v) s = .next t ∧ Answered t m a 0 ∧ RegsKeptBut s t [a] ∧
      MemAndTilesKept s t ∧ t.fl a F.WHAND_CTRL_ovf_en = fld v F.WHAND_CTRL_ovf_en ∧
      t.fl a F.WHAND_CTRL_unf_pc = fld v F.WHAND_CTRL_unf_pc)

/-- R81, R82, R85, R340: REFILL_START, while no refill is in progress and the library's bank is not under test, starts the
waiting refill of highest precedence into a way, which is invalid from then on; the request waits no longer. REFILL_DONE of a
library slot that reads without an error mark makes the way valid with the slot's 3,072 bits and its code, as wall SRAM holds
them (R89, R91), and the path is idle. -/
def Rule.RefillsFillAWay : Prop :=
  ∀ (s : State) (x : TileRef), OnWall s x.w →
    let w := x.w.val
    let y := tileOf s x
    (∀ r k, y.refill = none → (s.wall w).gsr = false → s.inTest w (x.t.val * 65536 / 0x400000) = false →
      s.nextRefill w x.t.val = some r → s.wayFor w x.t.val r = some k →
      ∃ t, exec (.refillStart x) s = .next t ∧ t.sram = s.sram ∧
        (∃ p, (tileOf t x).refill = some p ∧ p.req = r ∧ p.way = k) ∧ ((tileOf t x).way k).valid = false ∧
        ∀ q ∈ (tileOf t x).waitq, q.slot ≠ r.slot) ∧
    (∀ r, y.refill = some r → s.errWords w 0 (libOffset x.t.val r.req.slot.toNat) 386 = [] →
      ∃ t, exec (.refillDone x) s = .next t ∧ t.sram = s.sram ∧ t.regs = s.regs ∧ (tileOf t x).refill = none ∧
        ((tileOf t x).way r.way).valid = true ∧ ((tileOf t x).way r.way).slot = r.req.slot ∧
        ((tileOf t x).way r.way).pat =
          BitVec.ofNat 3072 (ofLeBytes (s.sramBytes w 0 ((x.t.val * 128 + r.req.slot.toNat) * 512) 384)) ∧
        ((tileOf t x).way r.way).code =
          BitVec.ofNat 16 (ofLeBytes (s.sramBytes w 0 ((x.t.val * 128 + r.req.slot.toNat) * 512 + 384) 2)))

/-- R107 to R111: CAP_ARM by the claimant of a READY wall arms an idle capture with the trigger it names, CAP_DISCARD releases
the cells, and CAPTURE_FIRE of an armed trigger that has come about holds every tile's record as it is at the edge, records
the edge's tick and raises CAPTURE_FIRED (source 31); it changes no tile. The state is then held, or reading where a CAPTURE
command waits for the cells. -/
def Rule.CapturesHoldTheTilesAtTheEdge : Prop :=
  ∀ (s : State) (m : Mid) (w : Wall) (v : Word),
    let a := R.CAP_CTRL w.val
    let st := R.CAP_STATUS w.val
    (Allowed s m a true → s.holds (claimCap w.val) m.toNat = true → s.isReady w.val = true →
      (fld v F.CAP_CTRL_arm = 1 → fld v F.CAP_CTRL_trig ≠ 3 → fld v F.CAP_CTRL_discard = 0 → s.fl st F.CAP_STATUS_state ≤ 1 →
        ∃ t, exec (.capArm m w v) s = .next t ∧ Answered t m a 0 ∧ MemAndTilesKept s t ∧ t.fl st F.CAP_STATUS_state = 1 ∧
          (t.wall w.val).cap.owner = m ∧ (t.wall w.val).cap.trig = fld v F.CAP_CTRL_trig) ∧
      (fld v F.CAP_CTRL_arm = 1 → fld v F.CAP_CTRL_trig = 3 → fld v F.CAP_CTRL_discard = 0 →
        ∃ t, exec (.capArm m w v) s = .next t ∧ Answered t m a 0 ∧ MemAndTilesKept s t ∧ t.rd st = s.rd st ∧ t.walls = s.walls) ∧
      (s.fl a F.CAP_CTRL_arm = 0 →
        ∃ t, exec (.capDiscard m w) s = .next t ∧ Answered t m a 0 ∧ MemAndTilesKept s t ∧ t.fl st F.CAP_STATUS_state = 0 ∧
          (s.fl st F.CAP_STATUS_state ≠ 0 → (t.wall w.val).cap.held = []))) ∧
    (OnWall s w → s.fl st F.CAP_STATUS_state = 1 → s.capDue w.val = true →
      ∃ t, exec (.captureFire w) s = .next t ∧ MemAndTilesKept s t ∧
        t.fl st F.CAP_STATUS_state = (if s.capReader w.val then 3 else 2) ∧
        t.rd (R.CAP_EDGE_LO w.val) = BitVec.ofNat 32 s.tick ∧ t.rd (R.CAP_EDGE_HI w.val) = BitVec.ofNat 32 (s.tick / 4294967296) ∧
        WallRaised s t w.val 31 0 ∧
        ∀ i, i < 128 → Sp.getD (t.wall w.val).cap.held i [] = (s.atEdge w.val).captureRecord w.val i)

/-- R101 to R104, R106: BOND_INTERFACE_WRITE, in the wall's present cycle, writes the oldest buffered word through port B of
its memory once the tile's pattern leaves that port free in the cycle, and flits that the router holds move up. A word that
meets a write by port A of the same word in the same cycle with other data follows the collision policy: port A's data, the
bond interface's, or neither (the word keeps its content), and the collision is counted. While tile-memory writes are
disabled the word is dropped. -/
def Rule.BondInterfaceWritesTheOldestWord : Prop :=
  ∀ (s : State) (x : TileRef) (m addr : Nat) (d : W48) (rest : List BondFlit), OnWall s x.w →
    let w := x.w.val
    let u := s.passTo w x.t.val (s.wall w).cycle
    let y := tileOf u x
    let asp := s.aspect w x.t.val m
    let count := R.TMEM_COLL_COUNT w x.t.val
    let meets (e : Nat × Nat × W48 × W48) : Prop := e.1 = m ∧ e.2.1 = addr ∧ dataBits asp e.2.2.1 ≠ dataBits asp d
    takeBondWord (tileOf s x).bbuf = some ((m, addr, d), rest) → y.portBFree m = true →
    ∃ t, exec (.bondInterfaceWrite x) s = .next t ∧ t.sram = s.sram ∧ t.gddr = s.gddr ∧ (ctxOf t x .b0).gen = (ctxOf s x .b0).gen ∧
      (tileOf t x).bbuf = rest ++ (tileOf s x).bwait.take (2 - rest.length) ∧
      (tileOf t x).bwait = (tileOf s x).bwait.drop (2 - rest.length) ∧
      ((s.wall w).tmemWe = false → (tileOf t x).tmem = y.tmem ∧ t.regs = u.regs) ∧
      ((s.wall w).tmemWe = true →
        ((∀ e ∈ y.aWrites, ¬ meets e) → (tileOf t x).tmem = tmemWrite y.tmem asp m addr d ∧ t.rd count = u.rd count) ∧
        (∀ e l r, y.aWrites = l ++ e :: r → (∀ e' ∈ l, ¬ meets e') → meets e →
          t.rd count = satInc (u.rd count) ∧
          (s.collPolicy w x.t.val m = 0 → (tileOf t x).tmem = y.tmem) ∧
          (s.collPolicy w x.t.val m = 1 → (tileOf t x).tmem = tmemWrite y.tmem asp m addr d) ∧
          (s.collPolicy w x.t.val m = 2 → (tileOf t x).tmem = tmemWrite y.tmem asp m addr e.2.2.2)))

/-- R116, R118, R21, R22: PATTERN_ISSUE is the next cycle of the tile's datapath. A tile that issues in it (its current bank
runs, nothing stalls it, its sequencer waits for nothing) puts each brick's word that is on, legal and not squashed into the
pipeline, and the pipeline moves on by a stage; in any other cycle nothing enters it. The scalar side (general registers, PC,
loop stack) and wall SRAM do not move. -/
def Rule.PatternIssueIsOneCycle : Prop :=
  ∀ (s : State) (x : TileRef), OnWall s x.w → (s.wall x.w.val).cycle ≤ (tileOf s x).cyc + 1 →
    let w := x.w.val
    let n := (tileOf s x).cyc + 1
    let e := (s.enterCycle w x.t.val n).keepPrev w x.t.val n
    let flights (l : List (Nat × Flight)) : List (Nat × Flight) := l.map (fun f => (f.1, { f.2 with rd := 0 }))
    ∃ t, exec (.patternIssue x) s = .next t ∧ (tileOf t x).cyc = n ∧ t.sram = s.sram ∧ t.gddr = s.gddr ∧
      (∀ b, (ctxOf t x b).gen = (ctxOf s x b).gen ∧ (ctxOf t x b).pc = (ctxOf s x b).pc ∧ (ctxOf t x b).loops = (ctxOf s x b).loops) ∧
      flights (tileOf t x).p2 = flights (tileOf s x).p1 ∧
      (∀ bk way, (tileOf e x).cur = some bk → (tileOf e x).curWay = some way → e.issues w (tileOf e x) n = true →
        e.seqWaits w x.t n = 0 →
        ∀ k, k < 16 → brickOn ((tileOf e x).way way).pat k = true →
          let r := e.issueBrick w x.t.val (tileOf e x) bk n ((tileOf e x).way way).pat ((tileOf e x).way way).slot k
          (r.2.1 = true → (k, r.1) ∈ (tileOf t x).p1) ∧ (r.2.1 = false → ∀ fl, (k, fl) ∉ (tileOf t x).p1)) ∧
      (e.issues w (tileOf e x) n = false ∨ e.seqWaits w x.t n ≠ 0 → (tileOf t x).p1 = [])

/-! ## Flows, the dispatcher and the hod engine (05_flows_and_dispatch) -/

/-- DISP_CMD may act for master `m` on the wall: the register access is let through and no operation is in progress. -/
abbrev DispReady (s : State) (m : Mid) (w : Wall) : Prop :=
  Allowed s m (R.DISP_CMD w.val) true ∧ s.fl (R.DISP_CMD_STATUS w.val) F.DISP_CMD_STATUS_busy = 0

/-- R188, R189: CREATE, DISABLE, RESTART and DESTROY complete: an accepted CREATE takes two home areas for each tile of the set
and leaves the flow STOPPED; DISABLE of a flow that is IDLE to WAITING leaves it STOPPED, with no trigger pending, and
suspended when it was RUNNABLE or RUNNING; RESTART of a HALTED flow leaves it IDLE; DESTROY of a STOPPED flow leaves it
FREE, its schedule disarmed and its descriptor's registers 0. An operation that its checks refuse leaves its status in
DISP_CMD_STATUS and the flow as it was. -/
def Rule.FlowLifecycle : Prop :=
  ∀ (s : State) (m : Mid) (w : Wall) (f : FlowIx), DispReady s m w →
    let st := s.fstate w.val f.val
    let susp (t : State) : Nat := t.fl (R.FD_CTRL w.val f.val) F.FD_CTRL_susp
    let done (t : State) : Prop := Answered t m (R.DISP_CMD w.val) 0
    (s.dispCheck m.toNat w.val f.val 0 = 0 →
      ∃ t, exec (.create m w f) s = .next t ∧ done t ∧ t.fstate w.val f.val = fStopped ∧
        (t.wall w.val).freeCount + 2 * (s.tileSet w.val f.val).length = (s.wall w.val).freeCount) ∧
    (s.flowLease w.val m.toNat f.val = true →
      (2 ≤ st → st ≤ 5 →
        ∃ t, exec (.disable m w f) s = .next t ∧ done t ∧ t.fstate w.val f.val = fStopped ∧
          t.fl (R.FD_CTRL w.val f.val) F.FD_CTRL_pending = 0 ∧ susp t = (if st = 3 ∨ st = 4 then 1 else 0)) ∧
      (st = fHalted → ∃ t, exec (.restart m w f) s = .next t ∧ done t ∧ t.fstate w.val f.val = fIdle ∧ susp t = 0) ∧
      (st = fStopped → susp s = 1 →
        ∃ t, exec (.restart m w f) s = .next t ∧ done t ∧ t.fstate w.val f.val = fStopped ∧ susp t = 0) ∧
      (st = fStopped →
        ∃ t, exec (.destroy m w f) s = .next t ∧ done t ∧ t.fstate w.val f.val = fFree ∧ (t.flow w.val f.val).armed = none ∧
          ∀ r, r < 8 → t.rd (R.FD_CTRL w.val f.val + 4 * r) = 0)) ∧
    (∀ op ∈ [(0, Instr.create m w f), (1, .enable m w f), (2, .disable m w f), (3, .restart m w f), (4, .destroy m w f), (5, .wake m w f)],
      s.dispCheck m.toNat w.val f.val op.1 ≠ 0 →
      ∃ t, exec op.2 s = .next t ∧ done t ∧ MemAndTilesKept s t ∧ RegsKeptBut s t [R.DISP_CMD_STATUS w.val] ∧
        t.fl (R.DISP_CMD_STATUS w.val) F.DISP_CMD_STATUS_status = s.dispCheck m.toNat w.val f.val op.1)

/-- R188, R192: ENABLE completes. An accepted ENABLE of a flow that is neither fixed nor bound to a fast bank, or that is placed
already on all its tiles, makes a suspended flow RUNNABLE, one that waited when it was disabled WAITING, and another
IDLE. A placed flow (fixed or fast) whose tiles do not all hold it is in progress until its restores are done:
DISP_CMD_STATUS shows it busy. -/
def Rule.EnablePutsAFlowInPlace : Prop :=
  ∀ (s : State) (m : Mid) (w : Wall) (f : FlowIx), DispReady s m w → s.dispCheck m.toNat w.val f.val 1 = 0 →
    let placed := s.fixedFlow w.val f.val = true ∨ s.fastFlow w.val f.val = true
    (¬ placed ∨ s.residentAll w.val f.val = true →
      ∃ t, exec (.enable m w f) s = .next t ∧ Answered t m (R.DISP_CMD w.val) 0 ∧ (placed → (t.flow w.val f.val).placed = true) ∧
        t.fl (R.FD_CTRL w.val f.val) F.FD_CTRL_susp = 0 ∧
        t.fstate w.val f.val =
          (if s.fl (R.FD_CTRL w.val f.val) F.FD_CTRL_susp = 1 then fRunnable
           else if (s.flow w.val f.val).waitWhenDisabled then fWaiting else fIdle)) ∧
    (placed → s.residentAll w.val f.val = false →
      ∃ t, exec (.enable m w f) s = .next t ∧ Answered t m (R.DISP_CMD w.val) 0 ∧ (t.flow w.val f.val).placed = true ∧
        t.fl (R.DISP_CMD_STATUS w.val) F.DISP_CMD_STATUS_busy = 1 ∧ t.fstate w.val f.val = fStopped)

/-- R182: what one trigger does to a flow: an IDLE or WAITING flow becomes RUNNABLE (the run of a WAITING flow goes on); a
RUNNABLE or RUNNING flow remembers it as pending; a flow that is FREE, STOPPED or HALTED takes no notice. -/
def Triggered (s t : State) (w f : Nat) : Prop :=
  let st := s.fstate w f
  let pend (u : State) : Nat := u.fl (R.FD_CTRL w f) F.FD_CTRL_pending
  (st = fIdle ∨ st = fWaiting → t.fstate w f = fRunnable ∧ (t.flow w f).resume = decide (st = fWaiting) ∧ pend t = pend s) ∧
  (st = fRunnable ∨ st = fRunning → t.fstate w f = st ∧ pend t = 1) ∧
  (st = fFree ∨ st = fStopped ∨ st = fHalted → t.fstate w f = st ∧ pend t = pend s)

/-- R182, R204: WAKE and a doorbell write complete. WAKE triggers its flow; a trigger of a RUNNABLE or RUNNING flow that has one
pending already is an overrun, which is counted and recorded. A doorbell write triggers, once each, the flows whose wake
source is a doorbell whose bit it holds, and no other flow changes its state. -/
def Obligations.TriggersActByFlowState : Prop :=
  ∀ (s : State) (m : Mid) (w : Wall),
    let pend (u : State) (f : FlowIx) : Nat := u.fl (R.FD_CTRL w.val f.val) F.FD_CTRL_pending
    (∀ f : FlowIx, DispReady s m w → s.flowLease w.val m.toNat f.val = true →
      ∃ t, exec (.wake m w f) s = .next t ∧ Answered t m (R.DISP_CMD w.val) 0 ∧ t.sram = s.sram ∧ t.gddr = s.gddr ∧
        Triggered s t w.val f.val ∧
        (s.fstate w.val f.val = fRunnable ∨ s.fstate w.val f.val = fRunning → pend s f = 1 →
          t.rd (R.DISP_OVERRUN_COUNT w.val) = satInc (s.rd (R.DISP_OVERRUN_COUNT w.val)) ∧
          t.fl (R.DISP_EVENT w.val) F.DISP_EVENT_overrun = 1)) ∧
    (∀ v : Word, Allowed s m (R.DISP_DOORBELL w.val) true →
      ∃ t, exec (.dispDoorbell m w v) s = .next t ∧ Answered t m (R.DISP_DOORBELL w.val) 0 ∧ t.sram = s.sram ∧ t.gddr = s.gddr ∧
        ∀ f : FlowIx,
          let rung := s.fl (R.FD_WAKE w.val f.val) F.FD_WAKE_kind = 4 ∧ s.fl (R.FD_WAKE w.val f.val) F.FD_WAKE_index < 32 ∧
            v.getLsbD (s.fl (R.FD_WAKE w.val f.val) F.FD_WAKE_index) = true
          (rung → Triggered s t w.val f.val) ∧ (¬ rung → t.fstate w.val f.val = s.fstate w.val f.val ∧ pend t f = pend s f))

/-- R186, R187, R218: DESCRIPTOR_WRITE completes. Without a lease of the flow it ends in ACCESS_DENIED, and of a FREE flow only
FD_BIND is written (BAD_ARGUMENT else). FD_TGT_LO, FD_TGT_HI and FD_IDX are written only while `mode` is 0b00 or the flow
is STOPPED; `fixed` and `fastb` change only while it is STOPPED, `course` and `tiles` only while it is FREE, `first_slot`
while it is FREE or STOPPED: else RESOURCE_BUSY. A write of FD_SCHED is FD_SCHED_WRITE. -/
def Rule.TargetWritesNeedADisarmedSchedule : Prop :=
  ∀ (s : State) (m : Mid) (w : Wall) (f : FlowIx) (r : Fin 8) (v : Word),
    let a := R.FD_CTRL w.val f.val + 4 * r.val
    let st := s.fstate w.val f.val
    let lease := s.flowLease w.val m.toNat f.val = true
    let keeps (x : Fld) : Prop := fld v x = s.fl a x
    let free := (r.val = 0 → st = fStopped ∨ (keeps F.FD_CTRL_fixed ∧ keeps F.FD_CTRL_fastb)) ∧
      (r.val = 1 → st = fFree ∨ (keeps F.FD_BIND_course ∧ keeps F.FD_BIND_tiles ∧ (st = fStopped ∨ keeps F.FD_BIND_first_slot))) ∧
      (4 ≤ r.val → r.val ≤ 6 → s.fl (R.FD_SCHED w.val f.val) F.FD_SCHED_mode = 0 ∨ st = fStopped)
    Allowed s m a true →
    (r.val = 2 → exec (.descriptorWrite m w f r v) s = exec (.fdSchedWrite m w f v) s) ∧
    (r.val ≠ 2 →
      ∃ t, exec (.descriptorWrite m w f r v) s = .next t ∧ MemAndTilesKept s t ∧
        (lease → (st ≠ fFree ∨ r.val = 1) → free →
          Answered t m a 0 ∧ RegsKeptBut s t [a] ∧ ∃ d, regDef a = some d ∧ FieldsWritten d (s.rd a) (t.rd a) v) ∧
        (lease → (st ≠ fFree ∨ r.val = 1) → ¬ free → Answered t m a stBusy ∧ t.rd a = s.rd a) ∧
        (lease → st = fFree → r.val ≠ 1 → Answered t m a stBadArg ∧ t.rd a = s.rd a) ∧
        (¬ lease → Answered t m a stAccessDenied ∧ t.rd a = s.rd a))

/-- R186, R187, R197, R198: FD_SCHED_WRITE completes: with mode 0 it disarms the schedule; with mode 1 (one shot) it arms the
target that FD_TGT holds, and with mode 2 (periodic) the target of the index that the registers then hold, passed or not
as the base stands; mode 3, and a periodic schedule with a division of 0, complete with BAD_ARGUMENT and change nothing. -/
def Rule.SchedWriteArmsTheTarget : Prop :=
  ∀ (s : State) (m : Mid) (w : Wall) (f : FlowIx) (v : Word),
    let a := R.FD_SCHED w.val f.val
    let mode := fld v F.FD_SCHED_mode
    let base := (s.base w.val (fld v F.FD_SCHED_ang)).v
    let lo (u : State) : Nat := (u.rd (R.FD_TGT_LO w.val f.val)).toNat
    let hi (u : State) : Nat := (u.rd (R.FD_TGT_HI w.val f.val)).toNat
    let k (u : State) : Nat := u.fl (R.FD_IDX w.val f.val) F.FD_IDX_k
    let arms (t : State) (target : W64) : Prop := Answered t m a 0 ∧ t.fl a F.FD_SCHED_mode = mode ∧
      (t.flow w.val f.val).armed = some target ∧ (t.flow w.val f.val).near = false ∧
      (t.flow w.val f.val).passed = decide (base - target < 9223372036854775808)
    Allowed s m a true → s.flowLease w.val m.toNat f.val = true → s.fstate w.val f.val ≠ fFree →
    ∃ t, exec (.fdSchedWrite m w f v) s = .next t ∧ t.sram = s.sram ∧ t.gddr = s.gddr ∧
      (mode = 3 ∨ (mode = 2 ∧ fld v F.FD_SCHED_div = 0) → Answered t m a stBadArg ∧ t.flow w.val f.val = s.flow w.val f.val) ∧
      (mode = 0 → Answered t m a 0 ∧ t.fl a F.FD_SCHED_mode = 0 ∧ (t.flow w.val f.val).armed = none) ∧
      (mode = 1 → arms t (BitVec.ofNat 64 (lo s + hi s * 4294967296))) ∧
      (mode = 2 → fld v F.FD_SCHED_div ≠ 0 →
        arms t (BitVec.ofNat 64 (hi t * 4294967296 + k t * 4294967296 / fld v F.FD_SCHED_div + lo s)) ∧
        (fld v F.FD_SCHED_skip = 0 → hi t = hi s ∧ k t = k s))

/-- R222, word for word: a write of HOD_CFG while a flow of the wall is not FREE has no effect and completes with
RESOURCE_BUSY; while every flow is FREE it rebuilds the free list from the new range. The list's links stand in the first
two bytes of the areas' headers (R168, R215); no other byte of memory changes. -/
def Obligations.HodCfgWriteNeedsFreeFlows : Prop :=
  ∀ (s : State) (m : Mid) (w : Wall) (v : Word),
    let a := R.HOD_CFG w.val
    let first := fld v F.HOD_CFG_first
    let last := fld v F.HOD_CFG_last
    Allowed s m a true →
    ∃ t, exec (.hodCfgWrite m w v) s = .next t ∧ t.gddr = s.gddr ∧ t.tiles = s.tiles ∧ t.flows = s.flows ∧
      ((∃ f, f < 512 ∧ s.fstate w.val f ≠ fFree) →
        Answered t m a stBusy ∧ t.rd a = s.rd a ∧ t.walls = s.walls ∧ t.sram = s.sram) ∧
      ((∀ f, f < 512 → s.fstate w.val f = fFree) → Answered t m a 0 ∧ (t.wall w.val).free = [] ∧
        (t.wall w.val).freeLo = first ∧ (t.wall w.val).freeEnd = last + 1 ∧
        (∀ i, first ≤ i → i ≤ last →
          t.sramBytes w.val 2 (areaOff i) 2 = leBytes 2 (if i = last then 0xFFFF else i + 1)) ∧
        (∀ k, (∀ i, first ≤ i → i ≤ last → k ≠ sramKey w.val 2 (areaOff i) ∧ k ≠ sramKey w.val 2 (areaOff i) + 1) →
          memByte t.sram k = memByte s.sram k))

/-- R205, R217, R219: FW_CTRL and LS_CTRL writes complete. FW_CTRL whose `en` rises zeroes the window's count. LS_CTRL makes a
lease valid when no valid lease of the wall grants a common item, and ends in RESOURCE_BUSY when one does, or when the
lease is valid with another holder; it clears `valid` (the holder stays) while no flow of the lease is in use and no
capture of its holder is being read, and ends in RESOURCE_BUSY else; of a lease that is not valid it writes the holder. -/
def Rule.WindowsAndLeases : Prop :=
  ∀ (s : State) (m : Mid) (w : Wall) (v : Word),
    (∀ n : Fin 64, Allowed s m (R.FW_CTRL w.val n.val) true →
      ∃ t, exec (.fwCtrlWrite m w n v) s = .next t ∧ Answered t m (R.FW_CTRL w.val n.val) 0 ∧ MemAndTilesKept s t ∧
        t.fl (R.FW_CTRL w.val n.val) F.FW_CTRL_en = fld v F.FW_CTRL_en ∧
        t.fl (R.FW_COUNT w.val n.val) F.FW_COUNT_count =
          (if s.fl (R.FW_CTRL w.val n.val) F.FW_CTRL_en = 0 ∧ fld v F.FW_CTRL_en = 1 then 0
           else s.fl (R.FW_COUNT w.val n.val) F.FW_COUNT_count)) ∧
    (∀ l : Fin 16,
      let a := R.LS_CTRL w.val l.val
      let holder (u : State) : Nat := u.fl a F.LS_CTRL_holder
      let valid (u : State) : Nat := u.fl a F.LS_CTRL_valid
      let r := s.rd (R.LS_FLOWS w.val l.val)
      let clash := ∃ k, k < 16 ∧ k ≠ l.val ∧ s.fl (R.LS_CTRL w.val k) F.LS_CTRL_valid = 1 ∧ s.leaseOverlap w.val l.val k = true
      let used := (∃ f, f < 512 ∧ fld r F.LS_FLOWS_first ≤ f ∧ f < fld r F.LS_FLOWS_first + fld r F.LS_FLOWS_count ∧ s.fstate w.val f ≠ fFree) ∨
        (s.fl (R.CAP_STATUS w.val) F.CAP_STATUS_state = 3 ∧ (s.wall w.val).cap.owner.toNat = holder s)
      let sets := fld v F.LS_CTRL_valid = 1
      Allowed s m a true →
      ∃ t, exec (.lsCtrlWrite m w l v) s = .next t ∧ MemAndTilesKept s t ∧
        (sets → valid s = 0 → clash → Answered t m a stBusy ∧ t.rd a = s.rd a) ∧
        (sets → valid s = 0 → ¬ clash → Answered t m a 0 ∧ valid t = 1 ∧ holder t = fld v F.LS_CTRL_holder) ∧
        (sets → valid s = 1 → t.rd a = s.rd a ∧ Answered t m a (if fld v F.LS_CTRL_holder = holder s then 0 else stBusy)) ∧
        (¬ sets → valid s = 1 → used → Answered t m a stBusy ∧ t.rd a = s.rd a) ∧
        (¬ sets → valid s = 1 → ¬ used → Answered t m a 0 ∧ valid t = 0 ∧ holder t = holder s) ∧
        (¬ sets → valid s = 0 → Answered t m a 0 ∧ valid t = 0 ∧ holder t = fld v F.LS_CTRL_holder))

/-- R197 to R200: SCHEDULE_MATCH of a near comparator's target that its base has reached, or of one that had been passed, and
TARGET_SWEEP for the eight flows whose turn it is, complete: the flow is triggered, a one-shot schedule is disarmed, and a
periodic one is armed with its next target. The sweep moves on by eight flows. -/
def Rule.TargetsMatchOnce : Prop :=
  ∀ (s : State) (w : Wall) (f : FlowIx), OnWall s w → (s.wall w.val).gsr = false → s.schedDue w.val f.val = true →
    let mode (u : State) : Nat := u.fl (R.FD_SCHED w.val f.val) F.FD_SCHED_mode
    let hi (u : State) : Word := u.rd (R.FD_TGT_HI w.val f.val)
    let k (u : State) : Nat := u.fl (R.FD_IDX w.val f.val) F.FD_IDX_k
    let n := s.fl (R.FD_SCHED w.val f.val) F.FD_SCHED_div
    let after (t : State) : Prop := Triggered s t w.val f.val ∧
      (mode s ≠ 2 → (t.flow w.val f.val).armed = none ∧ mode t = 0) ∧
      (mode s = 2 → mode t = 2 ∧ (t.flow w.val f.val).armed = some (t.flowTarget w.val f.val) ∧
        (s.fl (R.FD_SCHED w.val f.val) F.FD_SCHED_skip = 0 →
          if k s + 1 < n then k t = k s + 1 ∧ hi t = hi s else k t = 0 ∧ hi t = hi s + 1))
    ((s.flow w.val f.val).near = true ∨ (s.flow w.val f.val).passed = true → ∃ t, exec (.scheduleMatch w f) s = .next t ∧ after t) ∧
    ((s.flow w.val f.val).near = false → f.val / 8 = (s.wall w.val).sweepPos →
      ∃ t, exec (.targetSweep w) s = .next t ∧ after t ∧ (t.wall w.val).sweepPos = ((s.wall w.val).sweepPos + 1) % 64)

/-- R199, R200, R202, R251, R252: PRESTAGE completes: it gives the target of a base that predicts, when it is due and among
the eight next to be pre-staged, a near comparator when one is free, and pre-stages the flow; the target of a base that
does not predict gets the comparator alone; with none free `near_full` is recorded. PRESTAGE_WITHDRAW, once the predicted
match is beyond four times the lead, takes the comparator, the pre-stage and the protection back. Neither changes the
flow's state. -/
def Rule.PrestageAdmitsAndWithdraws : Prop :=
  ∀ (s : State) (w : Wall) (f : FlowIx), OnWall s w →
    let x := s.flow w.val f.val
    let pred := s.basePred w.val (s.schedAng w.val f.val)
    let turn := (s.wall w.val).gsr = false ∧ x.armed ≠ none ∧ 2 ≤ s.fstate w.val f.val ∧ s.fstate w.val f.val ≤ 5 ∧
      (x.near = false → s.admittedBefore w.val f.val = false)
    (turn → x.near = true ∨ s.nearCount w.val < 64 → pred = true → s.due w.val f.val = true → s.tested w.val f.val = true →
      (x.near = true → x.prestaged = false) →
      ∃ t, exec (.prestage w f) s = .next t ∧ (t.flow w.val f.val).near = true ∧ (t.flow w.val f.val).prestaged = true ∧
        t.fstate w.val f.val = s.fstate w.val f.val ∧ t.sram = s.sram) ∧
    (turn → x.near = false → s.nearCount w.val < 64 → pred = false →
      ∃ t, exec (.prestage w f) s = .next t ∧ (t.flow w.val f.val).near = true ∧ (t.flow w.val f.val).prestaged = x.prestaged ∧
        t.fstate w.val f.val = s.fstate w.val f.val ∧ t.sram = s.sram ∧ t.tiles = s.tiles) ∧
    (turn → x.near = false → 64 ≤ s.nearCount w.val → (pred = true → s.due w.val f.val = true ∧ s.tested w.val f.val = true) →
      ∃ t, exec (.prestage w f) s = .next t ∧ t.fl (R.DISP_EVENT w.val) F.DISP_EVENT_near_full = 1 ∧ t.flows = s.flows ∧ t.tiles = s.tiles) ∧
    (∀ n, x.prestaged = true → s.predicted w.val f.val = some n → 4 * s.lead w.val < n →
      ∃ t, exec (.prestageWithdraw w f) s = .next t ∧ (t.flow w.val f.val).near = false ∧
        (t.flow w.val f.val).prestaged = false ∧ (t.flow w.val f.val).prot = false ∧ t.regs = s.regs ∧ t.sram = s.sram)

/-- R193, R194, R206: FLOW_START of a RUNNABLE flow that is resident on every tile of its set, where each tile grants it, and
FAST_ENTRY of one that is bound to the fast bank, where no tile is in it, complete: the flow is RUNNING and each tile has its
bank; the fast entry keeps the interrupted one. A run that does not resume starts at `entry_pc`. -/
def Rule.StartsGrantTheTiles : Prop :=
  ∀ (s : State) (w : Wall) (f : FlowIx), OnWall s w → (s.wall w.val).gsr = false → s.fstate w.val f.val = fRunnable →
    s.residentAll w.val f.val = true →
    let ts := s.tileSet w.val f.val
    let begun (t : State) (i : Nat) (b : Bank) : Prop := (s.tile w.val i).bankOf f.val = some b ∧ (t.tile w.val i).cur = some b ∧
      ((s.flow w.val f.val).resume = false → (t.ctx w.val i b).pc = s.entryPc w.val f.val)
    (s.fastFlow w.val f.val = false → (∀ t ∈ ts, s.tileGrants w.val f.val t = true) →
      ∃ t, exec (.flowStart w f) s = .next t ∧ t.fstate w.val f.val = fRunning ∧ ∀ i ∈ ts, ∃ b, begun t i b) ∧
    (s.fastFlow w.val f.val = true → (∀ i ∈ ts, (s.tile w.val i).cur ≠ some .fast ∧ s.startFree w.val i = true) →
      ∃ t, exec (.fastEntry w f) s = .next t ∧ t.fstate w.val f.val = fRunning ∧
        ∀ i ∈ ts, begun t i .fast ∧ (t.tile w.val i).interrupted = (s.tile w.val i).cur)

/-- The tile's hod channel runs operation `o`, on behalf of one of the wall's 512 flows, which has not been destroyed. -/
abbrev HodRuns (s : State) (x : TileRef) (o : HodOp) : Prop :=
  OnWall s x.w ∧ (tileOf s x).chan = some o ∧ o.flow < 512 ∧ o.dead = false

/-- R210, R212: HOD_OP_START on an idle channel completes: the waiting operation of the lowest class starts, the others wait on;
a restore takes a free bank. Where a restore waits for a bank, a make-cold that frees one comes first: one that waits
already, or that of the victim. -/
def Rule.HodStartsByClass : Prop :=
  ∀ (s : State) (x : TileRef), OnWall s x.w → (tileOf s x).chan = none → s.inTest x.w.val 2 = false →
    let w := x.w.val
    let q := (tileOf s x).chanq
    let blocked := ∃ p ∈ q, p.kind = .restore ∧ s.fastFlow w p.flow = false ∧ s.freeBank w x.t.val p.flow = none
    (¬ blocked → (∃ p ∈ q, s.canStart w x.t.val p = true) →
      ∃ t o, exec (.hodOpStart x) s = .next t ∧ o ∈ q ∧ s.canStart w x.t.val o = true ∧
        (∀ p ∈ q, s.canStart w x.t.val p = true → o.cls ≤ p.cls) ∧ (tileOf t x).chanq.length + 1 = q.length ∧ t.sram = s.sram ∧
        (o.kind ≠ .restore → (tileOf t x).chan = some o ∧ t.regs = s.regs) ∧
        (o.kind = .restore → ∃ b, s.freeBank w x.t.val o.flow = some b ∧ (tileOf t x).chan = some { o with bank := b } ∧
          ctxOf t x b = { flow := some o.flow, moving := true })) ∧
    (blocked → (∃ p ∈ q, p.kind = .makeCold) ∨ (∃ v, s.victim w x.t.val = some v ∧ x.t.val ∈ s.tileSet w v) →
      ∃ t o, exec (.hodOpStart x) s = .next t ∧ (tileOf t x).chan = some o ∧ o.cls ≤ 1 ∧ t.sram = s.sram)

/-- R209, R214, R215: HOD_RESTORE_DONE, MAKE_COLD_DONE and AREA_HOUSEKEEPING_DONE complete, and the channel is idle. A restore
whose areas read without error leaves the bank holding the flow, and one that finds a loop stack deeper than 4 halts it with
CONTEXT_LOST; a make-cold leaves the bank free; housekeeping returns its areas to the free list; each is counted. -/
def Rule.RestoreAndMakeColdComplete : Prop :=
  ∀ (s : State) (x : TileRef) (o : HodOp), HodRuns s x o →
    let w := x.w.val
    let deep := 4 < controlDepth (s.areaWords w (s.homeLower w o.flow x.t.val) 0x90 48)
    (o.kind = .restore → s.sramErr = [] → ¬ deep →
      ∃ t, exec (.hodRestoreDone x) s = .next t ∧ (tileOf t x).chan = none ∧ (ctxOf t x o.bank).flow = some o.flow ∧
        (ctxOf t x o.bank).moving = false ∧ (ctxOf t x o.bank).wix = 0 ∧ t.sram = s.sram ∧
        t.rd (R.HOD_RESTORE_COUNT w) = satInc (s.rd (R.HOD_RESTORE_COUNT w))) ∧
    (o.kind = .restore → s.sramErr = [] → deep →
      ∃ t, exec (.hodRestoreDone x) s = .next t ∧ t.fstate w o.flow = fHalted ∧ (ctxOf t x o.bank).flow = none ∧
        t.fl (R.HOD_EVENT w) F.HOD_EVENT_lost = 1) ∧
    (o.kind = .makeCold →
      ∃ t, exec (.makeColdDone x) s = .next t ∧ (tileOf t x).chan = none ∧ ctxOf t x o.bank = {} ∧
        (tileOf t x).fpown ≠ some o.flow ∧
        t.rd (R.HOD_SAVE_COUNT w) = satInc (s.rd (R.HOD_SAVE_COUNT w)) ∧
        t.rd (R.HOD_EVICT_COUNT w) = (if o.evict then satInc (s.rd (R.HOD_EVICT_COUNT w)) else s.rd (R.HOD_EVICT_COUNT w))) ∧
    (o.kind = .areas →
      ∃ t, exec (.areaHousekeepingDone x) s = .next t ∧ (tileOf t x).chan = none ∧
        (t.wall w).free = o.ret.reverse ++ (s.wall w).free ∧ (s.sramErr = [] → t.regs = s.regs))

/-- R131, R132, R157, R172 to R174: WINDOW_SPILL_DONE, WINDOW_FILL_DONE, BLOCK_SAVE_DONE, BLOCK_RESTORE_DONE and FP_SWAP_DONE
complete. A window spill opens the window that its SAVEW or CALLW waits for, a window fill closes the one that its RESTW or
RETW leaves (each counted); a block save pushes an area of the free list on the save stack and a block restore pops the
head, returning its area; a swap gives the fp32 registers to the waiting flow. The waiting instruction then issues. -/
def Rule.WindowAndBlockOperationsComplete : Prop :=
  ∀ (s : State) (x : TileRef) (o : HodOp), HodRuns s x o →
    let w := x.w.val
    let c := ctxOf s x o.bank
    (o.kind = .spill → o.bank ≠ .fast → s.spillCount w c < 7 ∨ (s.wall w).freeHead ≠ none →
      ∃ t, exec (.windowSpillDone x) s = .next t ∧ (tileOf t x).chan = none ∧ (ctxOf t x o.bank).depth = c.depth + 1 ∧
        (ctxOf t x o.bank).wix = c.wix + 1 ∧ (ctxOf t x o.bank).spilled = c.spilled + 1 ∧ (ctxOf t x o.bank).wres = c.wres ∧
        (ctxOf t x o.bank).pend = .none ∧ t.rd (R.WIN_SPILL_COUNT w x.t.val) = satInc (s.rd (R.WIN_SPILL_COUNT w x.t.val))) ∧
    (o.kind = .fill → o.bank ≠ .fast → s.sramErr = [] →
      ∃ t, exec (.windowFillDone x) s = .next t ∧ (tileOf t x).chan = none ∧ (ctxOf t x o.bank).depth = c.depth - 1 ∧
        (ctxOf t x o.bank).wix = c.wix - 1 ∧ (ctxOf t x o.bank).spilled = c.spilled - 1 ∧ (ctxOf t x o.bank).pend = .none ∧
        t.rd (R.WIN_FILL_COUNT w x.t.val) = satInc (s.rd (R.WIN_FILL_COUNT w x.t.val))) ∧
    (∀ a, o.kind = .savel ∨ o.kind = .saveu → (s.wall w).freeHead = some a →
      ∃ t, exec (.blockSaveDone x) s = .next t ∧ (tileOf t x).chan = none ∧ (ctxOf t x o.bank).saveHead = BitVec.ofNat 16 a ∧
        (ctxOf t x o.bank).saveDepth = c.saveDepth + 1 ∧ (ctxOf t x o.bank).gen = c.gen ∧
        (t.wall w).freeCount + 1 = (s.wall w).freeCount) ∧
    (s.sramErr = [] → o.kind = .loadu ∨
        (o.kind = .loadl ∧ controlDepth ((s.areaWords w c.saveHead.toNat 0x10 96).drop 32) ≤ 4) →
      ∃ t, exec (.blockRestoreDone x) s = .next t ∧ (tileOf t x).chan = none ∧ (ctxOf t x o.bank).saveDepth = c.saveDepth - 1 ∧
        (t.wall w).freeHead = some c.saveHead.toNat ∧
        (o.kind = .loadu → (ctxOf t x o.bank).gen = c.gen ∧ StepsOn c (ctxOf t x o.bank))) ∧
    (o.kind = .fpSwap → s.sramErr = [] →
      ∃ t, exec (.fpSwapDone x) s = .next t ∧ (tileOf t x).chan = none ∧ (tileOf t x).fpown = some o.flow ∧
        (ctxOf t x o.bank).pend = .none ∧ t.rd (R.FP_SWAP_COUNT w x.t.val) = satInc (s.rd (R.FP_SWAP_COUNT w x.t.val)))

/-- R214, R330: a restore, a window fill, a block restore or an fp32 swap that reads an uncorrectable word of its save area
halts the flow with CONTEXT_LOST. -/
def Rule.UncorrectableAreasLoseTheContext : Prop :=
  ∀ (s : State) (x : TileRef) (o : HodOp), HodRuns s x o →
    let w := x.w.val
    let c := ctxOf s x o.bank
    let bad (i off n : Nat) : Prop := (s.areaRead w i off n).2 = true
    let lost (t : State) : Prop := t.fstate w o.flow = fHalted ∧ t.fl (R.HOD_EVENT w) F.HOD_EVENT_lost = 1
    (o.kind = .restore → bad (s.homeLower w o.flow x.t.val) 0 0x150 → ∃ t, exec (.hodRestoreDone x) s = .next t ∧ lost t) ∧
    (o.kind = .fill → bad c.spillHead.toNat (16 + 64 * (nbits (s.areaWord w c.spillHead.toNat 0).toNat 24 8 - 1)) 64 →
      ∃ t, exec (.windowFillDone x) s = .next t ∧ lost t) ∧
    (o.kind = .loadl → bad c.saveHead.toNat 0 0x150 → ∃ t, exec (.blockRestoreDone x) s = .next t ∧ lost t) ∧
    (o.kind = .loadu → bad c.saveHead.toNat 0 0x1F0 → ∃ t, exec (.blockRestoreDone x) s = .next t ∧ lost t) ∧
    (o.kind = .fpSwap → (tileOf s x).fpown = none → bad (s.homeUpper w o.flow x.t.val) 0x190 68 →
      ∃ t, exec (.fpSwapDone x) s = .next t ∧ lost t)

/-! ## Angle bases, compare units, tick copies and event records (06_angle_and_order) -/

/-- Base `n` of a wall runs from source `src`, and its pins' bank is live. -/
abbrev BaseRuns (s : State) (w : Wall) (n : Fin 4) (src : Nat) : Prop :=
  OnWall s w ∧ (s.wall w.val).gsr = false ∧ s.vioLive w.val = true ∧ s.angSrc w.val n.val = src

/-- R228 to R232, R236: ENCODER_EDGE, INDEX_EDGE, LINE_TRIGGER_EDGE and MAINS_EDGE complete, each with what it does to the base's
edge angle. A quadrature step forward (by `dir`) moves it to the next boundary, one back to the boundary below, an illegal
step counts an error and moves nothing; an index edge off the revolution boundary, in forward motion, counts an error and,
with `zfix`, moves the edge angle to the nearest revolution; a line-trigger or mains edge moves it to the next boundary,
after a loss to the one nearest to V; a mains edge outside the window is counted and moves nothing. -/
def Rule.ReferenceEdgesMoveTheEdgeAngle : Prop :=
  ∀ (s : State) (w : Wall) (n : Fin 4),
    let edge (t : State) : W64 := (t.base w.val n.val).edge
    let count (t : State) : Word := t.rd (R.ANG_ERR_COUNT w.val n.val)
    let x := s.base w.val n.val
    let boundary (edges f : Nat) : W64 :=
      if s.angIs w.val n.val F.ANG_STATUS_lor then nearBoundary edges f x.v else nextBoundary edges f x.edge
    (∀ a b : Bool, BaseRuns s w n 1 →
      let d := if s.fl (R.ANG_CFG w.val n.val) F.ANG_CFG_dir = 1 then (quadPhase b a + 4 - quadPhase x.bLast x.aLast) % 4
        else (quadPhase a b + 4 - quadPhase x.aLast x.bLast) % 4
      ∃ t, exec (.encoderEdge w n a b) s = .next t ∧ (t.base w.val n.val).aLast = a ∧ (t.base w.val n.val).bLast = b ∧
        (d = 0 → edge t = x.edge ∧ (t.base w.val n.val).v = x.v ∧ count t = count s) ∧
        (d = 1 → edge t = nextBoundary (s.angEdges w.val n.val) 0 x.edge ∧ t.angIs w.val n.val F.ANG_STATUS_rev = false ∧ count t = count s) ∧
        (d = 3 → edge t = belowBoundary (s.angEdges w.val n.val) 0 (x.edge - 1) ∧ t.angIs w.val n.val F.ANG_STATUS_rev = true ∧ count t = count s) ∧
        (d = 2 → edge t = x.edge ∧ (t.base w.val n.val).v = x.v ∧ count t = satInc (count s) ∧ t.angIs w.val n.val F.ANG_STATUS_encerr = true)) ∧
    (BaseRuns s w n 1 →
      let on := s.angIs w.val n.val F.ANG_STATUS_rev = true ∨ x.edge.toNat % 4294967296 = 0
      ∃ t, exec (.indexEdge w n) s = .next t ∧
        (on → edge t = x.edge ∧ count t = count s) ∧
        (¬ on → count t = satInc (count s) ∧ t.angIs w.val n.val F.ANG_STATUS_zerr = true ∧
          edge t = (if s.fl (R.ANG_CFG w.val n.val) F.ANG_CFG_zfix = 1 then nearBoundary 1 0 x.edge else x.edge))) ∧
    (BaseRuns s w n 2 →
      ∃ t, exec (.lineTriggerEdge w n) s = .next t ∧ edge t = boundary (s.angEdges w.val n.val) 0 ∧ count t = count s) ∧
    (∀ neg : Bool, BaseRuns s w n 3 →
      let used := neg = false ∨ s.fl (R.ANG_CFG w.val n.val) F.ANG_CFG_both = 1
      ∃ t, exec (.mainsEdge w n neg) s = .next t ∧
        (¬ used → edge t = x.edge ∧ count t = count s) ∧
        (used → s.inMainsWindow w.val n.val neg = true → edge t = boundary 1 (if neg then 2147483648 else 0) ∧ count t = count s) ∧
        (used → s.inMainsWindow w.val n.val neg = false → edge t = x.edge ∧ count t = satInc (count s) ∧
          t.angIs w.val n.val F.ANG_STATUS_rej = true))

/-- R233, R235, R239, R240, R257, R258: ANGLE_ADVANCE and ANGLE_SHARE_REPORT complete. Between edges a base advances by its
velocity times the ticks passed, an edge-driven base not to its next boundary, an importing base from its last report; a fed
base moves by its slew too, and under the monotonic rule it holds a position that lies ahead, keeping the shortfall. A shared
report sets an importing base to its exporter's angle, brought to the present tick, and velocity. (Edge-driven and importing
bases without the monotonic rule here.) -/
def Rule.BasesAdvanceByTheirVelocity : Prop :=
  ∀ (s : State) (w : Wall) (n : Fin 4), OnWall s w → (s.wall w.val).gsr = false →
    let x := s.base w.val n.val
    let now := s.wtick w.val
    let mono := s.fl (R.ANG_CFG w.val n.val) F.ANG_CFG_mono = 1
    let moved : BitVec 80 := x.pos - BitVec.ofNat 80 x.short + BitVec.ofInt 80 (x.vel.toInt * ((now - x.lastTick : Nat) : Int))
    let limit : BitVec 80 := (nextBoundary (s.angEdges w.val n.val) 0 x.edge - 1) ++ (0 : BitVec 16)
    let ends (t : State) (p : BitVec 80) : Prop := (t.base w.val n.val).pos = p ∧ (t.base w.val n.val).lastTick = now ∧
      (t.base w.val n.val).vel = x.vel
    (s.angSrc w.val n.val = 4 →
      let part : Int := match x.slew with | some (d, k, i) => slewPart d k i | none => 0
      let target := moved + BitVec.ofInt 80 (part * 65536)
      let holds := mono ∧ (0 < x.vel.toInt ∨ s.angIs w.val n.val F.ANG_STATUS_lor = true) ∧ (target - x.pos).msb = true
      ∃ t, exec (.angleAdvance w n) s = .next t ∧ (¬ holds → ends t target ∧ (t.base w.val n.val).short = 0) ∧
        (holds → ends t x.pos ∧ (t.base w.val n.val).short = (x.pos - target).toNat)) ∧
    (1 ≤ s.angSrc w.val n.val → s.angSrc w.val n.val ≤ 3 → ¬ mono → x.slew = none → s.angIs w.val n.val F.ANG_STATUS_lor = false →
      ∃ t, exec (.angleAdvance w n) s = .next t ∧
        ends t (if x.vel.toInt ≤ 0 then x.pos - BitVec.ofNat 80 x.short else if (limit - moved).msb then limit else moved)) ∧
    (s.angSrc w.val n.val = 5 → ¬ mono →
      ∃ t, exec (.angleAdvance w n) s = .next t ∧ ends t (x.rep + BitVec.ofInt 80 (x.vel.toInt * ((now - x.repTick : Nat) : Int)))) ∧
    (let e := s.rd (R.ASH_SRC w.val n.val)
     let u := fld e F.ASH_SRC_wall
     let m := fld e F.ASH_SRC_ang
     let y := s.base u m
     s.angSrc w.val n.val = 5 → ¬ mono → fld e F.ASH_SRC_valid = 1 → s.isReady u = true → s.angSrc u m ≠ 0 →
      ∃ t, exec (.angleShareReport w n) s = .next t ∧
        (t.base w.val n.val).pos = y.pos + BitVec.ofInt 80 (y.vel.toInt * ((now - y.lastTick : Nat) : Int)) ∧
        (t.base w.val n.val).vel = y.vel ∧ t.angIs w.val n.val F.ANG_STATUS_valid = true ∧ t.angIs w.val n.val F.ANG_STATUS_lor = false)

/-- R238, R571: FEED completes: a feed message that has come to the feed port, of 12 bytes and from a master that the wall's
tables let write, sets a fed base's velocity where it says so, and adds a slew where it says so; for a base that is not fed
it is counted as rejected; a message of another size is refused. -/
def Rule.FeedsSetTheVelocity : Prop :=
  ∀ (s s1 : State) (w : Wall) (p : Packet), OnWall s w → p.isAnswer = false → Reaches s s1 w.val 23 2 p →
    let n := bvf p.addr 0 2
    let w0 := ((wordsOfBytes p.payload).getD 0 0).toNat
    let w1 := ((wordsOfBytes p.payload).getD 1 0).toNat
    let w2 := ((wordsOfBytes p.payload).getD 2 0).toNat
    let allowed := s.tableAllows p.mid.toNat (R.ANG_CFG w.val n) true = true
    ∃ t, exec (.feed w p) s = .next t ∧ t.sram = s.sram ∧
      (p.typ = 3 → p.count = 12 → allowed → s.angSrc w.val n = 4 →
        (nbit w2 12 = true → (t.base w.val n).vel = BitVec.ofNat 32 (w1 % 16777216 + w2 % 256 * 16777216) ∧
          t.angIs w.val n F.ANG_STATUS_valid = true) ∧
        (nbit w2 12 = false → (t.base w.val n).vel = (s.base w.val n).vel) ∧
        (nbit w2 13 = true → (t.base w.val n).slew = some (sInt 24 w0 * 256 + slewRest (s.base w.val n).slew, nbits w2 8 4, 0)) ∧
        (nbit w2 13 = false → (t.base w.val n).slew = (s.base w.val n).slew)) ∧
      (p.typ = 3 → p.count = 12 → allowed → s.angSrc w.val n ≠ 4 →
        t.rd (R.ANG_ERR_COUNT w.val n) = satInc (s.rd (R.ANG_ERR_COUNT w.val n)) ∧
        t.angIs w.val n F.ANG_STATUS_rej = true ∧ (t.base w.val n).vel = (s.base w.val n).vel) ∧
      (p.typ ≠ 3 ∨ p.count ≠ 12 ∨ ¬ allowed → t.rd (R.BOND_NACK_COUNT w.val) = satInc (s.rd (R.BOND_NACK_COUNT w.val)) ∧
        t.base w.val n = s.base w.val n)

/-- R237, R241: a reference lost for ANG_LOSS.`limit` sets `lor` and raises ANGLE_LOR; with `lor_act` 0 the base holds, with
`lor_act` 1 it coasts at its velocity. An encoder without edges for as long stands still at velocity 0. -/
def Rule.LossHoldsOrCoasts : Prop :=
  ∀ (s : State) (w : Wall) (n : Fin 4), OnWall s w → (s.wall w.val).gsr = false → s.lossDue w.val n.val = true →
    (2 ≤ s.angSrc w.val n.val → s.angIs w.val n.val F.ANG_STATUS_lor = false →
      ∃ t, exec (.refLoss w n) s = .next t ∧ t.angIs w.val n.val F.ANG_STATUS_lor = true ∧ WallRaised s t w.val 9 1 ∧
        (t.base w.val n.val).v = (s.base w.val n.val).v ∧
        (s.fl (R.ANG_CFG w.val n.val) F.ANG_CFG_lor_act = 0 → (t.base w.val n.val).vel = 0 ∧ t.angIs w.val n.val F.ANG_STATUS_valid = false) ∧
        (s.fl (R.ANG_CFG w.val n.val) F.ANG_CFG_lor_act = 1 → (t.base w.val n.val).vel = (s.base w.val n.val).vel)) ∧
    (s.angSrc w.val n.val = 1 → s.angIs w.val n.val F.ANG_STATUS_still = false →
      ∃ t, exec (.standstill w n) s = .next t ∧ t.angIs w.val n.val F.ANG_STATUS_still = true ∧ (t.base w.val n.val).vel = 0 ∧
        t.angIs w.val n.val F.ANG_STATUS_valid = false ∧ (t.base w.val n.val).v = (s.base w.val n.val).v)

/-- R226, R227, R244, R258: ANG_CFG_WRITE, ANG_PRESET and ASH_SRC_WRITE complete. ANG_CFG takes a source only from off, an edge
source only with its pins in order, and gives it up only with the rest unchanged; a source code above 5 is BAD_ARGUMENT. A
preset sets V from ANG_SET and clears `valid`. ASH_SRC is written only while the base is off, and names a base of another
populated wall that does not import itself. -/
def Rule.AngleRegistersConfigure : Prop :=
  ∀ (s : State) (m : Mid) (w : Wall) (n : Fin 4),
    let cfg := R.ANG_CFG w.val n.val
    let src := s.angSrc w.val n.val
    let fields (v : Word) : Nat := fld v ⟨0, 11⟩
    (∀ v : Word, Allowed s m cfg true →
      let nsrc := fld v F.ANG_CFG_src
      let pins := (s.refPins w.val n.val nsrc).map (s.refPin w.val m.toNat)
      let same := fields v = fields (s.rd cfg)
      let off := fields v = fields (setFld (s.rd cfg) F.ANG_CFG_src 0)
      let scaled := s.fl (R.ANG_SCALE w.val n.val) F.ANG_SCALE_ppr ≠ 0
      ∃ t, exec (.angCfgWrite m w n v) s = .next t ∧ t.sram = s.sram ∧ (t.base w.val n.val).v = (s.base w.val n.val).v ∧
        (6 ≤ nsrc → Answered t m cfg stBadArg ∧ t.rd cfg = s.rd cfg) ∧
        (src = 0 → nsrc = 0 → Answered t m cfg 0 ∧ fields (t.rd cfg) = fields v) ∧
        (src = 0 → nsrc = 4 ∨ nsrc = 5 ∨ (1 ≤ nsrc ∧ nsrc ≤ 3 ∧ scaled ∧ ∀ p ∈ pins, p = 0) →
          Answered t m cfg 0 ∧ fields (t.rd cfg) = fields v ∧ (t.base w.val n.val).vel = 0 ∧ t.angIs w.val n.val F.ANG_STATUS_valid = false) ∧
        (src = 0 → 1 ≤ nsrc → nsrc ≤ 3 → ¬ scaled ∨ stBadArg ∈ pins → Answered t m cfg stBadArg ∧ t.rd cfg = s.rd cfg) ∧
        (src ≠ 0 → nsrc < 6 → same → Answered t m cfg 0 ∧ t.rd cfg = s.rd cfg) ∧
        (src ≠ 0 → nsrc < 6 → ¬ same → off → Answered t m cfg 0 ∧ t.angSrc w.val n.val = 0 ∧ (t.base w.val n.val).vel = 0) ∧
        (src ≠ 0 → nsrc < 6 → ¬ same → ¬ off → Answered t m cfg stBusy ∧ t.rd cfg = s.rd cfg)) ∧
    (Allowed s m (R.ANG_CMD w.val n.val) true →
      ∃ t, exec (.angPreset m w n) s = .next t ∧ Answered t m (R.ANG_CMD w.val n.val) 0 ∧ (t.base w.val n.val).vel = 0 ∧
        t.angIs w.val n.val F.ANG_STATUS_valid = false ∧ (t.base w.val n.val).v =
          BitVec.ofNat 64 ((s.rd (R.ANG_SET_LO w.val n.val)).toNat + (s.rd (R.ANG_SET_HI w.val n.val)).toNat * 4294967296)) ∧
    (∀ v : Word, let a := R.ASH_SRC w.val n.val
      let ok := fld v F.ASH_SRC_valid = 0 ∨ (fld v F.ASH_SRC_wall ≠ w.val ∧ s.populated (fld v F.ASH_SRC_wall) = true ∧
        s.angSrc (fld v F.ASH_SRC_wall) (fld v F.ASH_SRC_ang) ≠ 5)
      Allowed s m a true →
      ∃ t, exec (.ashSrcWrite m w n v) s = .next t ∧ MemAndTilesKept s t ∧
        (src ≠ 0 → Answered t m a stBusy ∧ t.rd a = s.rd a) ∧
        (src = 0 → ¬ ok → Answered t m a stBadArg ∧ t.rd a = s.rd a) ∧
        (src = 0 → ok → Answered t m a 0 ∧ t.fl a F.ASH_SRC_valid = fld v F.ASH_SRC_valid ∧
          t.fl a F.ASH_SRC_wall = fld v F.ASH_SRC_wall ∧ t.fl a F.ASH_SRC_ang = fld v F.ASH_SRC_ang))

/-- R245 to R249: ACU_CTRL_WRITE, ACU_MATCH, ACU_B_MATCH and ACU_TIME_PULSE_END complete. ACU_CTRL is written by its claimant;
enabling arms the A target. A unit whose target is reached, at an edge after the one that armed it, sets, clears or toggles
its pin, or begins a pulse that ACU_B_MATCH, a cycle later at the earliest, or ACU_TIME_PULSE_END ends; then a one-shot unit
stops and a periodic one goes on. -/
def Obligations.CompareUnitsDriveTheirPin : Prop :=
  ∀ (s : State) (w : Wall) (u : Fin 16),
    let a := R.ACU_CTRL w.val u.val
    let x := s.acu w.val u.val
    let pinOf (t : State) : Bool := (t.pin w.val (s.fl a F.ACU_CTRL_pin)).outReg
    let act := s.fl a F.ACU_CTRL_act
    let mode := s.fl a F.ACU_CTRL_mode
    let en (t : State) : Nat := t.fl a F.ACU_CTRL_en
    let ends (t : State) : Prop := (t.acu w.val u.val).waitB = false ∧ (t.acu w.val u.val).pulseEnd = none ∧
      en t = (if mode = 1 then en s else 0)
    (∀ (m : Mid) (v : Word), Allowed s m a true →
      let holds := s.holds (claimAcu w.val u.val) m.toNat = true
      let noDiv := fld v F.ACU_CTRL_mode = 1 ∧ fld v F.ACU_CTRL_div = 0
      ∃ t, exec (.acuCtrlWrite m w u v) s = .next t ∧ t.sram = s.sram ∧ t.gddr = s.gddr ∧
        (¬ holds → Answered t m a stBusy ∧ t.rd a = s.rd a) ∧
        (holds → en s = 1 → fld v F.ACU_CTRL_en = 1 → Answered t m a stBusy ∧ t.rd a = s.rd a) ∧
        (holds → ¬ (en s = 1 ∧ fld v F.ACU_CTRL_en = 1) → noDiv → Answered t m a stBadArg ∧ t.rd a = s.rd a) ∧
        (holds → fld v F.ACU_CTRL_en = 0 → ¬ noDiv → Answered t m a 0 ∧ en t = 0) ∧
        (holds → en s = 0 → fld v F.ACU_CTRL_en = 1 → s.acuEnable m.toNat w.val u.val v = 0 →
          Answered t m a 0 ∧ en t = 1 ∧ (t.acu w.val u.val).waitB = false ∧ (t.acu w.val u.val).at_ = (s.wall w.val).cycle) ∧
        (holds → en s = 0 → fld v F.ACU_CTRL_en = 1 → s.acuEnable m.toNat w.val u.val v ≠ 0 → ¬ noDiv →
          Answered t m a (s.acuEnable m.toNat w.val u.val v) ∧ t.rd a = s.rd a)) ∧
    (OnWall s w → (s.wall w.val).gsr = false →
      (en s = 1 → x.waitB = false → x.pulseEnd = none → x.at_ < (s.wall w.val).cycle →
        reached (s.acuV w.val u.val) (s.acuTarget w.val u.val) = true →
        ∃ t, exec (.acuMatch w u) s = .next t ∧
          t.fl (R.ACU_COUNT w.val u.val) F.ACU_COUNT_fired = (s.fl (R.ACU_COUNT w.val u.val) F.ACU_COUNT_fired + 1) % 65536 ∧
          (act = 0 → pinOf t = true ∧ ends t) ∧ (act = 1 → pinOf t = false ∧ ends t) ∧
          (act = 2 → pinOf t = !(pinOf s) ∧ ends t) ∧
          (act = 3 → pinOf t = true ∧ en t = 1 ∧ (t.acu w.val u.val).waitB = true ∧
            (t.acu w.val u.val).bAt = s.acuTarget w.val u.val + BitVec.ofNat 64 (s.rd (R.ACU_B w.val u.val)).toNat) ∧
          (act = 4 → pinOf t = true ∧ en t = 1 ∧
            (t.acu w.val u.val).pulseEnd = some ((s.wall w.val).cycle + max 1 (s.rd (R.ACU_B w.val u.val)).toNat))) ∧
      (x.waitB = true → x.at_ < (s.wall w.val).cycle → reached (s.acuV w.val u.val) x.bAt = true →
        ∃ t, exec (.acuBMatch w u) s = .next t ∧ pinOf t = false ∧ ends t) ∧
      (∀ e, x.pulseEnd = some e → e ≤ (s.wall w.val).cycle →
        ∃ t, exec (.acuTimePulseEnd w u) s = .next t ∧ pinOf t = false ∧ ends t))

/-- R255, R256: TICK_ALIGN_CHECK and TICK_CORRECTION complete. At a multiple of 65,536 ticks a copy more than one tick off is
marked unaligned, in WTICK_STATUS and in MT_ALIGN, and the hub raises TICK_ALIGN. At a multiple of 1,024 ticks an unaligned
copy, of a wall past its PLL-lock step, that is within a tick of the module tick is aligned again, and another holds or skips
the tick to come; the copy has that tick when the module tick has passed. -/
def Obligations.TickCopiesAreCorrected : Prop :=
  ∀ (s : State) (w : Wall), OnWall s w →
    let e := (s.wall w.val).tickErr
    let al (t : State) : Nat := t.fl (R.WTICK_STATUS w.val) F.WTICK_STATUS_aligned
    (s.tick % 65536 = 0 → 1 < e.natAbs →
      ∃ t, exec (.tickAlignCheck w) s = .next t ∧ al t = 0 ∧ t.fl R.MT_ALIGN ⟨w.val, 1⟩ = 0 ∧ t.fl R.MT_ALIGN ⟨8 + w.val, 1⟩ = 1 ∧
        HubRaised s t 1 0 ∧ t.walls = s.walls) ∧
    (al s = 0 → s.tick % 1024 = 0 → 3 ≤ s.phase w.val →
      ∃ t, exec (.tickCorrection w) s = .next t ∧ (t.wall w.val).tickErr = e ∧ t.tick = s.tick ∧
        (e.natAbs ≤ 1 → al t = 1) ∧
        (1 < e.natAbs → al t = 0 ∧ (e + (t.wall w.val).tickFix).natAbs + 1 = e.natAbs ∧
          (t.wall w.val).tickFix = (if 0 < e then -1 else 1))) ∧
    (s.wallOff w.val = false →
      let t := s.wallTick w
      (t.wall w.val).tickFix = 0 ∧ (t.wallOff w.val = false → (t.wall w.val).tickErr = e + (s.wall w.val).tickFix))

/-- R264, R340, R430, R432: WALL_EVENT_RECORD, EVENT_LOST, WALL_HEARTBEAT and WALL_SILENT complete. The oldest record of a wall's
buffer is sent to the hub (of a silent wall it is appended to the hub log at once), marked `lost` when records before it
were lost, and written at the write offset of the wall's log ring, bank 6 not being under test; lost records are reported
once the buffer has room; a heartbeat reports the wall's tick once its buffer is empty; a live wall that has not reported
for 4,096 ticks is silent, which the hub raises. -/
def Rule.WallsReportTheirRecords : Prop :=
  ∀ (s : State) (w : Wall), OnWall s w →
    let x := s.wall w.val
    let size := s.fl (R.WEV_LOG_SIZE w.val) F.WEV_LOG_SIZE_bytes
    let at_ := s.fl (R.WEV_LOG_WR w.val) F.WEV_LOG_WR_offset
    (∀ r rest, x.raised = r :: rest → s.inTest w.val 6 = false → s.sramErr = [] →
      let r1 := { r with lost := x.lostFlag, late := x.silent }
      ∃ t, exec (.wallEventRecord w) s = .next t ∧ (t.wall w.val).raised = rest ∧ t.gddr = s.gddr ∧
        (x.silent = false → t.hubWait = s.hubWait ++ [r1]) ∧ (x.silent = true → t.log.getLast? = some r1) ∧
        (size = 0 → t.sram = s.sram) ∧
        (size ≠ 0 → s.bankOn w.val 6 = true → r1.bytes.length = 64 →
          t.sramBytes w.val 6 ((s.fl (R.WEV_LOG_BASE w.val) F.WEV_LOG_BASE_offset + at_) % 0x400000) 64 = r1.bytes ∧
          t.fl (R.WEV_LOG_WR w.val) F.WEV_LOG_WR_offset = (at_ + 64) % size % 4194304)) ∧
    (x.lostPend ≠ 0 → x.raised.length < 256 →
      ∃ t, exec (.eventLost w) s = .next t ∧ (t.wall w.val).lostPend = 0 ∧ WallRaised s t w.val 30 0 ∧ t.regs = s.regs ∧ t.sram = s.sram) ∧
    (s.isReady w.val = true → x.raised = [] →
      ∃ t, exec (.wallHeartbeat w) s = .next t ∧ (t.wall w.val).lastReport = s.wtick w.val ∧ (t.wall w.val).silent = false ∧ t.regs = s.regs) ∧
    (s.live w.val = true → x.lastReport + 4096 ≤ s.tick →
      ∃ t, exec (.wallSilent w) s = .next t ∧ (t.wall w.val).silent = true ∧ HubRaised s t 30 0 ∧ t.regs = s.regs)

/-- R263, R431, R433, R434: the hub appends the first waiting record to its log once every live source has reported a later
tick, and not before. EV_RAISE raises the software event. Unmasking a vector whose message is pending sends it and clears
the pending bit. A write of EVR_RD lets the loss of ring records be raised again. -/
def Rule.TheHubKeepsTheLog : Prop :=
  ∀ (s : State),
    (s.powered = true → ∀ r, firstRec s.hubWait = some r →
      (s.allPast r.stamp.tick = false → exec .hubLogAppend s = .next s) ∧
      (s.allPast r.stamp.tick = true →
        ∃ t, exec .hubLogAppend s = .next t ∧ t.log.getLast? = some r ∧ t.logCount = s.logCount + 1 ∧ t.sram = s.sram ∧
          (s.logCount < 196608 → s.fl (emOf r) F.EM_HUB_ring = 0 → t.hubWait = s.hubWait.erase r))) ∧
    (∀ (m : Mid) (v : Word), Allowed s m R.EV_RAISE true →
      ∃ t, exec (.evRaise m v) s = .next t ∧ Answered t m R.EV_RAISE 0 ∧ t.hubWait =
        s.hubWait ++ [{ code := 248, args := [v], stamp := { tick := s.tick, seq := s.hubSeq, source := 8 } }]) ∧
    (∀ (m : Mid) (v : Word), Allowed s m R.EVR_RD true →
      ∃ t, exec (.evrRdWrite m v) s = .next t ∧ Answered t m R.EVR_RD 0 ∧ t.ringLostSeen = false ∧ MemAndTilesKept s t) ∧
    (∀ (m : Mid) (n : Fin 128), Allowed s m (R.MSIX_CTRL n.val) true →
      let pba := R.MSIX_PBA (n.val / 32)
      ∃ t, exec (.msixUnmask m n) s = .next t ∧ Answered t m (R.MSIX_CTRL n.val) 0 ∧
        t.fl (R.MSIX_CTRL n.val) F.MSIX_CTRL_mask = 0 ∧ t.fl pba ⟨n.val % 32, 1⟩ = 0 ∧
        t.hostOut = s.hostOut ++ (if s.fl pba ⟨n.val % 32, 1⟩ = 1 then
          [.msi n.val ((s.rd (R.MSIX_ADDR_LO n.val)).toNat + (s.rd (R.MSIX_ADDR_HI n.val)).toNat * 4294967296) (s.rd (R.MSIX_DATA n.val))]
          else []))

/-! ## The bond network (07_bond_network) -/

/-- R278, R279, R288, R292, R298, R313, R574: PACKET_INJECT completes for the packet whose turn it is at a local port, a
guaranteed one in its connection's slot: it takes that port as its source and enters the mesh in the current epoch when the
router's buffer has room (else it waits), or, when a check of its destination or form refuses it, is answered with a NACK
that the wall counts, an answer being lost and counted. -/
def Rule.InjectionEntersTheMesh : Prop :=
  ∀ (s s1 : State) (w : Wall) (r : Fin 24) (j : Fin 8) (p : Packet) (e : InFlight), OnWall s w → j.val < localPorts r.val →
    s.slotOpen w.val p = true →
    s.take (.queue w.val r.val j.val) p (s.wall w.val).cycle (fun e => sameQueue e.pkt p || sameStream e.pkt p) = some (s1, e) →
    let q := { p with vc := p.isAnswer, src := mkDst w.val r.val j.val, mid := ifaceMid w.val r.val p.mid }
    let refused := s.injectCheck w.val r.val j.val q ≠ 0
    let room := s1.entryFree w.val r.val (4 + j.val) q = true
    ∃ t, exec (.packetInject w r j p) s = .next t ∧ t.sram = s.sram ∧ t.gddr = s.gddr ∧ t.tiles = s.tiles ∧
      (¬ refused → room → ∃ f, t.flight = s1.flight ++ [f] ∧
        f.at_ = .router w.val r.val ∧ f.due = (s.wall w.val).cycle ∧ f.pkt.payload = p.payload ∧ f.pkt.src = q.src ∧ f.pkt.mid = q.mid ∧
        f.pkt.epoch = s.curEpoch w.val ∧ f.rest = p.flits - 1 ∧ (p.cls = false → t.regs = s.regs) ∧
        (p.cls = true → t.fl (R.GC_STAT w.val p.conn.toNat) F.GC_STAT_packets =
          (s.fl (R.GC_STAT w.val p.conn.toNat) F.GC_STAT_packets + 1) % 65536)) ∧
      (¬ refused → ¬ room → t = s) ∧
      (refused → p.isAnswer = false → t.rd (R.BOND_NACK_COUNT w.val) = satInc (s.rd (R.BOND_NACK_COUNT w.val))) ∧
      (refused → p.isAnswer = true → t.rd (R.BOND_LOST_COUNT w.val) = satInc (s.rd (R.BOND_LOST_COUNT w.val)))

/-- R286, R287, R291, R294, R298, R300, R302, R308, R571, R574: ROUTER_HEAD_ENTRY, CROSSING_SWITCH_ENTRY and GATEWAY_ENTRY complete
for the packet whose turn it is. A head at a router whose route is open goes on along x and then y, and at its target router
to its local port: a guaranteed one in its reserved slots, a best-effort one when it may pass (else it waits there). One that
missed a slot goes on as best effort and is counted; where the route is closed, or the endpoint serves no such packet, it is
refused and the wall counts a NACK. The crossing switch passes a packet that its checks let through to the wall's gateway or
to the hub, and counts one that it refuses; the gateway lets it into the wall's mesh at router 22. -/
def Rule.PacketsTravelToTheirTarget : Prop :=
  ∀ (s s1 : State) (p : Packet) (e : InFlight),
    (∀ (w : Wall) (r : Fin 24), OnWall s w →
      s.take (.router w.val r.val) p (s.wall w.val).cycle (fun e => sameQueue e.pkt p && e.input r.val = inputOf w.val r.val p) = some (s1, e) →
      let tg := targetOf w.val p
      let o := outputOf w.val r.val p
      let c := (s.wall w.val).cycle
      let nacked (t : State) : Prop := t.rd (R.BOND_NACK_COUNT w.val) = satInc (s.rd (R.BOND_NACK_COUNT w.val))
      let open_ := s.routeOpen w.val r.val p = true
      let unserved := r.val = tg.1 ∧ noServer r.val tg.2 = true ∧ p.isAnswer = false
      let inSlots := s.slotsOk w.val r.val o ((e.due + (s.wall w.val).frameOfs) % 64) p = true
      let left (t : State) (n : Nat) : Prop := ∃ f, t.flight = s1.flight ++ [f] ∧ f.pkt.payload = p.payload ∧ f.pkt.cls = p.cls ∧
        f.at_ = (if r.val ≠ tg.1 then .router w.val (rtrBeyond r.val o) else if r.val = 22 then .toSwitch w.val else .atPort w.val r.val tg.2) ∧
        f.due = (if r.val = tg.1 ∧ r.val = 22 then s.tick + 4 - (c - n) else n + 1)
      ∃ t, exec (.routerHeadEntry w r p) s = .next t ∧ t.sram = s.sram ∧
        (open_ → ¬ unserved → p.cls = false → s1.canPass w.val r.val e c = true → left t c ∧ t.regs = s.regs) ∧
        (open_ → ¬ unserved → p.cls = false → s1.canPass w.val r.val e c = false → t.flight = e :: s1.flight ∧ t.regs = s.regs) ∧
        (open_ → ¬ unserved → p.cls = true → inSlots → left t e.due ∧ t.regs = s.regs) ∧
        (open_ → ¬ unserved → p.cls = true → ¬ inSlots → t.fl (R.BOND_EVENT w.val) F.BOND_EVENT_gmiss = 1 ∧
          t.rd (R.BOND_GMISS_COUNT w.val) = satAdd (s.rd (R.BOND_GMISS_COUNT w.val)) p.flits) ∧
        (open_ → unserved → nacked t) ∧
        (¬ open_ → p.isAnswer = false → nacked t)) ∧
    (∀ i : Fin 11, s.powered = true → (i.val < 8 → s.populated i.val = true) → p.isAnswer = false →
      s.take (if i.val < 8 then .toSwitch i.val else .hub i.val) p s.tick (fun e => sameQueue e.pkt p || sameStream e.pkt p) = some (s1, e) →
      let q := if 8 ≤ i.val then { p with src := hubDst (i.val - 8) } else p
      let slot := (s.tick - (s.tick - e.due)) % 64
      let passes := s.switchCheck i.val q = 0
      let carried := p.cls = false ∨ s.switchSlotOk i.val slot p = true
      ∃ t, exec (.crossingSwitchEntry i p) s = .next t ∧ t.sram = s.sram ∧
        (passes → dHub p.dst = false → ∃ f, t.flight = s1.flight ++ [f] ∧ f.at_ = .toWall (dWall p.dst) ∧
          f.due = (if p.cls then s.tick - (s.tick - e.due) else s.tick) + 4 ∧ f.pkt.payload = p.payload ∧ f.pkt.epoch = s.xsEpoch) ∧
        (passes → dHub p.dst = true → dPort p.dst = 0 → ∃ f, t.flight = s1.flight ++ [f] ∧ f.at_ = .hub 0 ∧ f.pkt.payload = p.payload) ∧
        (passes → ¬ carried → t.rd R.XS_DEGRADE_COUNT = satInc (s.rd R.XS_DEGRADE_COUNT)) ∧
        (passes → carried → t.regs = s.regs ∨ (dHub p.dst = true ∧ dPort p.dst ≠ 0)) ∧
        (¬ passes → t.rd R.XS_NACK_COUNT = satInc (s.rd R.XS_NACK_COUNT))) ∧
    (∀ w : Wall, OnWall s w → s.take (.toWall w.val) p s.tick (fun e => sameQueue e.pkt p || sameStream e.pkt p) = some (s1, e) →
      let ok := isEndpoint (dRtr p.dst) (dPort p.dst) = true ∧ s.courseShut w.val (dRtr p.dst) = false ∧
        s.testShuts w.val (dRtr p.dst) (dPort p.dst) = false
      ∃ t, exec (.gatewayEntry w p) s = .next t ∧ t.sram = s.sram ∧
        (ok → s1.entryFree w.val 22 4 p = true → ∃ f, t.flight = s1.flight ++ [f] ∧ f.at_ = .router w.val 22 ∧
          f.pkt.payload = p.payload ∧ f.pkt.epoch = s.curEpoch w.val ∧ t.regs = s.regs) ∧
        (ok → s1.entryFree w.val 22 4 p = false → t = s) ∧
        (¬ ok → p.isAnswer = false → t.rd (R.BOND_NACK_COUNT w.val) = satInc (s.rd (R.BOND_NACK_COUNT w.val))))

/-- R16, R280 to R282, R296: TILE_WRITE_PACKET and TILE_MESSAGE complete for a packet that has reached the tile. The words of a
write, of a size that suits the tile memory, wait in the interface's buffers for the memory's ports, flit by flit, at
addresses from the packet's on; those of a message go to the ring, whose write offset moves past them and whose message
count takes one; a message without a ring sets `noring` and is refused; so is a packet of another size, a read, and one of
another wall's that the tile-control table denies. A guaranteed packet that finds a guaranteed flit in the buffer is
dropped and counted. -/
def Rule.TileInterfacesBufferPackets : Prop :=
  ∀ (s s1 : State) (x : TileRef) (p : Packet), OnWall s x.w → p.isAnswer = false →
    Reaches s s1 x.w.val (x.t.val / 8) (x.t.val % 8) p →
    let w := x.w.val
    let i := x.t.val
    let full := ∃ e ∈ (tileOf s x).bbuf, e.g = true
    let takes := if p.cls then ¬ full else s.bufferFree w i = true
    let denied := s.crossDenied w (R.BI_RING w i) p = true
    let nacked (t : State) : Prop := t.rd (R.BOND_NACK_COUNT w) = satInc (s.rd (R.BOND_NACK_COUNT w)) ∧ (tileOf t x).bbuf = (tileOf s x).bbuf
    let dropped (t : State) : Prop := t.rd (R.BOND_GDROP_COUNT w) = satInc (s.rd (R.BOND_GDROP_COUNT w)) ∧
      t.fl (R.BI_STATUS w i) F.BI_STATUS_gdrop = 1 ∧ (tileOf t x).bbuf = (tileOf s x).bbuf
    let buffers (t : State) (ws : List (Nat × Nat × W48)) : Prop := ∃ l, (tileOf t x).bbuf = (tileOf s x).bbuf ++ l ∧
      (∀ f ∈ l, f.g = p.cls) ∧ l.flatMap BondFlit.words = ws ∧ (tileOf t x).tmem = (tileOf s x).tmem ∧ t.sram = s.sram
    (let m := bvf p.addr 12 2
     let asp := s.aspect w i m
     let ws := (tileWords asp p.payload).zipIdx.map (fun e => (m, (bvf p.addr 0 12 + e.2) % aspectDepth asp, e.1))
     (p.typ = 0 → takes → ¬ denied → tileSizeOk asp p = true → ws.length ≤ (if asp = 3 then 125 else 250) →
        ∃ t, exec (.tileWritePacket x p) s = .next t ∧ buffers t ws) ∧
     (p.typ = 1 ∨ (p.typ = 0 ∧ (denied ∨ tileSizeOk asp p = false)) → takes → ∃ t, exec (.tileWritePacket x p) s = .next t ∧ nacked t) ∧
     (p.typ = 0 → p.cls = true → full → ∃ t, exec (.tileWritePacket x p) s = .next t ∧ dropped t)) ∧
    (let ring := s.rd (R.BI_RING w i)
     let m := fld ring F.BI_RING_tmem
     let asp := s.aspect w i m
     let o := s.fl (R.BI_WPTR w i) F.BI_WPTR_wptr
     let n := fld ring F.BI_RING_len
     let ws := (tileWords asp p.payload).zipIdx.map (fun e => (m, fld ring F.BI_RING_base + (o + e.2) % n, e.1))
     p.typ = 3 →
     (takes → ¬ denied → fld ring F.BI_RING_en = 0 →
        ∃ t, exec (.tileMessage x p) s = .next t ∧ t.fl (R.BI_STATUS w i) F.BI_STATUS_noring = 1 ∧ nacked t) ∧
     (takes → ¬ denied → fld ring F.BI_RING_en = 1 → tileSizeOk asp p = true → ws.length ≤ (if asp = 3 then 125 else 250) → 0 < n →
        ∃ t, exec (.tileMessage x p) s = .next t ∧ buffers t ws ∧
          t.fl (R.BI_WPTR w i) F.BI_WPTR_wptr = (o + ws.length) % n ∧
          t.fl (R.BI_WPTR w i) F.BI_WPTR_msgs = (s.fl (R.BI_WPTR w i) F.BI_WPTR_msgs + 1) % 65536) ∧
     (takes → denied ∨ (fld ring F.BI_RING_en = 1 ∧ tileSizeOk asp p = false) → ∃ t, exec (.tileMessage x p) s = .next t ∧ nacked t) ∧
     (p.cls = true → full → ∃ t, exec (.tileMessage x p) s = .next t ∧ dropped t))

/-- R285, R303, R405, R406, R571: HOST_WINDOW_ACCESS and ANSWER_RECEIPT complete. An access of an on-chip master to its host window
goes out over CXL and is awaited; a write waits while one of the same master is out on the other path; with the link down
the switch refuses it. The answer to a tile's send ends it, its status recorded when it is not OK; that to a slot write of a
link unit releases its frame; that to another request ends it; an answer that nothing awaits is lost and counted. -/
def Rule.AnswersEndWhatTheyAnswer : Prop :=
  ∀ (s s1 : State) (p : Packet),
    (∀ e, s.powered = true → p.isAnswer = false → s.take (.hub 0) p s.tick (fun e => sameStream e.pkt p) = some (s1, e) →
      let a := if p.mid.toNat < 32 then p.addr.toNat else ((s.window p.mid.toNat).2 + p.addr.toNat) % 18446744073709551616
      let out := s.windowIssue a p
      let clash := p.typ ≠ 1 ∧ ∃ f ∈ s.awaiting, dHub f.pkt.src = false ∧ f.pkt.mid = p.mid ∧ f.pkt.typ ≠ 1 ∧ f.io ≠ decide (issuePath out = 1)
      ∃ t, exec (.hostWindowAccess p) s = .next t ∧ t.sram = s.sram ∧
        (s.cxl.up = true → ¬ clash → t.awaiting.length = s.awaiting.length + 1 ∧ t.regs = s.regs ∧ t.hostOut = s.hostOut ++ out) ∧
        (s.cxl.up = true → clash → t = s) ∧
        (s.cxl.up = false → t.awaiting = s.awaiting ∧ t.rd R.XS_NACK_COUNT = satInc (s.rd R.XS_NACK_COUNT))) ∧
    (∀ (w : Wall) (r : Fin 24) (j : Fin 8), OnWall s w → p.isAnswer = true → j.val < localPorts r.val →
      Reaches s s1 w.val r.val j.val p →
      let lost (t : State) : Prop := t.rd (R.BOND_LOST_COUNT w.val) = satInc (s.rd (R.BOND_LOST_COUNT w.val)) ∧
        t.fl (R.BOND_EVENT w.val) F.BOND_EVENT_lost = 1 ∧ t.tiles = s.tiles
      let x : TileRef := ⟨w, ⟨(8 * r.val + j.val) % 128, Nat.mod_lt _ (by decide)⟩⟩
      let sent := (tileOf s x).outst.find? (fun e => e.1 = p.tag)
      let unit := s.link w.val (8 * (r.val - 20) + j.val)
      let slot := (r.val = 20 ∨ r.val = 21) ∧ p.typ ≠ 2 ∧ ∃ f ∈ unit.rx, p.tag ∈ f.tags
      ∃ t, exec (.answerReceipt w r j p) s = .next t ∧
        (∀ e, r.val < 16 → p.typ ≠ 2 → sent = some e → (tileOf t x).outst = (tileOf s x).outst.erase e ∧
          (p.status = 0 → t.regs = s.regs ∧ t.sram = s.sram)) ∧
        (r.val < 16 → p.typ = 2 ∨ sent = none → lost t) ∧
        (slot → p.status = 0 → t.regs = s.regs) ∧
        (slot → p.status ≠ 0 → t.rd (R.LK_RXDROP_COUNT w.val (8 * (r.val - 20) + j.val)) =
          satInc (s.rd (R.LK_RXDROP_COUNT w.val (8 * (r.val - 20) + j.val)))) ∧
        (r.val = 20 ∨ r.val = 21 → ¬ slot → lost t) ∧
        (∀ q, 16 ≤ r.val → r.val ≠ 20 → r.val ≠ 21 → s.awaits (mkDst w.val r.val j.val) p.tag = some q →
          t.awaiting = s.awaiting.erase q ∧ t.regs = s.regs) ∧
        (16 ≤ r.val → r.val ≠ 20 → r.val ≠ 21 → s.awaits (mkDst w.val r.val j.val) p.tag = none → lost t))

/-- R293, R305 to R307: BOND_EPOCH_FLIP_WRITE, EPOCH_FLIP, ROUTE_TABLE_WRITE and SLOT_TABLE_WRITE complete. A flip asked for while
none is pending and the old epoch is drained is pending until the frame boundary, where the current bank changes and drains
again; route and slot tables are written in the shadow bank of a drained segment only, and otherwise complete with
RESOURCE_BUSY; slot entries that are set valid are checked first. -/
def Rule.EpochsFlipAtTheFrameBoundary : Prop :=
  ∀ (s : State) (seg : Segment),
    let a := s.epochReg seg
    let pend (t : State) : Nat := t.fl a F.BOND_EPOCH_pending
    let cur (t : State) : Nat := t.fl a F.BOND_EPOCH_cur
    let drained (t : State) : Nat := t.fl a F.BOND_EPOCH_drained
    (∀ m : Mid, Allowed s m a true →
      ∃ t, exec (.bondEpochFlipWrite m seg) s = .next t ∧ MemAndTilesKept s t ∧ cur t = cur s ∧
        (pend s = 0 ∧ drained s = 1 → Answered t m a 0 ∧ pend t = 1) ∧
        (¬ (pend s = 0 ∧ drained s = 1) → Answered t m a stBusy ∧ pend t = pend s)) ∧
    (s.powered = true → pend s = 1 →
      (match seg with | .wall w => s.populated w.val = true ∧ s.slotNow w.val = 0 | .switch => s.tick % 64 = 0) →
      ∃ t, exec (.epochFlip seg) s = .next t ∧ cur t + cur s = 1 ∧ pend t = 0 ∧ drained t = 0 ∧ RegsKeptBut s t [a]) ∧
    (∀ (m : Mid) (b : Bool) (r d : Nat) (v : Word), routeExists seg r d = true →
      let e := match seg with | .wall w => R.BOND_ROUTE w.val (b2n b) r d | .switch => R.XS_ROUTE (b2n b) r
      Allowed s m e true →
      ∃ t, exec (.routeTableWrite m seg b r d v) s = .next t ∧ MemAndTilesKept s t ∧
        (drained s = 1 ∧ cur s ≠ b2n b → Answered t m e 0 ∧ ∃ k, regDef e = some k ∧ FieldsWritten k (s.rd e) (t.rd e) v) ∧
        (¬ (drained s = 1 ∧ cur s ≠ b2n b) → Answered t m e stBusy ∧ t.rd e = s.rd e)) ∧
    (∀ (m : Mid) (b : Bool) (r o j : Nat) (v : Word), (match seg with | .wall _ => r < 24 ∧ o < 12 | .switch => o < 11) → j < 16 →
      let e := slotAddr seg (b2n b) r o j
      let check (k : Nat) : Nat := s.slotEntryCheck seg (b2n b) r o j k v
      Allowed s m e true →
      ∃ t, exec (.slotTableWrite m seg b r o j v) s = .next t ∧ MemAndTilesKept s t ∧
        (drained s = 1 ∧ cur s ≠ b2n b → (∀ k, k < 4 → check k = 0) →
          Answered t m e 0 ∧ ∀ k, k < 4 → nbit (t.rd e).toNat (8 * k + 4) = nbit v.toNat (8 * k + 4) ∧
            nbits (t.rd e).toNat (8 * k) 4 = nbits v.toNat (8 * k) 4) ∧
        (drained s = 1 ∧ cur s ≠ b2n b → ∀ k, k < 4 → check k ≠ 0 → (∀ i, i < k → check i = 0) →
          Answered t m e (check k) ∧ t.rd e = s.rd e) ∧
        (¬ (drained s = 1 ∧ cur s ≠ b2n b) → Answered t m e stBusy ∧ t.rd e = s.rd e))

/-- R282, R295: GC_CTRL_WRITE and BI_RING_WRITE complete. A valid connection can only be released, not rewritten, and one of
more than a flit a slot does not end at a tile; a ring is enabled where it fits its tile memory, which starts it at offset
0, one that does not fit completes with BAD_ARGUMENT, and an enabled one can only be disabled or written as it is. -/
def Rule.ConnectionsAndRingsAreChecked : Prop :=
  ∀ (s : State) (m : Mid) (v : Word),
    (∀ (w : Wall) (c : Fin 64), let a := R.GC_CTRL w.val c.val
      let valid := s.gcValid w.val c.val = true
      let wide := 1 < fld v F.GC_CTRL_width ∧ dHub (s.gcDst w.val c.val) = false ∧ dRtr (s.gcDst w.val c.val) < 16
      Allowed s m a true →
      ∃ t, exec (.gcCtrlWrite m w c v) s = .next t ∧ MemAndTilesKept s t ∧
        (valid → fld v F.GC_CTRL_valid = 1 → Answered t m a stBusy ∧ t.rd a = s.rd a) ∧
        (fld v F.GC_CTRL_valid = 0 → Answered t m a 0 ∧ t.gcValid w.val c.val = false ∧ t.fl a F.GC_CTRL_down = 0) ∧
        (¬ valid → fld v F.GC_CTRL_valid = 1 → wide → Answered t m a stBadArg ∧ t.rd a = s.rd a) ∧
        (¬ valid → fld v F.GC_CTRL_valid = 1 → ¬ wide →
          Answered t m a 0 ∧ t.gcValid w.val c.val = true ∧ t.fl a F.GC_CTRL_slot = fld v F.GC_CTRL_slot ∧
          t.fl a F.GC_CTRL_router = fld v F.GC_CTRL_router ∧ t.fl a F.GC_CTRL_width = fld v F.GC_CTRL_width)) ∧
    (∀ x : TileRef, let a := R.BI_RING x.w.val x.t.val
      let fits := fld v F.BI_RING_len ≠ 0 ∧
        fld v F.BI_RING_base + fld v F.BI_RING_len ≤ aspectDepth (s.aspect x.w.val x.t.val (fld v F.BI_RING_tmem))
      let on := s.fl a F.BI_RING_en = 1
      let sets := fld v F.BI_RING_en = 1
      let same := fld v ⟨0, 26⟩ = fld (s.rd a) ⟨0, 26⟩
      Allowed s m a true →
      ∃ t, exec (.biRingWrite m x v) s = .next t ∧ MemAndTilesKept s t ∧
        (¬ sets → Answered t m a 0 ∧ t.fl a F.BI_RING_en = 0) ∧
        (on → sets → same → Answered t m a 0 ∧ t.rd a = s.rd a) ∧
        (on → sets → ¬ same → Answered t m a stBusy ∧ t.rd a = s.rd a) ∧
        (¬ on → sets → fits → Answered t m a 0 ∧ t.fl a F.BI_RING_en = 1 ∧ t.fl (R.BI_WPTR x.w.val x.t.val) F.BI_WPTR_wptr = 0 ∧
          fld (t.rd a) ⟨0, 26⟩ = fld v ⟨0, 26⟩) ∧
        (¬ on → sets → ¬ fits → Answered t m a stBadArg ∧ t.rd a = s.rd a))

/-- R301, R309 to R311: DRAIN_TIMEOUT, CONNECTION_RELEASE and FRAME_REALIGN complete. 12,500 ticks after it began to close, a
domain is off; at the first frame boundary after it began to close (log 137 for a wall that is off) every valid connection that
starts in it is down, with DOMAIN_OFF recorded; a realigning wall at the base clock whose tick is a multiple of 64 starts
slot 0 of its frame. -/
def Rule.DomainsDrainAndRelease : Prop :=
  ∀ (s : State) (w : Wall), OnWall s w →
    (∀ d : Domain, d.wallNo = w.val → s.domState d = 2 → Sp.getD (s.wall w.val).closing d.key s.tick + 12500 ≤ s.tick →
      ∃ t, exec (.drainTimeout d) s = .next t ∧ t.domState d = 3 ∧ t.sram = s.sram ∧ t.gddr = s.gddr ∧ t.tiles = s.tiles) ∧
    (∀ d : Domain, d.wallNo = w.val → (∃ e ∈ (s.wall w.val).release, e.1 = d.key) → s.boundary w.val = true →
      let starts (c : Nat) : Prop := match d with
        | .wall _ => True
        | .course _ k => s.fl (R.GC_CTRL w.val c) F.GC_CTRL_router = k.val
      ∃ t, exec (.connectionRelease d) s = .next t ∧ MemAndTilesKept s t ∧ t.flight = s.flight ∧
        (∀ e ∈ (t.wall w.val).release, e.1 ≠ d.key) ∧
        ∀ c, c < 64 → s.gcValid w.val c = true → starts c →
          t.fl (R.GC_CTRL w.val c) F.GC_CTRL_down = 1 ∧ t.fl (R.GC_STAT w.val c) F.GC_STAT_status = stDomainOff) ∧
    ((s.wall w.val).realigning = true → s.clockStep w.val = 0 → s.wtick w.val % 64 = 0 →
      ∃ t, exec (.frameRealign w) s = .next t ∧ (t.wall w.val).realigning = false ∧ t.slotNow w.val = 0 ∧ t.regs = s.regs)

/-! ## Wall SRAM and GDDR7 (08_memory) -/

/-- Outside the `n` bytes from key `k` two byte stores read alike. -/
def KeptOutside (m m' : List Host.Cell) (k n : Nat) : Prop := ∀ a, a < k ∨ k + n ≤ a → memByte m' a = memByte m a

/-- R321 to R323, R327, R328, R330, R571: SRAM_READ and SRAM_WRITE complete for a packet that has reached the bank's port. A bank that
is online answers an allowed read with the bytes that it holds, or with DATA_ERROR where a word is uncorrectable, and changes
none; an allowed write (with its region leases, for banks 4 and 5) stores its payload and leaves every other byte, or, where
it would merge with an uncorrectable word, changes none; an access that the bank's table denies is counted; it, one past the
end of the bank, one while the bank is off, and a message, are refused. -/
def Rule.BanksServeReadsAndWrites : Prop :=
  ∀ (s s1 : State) (w : Wall) (b : Fin 8) (p : Packet), OnWall s w → p.isAnswer = false →
    Reaches s s1 w.val (18 + b.val / 4) (b.val % 4) p →
    let off := bvf p.addr 0 22
    let fits := s.bankOn w.val b.val = true ∧ off + p.count ≤ 0x400000
    let allowed (write : Bool) : Prop := s.sramAllows w.val b.val p.mid.toNat write = true
    let leased := b.val = 4 ∨ b.val = 5 → s.regionLease w.val b.val p.mid.toNat off p.count = true
    let sends (t : State) (ans : Packet) : Prop := s.injectCheck w.val (18 + b.val / 4) 0 ans = 0 → ∃ e, t.flight = s1.flight ++ [e] ∧
      e.pkt.typ = ans.typ ∧ e.pkt.status = ans.status ∧ e.pkt.payload = ans.payload ∧ e.pkt.dst = p.src ∧ e.pkt.tag = p.tag
    let nacked (t : State) : Prop := t.sram = s.sram ∧ t.rd (R.BOND_NACK_COUNT w.val) = satInc (s.rd (R.BOND_NACK_COUNT w.val))
    let denied (t : State) : Prop := nacked t ∧ t.rd (R.SRAM_DENY_COUNT w.val) = satInc (s.rd (R.SRAM_DENY_COUNT w.val))
    (p.typ = 1 → ∃ t, exec (.sramRead w b p) s = .next t ∧ t.sram = s.sram ∧ t.gddr = s.gddr ∧
      (fits → allowed false → (s.sramRead w.val b.val off p.count).2 = false →
        sends t (answerTo p 2 0 0 (s.sramBytes w.val b.val off p.count))) ∧
      (fits → allowed false → (s.sramRead w.val b.val off p.count).2 = true → sends t (answerTo p 4 stDataError 0 [])) ∧
      (s.bankOn w.val b.val = true → ¬ allowed false → denied t) ∧ (¬ fits → nacked t)) ∧
    (p.typ = 0 → p.payload.length = p.count → ∃ t, exec (.sramWrite w b p) s = .next t ∧ t.gddr = s.gddr ∧
      (fits → allowed true → leased → (s.sramWrite w.val b.val off p.payload).2 = true →
        t.sramBytes w.val b.val off p.count = p.payload ∧ KeptOutside s.sram t.sram (sramKey w.val b.val off) p.count) ∧
      (fits → allowed true → leased → (s.sramWrite w.val b.val off p.payload).2 = false → t.sram = s.sram) ∧
      (s.bankOn w.val b.val = true → ¬ allowed true → denied t) ∧ (fits → allowed true → ¬ leased → denied t) ∧ (¬ fits → nacked t)) ∧
    (p.typ = 3 → (∃ t, exec (.sramRead w b p) s = .next t ∧ nacked t) ∧ (∃ t, exec (.sramWrite w b p) s = .next t ∧ nacked t))

/-- R331, R335, R336, R340: SRAM_PATROL_READ, RETENTION_ENTRY, RETENTION_WAKE and SRAM_RET_WRITE complete. A patrol read, once an
interval, moves on by one line; SRAM_RET takes the requests of banks 3 to 5, which leave service at once, and refuses every
other bank with RESOURCE_BUSY; a requested bank enters retention, and is online again (unless it is under test) 2,500 ticks
after the request is taken back. The contents stay. -/
def Rule.PatrolAndRetentionKeepTheBanks : Prop :=
  ∀ (s : State) (w : Wall) (b : Fin 8),
    let ret := R.SRAM_RET w.val
    let pos (u : State) : Nat := u.fl (R.SRAM_PATROL_POS w.val b.val) F.SRAM_PATROL_POS_line
    (OnWall s w →
      (s.fl (R.SRAM_PATROL w.val) F.SRAM_PATROL_interval ≠ 0 → s.inRet w.val b.val = false → s.inTest w.val b.val = false →
        (b.val = 7 → s.secureOpen w.val = true) → s.patrolDue w.val b.val = true →
        ∃ t, exec (.sramPatrolRead w b) s = .next t ∧ t.sram = s.sram ∧ pos t = (pos s + 1) % 65536 ∧ t.patrolDue w.val b.val = false) ∧
      (nbit (s.fl ret F.SRAM_RET_req) b.val = true → s.inTest w.val b.val = false →
        ∃ t, exec (.retentionEntry w b) s = .next t ∧ t.inRet w.val b.val = true ∧ t.sram = s.sram ∧ RegsKeptBut s t [R.SRAM_STATUS w.val]) ∧
      ((∃ e ∈ (s.wall w.val).wakeAt, e.1 = b.val) → Sp.getD (s.wall w.val).wakeAt b.val 0 + 2500 ≤ s.tick →
        ∃ t, exec (.retentionWake w b) s = .next t ∧ t.inRet w.val b.val = false ∧ t.bankOn w.val b.val = !s.inTest w.val b.val ∧
          t.sram = s.sram)) ∧
    (∀ (m : Mid) (v : Word), Allowed s m ret true →
      ∃ t, exec (.sramRetWrite m w v) s = .next t ∧ t.sram = s.sram ∧ t.gddr = s.gddr ∧
        ((∃ k ∈ [0, 1, 2, 6, 7], nbit (fld v F.SRAM_RET_req) k = true) → Answered t m ret stBusy ∧ t.rd ret = s.rd ret ∧ t.walls = s.walls) ∧
        ((∀ k ∈ [0, 1, 2, 6, 7], nbit (fld v F.SRAM_RET_req) k = false) → Answered t m ret 0 ∧
          t.fl ret F.SRAM_RET_req = fld v F.SRAM_RET_req ∧
          ∀ k ∈ [3, 4, 5], nbit (fld v F.SRAM_RET_req) k = true → nbit (s.fl ret F.SRAM_RET_req) k = false → t.bankOn w.val k = false))

/-- R337 to R342: MARCH_START, MARCH_ABORT and MARCH_END complete. A march is accepted on all the banks it names, which are then
under test and serve no packet, or changes nothing; `abort` ends every march of the wall first; a march that has run its
cycles on a bank returns it to service (unless it is to be in retention), a preserving one with every byte as it was, a
destructive one with zeros and every other bank as it was; a failure that the march can meet is recorded. -/
def Rule.MarchesTestBanks : Prop :=
  ∀ (s : State) (m : Mid) (w : Wall),
    let a := R.MARCH_CTRL w.val
    (∀ v : Word, Allowed s m a true →
      let u := if fld v F.MARCH_CTRL_abort = 1 then s.marchStop w.val else s
      let starts := fld v F.MARCH_CTRL_start = 1
      let banks := fld v F.MARCH_CTRL_banks
      let check (b : Nat) : Nat := u.marchCheck w.val b (fld v F.MARCH_CTRL_alg) m.toNat
      ∃ t, exec (.marchStart m w v) s = .next t ∧
        (starts → fld v F.MARCH_CTRL_alg = 3 → Answered t m a stBadArg ∧ t.walls = s.walls ∧ t.sram = s.sram) ∧
        (starts → fld v F.MARCH_CTRL_alg ≠ 3 → (∀ b, b < 8 → nbit banks b = true → check b = 0) →
          Answered t m a 0 ∧ t.sram = u.sram ∧ ∀ b, b < 8 → nbit banks b = true → t.inTest w.val b = true ∧ t.bankOn w.val b = false) ∧
        (starts → ∀ b, b < 8 → nbit banks b = true → check b ≠ 0 → t.last.status ≠ 0 ∧ t.walls = s.walls ∧ t.sram = s.sram ∧
          t.rd (R.SRAM_STATUS w.val) = s.rd (R.SRAM_STATUS w.val)) ∧
        (¬ starts → Answered t m a 0 ∧ t.sram = u.sram ∧ t.walls = u.walls ∧ (fld v F.MARCH_CTRL_abort = 1 → (t.wall w.val).march = []))) ∧
    (Allowed s m a true → fld (s.rd a) F.MARCH_CTRL_start = 0 →
      ∃ t, exec (.marchAbort m w) s = .next t ∧ Answered t m a 0 ∧ (t.wall w.val).march = [] ∧ t.gddr = s.gddr) ∧
    (∀ (b : Fin 8) (r : MarchResult) (e : Nat × March), OnWall s w → (s.wall w.val).march.find? (fun e => e.1 = b.val) = some e →
      e.2.start + e.2.cycles ≤ (s.wall w.val).cycle → (r.fail = true → e.2.canFail r.addr = true) →
      let awaited := nbit (s.fl (R.SRAM_RET w.val) F.SRAM_RET_req) b.val = true ∨ s.inRet w.val b.val = true ∨
        ∃ k ∈ (s.wall w.val).wakeAt, k.1 = b.val
      ∃ t, exec (.marchEnd w b r) s = .next t ∧ t.inTest w.val b.val = false ∧ (t.bankOn w.val b.val = true ↔ ¬ awaited) ∧
        nbit (t.fl (R.MARCH_STATUS w.val) F.MARCH_STATUS_done) b.val = true ∧
        (r.fail = true → nbit (t.fl (R.MARCH_STATUS w.val) F.MARCH_STATUS_fail) b.val = true ∧
          t.rd (R.MARCH_FAIL_ADDR w.val b.val) = BitVec.ofNat 32 r.addr) ∧
        (e.2.destroys = false → t.sram = s.sram) ∧
        (e.2.destroys = true → (∀ o, o < 0x400000 → memByte t.sram (sramKey w.val b.val o) = 0) ∧
          KeptOutside s.sram t.sram (sramKey w.val b.val 0) 0x400000))

/-- R332 to R334: CLOCK_GLITCH, TEMPERATURE_TAMPER, SECURE_WIPE_DONE and SEC_STATUS_WRITE complete. A clock glitch on a running wall
and a temperature outside its range raise TAMPER and start a wipe of bank 7, where none is in progress; the wipe, once its
65,536 cycles have passed, shows its cause and leaves the bank zero (a running trowel then rewrites that of a wall with
power) and every other bank as it was; a write of SEC_STATUS can only clear `wiped`. -/
def Rule.TamperWipesTheSecureBank : Prop :=
  ∀ (s : State) (w : Wall),
    let a := R.SEC_STATUS w.val
    let wipes (cause : Nat) (t : State) : Prop := HubRaised s t 27 0 ∧ t.sram = s.sram ∧
      ((s.wall w.val).wipe = none → (t.wall w.val).wipe = some cause ∧ t.fl a F.SEC_STATUS_wiping = 1) ∧
      ((s.wall w.val).wipe ≠ none → t.walls = s.walls)
    (OnWall s w →
      (s.isReady w.val = true → ∃ t, exec (.clockGlitch w) s = .next t ∧ wipes 2 t) ∧
      (∃ t, exec (.temperatureTamper w) s = .next t ∧ wipes 3 t)) ∧
    (∀ c, OnWall s w → (s.wall w.val).wipe = some c → (s.wall w.val).wipeAt + 65536 ≤ (s.wall w.val).cycle →
      ∃ t, exec (.secureWipeDone w) s = .next t ∧ (t.wall w.val).wipe = none ∧ t.fl a F.SEC_STATUS_wiping = 0 ∧
        t.fl a F.SEC_STATUS_cause = c % 8 ∧
        (s.trowel.running = false ∨ s.wallOff w.val = true → t.fl a F.SEC_STATUS_wiped = 1 ∧ WallRaised s t w.val 20 0 ∧
          (∀ o, o < 0x400000 → memByte t.sram (sramKey w.val 7 o) = 0) ∧ KeptOutside s.sram t.sram (sramKey w.val 7 0) 0x400000)) ∧
    (∀ (m : Mid) (v : Word), Allowed s m a true →
      ∃ t, exec (.secStatusWrite m w v) s = .next t ∧ Answered t m a 0 ∧ MemAndTilesKept s t ∧
        t.fl a F.SEC_STATUS_wiped = (if fld v F.SEC_STATUS_wiped = 0 then 0 else s.fl a F.SEC_STATUS_wiped))

/-- Whether the host's read of a line waits at its controller (R353 to R356): for an earlier request for the line, for the answer
of a back-invalidation of the line, or, in a stream region, for one of the region that was unanswered when the read came. -/
def HostReadWaits (s : State) (w d line : Nat) (excl : Bool) : Bool :=
  let x := s.gdx w d
  s.queuedBefore w d (.read line excl []) || x.waits line ||
    (match (s.gdQueue w d).find? (fun e => e.same (.read line excl [])) with
      | some (.read _ _ l) => l.any (fun e => x.pendingBi.contains e)
      | some _ => false
      | none => s.regionMode w d (line / 0x100000) = 1 && x.pendingBi.any (fun e => e.1 / 0x100000 = line / 0x100000))

/-- R344, R345, R348, R351 to R354: GDDR_READ, GDDR_WRITE, HDM_READ and HDM_WRITE complete. A GDDR7 device answers an allowed read
of a wall with its bytes, or with DATA_ERROR where the transfer fails, and stores an allowed write, leaving every other byte;
an access that has to wait for the host or for an earlier request of its lines takes its place in the controller's queue,
the lines' back-invalidations being sent; one that the checks refuse is answered with a NACK. A host read of the HDM range
returns the line, or poisoned data where the device does not serve the host, and a host write stores it. -/
def Rule.DevicesServeWallsAndHost : Prop :=
  ∀ (s : State) (w : Wall) (d : Fin 2) (crc : Nat), OnWall s w →
    (∀ (s1 : State) (p : Packet), p.isAnswer = false → Reaches s s1 w.val (16 + d.val) 0 p →
      let off := bvf p.addr 0 32
      let lines (write : Bool) : List Nat := s.waitLines w.val d.val off p.count write
      let waits (write : Bool) : Prop := lines write ≠ [] ∨ s.queuedBefore w.val d.val (.wall p) = true
      let queued (t : State) (write : Bool) : Prop := t.gddr = s.gddr ∧ t.flight = s.flight ∧
        (∃ e ∈ (t.gdx w.val d.val).queue, e.same (.wall p) = true) ∧ ∀ l ∈ lines write, (t.gdx w.val d.val).waits l = true
      let nacked (t : State) : Prop := t.gddr = s.gddr ∧ t.rd (R.BOND_NACK_COUNT w.val) = satInc (s.rd (R.BOND_NACK_COUNT w.val))
      let whole (b : Nat) : Bool := decide (off ≤ b * 32) && decide (b * 32 + 32 ≤ off + p.count)
      let sends (t : State) (ans : Packet) : Prop := s.injectCheck w.val (16 + d.val) 0 ans = 0 → ∃ e, t.flight = s1.flight ++ [e] ∧
        e.pkt.typ = ans.typ ∧ e.pkt.status = ans.status ∧ e.pkt.payload = ans.payload ∧ e.pkt.dst = p.src ∧ e.pkt.tag = p.tag
      (p.typ = 1 → ∃ t, exec (.gddrRead w d p crc) s = .next t ∧ t.gddr = s.gddr ∧ t.sram = s.sram ∧
        (s.gdCheck w.val d.val p false = 0 → ¬ waits false → (s.gdTransfer w.val d.val off p.count crc (fun _ => false)).2 = false →
          sends t (answerTo p 2 0 0 (s.gdBytes w.val d.val off p.count))) ∧
        (s.gdCheck w.val d.val p false = 0 → ¬ waits false → (s.gdTransfer w.val d.val off p.count crc (fun _ => false)).2 = true →
          sends t (answerTo p 4 stDataError 0 [])) ∧
        (s.gdCheck w.val d.val p false = 0 → waits false → queued t false) ∧
        (s.gdCheck w.val d.val p false ≠ 0 → s.queuedBefore w.val d.val (.wall p) = false → nacked t)) ∧
      (p.typ = 0 → p.payload.length = p.count → ∃ t, exec (.gddrWrite w d p crc) s = .next t ∧ t.sram = s.sram ∧
        (s.gdCheck w.val d.val p true = 0 → ¬ waits true → (s.gdTransfer w.val d.val off p.count crc whole).2 = false →
          t.gdBytes w.val d.val off p.count = p.payload ∧ KeptOutside s.gddr t.gddr (gddrKey w.val d.val off) p.count) ∧
        (s.gdCheck w.val d.val p true = 0 → ¬ waits true → (s.gdTransfer w.val d.val off p.count crc whole).2 = true → t.gddr = s.gddr) ∧
        (s.gdCheck w.val d.val p true = 0 → waits true → queued t true) ∧
        (s.gdCheck w.val d.val p true ≠ 0 → s.queuedBefore w.val d.val (.wall p) = false → nacked t))) ∧
    (∀ (dpa o : Nat) (excl : Bool) (data : Bytes), s.hdmPlace dpa = some (w.val, d.val, o) → s.cxl.flit256 = true →
      let off := o / 64 * 64
      let line := off / 64
      let x := s.gdx w.val d.val
      let reads := s.gdAllows w.val d.val 0 off 64 false = true ∧ s.poisons w.val d.val = false ∧ s.hdmShut w.val = false
      let room := (x.holds line).isSome = true ∨ x.filter.length < 131072
      let failed := (s.gdTransfer w.val d.val off 64 crc (fun _ => false)).2
      (∃ t, exec (.hdmRead dpa excl crc) s = .next t ∧ t.gddr = s.gddr ∧ t.sram = s.sram ∧
        (reads → HostReadWaits s w.val d.val line excl = false → room →
          t.hostOut = s.hostOut ++ [.data dpa failed (if failed then [] else s.gdBytes w.val d.val off 64)] ∧
          ((t.gdx w.val d.val).holds line).isSome = true) ∧
        (reads → HostReadWaits s w.val d.val line excl = true → t.hostOut = s.hostOut ∧
          ∃ e ∈ (t.gdx w.val d.val).queue, e.same (.read line excl []) = true) ∧
        (¬ reads → t.hostOut = s.hostOut ++ [.data dpa true []])) ∧
      (s.gdAllows w.val d.val 0 off 64 true = true → s.hostWrites w.val d.val line = true → data.length = 64 →
        ∃ t, exec (.hdmWrite dpa data crc) s = .next t ∧ t.sram = s.sram ∧
          (x.waits line = true ∨ s.queuedBefore w.val d.val (.write line data) = false → crc ≤ 4 →
            t.gdBytes w.val d.val off 64 = data ∧ KeptOutside s.gddr t.gddr (gddrKey w.val d.val off) 64) ∧
          (x.waits line = false → s.queuedBefore w.val d.val (.write line data) = true →
            t.gddr = s.gddr ∧ ∃ e ∈ (t.gdx w.val d.val).queue, e.same (.write line data) = true)))

/-- R349, word for word, for the bit and the event (the doubled refresh rate is no state). -/
def Rule.HotDevicesAreReported : Prop :=
  ∀ (s : State) (w : Wall) (d : Fin 2) (temp : BitVec 8), OnWall s w →
    let a := R.GD_STATUS w.val d.val
    ∃ t, exec (.gddrHot w d temp) s = .next t ∧ t.fl a F.GD_STATUS_temp = temp.toNat ∧ t.sram = s.sram ∧ t.gddr = s.gddr ∧
      (85 < temp.toInt → t.fl a F.GD_STATUS_hot = 1 ∧ (s.fl a F.GD_STATUS_hot = 0 → WallRaised s t w.val 22 1) ∧
        (s.fl a F.GD_STATUS_hot = 1 → t.walls = s.walls)) ∧
      (temp.toInt ≤ 85 → t.fl a F.GD_STATUS_hot = 0 ∧ t.walls = s.walls)

/-- R345, R347, R354 to R358, R360: BACK_INVALIDATION_RESPONSE, GDDR_TRACKING, GDDR_PATROL, GDDR_TRAINING_DONE,
REGION_MODE_CHANGE_DONE, HDM_FLUSH_TIMEOUT, GD_UNSTALE and GD_REGION_WRITE complete. The host's answer takes the line from the
filter; tracking changes nothing that the spec names; a patrol read, 4,096 ticks after the last, moves on by a line; a
training, in the LOCK phase or of the command, leaves the device ready; a region's new mode is busy until the host holds none
of its lines and every back-invalidation of the region is answered; a flush that times out leaves the device stale, which
GD_CMD clears. -/
def Rule.DevicesFollowTheHost : Prop :=
  ∀ (s : State) (w : Wall) (d : Fin 2),
    let x := s.gdx w.val d.val
    let st := R.GD_STATUS w.val d.val
    (OnWall s w →
      (∀ line e, x.pendingBi.find? (fun q => q.1 = line) = some e →
        ∃ t, exec (.backInvalidationResponse w d line) s = .next t ∧ (t.gdx w.val d.val).pendingBi = x.pendingBi.erase e ∧ t.gddr = s.gddr ∧
          (e.2.1 = false → (t.gdx w.val d.val).holds line = none)) ∧
      exec (.gddrTracking w d) s = .next s ∧
      (s.fl (R.GD_CFG w.val) F.GD_CFG_ecc = 1 → s.fl (R.GD_CFG w.val) F.GD_CFG_patrol = 1 → s.gdServes w.val d.val = true →
        x.patrolAt + 4096 ≤ s.tick →
        ∃ t, exec (.gddrPatrol w d) s = .next t ∧ t.gddr = s.gddr ∧ (t.gdx w.val d.val).patrolAt = s.tick ∧
          (t.gdx w.val d.val).patrolPos = (if s.gdSize w.val ≤ x.patrolPos + 64 then 0 else x.patrolPos + 64)) ∧
      (s.gdServes w.val d.val = false → s.phase w.val = 2 ∨
          (∃ l ∈ s.longs, l.op = 25 ∧ l.done = none ∧ l.onWall w.val = true ∧ cmdArg l.ctx 0 % 2 = d.val) →
        ∃ t, exec (.gddrTrainingDone w d) s = .next t ∧ t.gdState w.val d.val = 1 ∧ t.gddr = s.gddr ∧ t.sram = s.sram) ∧
      (∀ r : Fin 48, s.fl (R.GD_REGION w.val d.val r.val) F.GD_REGION_busy = 1 → (∀ e ∈ x.pendingBi, e.1 / 0x100000 ≠ r.val) →
        ∃ t, exec (.regionModeChangeDone w d r) s = .next t ∧ t.gddr = s.gddr ∧
          ((∀ h ∈ x.filter, h.line / 0x100000 ≠ r.val) → t.fl (R.GD_REGION w.val d.val r.val) F.GD_REGION_busy = 0 ∧
            t.regionMode w.val d.val r.val = s.fl (R.GD_REGION w.val d.val r.val) F.GD_REGION_mode) ∧
          (∀ h ∈ x.filter, h.line / 0x100000 = r.val → (t.gdx w.val d.val).waits h.line = true ∧
            t.fl (R.GD_REGION w.val d.val r.val) F.GD_REGION_busy = 1)) ∧
      (∀ t0, x.flushing = some t0 → t0 + 1250000 ≤ s.tick → x.pendingBi ≠ [] →
        ∃ t, exec (.hdmFlushTimeout w d) s = .next t ∧ (t.gdx w.val d.val).flushing = none ∧ (t.gdx w.val d.val).filter = [] ∧
          t.fl st F.GD_STATUS_stale = 1 ∧ t.fl (R.GD_EVENT w.val d.val) F.GD_EVENT_flushto = 1 ∧ WallRaised s t w.val 23 0)) ∧
    (∀ m : Mid, Allowed s m (R.GD_CMD w.val d.val) true →
      ∃ t, exec (.gdUnstale m w d) s = .next t ∧ Answered t m (R.GD_CMD w.val d.val) 0 ∧ t.fl st F.GD_STATUS_stale = 0 ∧ MemAndTilesKept s t) ∧
    (∀ (m : Mid) (r : Fin 48) (v : Word), let a := R.GD_REGION w.val d.val r.val
      let inside := r.val * 0x4000000 < s.gdSize w.val
      Allowed s m a true →
      ∃ t, exec (.gdRegionWrite m w d r v) s = .next t ∧ MemAndTilesKept s t ∧
        (¬ inside → Answered t m a 0 ∧ t.rd a = s.rd a) ∧
        (inside → 2 ≤ fld v F.GD_REGION_mode → Answered t m a stBadArg ∧ t.rd a = s.rd a) ∧
        (inside → fld v F.GD_REGION_mode < 2 → s.fl a F.GD_REGION_busy = 1 → Answered t m a stBusy ∧ t.rd a = s.rd a) ∧
        (inside → fld v F.GD_REGION_mode < 2 → s.fl a F.GD_REGION_busy = 0 →
          Answered t m a 0 ∧ t.fl a F.GD_REGION_busy = 1 ∧ t.fl a F.GD_REGION_mode = fld v F.GD_REGION_mode ∧
          t.regionMode w.val d.val r.val = s.fl a F.GD_REGION_mode))

/-! ## Stream links, Ethernet, the PTP clock, field pins and the chain (09_links_and_field_pins) -/

/-- R362, R364 to R367, R369: LK_CTRL_WRITE completes for every master: only the lane's claimant writes it (RESOURCE_BUSY else), a
mode, rate or combination that the table lacks and the reserved loopback code are BAD_ARGUMENT, and while `en` is 1 only
`en` changes; setting `en` starts training, or loopback, and clearing it returns the lane to idle. LINK_TRAINING_DONE,
LINK_UP, LINK_DOWN and LINK_RX_TIMEOUT complete: training leads to searching, lock to up, and a lost lock or a receive
timeout back to searching, which is counted; in any other state of the link they change nothing. -/
def Rule.LinksTrainAndLoseLock : Prop :=
  ∀ (s : State) (w : Wall) (n : Fin 16),
    let a := R.LK_CTRL w.val n.val
    let st (t : State) : Nat := t.lkState w.val n.val
    let lost (t : State) : Prop := st t = 2 ∧ t.rd (R.LK_DOWN_COUNT w.val n.val) = satInc (s.rd (R.LK_DOWN_COUNT w.val n.val)) ∧
      t.fl (R.LK_EVENT w.val n.val) F.LK_EVENT_down = 1 ∧ t.sram = s.sram
    (∀ (m : Mid) (v : Word), Allowed s m a true →
      let mine := s.holds (claimLink w.val n.val) m.toNat = true
      let legal := rateAllowed (fld v F.LK_CTRL_mode) (fld v F.LK_CTRL_rate) (s.fl (R.LK_RATE w.val n.val) F.LK_RATE_mbps) = true ∧
        fld v F.LK_CTRL_lpbk ≠ 3
      let open_ := s.fl a F.LK_CTRL_en = 0 ∨ v &&& 0x1EFF = s.rd a &&& 0x1EFF
      let on := fld v F.LK_CTRL_mode ≠ 0 ∧ (s.wall w.val).pinsOn = true
      ∃ t, exec (.lkCtrlWrite m w n v) s = .next t ∧ MemAndTilesKept s t ∧
        (¬ mine → Answered t m a stBusy ∧ t.rd a = s.rd a) ∧
        (mine → ¬ legal → Answered t m a stBadArg ∧ t.rd a = s.rd a) ∧
        (mine → legal → ¬ open_ → Answered t m a stBusy ∧ t.rd a = s.rd a) ∧
        (mine → legal → open_ → Answered t m a 0 ∧ t.lkMode w.val n.val = fld v F.LK_CTRL_mode ∧
          t.fl a F.LK_CTRL_rate = fld v F.LK_CTRL_rate ∧ t.fl a F.LK_CTRL_en = fld v F.LK_CTRL_en ∧
          (fld v F.LK_CTRL_en = s.fl a F.LK_CTRL_en → st t = st s) ∧
          (s.fl a F.LK_CTRL_en = 1 → fld v F.LK_CTRL_en = 0 → st t = 0) ∧
          (s.fl a F.LK_CTRL_en = 0 → fld v F.LK_CTRL_en = 1 → ¬ on → st t = 0) ∧
          (s.fl a F.LK_CTRL_en = 0 → fld v F.LK_CTRL_en = 1 → on → fld v F.LK_CTRL_lpbk = 0 → st t = 1) ∧
          (s.fl a F.LK_CTRL_en = 0 → fld v F.LK_CTRL_en = 1 → on → fld v F.LK_CTRL_lpbk ≠ 0 → st t = 4))) ∧
    (OnWall s w →
      let due := st s = 3 ∧ (s.lkMode w.val n.val = 1 ∨ s.lkMode w.val n.val = 4) ∧
        s.fl (R.LK_RX_TIMEOUT w.val n.val) F.LK_RX_TIMEOUT_limit ≠ 0 ∧
        (s.link w.val n.val).lastRx + s.fl (R.LK_RX_TIMEOUT w.val n.val) F.LK_RX_TIMEOUT_limit * 1024 ≤ s.tick
      (st s = 1 → ∃ t, exec (.linkTrainingDone w n) s = .next t ∧ st t = 2 ∧ RegsKeptBut s t [R.LK_STATUS w.val n.val]) ∧
      (st s = 2 → ∃ t, exec (.linkUp w n) s = .next t ∧ st t = 3 ∧ RegsKeptBut s t [R.LK_STATUS w.val n.val]) ∧
      (st s = 3 → ∃ t, exec (.linkDown w n) s = .next t ∧ lost t) ∧
      (due → ∃ t, exec (.linkRxTimeout w n) s = .next t ∧ lost t) ∧
      (st s ≠ 1 → exec (.linkTrainingDone w n) s = .next s) ∧ (st s ≠ 2 → exec (.linkUp w n) s = .next s) ∧
      (st s ≠ 3 → exec (.linkDown w n) s = .next s) ∧ (¬ due → exec (.linkRxTimeout w n) s = .next s))

/-- R370 to R375, R385: STREAM_START_BLOCK, STREAM_SLOT_RECEIVE, FRAME_ARRIVAL and LEGACY_FRAME_RECEIVE complete. On an up stream
link a start block that has the link's form opens a frame, another discards it and is counted; a slot in its turn moves
the frame on: with its position and a good CRC it shows its `seq` and, where its entry is enabled and the frame is
written, sends one acknowledged bond write; else it is counted. The oldest frame whose writes are answered arrives and is
counted. A legacy frame with a bad CRC is counted, a good one opens and closes a frame. On a link in another state, or in
another mode, and out of turn, none of them changes anything. -/
def Rule.LinksReceiveFrames : Prop :=
  ∀ (s : State) (w : Wall) (n : Fin 16), OnWall s w →
    let x := s.link w.val n.val
    let crcs (t : State) : Prop := t.rd (R.LK_CRC_COUNT w.val n.val) = satInc (s.rd (R.LK_CRC_COUNT w.val n.val))
    let stream := s.lkState w.val n.val = 3 ∧ s.lkMode w.val n.val = 1
    let legacy := s.lkState w.val n.val = 3 ∧ s.lkMode w.val n.val = 4
    (∀ b : BitVec 64,
      let fits := bvf b 16 6 + 1 = s.sfSlots w.val n.val ∧ bvf b 22 3 + 1 = s.sfBlocks w.val n.val
      (stream → bvf b 0 8 = 0xC3 →
        ∃ t, exec (.streamStartBlock w n b) s = .next t ∧ t.sram = s.sram ∧ t.flight = s.flight ∧
          (fits → (t.link w.val n.val).rxOpen = true ∧ (t.link w.val n.val).rxNext = 0) ∧
          (¬ fits → (t.link w.val n.val).rxOpen = false ∧
            t.rd (R.LK_FMT_COUNT w.val n.val) = satInc (s.rd (R.LK_FMT_COUNT w.val n.val)))) ∧
      (¬ stream ∨ bvf b 0 8 ≠ 0xC3 → exec (.streamStartBlock w n b) s = .next s)) ∧
    (∀ (pos : Fin 64) (bits : BitVec 512),
      let k := 64 * s.sfBlocks w.val n.val
      let entry := s.rd (R.LK_RXS_DST w.val n.val pos.val)
      let good := bvf bits 0 6 = pos.val ∧ bvf bits (k - 16) 16 = crc16 bits.toNat (k - 16)
      let last := pos.val + 1 = s.sfSlots w.val n.val
      let turn := stream ∧ x.rxOpen = true ∧ x.rxNext = pos.val
      let writes := fld entry F.LK_RXS_DST_en = 1 ∧ x.rxDrop = false
      (turn →
        ∃ t, exec (.streamSlotReceive w n pos bits) s = .next t ∧ t.sram = s.sram ∧
          (last → (t.link w.val n.val).rxOpen = false) ∧
          (¬ last → (t.link w.val n.val).rxOpen = true ∧ (t.link w.val n.val).rxNext = pos.val + 1) ∧
          (good → t.fl (R.LK_SLOT_STAT w.val n.val pos.val) F.LK_SLOT_STAT_rxseq = bvf bits 6 8) ∧
          (good → writes → ∃ f, t.flight = s.flight ++ [f] ∧ f.pkt.dst.toNat = fld entry F.LK_RXS_DST_dst ∧ f.pkt.ack = true ∧
            f.pkt.typ = 0 ∧ f.pkt.addr.toNat = (s.rd (R.LK_RXS_ADDR w.val n.val pos.val)).toNat) ∧
          (good → ¬ writes → t.flight = s.flight) ∧
          (¬ good → crcs t ∧ t.flight = s.flight)) ∧
      (¬ turn → exec (.streamSlotReceive w n pos bits) s = .next s)) ∧
    (∀ f, x.rx.find? (fun f => f.closed && !f.dead && f.tags.isEmpty) = some f →
      ∃ t, exec (.frameArrival w n) s = .next t ∧ (t.link w.val n.val).rx = x.rx.erase f ∧
        t.rd (R.LK_RXFRAME_COUNT w.val n.val) = satInc (s.rd (R.LK_RXFRAME_COUNT w.val n.val))) ∧
    (x.rx.find? (fun f => f.closed && !f.dead && f.tags.isEmpty) = none → exec (.frameArrival w n) s = .next s) ∧
    (∀ (data : Bytes) (ok : Bool),
      let whole := 0 < data.length ∧ data.length ≤ 60
      let bad := s.fl (R.LK_LG_CFG w.val n.val) F.LK_LG_CFG_crc = 1 ∧ ok = false
      (legacy → whole →
        ∃ t, exec (.legacyFrameReceive w n data ok) s = .next t ∧ t.sram = s.sram ∧
          (bad → crcs t ∧ (t.link w.val n.val).rx = x.rx) ∧
          (¬ bad → (t.link w.val n.val).rxOpen = false ∧
            t.rd (R.LK_CRC_COUNT w.val n.val) = s.rd (R.LK_CRC_COUNT w.val n.val))) ∧
      (¬ legacy ∨ ¬ whole → exec (.legacyFrameReceive w n data ok) s = .next s))

/-- R379, word for word, for the two triggers that can arrive while a frame is being sent: a write of LK_SF_GO by the lane's
claimant and a match of the link's comparator. -/
def Obligations.TriggersWhileSendingAreCounted : Prop :=
  ∀ (s : State) (w : Wall) (n : Fin 16), s.lkSends w.val n.val = true → s.lkMode w.val n.val = 1 ∨ s.lkMode w.val n.val = 4 →
    s.tick < (s.link w.val n.val).sendingUntil →
    let dropped (t : State) : Prop :=
      t.rd (R.LK_TXOVR_COUNT w.val n.val) = satInc (s.rd (R.LK_TXOVR_COUNT w.val n.val)) ∧
      t.rd (R.LK_TXFRAME_COUNT w.val n.val) = s.rd (R.LK_TXFRAME_COUNT w.val n.val) ∧
      (t.link w.val n.val).txWire = (s.link w.val n.val).txWire ∧ (t.link w.val n.val).sendingUntil = (s.link w.val n.val).sendingUntil
    (∀ m : Mid, Allowed s m (R.LK_SF_GO w.val n.val) true → s.holds (claimLink w.val n.val) m.toNat = true →
      s.fl (R.LK_SF_CFG w.val n.val) F.LK_SF_CFG_txmode = 0 →
      ∃ t, exec (.lkSfGo m w n) s = .next t ∧ Answered t m (R.LK_SF_GO w.val n.val) 0 ∧ dropped t) ∧
    (∀ target, OnWall s w → (s.link w.val n.val).armed = some target → reached (s.lkPos w.val n.val) target = true →
      ∃ t, exec (.angleTransmitMatch w n) s = .next t ∧ dropped t)

/-- R16, R364, R376 to R378, R385: LINK_UNIT_WRITE, LK_SF_GO, FREE_RUN_TRIGGER and ANGLE_TRANSMIT_MATCH complete. A bond write that
reaches the link unit waits in the slot's pending copy, and one that leaves the slot, is no write, or comes from another
wall without a right to the link, is refused. A trigger of an idle link (a write of LK_SF_GO in that mode by the lane's
claimant, a free-running period, a match of its comparator) sends one frame, in stream framing a start block and every
slot, else one frame for each enabled slot, and counts it; a match moves the periodic index on. In another mode, or before
its time, a trigger sends nothing. -/
def Rule.TriggersSendFrames : Prop :=
  ∀ (s : State) (w : Wall) (n : Fin 16),
    let x := s.link w.val n.val
    let stat (e : Nat) := R.LK_SLOT_STAT w.val n.val e
    let frames := if s.lkMode w.val n.val = 1 then 1
      else ((List.range 64).filter (fun e => s.fl (R.LK_TXS_CFG w.val n.val e) F.LK_TXS_CFG_en = 1)).length
    let sent (t : State) : Prop :=
      t.rd (R.LK_TXFRAME_COUNT w.val n.val) = satAdd (s.rd (R.LK_TXFRAME_COUNT w.val n.val)) frames ∧
      (t.link w.val n.val).txWire.length = (if s.lkMode w.val n.val = 1 then 1 + s.sfSlots w.val n.val else frames) ∧
      s.tick < (t.link w.val n.val).sendingUntil ∧ t.sram = s.sram
    let silent (t : State) : Prop := t.rd (R.LK_TXFRAME_COUNT w.val n.val) = s.rd (R.LK_TXFRAME_COUNT w.val n.val) ∧ t.links = s.links
    let idle := s.lkSends w.val n.val = true ∧ (s.lkMode w.val n.val = 1 ∨ s.lkMode w.val n.val = 4) ∧ x.sendingUntil ≤ s.tick
    let txmode := s.fl (R.LK_SF_CFG w.val n.val) F.LK_SF_CFG_txmode
    (∀ (s1 : State) (p : Packet), OnWall s w → p.isAnswer = false → Reaches s s1 w.val (20 + n.val / 8) (n.val % 8) p →
      let slot := bvf p.addr 2 6
      let denied := s.crossDenied w.val (R.LK_CTRL w.val n.val) p = true
      let fits := bvf p.addr 0 2 = 0 ∧ p.count % 4 = 0 ∧ bvf p.addr 8 5 + p.count / 4 ≤ 20
      ∃ t, exec (.linkUnitWrite w n p) s = .next t ∧ t.sram = s.sram ∧
        (p.typ = 0 → ¬ denied → fits → t.fl (stat slot) F.LK_SLOT_STAT_pending = 1 ∧
          (t.link w.val n.val).txBuf = x.txBuf ∧ RegsKeptBut s t [stat slot]) ∧
        (p.typ ≠ 0 ∨ denied ∨ ¬ fits → t.links = s.links ∧
          t.rd (R.BOND_NACK_COUNT w.val) = satInc (s.rd (R.BOND_NACK_COUNT w.val)))) ∧
    (∀ m : Mid, Allowed s m (R.LK_SF_GO w.val n.val) true →
      let mine := s.holds (claimLink w.val n.val) m.toNat = true
      ∃ t, exec (.lkSfGo m w n) s = .next t ∧
        (¬ mine → Answered t m (R.LK_SF_GO w.val n.val) stBusy ∧ silent t) ∧
        (mine → Answered t m (R.LK_SF_GO w.val n.val) 0 ∧ (txmode = 0 → idle → sent t) ∧ (txmode ≠ 0 → silent t))) ∧
    (OnWall s w →
      (idle → txmode = 1 → x.nextFree ≤ s.tick →
        ∃ t, exec (.freeRunTrigger w n) s = .next t ∧ sent t ∧ s.tick < (t.link w.val n.val).nextFree) ∧
      (txmode ≠ 1 ∨ s.tick < x.nextFree ∨ s.tick < x.sendingUntil → exec (.freeRunTrigger w n) s = .next s)) ∧
    (OnWall s w →
      (∀ target, idle → x.armed = some target → reached (s.lkPos w.val n.val) target = true →
        ∃ t, exec (.angleTransmitMatch w n) s = .next t ∧ sent t ∧
          (s.fl (R.LK_SF_CFG w.val n.val) F.LK_SF_CFG_skip = 0 →
            t.fl (R.LK_SF_IDX w.val n.val) F.LK_SF_IDX_k = (nextIndex (s.rd (R.LK_SF_REV w.val n.val)).toNat
              (s.fl (R.LK_SF_CFG w.val n.val) F.LK_SF_CFG_div) (s.fl (R.LK_SF_IDX w.val n.val) F.LK_SF_IDX_k)).2 % 65536)) ∧
      ((∀ target, x.armed = some target → reached (s.lkPos w.val n.val) target = false) → exec (.angleTransmitMatch w n) s = .next s))

/-- R380 to R383: ETH_FRAME_RECEIVE, ETH_TRANSMIT, PTP_ADJ_WRITE and PTP_NS_READ complete. An up Ethernet link drops and counts a frame
with a bad check sequence, a PAUSE frame, one of a length that it does not support and one that finds no room; it passes
over a frame that its address filter does not take, and writes an accepted one into its receive ring, whose write offset
moves past the record. It transmits the frame at its read offset, which moves on past the record, while the ring holds one
and the last one is sent. PTP_ADJ moves the wall's clock by nanoseconds; a read of PTP_NS returns the nanoseconds and
latches the seconds. -/
def Rule.EthernetAndPtp : Prop :=
  ∀ (s : State) (w : Wall) (n : Fin 16),
    let size := s.fl (R.LK_ETH_RXSIZE w.val n.val) F.LK_ETH_RXSIZE_bytes
    let wp := s.fl (R.LK_ETH_RXWR w.val n.val) F.LK_ETH_RXWR_offset
    let rp := s.fl (R.LK_ETH_RXRD w.val n.val) F.LK_ETH_RXRD_offset
    let drops (t : State) : Word := t.rd (R.LK_ETH_DROP_COUNT w.val n.val)
    let live := s.ethMode w.val n.val = true ∧ s.lkState w.val n.val = 3
    (OnWall s w → ∀ (data : Bytes) (ok : Bool),
      let bad := ok = false ∨ isPause data = true ∨ data.length < 60 ∨
        min 9216 (s.fl (R.LK_ETH_CFG w.val n.val) F.LK_ETH_CFG_maxlen) < data.length + 4
      let mine := s.ethAccepts w.val n.val data = true
      let room := s.bankOn w.val 3 = true ∧ (wp + size - rp % max 1 size) % max 1 size + (64 + roundUp64 data.length) < size
      (live → bad ∨ (mine ∧ ¬ room) →
        ∃ t, exec (.ethFrameReceive w n data ok) s = .next t ∧ drops t = satInc (drops s) ∧ t.sram = s.sram) ∧
      (live → ¬ bad → mine → room →
        ∃ t, exec (.ethFrameReceive w n data ok) s = .next t ∧ drops t = drops s ∧ t.gddr = s.gddr ∧
          t.fl (R.LK_ETH_RXWR w.val n.val) F.LK_ETH_RXWR_offset = (wp + (64 + roundUp64 data.length)) % size % 1048576) ∧
      (¬ live ∨ (¬ bad ∧ ¬ mine) → exec (.ethFrameReceive w n data ok) s = .next s)) ∧
    (let tsize := s.fl (R.LK_ETH_TXSIZE w.val n.val) F.LK_ETH_TXSIZE_bytes
     let trp := s.fl (R.LK_ETH_TXRD w.val n.val) F.LK_ETH_TXRD_offset
     let off := (s.fl (R.LK_ETH_TXBASE w.val n.val) F.LK_ETH_TXBASE_bytes + trp % tsize) % 0x400000
     let len := ofLeBytes ((s.sramBytes w.val 3 off 64).take 2)
     let sends := s.ethMode w.val n.val = true ∧ s.lkSends w.val n.val = true ∧ tsize ≠ 0 ∧
      s.fl (R.LK_ETH_TXWR w.val n.val) F.LK_ETH_TXWR_offset ≠ trp ∧ s.bankOn w.val 3 = true ∧
      (s.link w.val n.val).sendingUntil ≤ s.tick
     OnWall s w →
      (sends → ∃ t, exec (.ethTransmit w n) s = .next t ∧ (t.link w.val n.val).txWire.length = 1 ∧
        t.rd (R.LK_TXFRAME_COUNT w.val n.val) = satInc (s.rd (R.LK_TXFRAME_COUNT w.val n.val)) ∧
        t.fl (R.LK_ETH_TXRD w.val n.val) F.LK_ETH_TXRD_offset = (trp + 64 + roundUp64 len) % tsize % 1048576) ∧
      (¬ sends → exec (.ethTransmit w n) s = .next s)) ∧
    (∀ (m : Mid) (v : Word), Allowed s m (R.PTP_ADJ w.val) true →
      ∃ t, exec (.ptpAdjWrite m w v) s = .next t ∧ Answered t m (R.PTP_ADJ w.val) 0 ∧ t.regs = s.regs ∧
        (t.wall w.val).ptpTotal = ((s.wall w.val).ptpTotal + v.toInt * 16777216) % (281474976710656 * 1000000000 * 16777216)) ∧
    (∀ m : Mid, Allowed s m (R.PTP_NS w.val) false →
      ∃ t, exec (.ptpNsRead m w) s = .next t ∧ Answered t m (R.PTP_NS w.val) 0 ∧ t.regs = s.regs ∧
        (s.wallOff w.val = false → t.last.value = BitVec.ofNat 32 (s.wall w.val).ptpNs ∧ (t.wall w.val).ptpLatch = (s.wall w.val).ptpSec) ∧
        (s.wallOff w.val = true → t.last.value = 0))

/-- R388 to R392: FIELD_PIN_EDGE, FP_TRIP_SET, FP_TRIP_CLR, FP_CFG_WRITE and FP_BANK_WRITE complete. An edge at an input is sampled and
counted, and one at an event input trips the trip outputs whose mask and polarity name it. The claimant of a trip output
trips and clears it; a clear in the cycle of a trip changes nothing. FP_CFG is written by the pin's claimant while no angle
base and no compare unit uses the pin; a timed output starts at its initial level, a trip output as its trip stands. The
bank's VIO selection changes only while no pin has a function. -/
def Rule.PinsSampleAndTrip : Prop :=
  ∀ (s : State) (w : Wall) (p : Fin 24),
    let func := s.pinFunc w.val p.val
    let trip := R.FP_TRIP w.val p.val
    let mine (m : Mid) : Prop := s.holds (claimPin w.val p.val) m.toNat = true
    (∀ rising : Bool, OnWall s w →
      (s.vioLive w.val = true → func ≠ 0 →
        ∃ t, exec (.fieldPinEdge w p rising) s = .next t ∧ (t.pin w.val p.val).sampled = rising ∧
          (func = 1 ∨ func = 2 → t.rd (R.FP_COUNT w.val p.val) = satInc (s.rd (R.FP_COUNT w.val p.val))) ∧
          (func = 2 → ∀ q, q < 24 → s.pinFunc w.val q = 4 → nbit (s.fl (R.FP_TRIPMASK w.val q) F.FP_TRIPMASK_mask) p.val = true →
            nbit (s.fl (R.FP_CFG w.val q) F.FP_CFG_tedge) (if rising then 0 else 1) = true →
            (t.pin w.val q).outReg = false ∧ t.fl (R.FP_TRIP w.val q) F.FP_TRIP_tripped = 1)) ∧
      (s.vioLive w.val = false ∨ func = 0 → exec (.fieldPinEdge w p rising) s = .next s)) ∧
    (∀ m : Mid, Allowed s m trip true →
      let now := (s.pin w.val p.val).tripAt = (s.wall w.val).cycle + 1
      let kept (t : State) : Prop := t.rd trip = s.rd trip ∧ t.pins = s.pins
      (∃ t, exec (.fpTripSet m w p) s = .next t ∧ MemAndTilesKept s t ∧
        (¬ mine m → Answered t m trip stBusy ∧ kept t) ∧
        (mine m → func ≠ 4 → Answered t m trip stBadArg ∧ kept t) ∧
        (mine m → func = 4 → Answered t m trip 0 ∧ (t.pin w.val p.val).outReg = false ∧ t.fl trip F.FP_TRIP_tripped = 1 ∧
          WallRaised s t w.val 11 0)) ∧
      (∃ t, exec (.fpTripClr m w p) s = .next t ∧ MemAndTilesKept s t ∧
        (¬ mine m → Answered t m trip stBusy ∧ kept t) ∧
        (mine m → func ≠ 4 → Answered t m trip stBadArg ∧ kept t) ∧
        (mine m → func = 4 → ¬ now → Answered t m trip 0 ∧ (t.pin w.val p.val).outReg = true ∧ t.fl trip F.FP_TRIP_tripped = 0) ∧
        (mine m → func = 4 → now → Answered t m trip 0 ∧ kept t))) ∧
    (∀ (m : Mid) (v : Word), let a := R.FP_CFG w.val p.val
      let f := fld v F.FP_CFG_func
      let legal := f < 5 ∧ fld v F.FP_CFG_pull ≠ 3
      Allowed s m a true →
      ∃ t, exec (.fpCfgWrite m w p v) s = .next t ∧ MemAndTilesKept s t ∧
        (¬ mine m ∨ s.pinInUse w.val p.val = true → Answered t m a stBusy ∧ t.rd a = s.rd a) ∧
        (mine m → s.pinInUse w.val p.val = false → ¬ legal → Answered t m a stBadArg ∧ t.rd a = s.rd a) ∧
        (mine m → s.pinInUse w.val p.val = false → legal → Answered t m a 0 ∧ t.pinFunc w.val p.val = f ∧
          (f = 3 → (t.pin w.val p.val).outReg = decide (fld v F.FP_CFG_init = 1)) ∧
          (f = 4 → (t.pin w.val p.val).outReg = decide (s.fl trip F.FP_TRIP_tripped = 0)) ∧
          (f < 3 → (t.pin w.val p.val).outReg = false))) ∧
    (∀ (m : Mid) (v : Word), let a := R.FP_BANK w.val
      let free := fld v F.FP_BANK_vio = s.fl a F.FP_BANK_vio ∨ ∀ q, q < 24 → s.pinFunc w.val q = 0
      Allowed s m a true →
      ∃ t, exec (.fpBankWrite m w v) s = .next t ∧ MemAndTilesKept s t ∧
        (5 ≤ fld v F.FP_BANK_vio → Answered t m a stBadArg ∧ t.rd a = s.rd a) ∧
        (fld v F.FP_BANK_vio < 5 → free → Answered t m a 0 ∧ t.fl a F.FP_BANK_vio = fld v F.FP_BANK_vio) ∧
        (fld v F.FP_BANK_vio < 5 → ¬ free → Answered t m a stBusy ∧ t.rd a = s.rd a))

/-- R394: VIO that leaves its range clears `valid`, makes every input of the bank read 0 and raises VIO_INVALID once; VIO
that is back sets `valid`, and 125,000 ticks later the outputs return and edges are accepted again. -/
def Rule.VioGatesThePins : Prop :=
  ∀ (s : State) (w : Wall) (meas : BitVec 8), OnWall s w →
    let bank := R.FP_BANK w.val
    (s.vioInside w.val meas.toNat = false →
      ∃ t, exec (.vioInvalid w meas) s = .next t ∧ t.fl bank F.FP_BANK_valid = 0 ∧ t.fl bank F.FP_BANK_meas = meas.toNat ∧
        t.vioLive w.val = false ∧ (∀ p, p < 24 → (t.pin w.val p).sampled = false ∧ (t.pin w.val p).outReg = (s.pin w.val p).outReg) ∧
        (s.fl bank F.FP_BANK_valid = 1 → WallRaised s t w.val 12 0)) ∧
    (s.vioInside w.val meas.toNat = true →
      ∃ t, exec (.vioValid w meas) s = .next t ∧ t.fl bank F.FP_BANK_valid = 1 ∧ t.fl bank F.FP_BANK_meas = meas.toNat ∧
        t.pins = s.pins ∧ (s.fl bank F.FP_BANK_valid = 0 → (t.wall w.val).vioAt = s.tick)) ∧
    (s.fl bank F.FP_BANK_valid = 1 → (s.wall w.val).vioLive = false → (s.wall w.val).vioAt + 125000 ≤ s.tick →
      ∃ t, exec (.fieldOutputReturn w) s = .next t ∧ (t.wall w.val).vioLive = true ∧ t.pins = s.pins ∧ t.regs = s.regs)

/-- R398, R399, R401: CHAIN_PARTNER_CHANGE, ENUM, TICK_SEND, TICK and RESERVED_CHAIN_FRAME complete. A partner change notes the
partner and enumerates again: the head takes position 0, a module further down keeps or loses its position with its
upstream partner. A module that is not the head takes the position that an ENUM from upstream gives it and, with a partner
downstream, passes on the next; the last one answers with the chain's length; a position of 64 or more is reported; an ENUM
from downstream carries the length. The head sends a tick once a millisecond, which a module further down takes and passes
on. A frame of an unlisted type is counted. -/
def Rule.ChainEnumeratesAndTicks : Prop :=
  ∀ (s : State), s.powered = true →
    let c := s.chain
    (∀ up present : Bool,
      let head := s.fl R.CHN_CFG F.CHN_CFG_head = 1 ∨ (if up then present = false else c.upPartner = false)
      ∃ t, exec (.chainPartnerChange up present) s = .next t ∧ t.regs = s.regs ∧
        t.chain.upPartner = (if up then present else c.upPartner) ∧ t.chain.downPartner = (if up then c.downPartner else present) ∧
        (head → t.chain.pos = some 0) ∧ (¬ head → t.chain.pos = if up then none else c.pos)) ∧
    (∀ pos : BitVec 8,
      (s.isHead = false →
        ∃ t, exec (.enum pos true) s = .next t ∧
          (64 ≤ pos.toNat → t.chain.pos = none ∧ t.fl R.CHN_EVENT F.CHN_EVENT_long = 1) ∧
          (pos.toNat < 64 → t.regs = s.regs ∧ t.chain.pos = some pos.toNat ∧
            (c.downPartner = true → ∃ f, t.chain.sent = c.sent ++ [(true, f)] ∧ f.payload = leBytes 1 (pos.toNat + 1)) ∧
            (c.downPartner = false → t.chain.len = pos.toNat + 1))) ∧
      (s.isHead = true → exec (.enum pos true) s = .next s) ∧
      (∃ t, exec (.enum pos false) s = .next t ∧ t.chain.len = pos.toNat ∧ t.chain.pos = c.pos ∧ t.regs = s.regs)) ∧
    (let due := s.isHead = true ∧ c.tickSent.all (fun t0 => decide (t0 + 1250000 ≤ s.tick)) = true
     (due →
      ∃ t, exec .tickSend s = .next t ∧ t.rd R.CHN_TICK = s.rd R.CHN_TICK + 1 ∧ t.chain.tickSent = some s.tick ∧
        t.chain.tickAt = some (s.tick + (c.len - 1 - c.pos.getD 0) * 2500)) ∧
     (¬ due → exec .tickSend s = .next s)) ∧
    (∀ v : Word,
      (s.isHead = false →
        ∃ t, exec (.tick v) s = .next t ∧ t.rd R.CHN_TICK = v ∧ t.chain.tickAt = some (s.tick + (c.len - 1 - c.pos.getD 0) * 2500) ∧
          (c.downPartner = true → ∃ f, t.chain.sent = c.sent ++ [(true, f)] ∧ f.payload = leBytes 4 v.toNat)) ∧
      (s.isHead = true → exec (.tick v) s = .next s)) ∧
    (∀ fr : ChainFrame,
      let listed := 1 ≤ fr.typ.toNat ∧ fr.typ.toNat ≤ 6
      (¬ listed → ∃ t, exec (.reservedChainFrame fr) s = .next t ∧ t.rd R.CHN_ERR_COUNT = satInc (s.rd R.CHN_ERR_COUNT) ∧
        t.fl R.CHN_EVENT F.CHN_EVENT_err = 1 ∧ t.chain = s.chain) ∧
      (listed → exec (.reservedChainFrame fr) s = .next s))

/-- R398, R400: a frame of the chain that is not for this module to act on: with a bad CRC it is discarded and counted, else it is
passed on unless it is addressed to this module only, and nothing else changes. -/
def OnlyPassedOn (s t : State) (fr : ChainFrame) : Prop :=
  (fr.crcOk = false → t.chain = s.chain ∧ t.rd R.CHN_ERR_COUNT = satInc (s.rd R.CHN_ERR_COUNT) ∧ t.trowel = s.trowel) ∧
  (fr.crcOk = true → t = s.chainForward fr)

/-- R489, R490: a block of an image, for a running trowel or for the recovery ROM, is taken from `s` to `t`: one of the image under way
is kept, and the last one ends it; one of another image, one out of range and one that no accepted header precedes change
nothing of it; block 0 of a new image is kept when the header passes its checks, and refused else. -/
def BlockTaken (s t : State) (fr : ChainFrame) (recovery : Bool) : Prop :=
  let crc := hdr fr.payload 0 4
  let k := hdr fr.payload 4 4
  let i := s.chainImage (fr.payload.drop 16)
  let busy := recovery = false ∧ s.stageBusy = true
  let bad := (recovery = true ∧ (i.peger = true ∨ imgKind i ≠ 1)) ∨ s.stageCheck i ≠ 0
  (∀ r, s.chain.rx = some r → r.src = fr.src.toNat ∧ r.crc = crc ∧ r.recovery = recovery → k < r.count →
    let blocks := Sp.put r.blocks k (fr.payload.drop 16)
    (blocks.length ≠ r.count → t.chain.rx = some { r with blocks := blocks } ∧ t.regs = s.regs ∧ t.trowel = s.trowel) ∧
    (blocks.length = r.count → t.chain.rx = none)) ∧
  (∀ r, s.chain.rx = some r → ¬ (r.src = fr.src.toNat ∧ r.crc = crc ∧ r.recovery = recovery) ∨ r.count ≤ k →
    t.chain.rx = some r ∧ t.regs = s.regs ∧ t.trowel = s.trowel) ∧
  (s.chain.rx = none → busy ∨ k ≠ 0 → t.chain.rx = none ∧ t.regs = s.regs ∧ t.trowel = s.trowel) ∧
  (s.chain.rx = none → ¬ busy → k = 0 → bad → t.chain.rx = none ∧ ∃ st, t.chain.refused = some (crc, st) ∧ st ≠ 0) ∧
  (s.chain.rx = none → ¬ busy → k = 0 → ¬ bad → 1 < hdr fr.payload 8 4 →
    ∃ r, t.chain.rx = some r ∧ r.src = fr.src.toNat ∧ r.crc = crc ∧ r.count = hdr fr.payload 8 4 ∧ r.recovery = recovery ∧
      r.blocks = [(0, fr.payload.drop 16)])

/-- R400, R489, R490, R497, R499, R501: IMAGE, RECOVERY_FRAME, ACK, CHAIN_RESEND_ROUND, HEALTH_SEND and HEALTH complete. A block of an image
is taken by a running trowel that accepts images, and a recovery block by the recovery ROM at its position; an OK
acknowledgement is noted for its sender; a resend round counts up to three, after which the sender is done and the receiver
discards its image; a module reports its health every 100 ms, and a report from another module is shown in TRW_CHAIN. Any
other frame is only passed on, and one with a bad CRC is discarded. -/
def Rule.ChainCarriesImagesAndHealth : Prop :=
  ∀ (s : State), s.powered = true →
    let c := s.chain
    (∀ fr : ChainFrame,
      let mine := fr.crcOk = true ∧ (fr.dst = 0xFF ∨ c.pos = some fr.dst.toNat)
      let found := (List.range c.txFrames.length).zip c.txFrames |>.find? (fun e => e.2.seq = fr.seq && c.lacks fr.src.toNat e.1)
      (let acts := mine ∧ s.trowel.running = true ∧ s.fl R.TRW_FWD F.TRW_FWD_accept = 1 ∧ 16 ≤ fr.payload.length
       ∃ t, exec (.image fr) s = .next t ∧ (acts → BlockTaken s t fr false) ∧ (¬ acts → OnlyPassedOn s t fr)) ∧
      (let acts := mine ∧ s.trowel.recovery = true ∧ fr.dst ≠ 0xFF ∧ 16 ≤ fr.payload.length
       ∃ t, exec (.recoveryFrame fr) s = .next t ∧ (acts → BlockTaken s t fr true) ∧ (¬ acts → OnlyPassedOn s t fr)) ∧
      (let acts := mine ∧ hdr fr.payload 0 2 = 0
       ∃ t, exec (.ack fr) s = .next t ∧ (¬ acts → OnlyPassedOn s t fr) ∧
        (∀ e, acts → found = some e → t.chain.txOk = c.txOk ++ [(fr.src.toNat, e.1)] ∧ t.regs = s.regs ∧ t.trowel = s.trowel) ∧
        (acts → found = none → OnlyPassedOn s t fr)) ∧
      (let acts := mine ∧ hdr fr.payload 0 1 < 64
       let a := R.TRW_CHAIN (hdr fr.payload 0 1)
       ∃ t, exec (.health fr) s = .next t ∧ (¬ acts → OnlyPassedOn s t fr) ∧
        (acts → t.fl a F.TRW_CHAIN_state = hdr fr.payload 4 1 % 8 ∧ t.fl a F.TRW_CHAIN_valid = 1 ∧
          t.fl a F.TRW_CHAIN_version = hdr fr.payload 1 3 % 16777216) ∧
        (acts → s.trowel.act = none → RegsKeptBut s t [a] ∧
          (s.fl a F.TRW_CHAIN_state ≠ hdr fr.payload 4 1 % 8 → HubRaised s t 25 0)))) ∧
    (∃ t, exec .chainResendRound s = .next t ∧
      (c.txFrames ≠ [] → c.txRounds < 3 → t.chain.txRounds = c.txRounds + 1 ∧ t.chain.txFrames = c.txFrames) ∧
      (c.txFrames ≠ [] → 3 ≤ c.txRounds → t.chain.txFrames = []) ∧
      (c.rx = none → t.chain.rx = none ∧ t.regs = s.regs) ∧
      (∀ r, c.rx = some r → r.rounds < 3 → t.chain.rx = some { r with rounds := r.rounds + 1 } ∧ t.regs = s.regs) ∧
      (∀ r, c.rx = some r → 3 ≤ r.rounds → t.chain.rx = none)) ∧
    (let due := c.lastHealth.all (fun t0 => decide (t0 + 125000000 ≤ s.tick)) = true
     (∀ p, c.pos = some p → due → ∃ t, exec .healthSend s = .next t ∧ t.chain.lastHealth = some s.tick ∧ t.regs = s.regs ∧
        (c.downPartner = true → ∃ f, (true, f) ∈ t.chain.sent ∧ f.typ = 5 ∧ f.dst = 0xFF)) ∧
     (c.pos = none ∨ ¬ due → exec .healthSend s = .next s))

/-- R464, R465: HOLD_N_RISE, HOLD_N_FALL, DONE_OD_RISE, DONE_OD_FALL and DONE_OD_WAIT_TIMEOUT complete: a rise shows only once this module
holds the line no longer, a fall at once, and each change is reported; a rise of DONE_OD ends the wait of every wall at its
wait point; a wait that lasts longer than KILN_DONE_TO ends with `done_to` set. A line at its level stays, and a wall that
does not wait, or not yet that long, is as it was. -/
def Rule.HoldAndDoneFollowTheChain : Prop :=
  ∀ (s : State), s.powered = true →
    (s.holdsHold = false → s.holdN = false → ∃ t, exec .holdNRise s = .next t ∧ t.holdN = true ∧ HubRaised s t 26 1 ∧ MemAndTilesKept s t) ∧
    (s.holdsHold = true ∨ s.holdN = true → exec .holdNRise s = .next s) ∧
    (s.holdN = true → ∃ t, exec .holdNFall s = .next t ∧ t.holdN = false ∧ HubRaised s t 26 1 ∧ MemAndTilesKept s t) ∧
    (s.holdN = false → exec .holdNFall s = .next s) ∧
    (s.holdsDone = false → s.doneOd = false →
      ∃ t, exec .doneOdRise s = .next t ∧ t.doneOd = true ∧ HubRaised s t 26 0 ∧
        ∀ w, w < 8 → (s.wall w).kiln.waitFrom ≠ none → (t.wall w).kiln.waited = true) ∧
    (s.holdsDone = true ∨ s.doneOd = true → exec .doneOdRise s = .next s) ∧
    (s.doneOd = true → ∃ t, exec .doneOdFall s = .next t ∧ t.doneOd = false ∧ HubRaised s t 26 0 ∧ t.walls = s.walls) ∧
    (s.doneOd = false → exec .doneOdFall s = .next s) ∧
    (∀ w : Wall, s.populated w.val = true →
      let ms := s.fl (R.KILN_DONE_TO w.val) F.KILN_DONE_TO_ms
      let due := (s.wall w.val).kiln.waitFrom.any (fun t0 => decide (t0 + ms * 1250000 < s.tick)) = true ∧ (s.wall w.val).kiln.waited = false ∧
        s.doneOd = false ∧ s.phase w.val = 5 ∧ ms ≠ 0
      (due → ∃ t, exec (.doneOdWaitTimeout w) s = .next t ∧ (t.wall w.val).kiln.waited = true ∧
        t.fl (R.KILN_STATUS w.val) F.KILN_STATUS_done_to = 1 ∧ t.fl (R.KILN_STATUS w.val) F.KILN_STATUS_donew = 0) ∧
      (¬ due → exec (.doneOdWaitTimeout w) s = .next s))

/-! ## The host interface (10_host_interface) -/

/-- R364, R415 to R419, R431: CLAIM_TAKE, CLAIM_RELEASE and CLAIM_FORCE complete for every claimable resource of a populated wall and
of the service block: a free resource is claimed by the master that takes it, unless it is a lane leased to another
(ACCESS_DENIED), and one that another master holds is RESOURCE_BUSY; only its holder releases it, once it is not in use;
only master 0 forces a release, which returns the resource to its reset state, so that it is not in use, and is reported.
The resources of a wall that the part does not populate answer ACCESS_DENIED. -/
def Obligations.ClaimsBelongToTheirHolder : Prop :=
  ∀ (s : State) (m : Mid) (r : Nat) (x : Res), claimRes r = some x → Allowed s m r true →
    let there := x.wall.all s.populated = true
    let mine := s.holds r m.toNat = true
    let leased := (match x with | .link w n => s.laneLeased w n m.toNat | _ => false) = true
    let kept (t : State) : Prop := t.rd r = s.rd r ∧ t.walls = s.walls
    (∃ t, exec (.claimTake m r) s = .next t ∧ MemAndTilesKept s t ∧
      (¬ there → Answered t m r stAccessDenied ∧ kept t) ∧
      (there → mine → Answered t m r 0 ∧ t.regs = s.regs) ∧
      (there → s.claimed r = true → ¬ mine → Answered t m r stBusy ∧ kept t) ∧
      (there → s.claimed r = false → leased → Answered t m r stAccessDenied ∧ kept t) ∧
      (there → s.claimed r = false → ¬ leased → Answered t m r 0 ∧ t.holds r m.toNat = true)) ∧
    (∃ t, exec (.claimRelease m r) s = .next t ∧ MemAndTilesKept s t ∧
      (¬ there ∨ ¬ mine → Answered t m r stAccessDenied ∧ kept t) ∧
      (there → mine → s.inUse x = true → Answered t m r stBusy ∧ kept t) ∧
      (there → mine → s.inUse x = false → Answered t m r 0 ∧ t.claimed r = false)) ∧
    (∃ t, exec (.claimForce m r) s = .next t ∧ MemAndTilesKept s t ∧
      (¬ there ∨ m ≠ 0 → Answered t m r stAccessDenied ∧ kept t) ∧
      (there → m = 0 → Answered t m r 0 ∧ t.claimed r = false ∧ t.inUse x = false ∧ ∃ e ∈ t.hubWait, e.code = 184))

/-- R420, R422, R425: SQ_CFG_WRITE, CQ_CFG_WRITE, SQ_DB and CQ_DB complete. A submission queue is enabled with a size of 4 to 12 and an
enabled completion queue, and starts empty; a completion queue likewise; of an enabled queue the other fields do not change
(RESOURCE_BUSY), and it is disabled again, a completion queue only while no enabled queue names it. A tail inside the queue
is taken, one outside it stops the queue and sets `err`; a head inside the queue is taken from CQ_DB; a doorbell of a
disabled queue is RESOURCE_BUSY. -/
def Rule.QueuesAreConfiguredAndRung : Prop :=
  ∀ (s : State) (m : Mid) (q : Fin 64) (v : Word),
    let sq := R.SQ_CFG q.val
    let cq := R.CQ_CFG q.val
    let users := ∃ k, k < 64 ∧ s.sqOn k = true ∧ s.sqCq k = q.val
    (Allowed s m sq true →
      let ok := (4 ≤ fld v F.SQ_CFG_lsize ∧ fld v F.SQ_CFG_lsize ≤ 12) ∧ s.cqOn (fld v F.SQ_CFG_cq) = true
      let same := v &&& 0xFFFF = s.rd sq &&& 0xFFFF
      ∃ t, exec (.sqCfgWrite m q v) s = .next t ∧ MemAndTilesKept s t ∧
        (s.sqOn q.val = false → fld v F.SQ_CFG_en = 1 → ok → Answered t m sq 0 ∧ t.sqOn q.val = true ∧
          t.sqCq q.val = fld v F.SQ_CFG_cq ∧ (t.queue q.val).tail = 0 ∧ t.fl (R.SQ_HEAD q.val) F.SQ_HEAD_head = 0) ∧
        (s.sqOn q.val = false → fld v F.SQ_CFG_en = 1 → ¬ ok → Answered t m sq stBadArg ∧ t.rd sq = s.rd sq) ∧
        (s.sqOn q.val = false → fld v F.SQ_CFG_en = 0 → Answered t m sq 0 ∧ t.sqOn q.val = false) ∧
        (s.sqOn q.val = true → ¬ same → Answered t m sq stBusy ∧ t.rd sq = s.rd sq) ∧
        (s.sqOn q.val = true → same → Answered t m sq 0 ∧ t.sqOn q.val = decide (fld v F.SQ_CFG_en = 1))) ∧
    (Allowed s m cq true →
      let ok := 4 ≤ fld v F.CQ_CFG_lsize ∧ fld v F.CQ_CFG_lsize ≤ 12
      let same := v &&& 0x100F = s.rd cq &&& 0x100F
      ∃ t, exec (.cqCfgWrite m q v) s = .next t ∧ MemAndTilesKept s t ∧
        (s.cqOn q.val = false → fld v F.CQ_CFG_en = 1 → ok →
          Answered t m cq 0 ∧ t.cqOn q.val = true ∧ (t.queue q.val).phase = true ∧ t.fl (R.CQ_TAIL q.val) F.CQ_TAIL_tail = 0) ∧
        (s.cqOn q.val = false → fld v F.CQ_CFG_en = 1 → ¬ ok → Answered t m cq stBadArg ∧ t.rd cq = s.rd cq) ∧
        (s.cqOn q.val = false → fld v F.CQ_CFG_en = 0 → Answered t m cq 0 ∧ t.cqOn q.val = false) ∧
        (s.cqOn q.val = true → ¬ same ∨ (fld v F.CQ_CFG_en = 0 ∧ users) → Answered t m cq stBusy ∧ t.rd cq = s.rd cq) ∧
        (s.cqOn q.val = true → same → fld v F.CQ_CFG_en = 1 → Answered t m cq 0 ∧ t.cqOn q.val = true) ∧
        (s.cqOn q.val = true → same → fld v F.CQ_CFG_en = 0 → ¬ users →
          Answered t m cq 0 ∧ t.cqOn q.val = false ∧ (t.queue q.val).held = [])) ∧
    (Allowed s m (R.SQ_DB q.val) true →
      ∃ t, exec (.sqDb m q v) s = .next t ∧ MemAndTilesKept s t ∧
        (s.sqOn q.val = false → Answered t m (R.SQ_DB q.val) stBusy ∧ t.queues = s.queues) ∧
        (s.sqOn q.val = true → fld v F.SQ_DB_tail < s.sqSize q.val → Answered t m (R.SQ_DB q.val) 0 ∧ (t.queue q.val).tail = fld v F.SQ_DB_tail) ∧
        (s.sqOn q.val = true → s.sqSize q.val ≤ fld v F.SQ_DB_tail → Answered t m (R.SQ_DB q.val) stBadArg ∧
          (t.queue q.val).stopped = true ∧ t.fl sq F.SQ_CFG_err = 1 ∧ (t.queue q.val).tail = (s.queue q.val).tail)) ∧
    (Allowed s m (R.CQ_DB q.val) true →
      ∃ t, exec (.cqDb m q v) s = .next t ∧ MemAndTilesKept s t ∧
        (s.cqOn q.val = false → Answered t m (R.CQ_DB q.val) stBusy ∧ t.queues = s.queues) ∧
        (s.cqOn q.val = true → s.cqSize q.val ≤ fld v F.CQ_DB_head → Answered t m (R.CQ_DB q.val) stBadArg ∧ t.queues = s.queues) ∧
        (s.cqOn q.val = true → fld v F.CQ_DB_head < s.cqSize q.val → Answered t m (R.CQ_DB q.val) 0 ∧ (t.queue q.val).chead = fld v F.CQ_DB_head))

/-- The checks of a command pass (R418, R426). -/
abbrev CmdPasses (s : State) (c : CmdCtx) (d : Cmd) : Prop :=
  s.powered = true ∧ d.bad = false ∧ s.cmdCheck c d.op d.ws d.access d.minLen = 0 ∧ (d.isLong = true → s.longs.length < 256)

/-- R423, R425: NOP completes with OK. While its completion queue is on, has room and holds no record back, the record is
written to the queue at its tail, which moves on, and a message follows where the queue asks for one; a record that finds no
room, or others waiting, is held; a queue that is off discards it. -/
def Rule.CompletionsArePostedInOrder : Prop :=
  ∀ (s : State) (c : CmdCtx), CmdPasses s c nopCmd →
    let q := s.sqCq c.q.val
    let tail := s.fl (R.CQ_TAIL q) F.CQ_TAIL_tail
    let r := cplOf c 0 true 0 0
    let room := s.cqRoom q = true ∧ (s.queue q).held = []
    ∃ t, exec (.nop c) s = .next t ∧ t = s.complete_ r ∧
      (s.cqOn q = false → t = s) ∧
      (s.cqOn q = true → room →
        t.fl (R.CQ_TAIL q) F.CQ_TAIL_tail = (tail + 1) % s.cqSize q % 4096 ∧
        ∃ pas b more, b.length = 64 ∧ t.hostOut = s.hostOut ++
          [.mem ((s.rd (R.CQ_BASE_LO q)).toNat / 4096 * 4096 + (s.rd (R.CQ_BASE_HI q)).toNat * 4294967296 + 64 * tail) pas b] ++ more ∧
          (s.fl (R.CQ_CFG q) F.CQ_CFG_ien = 0 → more = [])) ∧
      (s.cqOn q = true → ¬ room → t.hostOut = s.hostOut ∧ (t.queue q).held = (s.queue q).held ++ [r])

/-- What the checks of R426 answer for a command: 0 when it may start; a long command finds RESOURCE_BUSY while 256 are in progress. -/
def cmdStatus (s : State) (c : CmdCtx) (d : Cmd) : Nat :=
  let st := if d.bad then stBadArg else s.cmdCheck c d.op d.ws d.access d.minLen
  if st ≠ 0 then st else if d.isLong = true ∧ 256 ≤ s.longs.length then stBusy else 0

/-- The command completes at once with a status and `res0`, and changes nothing else. -/
def EndsWith (i : Instr) (s : State) (c : CmdCtx) (st : Nat) (r0 : Word) : Prop :=
  exec i s = .next (s.complete_ (cplOf c st true r0 0))

/-- R418, R424, R426: a command that fails a check has no effect and completes with the status of the first that fails. -/
def Rule.RefusedCommandsChangeNothing : Prop :=
  ∀ (s : State) (c : CmdCtx) (img : Image) (ws : Words) (i : Instr) (c' : CmdCtx) (d : Cmd),
    let m := s.cmdMid c
    (i, c', d) ∈ [(.nop c, c, nopCmd), (.identify c, c, s.identifyCmd m c), (.cancel c, c, s.cancelCmd m c),
      (.settingGet c, c, s.settingGetCmd m c), (.settingSet c, c, s.settingSetCmd m c),
      (.logRead c, c, s.logReadCmd m c), (.wallLoad c, c, s.wallLoadCmd m c), (.wallReset c, c, s.wallResetCmd m c),
      (.wallPowerOn c, withArg c 0, s.wallPowerCmd m (withArg c 0)), (.wallPowerStandby c, withArg c 1, s.wallPowerCmd m (withArg c 1)),
      (.wallPowerOff c, withArg c 2, s.wallPowerCmd m (withArg c 2)), (.patternImage c ws, c, s.patternImageCmd m c ws),
      (.capture c, c, s.captureCmd m c), (.march c, c, s.marchCmd m c), (.gddrRetrain c, c, s.gddrRetrainCmd m c),
      (.linkTrain c, c, s.linkTrainCmd m c), (.fwStage c img, c, s.fwStageCmd m c img), (.fwActivate c, c, s.fwActivateCmd m c)] →
    s.powered = true → cmdStatus s c' d ≠ 0 → EndsWith i s c' (cmdStatus s c' d) 0

/-- R427, R502, R546: the hub's own commands complete: IDENTIFY writes the identity record to its buffer; SETTING_GET returns a
setting; SETTING_SET stores one in its range and reports it, but not while an image is on trial; LOG_READ goes on as a long
command; CANCEL ends the command that it names as CANCELLED where it can still be cancelled (RESOURCE_BUSY else), and is
BAD_ARGUMENT when it names none. -/
def Rule.HubCommandsAct : Prop :=
  ∀ (s : State) (c : CmdCtx),
    let m := s.cmdMid c
    let n := cmdArg c 0
    let ends (t u : State) (st : Nat) (r0 : Word) : Prop := t = u.complete_ (cplOf c st true r0 0)
    (CmdPasses s c (s.identifyCmd m c) →
      ∃ t u, exec (.identify c) s = .next t ∧ ends t u 0 0 ∧ u.hostOut = s.hostOut ++ [.mem (c.buf.toNat % 18446744073709551616) (s.sqPasid c.q.val) s.identity] ∧
        u.regs = s.regs ∧ u.sram = s.sram) ∧
    (CmdPasses s c (s.settingGetCmd m c) →
      (∀ d, s.settingDefault n = some d → ∃ t, exec (.settingGet c) s = .next t ∧ ends t s 0 (Sp.getD s.trowel.settings n d)) ∧
      (s.settingDefault n = none → EndsWith (.settingGet c) s c stBadArg 0)) ∧
    (CmdPasses s c (s.settingSetCmd m c) →
      let legal := (s.settingDefault n).isSome = true ∧ settingOk n (cmdArg c 1) = true
      (legal → s.trowel.slotIn 4 = none →
        ∃ t u, exec (.settingSet c) s = .next t ∧ ends t u 0 0 ∧ Sp.getD u.trowel.settings n 0 = c.args.getD 1 0 ∧
          u.trowel.settingsGen = s.trowel.settingsGen + 1 ∧ (∃ e ∈ u.hubWait, e.code = 144) ∧ u.regs = s.regs) ∧
      (legal → s.trowel.slotIn 4 ≠ none → EndsWith (.settingSet c) s c stBusy 0) ∧
      (¬ legal → EndsWith (.settingSet c) s c stBadArg 0)) ∧
    (CmdPasses s c (s.logReadCmd m c) →
      ∃ t l, exec (.logRead c) s = .next t ∧ l.op = 5 ∧ l.ctx = c ∧ l.done = none ∧ l.start = s.tick ∧
        t = { s with longs := s.longs ++ [l] }.complete_ (cplOf c stAccepted false 0 0)) ∧
    (CmdPasses s c (s.cancelCmd m c) →
      let named (l : LongCmd) : Bool := l.ctx.handle.toNat = n && !l.console && !l.orphan && l.done.isNone && (m = 0 || l.ctx.q = c.q)
      (s.longs.find? named = none → EndsWith (.cancel c) s c stBadArg 0) ∧
      (∀ l, s.longs.find? named = some l →
        (s.cancelTarget l = none → EndsWith (.cancel c) s c stBusy 0) ∧
        (s.cancelTarget l ≠ none → ∃ t u, exec (.cancel c) s = .next t ∧ ends t u 0 0 ∧
          (l.op ≠ 49 → ∃ x ∈ u.longs, x.ctx = l.ctx ∧ x.done = some (stCancelled, 0, 0)) ∧ (l.op = 49 → u.trowel.act = none)) ∧
        (l.op = 5 ∨ l.op = 24 ∨ l.op = 32 ∨ l.op = 48 → s.cancelTarget l ≠ none)))

/-- A long command of number `op` has been accepted: it has joined those in progress, and the acknowledgement is posted. -/
def Accepts (i : Instr) (s u : State) (c : CmdCtx) (op : Nat) : Prop :=
  exec i s = .next (u.complete_ (cplOf c stAccepted false 0 0)) ∧ ∃ l, l ∈ u.longs ∧ l.op = op ∧ l.ctx = c ∧ l.console = false

/-- R453, R461, R514, R515: an accepted WALL_LOAD or WALL_RESET puts its walls into RESET; WALL_POWER_ON puts a wall that is in STANDBY
or OFF into RESET, WALL_POWER_STANDBY and WALL_POWER_OFF begin to close a wall that is ON, and take one in another state
there; to the state that the wall has, each is done at once, and while its state changes it ends in RESOURCE_BUSY. A load of
no wall, or of a decommissioned module, and a reset of a wall that has failed or never loaded, end in
BAD_ARGUMENT. -/
def Rule.WallCommandsChangeTheWall : Prop :=
  ∀ (s : State) (c : CmdCtx),
    let m := s.cmdMid c
    let w := c.wall.toNat
    let power (g : Nat) (i : Instr) : Prop :=
      let c' := withArg c g
      CmdPasses s c' (s.wallPowerCmd m c') →
      (s.wallPower w = g → ∃ u, Accepts i s u c' 18 ∧ u.regs = s.regs ∧ ∃ l ∈ u.longs, l.ctx = c' ∧ l.done = some (0, 0, 0)) ∧
      (s.wallPower w ≠ g → s.wallPower w = 3 → EndsWith i s c' stBusy 0) ∧
      (s.wallPower w ≠ g → s.wallPower w ≠ 3 → ∃ u, Accepts i s u c' 18 ∧
        (g = 0 → u.wallPower w = 0 ∧ u.phase w = 1) ∧ (g ≠ 0 → u.wallPower w = 3 ∨ u.wallPower w = g))
    (CmdPasses s c (s.wallLoadCmd m c) →
      let legal := cmdWalls 16 c ≠ [] ∧ s.trowel.lifecycle ≠ 3
      (legal → ∃ u, Accepts (.wallLoad c) s u c 16 ∧ ∀ v ∈ cmdWalls 16 c, u.phase v = 1 ∧ wallState u v = 1 ∧
        (u.wall v).kiln.isLoad = true ∧ (u.wall v).kiln.master = BitVec.ofNat 6 m) ∧
      (¬ legal → EndsWith (.wallLoad c) s c stBadArg 0)) ∧
    (CmdPasses s c (s.wallResetCmd m c) →
      let legal := s.phase w ≠ 7 ∧ s.fl (R.KILN_STATUS w) F.KILN_STATUS_cfg ≠ 0
      (legal → ∃ u, Accepts (.wallReset c) s u c 17 ∧ u.phase w = 1 ∧ wallState u w = 1 ∧ (u.wall w).kiln.isLoad = false) ∧
      (¬ legal → EndsWith (.wallReset c) s c stBadArg 0)) ∧
    power 0 (.wallPowerOn c) ∧ power 1 (.wallPowerStandby c) ∧ power 2 (.wallPowerOff c)

/-- R319, R340, R467 to R470: PATTERN_IMAGE and KILN_SLOT_WRITE complete. An image that passes its checks has its slots written one
after another, each into its tile's library with its code, and each counted; one that fails a check ends with its status. A
slot that is being refilled, or whose bank is under test, waits. (While bank 6, which stages the image, is under test the
command ends in RESOURCE_BUSY: the model's choice, log 134.) -/
def Rule.PatternImagesAreWrittenSlotBySlot : Prop :=
  ∀ (s : State),
    (∀ (c : CmdCtx) (ws : Words), let m := s.cmdMid c
      let w := c.wall.toNat
      CmdPasses s c (s.patternImageCmd m c ws) →
      let s1 := ((s.sramWrite w 6 stagingOff ((bytesOfWords ws).take stagingBytes)).1).wr (R.KILN_FRAME_COUNT w) 0
      (s.inTest w 6 = true → EndsWith (.patternImage c ws) s c stBusy 0) ∧
      (s.inTest w 6 = false → ∃ u, Accepts (.patternImage c ws) s u c 19 ∧ u.rd (R.KILN_FRAME_COUNT w) = 0 ∧
        (s1.imageVerdict w m ws = none → (u.wall w).kiln.slots.length = (ws.getD 3 0).toNat - 1) ∧
        (∀ st l, s1.imageVerdict w m ws = some (st, l) → (u.wall w).kiln.slots = (s.wall w).kiln.slots ∧
          ∃ x ∈ u.longs, x.ctx = c ∧ x.done = some (st, 0, 0)))) ∧
    (∀ w : Wall, OnWall s w →
      let slots := (s.wall w.val).kiln.slots
      (slots = [] → exec (.kilnSlotWrite w) s = .next s) ∧
      (∀ (i n : Nat) (d : Words) (rest : List (Nat × Nat × Words)), slots = (i, n, d) :: rest →
        let waits := s.inTest w.val (libOffset i n / 0x400000) = true ∨
          (s.tile w.val i).refill.any (fun r => decide (r.req.slot = BitVec.ofNat 7 n)) = true
        (waits → exec (.kilnSlotWrite w) s = .next s) ∧
        (¬ waits → d.length = 96 →
          ∃ t, exec (.kilnSlotWrite w) s = .next t ∧ (t.wall w.val).kiln.slots = rest ∧
            t.sramBytes w.val 0 (libOffset i n) 384 = bytesOfWords d ∧
            t.rd (R.KILN_FRAME_COUNT w.val) = satInc (s.rd (R.KILN_FRAME_COUNT w.val)))))

/-- R110, R347, R364, R418, R488, R493, R538: the long commands of R426 begin, and complete at once where they cannot. CAPTURE takes the
capture's claim and arms it, or reads the cells that are held; MARCH puts its banks under test; GDDR_RETRAIN takes the
device out of service; LINK_TRAIN takes the lane's claim and sets `en`; FW_STAGE keeps its image for its checks; and
FW_ACTIVATE of a staged slot is pending. -/
def Rule.LongCommandsBegin : Prop :=
  ∀ (s : State) (c : CmdCtx),
    let m := s.cmdMid c
    let w := c.wall.toNat
    let a := cmdArg c 0
    (CmdPasses s c (s.captureCmd m c) →
      let free := s.holds (claimCap w) m = true ∨ s.claimed (claimCap w) = false
      let held := 2 ≤ s.fl (R.CAP_STATUS w) F.CAP_STATUS_state
      (a % 4 = 3 → EndsWith (.capture c) s c stBadArg 0) ∧
      (a % 4 ≠ 3 → ¬ free → EndsWith (.capture c) s c stBusy 0) ∧
      (a % 4 ≠ 3 → free → held ∨ s.isReady w = true →
        ∃ u, Accepts (.capture c) s u c 20 ∧ u.holds (claimCap w) m = true ∧
          u.fl (R.CAP_STATUS w) F.CAP_STATUS_state = if 2 ≤ s.fl (R.CAP_STATUS w) F.CAP_STATUS_state then 3 else 1)) ∧
    (CmdPasses s c (s.marchCmd m c) →
      let st := (s.marchRequest w (a % 256) (nbits a 8 2) (nbits a 10 2) m).2
      (st ≠ 0 → EndsWith (.march c) s c st 0) ∧
      (st = 0 → ∃ u, Accepts (.march c) s u c 24 ∧ ∀ b, b < 8 → nbit a b = true → u.inTest w b = true)) ∧
    (CmdPasses s c (s.gddrRetrainCmd m c) → ∃ u, Accepts (.gddrRetrain c) s u c 25 ∧ u.gdState w a = 3 ∧ u.gddr = s.gddr) ∧
    (CmdPasses s c (s.linkTrainCmd m c) →
      let mine := s.holds (claimLink w a) m = true
      let leased := s.laneLeased w a m = true
      let legal := rateAllowed (s.lkMode w a) (s.fl (R.LK_CTRL w a) F.LK_CTRL_rate) (s.fl (R.LK_RATE w a) F.LK_RATE_mbps) = true ∧
        s.fl (R.LK_CTRL w a) F.LK_CTRL_lpbk ≠ 3
      (¬ mine → leased → EndsWith (.linkTrain c) s c stAccessDenied 0) ∧
      (¬ mine → ¬ leased → s.claimed (claimLink w a) = true → EndsWith (.linkTrain c) s c stBusy 0) ∧
      (mine ∨ (¬ leased ∧ s.claimed (claimLink w a) = false) → ¬ legal → EndsWith (.linkTrain c) s c stBadArg 0) ∧
      (mine ∨ (¬ leased ∧ s.claimed (claimLink w a) = false) → legal →
        ∃ u, Accepts (.linkTrain c) s u c 26 ∧ u.holds (claimLink w a) m = true ∧ u.fl (R.LK_CTRL w a) F.LK_CTRL_en = 1 ∧
          (s.fl (R.LK_CTRL w a) F.LK_CTRL_en = 1 → u.lkState w a = s.lkState w a) ∧
          (s.fl (R.LK_CTRL w a) F.LK_CTRL_en = 0 → s.fl (R.LK_CTRL w a) F.LK_CTRL_lpbk = 0 → s.lkMode w a ≠ 0 →
            (s.wall w).pinsOn = true → u.lkState w a = 1))) ∧
    (∀ img, CmdPasses s c (s.fwStageCmd m c img) →
      let busy := s.stageBusy = true ∨ ∃ l ∈ s.longs, l.op = 48 ∧ l.done = none
      (busy → EndsWith (.fwStage c img) s c stBusy 0) ∧
      (¬ busy → ∃ u, Accepts (.fwStage c img) s u c 48 ∧ ∃ l ∈ u.longs, l.ctx = c ∧ l.img = some img)) ∧
    (CmdPasses s c (s.fwActivateCmd m c) →
      let r := s.fwActivate a (cmdArg c 1) w (cmdArg c 2)
      (r.2 ≠ 0 → EndsWith (.fwActivate c) s c r.2 0) ∧
      (r.2 = 0 → ∃ u, Accepts (.fwActivate c) s u c 49 ∧ ∃ x, u.trowel.act = some x ∧ x.when_ = a ∧ x.reached = none ∧
        (s.trowel.slotIn 2 = some x.slot ∨ (s.trowel.slotIn 2 = none ∧ s.trowel.slotIn 3 = some x.slot))) ∧
      (a = 0 → s.trowel.slotIn 2 ≠ none → s.trowel.act = none → r.2 = 0))

/-- R421, R422, R424, R425: COMMAND_FETCH, FETCH_FAIL and LONG_COMMAND_COMPLETE complete. In its turn of the round over the queues the
hub fetches the entry at a queue's head and starts it, or holds it back for earlier commands where its fence says so; a
queue out of turn fetches nothing. An entry that the host does not deliver stops its queue and is reported. A long command
that has its result is no longer in progress, and posts its final completion unless a reset of the function discarded it or
the console made it; one without a result, and a handle of none, change nothing. -/
def Rule.EntriesAreFetchedAndFinished : Prop :=
  ∀ (s : State),
    (∀ (q : Fin 64) (ws : Words) (data : Bytes), (s.queue q.val).fenced = none →
      let e := s.decodeEntry q ws
      let waits := e.1.fence = true ∧ s.unfinished q.val = true
      (s.fetchesNext q.val = true →
        ∃ (t u : State), exec (.commandFetch q ws data) s = .next t ∧ u.sqTurn = q.val ∧
          u.fl (R.SQ_HEAD q.val) F.SQ_HEAD_head = (s.fl (R.SQ_HEAD q.val) F.SQ_HEAD_head + 1) % s.sqSize q.val % 2 ^ F.SQ_HEAD_head.wd ∧
          (u.queue q.val).fetched = (s.queue q.val).fetched + 1 ∧ u.hostOut = s.hostOut ∧
          (¬ waits → t = u.startEntry e.2 e.1 data) ∧ (waits → t = u ∧ (u.queue q.val).fenced = some (e.1, e.2, data))) ∧
      (s.fetchesNext q.val = false → exec (.commandFetch q ws data) s = .next s)) ∧
    (∀ (q : Fin 64) (ws : Words) (data : Bytes) (f : CmdCtx × Nat × Bytes), (s.queue q.val).fenced = some f →
      let runs := s.powered = true ∧ s.trowel.running = true ∧ s.service.safe = false ∧ s.unfinished q.val = false
      (runs → ∃ (t u : State), exec (.commandFetch q ws data) s = .next t ∧ (u.queue q.val).fenced = none ∧ u.regs = s.regs ∧
        t = u.startEntry f.2.1 f.1 f.2.2) ∧
      (¬ runs → exec (.commandFetch q ws data) s = .next s)) ∧
    (∀ q : Fin 64,
      let may := s.fetchesNext q.val = true ∧ (s.queue q.val).fenced = none
      (may → ∃ t, exec (.fetchFail q) s = .next t ∧ (t.queue q.val).stopped = true ∧ t.fl (R.SQ_CFG q.val) F.SQ_CFG_err = 1 ∧
        t.sqTurn = q.val ∧ HubRaised s t 0 0) ∧
      (¬ may → exec (.fetchFail q) s = .next s)) ∧
    (∀ h : Word, s.longs.find? (fun l => l.ctx.handle = h) = none → exec (.longCommandComplete h) s = .next s) ∧
    (∀ (h : Word) (l : LongCmd), s.longs.find? (fun l => l.ctx.handle = h) = some l →
      ((s.longResult l).2 = none → exec (.longCommandComplete h) s = .next s) ∧
      ((s.longResult l).2 ≠ none → (s.queue l.ctx.q.val).fenced = none →
        ∃ t, exec (.longCommandComplete h) s = .next t ∧ t.longs.length + 1 = s.longs.length) ∧
      (∀ r, l.done = some r → s.longs = [l] → l.console = false → l.claim = none → l.op ≠ 32 → (s.queue l.ctx.q.val).fenced = none →
        exec (.longCommandComplete h) s = .next (if l.orphan then { s with longs := [] }
          else { s with longs := [] }.complete_ (cplOf l.ctx r.1 true r.2.1 r.2.2))))

/-- R426, R537, R538: the eleven SELF_TEST commands complete: one that fails a check or a condition ends with its status, and shows on
the meter if the meter's holder asked for it; the others are accepted and in progress, a loopback with the claim of its
lane. Whether the lane of a far loopback has a partner is a free value of the model: without one it is RESOURCE_BUSY. -/
def Obligations.SelfTestsBegin : Prop :=
  ∀ (s : State) (c : CmdCtx),
    let m := s.cmdMid c
    let begun (i : Instr) (num : Nat) (u : State) : Prop := Accepts i s u (withArg c num) 32 ∧
      ∃ t ∈ u.service.tests, t.num = num ∧ t.handle = c.handle ∧ t.wall = c.wall.toNat
    let refused (i : Instr) (num st : Nat) : Prop :=
      exec i s = .next ((s.testRefused m num).complete_ (cplOf (withArg c num) st true 0 0))
    let status (num : Nat) : Nat := cmdStatus s (withArg c num) (s.selfTestCmd num m (withArg c num) false)
    let cond (num : Nat) : Nat := s.testCheck num m (withArg c num)
    let lane (num : Nat) := s.laneClaim m c.wall.toNat (cmdArg (withArg c num) 1)
    s.powered = true →
    (∀ (i : Instr) (num : Nat), (i, num) ∈ [(.selfTestBrickBist c, 1), (.selfTestMortarSpine c, 2), (.selfTestTmemMarch c, 3),
        (.selfTestSramMarch c, 4), (.selfTestGddrPattern c, 5), (.selfTestBondRoute c, 8), (.selfTestAngleReference c, 9),
        (.selfTestCxlLoopback c, 10), (.selfTestRegulatorCheck c, 11)] →
      (status num ≠ 0 → refused i num (status num)) ∧
      (status num = 0 → cond num ≠ 0 → refused i num (cond num)) ∧
      (status num = 0 → cond num = 0 → ∃ u, begun i num u)) ∧
    (let i := Instr.selfTestNearLoopback c
     (status 6 ≠ 0 → refused i 6 (status 6)) ∧
     (status 6 = 0 → cond 6 ≠ 0 → refused i 6 (cond 6)) ∧
     (status 6 = 0 → cond 6 = 0 →
      match lane 6 with
      | .error e => refused i 6 e
      | .ok _ => ∃ u, begun i 6 u ∧ u.holds (claimLink c.wall.toNat (cmdArg (withArg c 6) 1)) m = true)) ∧
    (let i := Instr.selfTestFarLoopback c
     (status 7 ≠ 0 → refused i 7 (status 7)) ∧
     (status 7 = 0 → cmdArg (withArg c 7) 1 < 16 → s.fl (R.LK_CTRL c.wall.toNat (cmdArg (withArg c 7) 1)) F.LK_CTRL_en = 0 →
       (lane 7).isOk = true → ∃ t u, exec (.selfTestFarLoopback c) s = .next t ∧ (Config.freeBit s.fresh = 1 → begun i 7 u) ∧
         (Config.freeBit s.fresh ≠ 1 → t = (s.testRefused m 7).complete_ (cplOf (withArg c 7) stBusy true 0 0))))

/-- R404, R406, R407, R431, R518, R541: CXL_LINK_UP, CXL_LINK_DOWN, FUNCTION_LEVEL_RESET, CXL_RESET and CXL_ERROR complete. The link comes up
in the flit mode it trains to and is reported, but not while the module is stopped for scanning; when it goes down it is
reported and every awaited window access of a wall is given up. A Function Level Reset returns the queues, the event matrix
and the MSI-X table to their reset state and discards completions; CXL Reset resets the module with cause 2 and keeps the
link; an error that AER or IDE reports is reported. -/
def Obligations.CxlLinkAndResets : Prop :=
  ∀ (s : State), s.powered = true →
    (∀ (flit : Bool) (width : BitVec 5) (rate : BitVec 4),
      (s.service.scanHold = false →
        ∃ t, exec (.cxlLinkUp flit width rate) s = .next t ∧ t.cxl.up = true ∧ t.cxl.flit256 = flit ∧ t.cxl.width = width.toNat ∧
          HubRaised s t 19 (if flit then 1 else 2) ∧ MemAndTilesKept s t ∧ t.regs = s.regs) ∧
      (s.service.scanHold = true → exec (.cxlLinkUp flit width rate) s = .next s)) ∧
    (s.cxl.up = true → ∃ t, exec .cxlLinkDown s = .next t ∧ t.cxl.up = false ∧ (∃ e ∈ t.hubWait, e.code = 152) ∧ MemAndTilesKept s t ∧
      t.awaiting = s.awaiting.filter (fun e => dHub e.pkt.src) ∧ (s.awaiting = [] → t.regs = s.regs)) ∧
    (s.cxl.up = false → exec .cxlLinkDown s = .next s) ∧
    (∃ t, exec .functionLevelReset s = .next t ∧ t.queues = [] ∧ t.hostOut = s.hostOut ∧ MemAndTilesKept s t ∧
      (∀ q, q < 64 → t.sqOn q = false ∧ t.cqOn q = false) ∧ (∀ l ∈ t.longs, l.orphan = true)) ∧
    (∃ t, exec .cxlReset s = .next t ∧ t.cxl = s.cxl ∧ t.fl R.PWR_CAUSE F.PWR_CAUSE_cause = 2 ∧ t.tiles = [] ∧ t.sram = [] ∧
      t.trowel.running = false ∧ t.trowel.slotA = s.trowel.slotA ∧ t.pending = s.pending) ∧
    (∀ (kind : BitVec 2) (aer : Word),
      (kind ≠ 3 → ∃ t, exec (.cxlError kind aer) s = .next t ∧ HubRaised s t 20 kind.toNat ∧ t.regs = s.regs) ∧
      (kind = 3 → exec (.cxlError kind aer) s = .next s))

/-! ## Start-up and the pointing engine (11_kiln_and_pointing) -/

/-- A tile's word of a frame, in the stores of the wall. -/
def TakesData (t : State) (w : Wall) (l : Word) (d : Words) : Prop :=
  (flocType l = 0 → t.foundWords w.val (flocTile l) (flocSub l) = d) ∧
  (flocType l = 1 → flocSub l < 42 → (t.tile w.val (flocTile l)).programWords (flocSub l) = d) ∧
  (flocType l = 2 → ∀ i, i < 512 → Sp.getD (t.tile w.val (flocTile l)).tmem (flocSlot l * 4096 + 512 * flocSub l + i) 0 =
    BitVec.ofNat 6 (ofWords d >>> (6 * i))) ∧
  (flocType l = 3 → t.sramBytes w.val 0 (libOffset (flocTile l) (flocSlot l)) 384 = bytesOfWords d)

/-- R452 to R454: KILN_STREAM_PACKET and KILN_FRAME complete. While the wall resets or is zeroed the kiln port holds packets back. A packet
that is no write of a host group, has a reserved address or a part of a word, or does not follow on the stream's state, is
refused; any other moves the stream on, and adds its words while the kiln takes frames. Of the records that follow the
header, one for another wall is skipped and counted; one with a bad CRC or reserved fields puts the wall into FAILED; a good
one is written where its locator says and counted, a wall-level one register by register, and kept for the replay store. -/
def Rule.StreamsAreWrittenFrameByFrame : Prop :=
  ∀ (s : State) (w : Wall), OnWall s w →
    let k := s.kiln w.val
    let waits := s.phase w.val = 1 ∨ s.phase w.val = 2 ∨ (s.phase w.val = 3 ∧ k.zeroed = false)
    (∀ (s1 : State) (p : Packet),
      let first := nbit p.addr.toNat 0
      let last := nbit p.addr.toNat 1
      let bad := p.typ ≠ 0 ∨ 32 < p.mid.toNat ∨ 4 ≤ p.addr.toNat ∨ p.count % 4 ≠ 0 ∨ first = k.open_
      let got := k.got ++ wordsOfBytes (p.payload.take p.count)
      let cut := last = true ∧ got.length < 98
      (waits → exec (.kilnStreamPacket w p) s = .next s) ∧
      (¬ waits → p.isAnswer = false → Reaches s s1 w.val 23 1 p →
        ∃ t, exec (.kilnStreamPacket w p) s = .next t ∧ t.sram = s.sram ∧ t.gddr = s.gddr ∧
          (bad → t.kiln w.val = k ∧ t.rd (R.BOND_NACK_COUNT w.val) = satInc (s.rd (R.BOND_NACK_COUNT w.val))) ∧
          (¬ bad → (t.kiln w.val).open_ = !last ∧ t.fl (R.KILN_STATUS w.val) F.KILN_STATUS_stream = (if last then 0 else 1)) ∧
          (¬ bad → s.kilnTakes w.val = false → (t.kiln w.val).got = k.got ∧ t.phase w.val = s.phase w.val) ∧
          (¬ bad → s.kilnTakes w.val = true → k.header.isSome = true → ¬ cut → (t.kiln w.val).got = got ∧ t.phase w.val = 3) ∧
          (¬ bad → s.kilnTakes w.val = true → k.header.isSome = true → cut → t.phase w.val = 7))) ∧
    (∀ ws : Words,
      let next := s.nextRecord w.val ws = true ∧ flocType (ws.getD 0 0) ≠ 0x1F
      let l := ws.getD 0 0
      let d := (ws.drop 1).take 96
      let mine := flocBcast l = true ∨ flocWall l = w.val ∨ k.bcast = true
      let good := recordCrcOk ws = true ∧ frameFieldsOk l = true
      let pairs := ((s.setKiln w.val { k with got := k.got.drop 98, records := k.records + 1 }).applyPairs k.master.toNat w (flocType l) d).2
      let counted (t : State) : Prop := t.rd (R.KILN_FRAME_COUNT w.val) = satInc (s.rd (R.KILN_FRAME_COUNT w.val))
      (¬ next → exec (.kilnFrame w ws) s = .next s) ∧
      (next → ¬ mine → ∃ t, exec (.kilnFrame w ws) s = .next t ∧ t.rd (R.KILN_SKIP_COUNT w.val) = satInc (s.rd (R.KILN_SKIP_COUNT w.val)) ∧
        t.sram = s.sram ∧ t.tiles = s.tiles ∧ t.found = s.found) ∧
      (next → mine → ¬ good → ∃ t, exec (.kilnFrame w ws) s = .next t ∧ t.phase w.val = 7 ∧
        t.sram = s.sram ∧ t.tiles = s.tiles ∧ t.found = s.found) ∧
      (next → mine → good → flocType l < 4 → ∃ t, exec (.kilnFrame w ws) s = .next t ∧ TakesData t w l d ∧ counted t) ∧
      (next → mine → good → 4 ≤ flocType l → 668 ≤ k.frames.length ∨ pairs ≠ 0 → ∃ t, exec (.kilnFrame w ws) s = .next t ∧ t.phase w.val = 7) ∧
      (next → mine → good → 4 ≤ flocType l → k.frames.length < 668 → pairs = 0 →
        ∃ t, exec (.kilnFrame w ws) s = .next t ∧ (t.kiln w.val).frames = k.frames ++ [(l, d)]))

/-- R446, R451, R455, R470: END_RECORD and BOOT_LOAD complete. The END record of an image that agrees with its counts and drives no segment
from both sides ends the load: the wall enters RELEASE, the image's version is shown and its wall-level frames are counted
in the replay store; an END record with a bad CRC, that is misplaced or does not agree, and a drive conflict, put the wall
into FAILED. In its turn a boot load stands ready at the kiln of its wall. Any other record, and a boot load that is not
due, change nothing. -/
def Rule.EndRecordsAndBootLoads : Prop :=
  ∀ (s : State) (w : Wall), OnWall s w →
    let k := s.kiln w.val
    (∀ ws : Words,
      let ends := s.nextRecord w.val ws = true ∧ flocType (ws.getD 0 0) = 0x1F ∧ (k.fin = true ∨ 98 < k.got.length)
      let h := k.header.getD []
      let good := recordCrcOk ws = true ∧ flocSlot (ws.getD 0 0) = 0 ∧ flocSub (ws.getD 0 0) = 0 ∧ k.got.length = 98 ∧
        (ws.getD 1 0).toNat = k.records ∧ (h.getD 3 0).toNat = k.records + 1 ∧ s.driveConflict w.val = none
      (¬ ends → exec (.endRecord w ws) s = .next s) ∧
      (ends → ¬ good → ∃ t, exec (.endRecord w ws) s = .next t ∧ t.phase w.val = 7) ∧
      (ends → good →
        ∃ t, exec (.endRecord w ws) s = .next t ∧ t.phase w.val = 5 ∧ t.rd (R.KILN_IMAGE w.val) = h.getD 4 0 ∧
          t.fl (R.KILN_REPLAY w.val) F.KILN_REPLAY_frames = k.frames.length % 2 ^ F.KILN_REPLAY_frames.wd ∧
          t.fl (R.BOND_EPOCH w.val) F.BOND_EPOCH_cur = 0)) ∧
    (let due := s.trowel.running = true ∧ s.bootDue w.val = true ∧ s.wallPower w.val = 0 ∧ 1 ≤ s.phase w.val ∧ s.phase w.val ≤ 3 ∧ k.got = [] ∧
       k.open_ = false ∧ s.bootTurn w.val = true
     (∀ img, due → (Sp.getD s.trowel.store (s.bootEntry w.val) {}).image = some img →
      ∃ t, exec (.bootLoad w) s = .next t ∧ t.phase w.val = 1 ∧ (t.kiln w.val).isLoad = true ∧ (t.kiln w.val).fin = true ∧
        (t.kiln w.val).got = wordsOfBytes img.payload ∧ t.bootDue w.val = false) ∧
     (¬ due → exec (.bootLoad w) s = .next s))

/-- R456 to R459, R463, R465: the phases of a start-up: RESET_PHASE_EXIT, LOCK_PHASE_EXIT, LOAD_ZEROING_DONE, REPLAY_DONE and
START_UP_STEP complete. RESET leads to LOCK once nothing holds the wall; LOCK to LOAD or REPLAY once devices and banks are
ready; LOAD, 65,536 ticks on, has zeroed the library and the frames of the tiles; REPLAY leads to RELEASE or FAILED; RELEASE
takes its steps in order at frame boundaries, waits for the chain at its wait point, and ends in READY, which opens the
wall. Before its time each of them changes nothing. -/
def Rule.StartUpGoesFromPhaseToPhase : Prop :=
  ∀ (s : State) (w : Wall), OnWall s w →
    let x := s.wall w.val
    let k := x.kiln
    (let free := s.phase w.val = 1 ∧ s.flushBusy w.val = false ∧ x.wipe = none ∧ (k.chainWait = false ∨ s.holdN = true) ∧
       (k.isLoad = true ∨ s.bootDue w.val = false) ∧ s.monHold w.val = false ∧
       x.hot = false ∧ x.scan = false ∧ s.service.safe = false ∧ s.trowel.recovery = false ∧ s.service.scanHold = false
     (free → ∃ t, exec (.resetPhaseExit w) s = .next t ∧ t.phase w.val = 2 ∧ t.gddr = s.gddr ∧ (s.trowel.running = false → t.sram = s.sram)) ∧
     (¬ free → exec (.resetPhaseExit w) s = .next s)) ∧
    (let ready := s.phase w.val = 2 ∧ s.gdState w.val 0 = 1 ∧ s.gdState w.val 1 = 1 ∧ x.march = []
     (ready → ∃ t, exec (.lockPhaseExit w) s = .next t ∧ t.phase w.val = (if k.isLoad then 3 else 4) ∧ t.sram = s.sram ∧ t.gddr = s.gddr ∧
        (t.wall w.val).tickErr = 0 ∧ t.rd (R.KILN_FRAME_COUNT w.val) = 0) ∧
     (¬ ready → exec (.lockPhaseExit w) s = .next s)) ∧
    (let done := s.phase w.val = 3 ∧ k.zeroed = false ∧ k.startedAt + 65536 ≤ s.tick
     (done → ∃ t, exec (.loadZeroingDone w) s = .next t ∧ (t.kiln w.val).zeroed = true ∧ t.gddr = s.gddr ∧
      (∀ a, sramKey w.val 0 0 ≤ a → a < sramKey w.val 2 0 → memByte t.sram a = 0) ∧
      (∀ a, a < sramKey w.val 0 0 ∨ sramKey w.val 2 0 ≤ a → memByte t.sram a = memByte s.sram a) ∧
      (∀ i, i < 128 → (t.tile w.val i).pmem = [] ∧ t.rd (R.TMEM_CFG w.val i) = 0)) ∧
     (¬ done → exec (.loadZeroingDone w) s = .next s)) ∧
    (let r := s.replayFrom w (s.fl (R.KILN_REPLAY w.val) F.KILN_REPLAY_frames) 0
     (s.phase w.val = 4 →
      ∃ t, exec (.replayDone w) s = .next t ∧ (r.2 = none → t.phase w.val = 5 ∧ (t.kiln w.val).pos = 1) ∧ (r.2 ≠ none → t.phase w.val = 7)) ∧
     (s.phase w.val ≠ 4 → exec (.replayDone w) s = .next s)) ∧
    (let now := s.phase w.val = 5 ∧ s.slotNow w.val = 0 ∧ k.stepAt ≠ some x.cycle
     let code := if k.pos = 4 then 0 else s.stepCode w.val k.pos
     let waits := k.chainWait = true ∧ k.waited = false ∧ code = s.fl (R.STARTUP_ORDER w.val) F.STARTUP_ORDER_done_step ∧ s.doneOd = false
     (¬ now ∨ (waits ∧ k.waitFrom ≠ none) → exec (.startUpStep w) s = .next s) ∧
     (now → waits → k.waitFrom = none →
        ∃ t, exec (.startUpStep w) s = .next t ∧ t.fl (R.KILN_STATUS w.val) F.KILN_STATUS_donew = 1 ∧ (t.kiln w.val).pos = k.pos ∧
          (t.kiln w.val).waitFrom = some s.tick ∧ t.phase w.val = 5) ∧
     (now → ¬ waits → k.pos ≠ 4 →
        ∃ t, exec (.startUpStep w) s = .next t ∧ t.phase w.val = 5 ∧ (t.kiln w.val).pos = k.pos + 1 ∧ t.sram = s.sram ∧
          (code = 1 → (t.wall w.val).pinsOn = true) ∧ (code = 2 → (t.wall w.val).gsr = false) ∧ (code = 3 → (t.wall w.val).tmemWe = true)) ∧
     (now → ¬ waits → k.pos = 4 →
        ∃ t, exec (.startUpStep w) s = .next t ∧ t.phase w.val = 6 ∧ wallState t w.val = 0 ∧
          (k.isLoad = true → t.fl (R.KILN_STATUS w.val) F.KILN_STATUS_cfg = 1) ∧ t.sram = s.sram ∧ t.gddr = s.gddr))

/-- R458, R477: STARTUP_ORDER_WRITE and PT_CFG_WRITE complete. STARTUP_ORDER takes an order that has CLOCKS first and each step once, and
refuses any other with BAD_ARGUMENT; a write of PT_CFG is stored, and leaves every bank but the secure one. -/
def Rule.StartUpOrderAndPointingSettings : Prop :=
  ∀ (s : State) (m : Mid) (w : Wall) (v : Word),
    let a := R.STARTUP_ORDER w.val
    let b := R.PT_CFG w.val
    let good := fld v F.STARTUP_ORDER_first = 0 ∧ [fld v F.STARTUP_ORDER_second, fld v F.STARTUP_ORDER_third, fld v F.STARTUP_ORDER_fourth] ∈
      ([[1, 2, 3], [1, 3, 2], [2, 1, 3], [2, 3, 1], [3, 1, 2], [3, 2, 1]] : List (List Nat))
    (Allowed s m a true → ∃ t, exec (.startupOrderWrite m w v) s = .next t ∧ MemAndTilesKept s t ∧
      (good → Answered t m a 0 ∧ (∀ p, p < 4 → t.stepCode w.val p = nbits v.toNat (2 * p) 2)) ∧
      (¬ good → Answered t m a stBadArg ∧ t.rd a = s.rd a)) ∧
    (Allowed s m b true → ∃ t, exec (.ptCfgWrite m w v) s = .next t ∧ Answered t m b 0 ∧ t.fl b F.PT_CFG_en = fld v F.PT_CFG_en ∧
      t.gddr = s.gddr ∧ ∀ c off n, c < 7 → off + n ≤ 0x400000 → t.sramBytes w.val c off n = s.sramBytes w.val c off n)

/-- R471 to R475, R478: SCRUB_PASS_START, SCRUB_FRAME_CHECK, SCRUB_PASS_END and SCRUB_HEARTBEAT complete on a wall that is READY. A pass
starts at tile index 0, an interval after the start of the last, with the settings in force; the next frame is checked, a
single error is corrected and counted, an uncorrectable FOUNDATION or PROGRAM frame is counted and reported, and stops the
wall where the settings say so, an uncorrectable cache way is given up; a frame whose port is busy waits; a pass ends after
its last frame; a missed heartbeat restarts the engine and is reported. Before its time each of them changes nothing. -/
def Obligations.PointingPassesOverTheFrames : Prop :=
  ∀ (s : State) (w : Wall), OnWall s w → s.isReady w.val = true →
    let p := s.point w.val
    let f := s.scrubAt w.val
    let tl := f / tileFrames
    let i := f % tileFrames
    let x := s.tile w.val tl
    let typ := if i < 4 then 0 else 1
    let sub := if i < 4 then i else i - 4
    let words (t : State) : Words := if i < 4 then t.foundWords w.val tl sub else (t.tile w.val tl).programWords sub
    let chk := checkFrame (ofWords (words s)) (Sp.getD s.frameCode (codeKey w.val tl typ sub) 0)
    let y := x.way (i - 47)
    let wayChk := checkFrame y.pat.toNat y.code
    let ces (t : State) : Prop := t.rd (R.PT_CE_COUNT w.val) = satInc (s.rd (R.PT_CE_COUNT w.val)) ∧ t.sram = s.sram
    let ues (t : State) : Prop := t.rd (R.PT_UE_COUNT w.val) = satInc (s.rd (R.PT_UE_COUNT w.val)) ∧ t.fl (R.PT_EVENT w.val) F.PT_EVENT_ue = 1
    let busy := x.refill.isSome = true ∨ s.capReads w.val tl = true
    let on := p.reading = true ∧ f = p.frame
    let checks := p.active = true ∧ f < 128 * tileFrames
    (let due := p.active = false ∧ p.start.all (fun t0 => decide (t0 + p.intervalTicks ≤ s.tick)) = true
     (due → ∃ t, exec (.scrubPassStart w) s = .next t ∧ (t.point w.val).start = some s.tick ∧ (t.point w.val).frame = 0 ∧
        (t.point w.val).active = (t.point w.val).en ∧ t.sram = s.sram) ∧
     (¬ due → exec (.scrubPassStart w) s = .next s)) ∧
    (¬ checks → exec (.scrubFrameCheck w) s = .next s) ∧
    (checks → busy → on ∨ i < 47 → exec (.scrubFrameCheck w) s = .next s) ∧
    (checks → busy → ¬ on → 47 ≤ i → ∃ t, exec (.scrubFrameCheck w) s = .next t ∧ (t.point w.val).reading = true ∧
        (t.tile w.val tl).scrubWay = some (i - 47) ∧ t.regs = s.regs) ∧
    (checks → ¬ busy → on → x.scrubWay = none → ∃ t, exec (.scrubFrameCheck w) s = .next t ∧ (t.point w.val).frame = f + 1 ∧ t.regs = s.regs) ∧
    (checks → ¬ busy → ¬ on ∨ x.scrubWay ≠ none → i < 47 →
      ∃ t, exec (.scrubFrameCheck w) s = .next t ∧
        (chk = .ok → (t.point w.val).frame = f + 1 ∧ t.regs = s.regs ∧ t.found = s.found ∧ t.sram = s.sram) ∧
        (∀ j, chk = .codeBit j → ces t ∧ words t = words s) ∧
        (∀ j, chk = .dataBit j → ces t ∧ (i < 46 → words t = toWords 96 (flipBit (ofWords (words s)) j))) ∧
        (chk = .bad → ues t ∧ t.found = s.found ∧ (p.ueAct = 1 → t.phase w.val = 7) ∧
          (p.ueAct ≠ 1 → t.sram = s.sram ∧ WallRaised s t w.val 24 0))) ∧
    (checks → ¬ busy → ¬ on ∨ x.scrubWay ≠ none → 47 ≤ i →
      ∃ t, exec (.scrubFrameCheck w) s = .next t ∧ t.sram = s.sram ∧
        (wayChk = .ok → (t.point w.val).frame = f + 1 ∧ t.regs = s.regs) ∧
        (∀ j, wayChk = .codeBit j → ces t ∧ ((t.tile w.val tl).way (i - 47)).pat = y.pat) ∧
        (∀ j, wayChk = .dataBit j → ces t ∧ ((t.tile w.val tl).way (i - 47)).pat.toNat = flipBit y.pat.toNat j) ∧
        (wayChk = .bad → ues t ∧ ((t.tile w.val tl).way (i - 47)).valid = false)) ∧
    (let ends := p.active = true ∧ 128 * tileFrames ≤ f
     (ends → ∃ t, exec (.scrubPassEnd w) s = .next t ∧ (t.point w.val).active = false ∧ (t.point w.val).endAt = s.tick ∧
        (s.fl (R.PT_CFG w.val) F.PT_CFG_auto = 0 ∨ s.trowel.running = false → t.sram = s.sram) ∧
        t.rd (R.PT_PASS_COUNT w.val) = satInc (s.rd (R.PT_PASS_COUNT w.val))) ∧
     (¬ ends → exec (.scrubPassEnd w) s = .next s)) ∧
    (let missed := s.fl (R.PT_CFG w.val) F.PT_CFG_en = 1 ∧ p.lastHb + 2 * p.intervalTicks + 1250000 < s.tick
     (missed → ∃ t, exec (.scrubHeartbeat w) s = .next t ∧ HubRaised s t 8 0 ∧ t.fl (R.PT_EVENT w.val) F.PT_EVENT_hb = 1 ∧
        t.rd (R.PT_HB_COUNT w.val) = satInc (s.rd (R.PT_HB_COUNT w.val)) ∧ (t.point w.val).start = some s.tick) ∧
     (¬ missed → exec (.scrubHeartbeat w) s = .next s))

/-! ## Power, clocks and the trowel (12_trowel_firmware, 13_power_and_health) -/

/-- R505, R518, R519, R561: POWER_ON, BROWN_OUT and RST_N_ASSERT complete: VIN's rise powers a module that is off, and its fall below 4.0 V
resets it with cause 5 and switches it off; RST_N low for 1 µs or more resets it with cause 1, below 100 ns it does nothing,
and between the two the outcome is a free value of the model; an event on a module in the wrong state does nothing. A module
reset leaves no tile, no wall memory and no running trowel, and the images as they were. -/
def Obligations.PowerAndResetComeAndGo : Prop :=
  ∀ (s : State),
    let fresh (t : State) (cause : Nat) : Prop := t.tiles = [] ∧ t.sram = [] ∧ t.gddr = [] ∧ t.flows = [] ∧ t.trowel.running = false ∧
      t.fl R.PWR_CAUSE F.PWR_CAUSE_cause = cause ∧ t.trowel.slotA = s.trowel.slotA ∧ t.trowel.slotB = s.trowel.slotB ∧
      t.part = s.part ∧ t.log = s.log ∧ t.tick = 0 ∧ (∀ w, w < 8 → t.wallPower w = 2)
    (s.powered = false → (∃ t, exec .powerOn s = .next t ∧ t.powered = true ∧ fresh t (s.fl R.PWR_CAUSE F.PWR_CAUSE_cause)) ∧
      exec .brownOut s = .next s ∧ ∀ ns, exec (.rstNAssert ns) s = .next s) ∧
    (s.powered = true → exec .powerOn s = .next s ∧ (∃ t, exec .brownOut s = .next t ∧ t.powered = false ∧ fresh t 5) ∧
      (∀ ns, 1000 ≤ ns → ∃ t, exec (.rstNAssert ns) s = .next t ∧ t.powered = true ∧ fresh t 1) ∧
      (∀ ns, 100 ≤ ns → ns < 1000 → ∃ t, exec (.rstNAssert ns) s = .next t ∧ t.powered = true ∧ (fresh t 1 ∨ t = { s with fresh := s.fresh + 1 })) ∧
      (∀ ns, ns < 100 → exec (.rstNAssert ns) s = .next s))

/-- R507, R513, R515, R517: WALL_POWER_UP, CURRENT_LIMIT, TAMPER, WPWR_GATE_WRITE and COURSE_WAKE complete. After the boot the trowel powers up
the walls in turn, 1 ms apart, but not one whose current limit has switched it off; a wall whose rail limits its current goes
OFF with `ocp` set, and a hub rail's limit is a brown-out; tampering starts the wipe of the secure bank; neither touches a
wall that is OFF. WPWR_GATE takes requests whose courses are idle and refuses others with RESOURCE_BUSY; a course whose
request was withdrawn 2 µs ago is open again. -/
def Rule.WallsAndCoursesArePowered : Prop :=
  ∀ (s : State) (w : Wall),
    (OnWall s w →
      let turn := (s.trowel.running = true ∨ s.trowel.recovery = true) ∧ s.trowel.upNext = w.val ∧ s.trowel.upAt.all (fun t0 => decide (t0 + 1250000 ≤ s.tick)) = true
      let rises := s.wallPower w.val = 2 ∧ s.fl (R.WPWR_CTRL w.val) F.WPWR_CTRL_ocp = 0
      (turn → ∃ t, exec (.wallPowerUp w) s = .next t ∧ t.trowel.upNext = w.val + 1 ∧ t.trowel.upAt = some s.tick ∧
        (rises → t.wallPower w.val = 0 ∧ t.phase w.val = 1) ∧ (¬ rises → t.regs = s.regs ∧ t.walls = s.walls)) ∧
      (¬ turn → exec (.wallPowerUp w) s = .next s)) ∧
    (OnWall s w →
      (∀ r, (s.wallPower w.val ≠ 2 → ∃ t, exec (.currentLimit (.wall w r)) s = .next t ∧ t.wallPower w.val = 2 ∧ t.phase w.val = 0 ∧
          wallState t w.val = 3 ∧ t.fl (R.WPWR_CTRL w.val) F.WPWR_CTRL_ocp = 1) ∧
        (s.wallPower w.val = 2 → exec (.currentLimit (.wall w r)) s = .next s)) ∧
      (s.wallPower w.val ≠ 2 → ∃ t, exec (.tamper w) s = .next t ∧ (t.wall w.val).wipe.isSome = true ∧ HubRaised s t 27 0 ∧ t.sram = s.sram ∧
        ((s.wall w.val).wipe = none → (t.wall w.val).wipe = some 1 ∧ t.fl (R.SEC_STATUS w.val) F.SEC_STATUS_wiping = 1)) ∧
      (s.wallPower w.val = 2 → exec (.tamper w) s = .next s)) ∧
    (∀ r, (s.powered = true → ∃ t, exec (.currentLimit (.hub r)) s = .next t ∧ t.powered = false ∧ t.fl R.PWR_CAUSE F.PWR_CAUSE_cause = 5) ∧
      (s.powered = false → exec (.currentLimit (.hub r)) s = .next s)) ∧
    (∀ (m : Mid) (v : Word), let a := R.WPWR_GATE w.val
      let asks (c : Fin 16) : Prop := nbit (fld v F.WPWR_GATE_req) c.val = true ∧ nbit (s.fl a F.WPWR_GATE_req) c.val = false
      Allowed s m a true → ∃ t, exec (.wpwrGateWrite m w v) s = .next t ∧ t.sram = s.sram ∧ t.gddr = s.gddr ∧
        ((∀ c, asks c → s.courseIdle w.val c.val = true) → Answered t m a 0 ∧ t.fl a F.WPWR_GATE_req = fld v F.WPWR_GATE_req) ∧
        ((∃ c, asks c ∧ s.courseIdle w.val c.val = false) → Answered t m a stBusy ∧ t.rd a = s.rd a ∧ t.tiles = s.tiles)) ∧
    (OnWall s w → ∀ c : Fin 16, let due := ∃ e ∈ (s.wall w.val).gateWake, e.1 = c.val ∧ e.2 + 2500 ≤ s.tick
      (due → ∃ t, exec (.courseWake w c) s = .next t ∧ nbit (t.fl (R.WPWR_GATE w.val) F.WPWR_GATE_gated) c.val = false ∧
        courseState t w.val c.val = 0 ∧ t.sram = s.sram) ∧
      (¬ due → exec (.courseWake w c) s = .next s))

/-- R508 to R512, R521, R522: TELEMETRY_SAMPLE, VOLTAGE_COMPARE and CALIBRATION complete, each once its period of 1 ms, 1 µs or 10 ms has
passed; earlier it changes nothing. Telemetry shows the module's input and the monitors' samples. A voltage monitor whose
value is out of its limits, or back inside them, for longer than its debounce becomes active, or inactive; one that becomes
active while it is enabled is marked `seen`, and with the action reset resets the module with cause 3. Calibration sets or
clears `calfail` of the next measurement. -/
def Obligations.MonitorsWatchTheRails : Prop :=
  ∀ (s : State), s.powered = true →
    let reset (t : State) : Prop := t.fl R.PWR_CAUSE F.PWR_CAUSE_cause = 3 ∧ t.tiles = []
    (∀ t : Telemetry,
      (s.periodOver s.service.telAt 1250000 = true →
        ∃ u, exec (.telemetrySample t) s = .next u ∧ (reset u ∨
          (u.fl R.TEL_VIN F.TEL_VIN_mv = t.vin % 65536 ∧ u.fl R.TEL_IIN F.TEL_IIN_ma = t.iin % 1048576 ∧
            u.fl R.TEL_PIN F.TEL_PIN_cw = t.vin * t.iin / 10000 % 65536 ∧ u.rd R.TEL_COUNT = satInc (s.rd R.TEL_COUNT) ∧
            u.service.telAt = some s.tick ∧
            ∀ m v c, (t.mons.map Prod.fst).Nodup → (m, v, c) ∈ t.mons → monKind m ≠ 0 → m < 88 →
              u.fl (R.MON_VALUE m) F.MON_VALUE_value = wrapN 16 v))) ∧
      (s.periodOver s.service.telAt 1250000 = false → exec (.telemetrySample t) s = .next s)) ∧
    (∀ mv : Samples,
      let deb (m : Nat) : Nat := s.fl (R.MON_CFG m) F.MON_CFG_deb
      let out (m v : Nat) : Prop := (v : Int) < (s.monLimits m).1 ∨ (s.monLimits m).2 < (v : Int)
      let active (u : State) (m : Nat) : Prop := u.fl (R.MON_CFG m) F.MON_CFG_active = 1
      let stays (m v : Nat) : Prop := out m v ↔ active s m
      let rises (m v : Nat) : Prop := out m v ∧ ¬ active s m ∧ deb m ≤ (s.mon m).run ∧ s.fl (R.MON_CFG m) F.MON_CFG_en = 1
      (s.periodOver s.service.cmpAt 1250 = true → (mv.map Prod.fst).Nodup →
        ∃ t, exec (.voltageCompare mv) s = .next t ∧
          (∀ m v, (m, v) ∈ mv → isSensor m = false → s.monLive m = true → reset t ∨
            ((stays m v → (active t m ↔ active s m) ∧ (t.mon m).run = 0) ∧
             (¬ stays m v → (s.mon m).run < deb m → (active t m ↔ active s m) ∧ (t.mon m).run = (s.mon m).run + 1) ∧
             (¬ stays m v → deb m ≤ (s.mon m).run → (active t m ↔ ¬ active s m) ∧ (t.mon m).run = 0) ∧
             (rises m v → t.fl (R.MON_CFG m) F.MON_CFG_seen = 1))) ∧
          (∀ m v, (m, v) ∈ mv → isSensor m = false → s.monLive m = true → rises m v → s.fl (R.MON_CFG m) F.MON_CFG_act = 3 → reset t) ∧
          ((∀ e ∈ mv, isSensor e.1 = false → s.monLive e.1 = true → rises e.1 e.2 → s.fl (R.MON_CFG e.1) F.MON_CFG_act ≤ 1) →
            t.sram = s.sram ∧ t.tiles = s.tiles)) ∧
      (s.periodOver s.service.cmpAt 1250 = false → exec (.voltageCompare mv) s = .next s)) ∧
    (∀ ok : Bool, let m := nextMon s.part.walls 100 s.trowel.calNext
      let due := s.trowel.running = true ∧ s.periodOver s.service.calAt 12500000 = true
      (due → m < 88 →
        ∃ t, exec (.calibration ok) s = .next t ∧ t.fl (R.MON_CFG m) F.MON_CFG_calfail = (if ok then 0 else 1) ∧
          t.trowel.calNext = nextMon s.part.walls 100 (m + 1) ∧ (ok = false → t.fl (R.MON_CFG m) F.MON_CFG_active = 0)) ∧
      (¬ due → exec (.calibration ok) s = .next s))

/-- R523 to R525: CLOCK_STEP_POLICY, CLOCK_STEP and THERMAL_STANDBY complete. Where WPWR_CLK.`auto` is set the trowel asks for the step that
the temperature wants; a step takes effect at the frame boundary, is counted and reported; a wall too hot for 1 s at the
lowest step leaves ON, and returns once it has been cool for 10 s. Else each of them changes nothing. -/
def Rule.ClockStepsFollowTheTemperature : Prop :=
  ∀ (s : State) (w : Wall), OnWall s w →
    let x := s.wall w.val
    let clk := R.WPWR_CLK w.val
    (let asks := s.trowel.running = true ∧ s.fl clk F.WPWR_CLK_auto = 1 ∧ s.wallOff w.val = false ∧ x.pendStep = none ∧
       s.policyStep w.val ≠ s.clockStep w.val
     (asks → ∃ t, exec (.clockStepPolicy w) s = .next t ∧ (t.wall w.val).pendStep = some (s.policyStep w.val, true) ∧ t = { s with walls := t.walls }) ∧
     (¬ asks → exec (.clockStepPolicy w) s = .next s)) ∧
    (let now := s.phase w.val ≠ 0 ∧ s.slotNow w.val = 0
     (∀ k p, x.pendStep = some (k, p) → now →
      ∃ t, exec (.clockStep w) s = .next t ∧ t.fl clk F.WPWR_CLK_step = k % 2 ^ F.WPWR_CLK_step.wd ∧ (t.wall w.val).pendStep = none ∧
        WallRaised s t w.val 29 0 ∧ t.rd (R.WPWR_STEP_COUNT w.val) = satInc (s.rd (R.WPWR_STEP_COUNT w.val)) ∧ MemAndTilesKept s t) ∧
     (x.pendStep = none ∨ ¬ now → exec (.clockStep w) s = .next s)) ∧
    (let may := s.trowel.running = true ∧ s.fl (R.WPWR_CTRL w.val) F.WPWR_CTRL_tsb = 1
     let hot := s.wallPower w.val = 0 ∧ x.hotSince.any (fun t0 => decide (t0 + 1250000000 ≤ s.tick)) = true
     let cool := s.wallPower w.val = 1 ∧ x.tsbBy = true ∧ x.coolSince.any (fun t0 => decide (t0 + 12500000000 ≤ s.tick)) = true
     (may → hot → ∃ t, exec (.thermalStandby w) s = .next t ∧ (t.wallPower w.val = 1 ∨ t.wallPower w.val = 3) ∧ (t.wall w.val).tsbBy = true ∧
        2 ≤ wallState t w.val) ∧
     (may → cool → ∃ t, exec (.thermalStandby w) s = .next t ∧ t.wallPower w.val = 0 ∧ t.phase w.val = 1 ∧ (t.wall w.val).tsbBy = false) ∧
     (¬ may ∨ (¬ hot ∧ ¬ cool) → exec (.thermalStandby w) s = .next s))

/-- R493 to R498: ACTIVATION_POINT, TROWEL_RESTART, TRIAL_COMMIT and ACTIVATION_WITHDRAWN complete. At its point an activation whose version
fits the chain's goes on, or waits for the modules before it, and another is withdrawn; with no other command in progress the
trowel restarts from its slot, which is then TRIAL, unless its version no longer fits; it commits after its soak time, the
old slot becoming PREVIOUS; commands that still run 10 s after the point withdraw it. With no activation, and before its
time, each of them changes nothing. -/
def Rule.ActivationsGoThroughATrial : Prop :=
  ∀ (s : State),
    (s.trowel.act = none → exec .activationPoint s = .next s ∧ exec .trowelRestart s = .next s ∧ exec .trialCommit s = .next s ∧
      exec .activationWithdrawn s = .next s) ∧
    (∀ a : Activation, s.trowel.act = some a →
      let x := s.trowel.slot a.slot
      let now := (s.rd R.CHN_TICK).toNat
      let fits := s.versionsFit x.version = true
      (let point := a.reached = none ∧ s.trowel.running = true ∧ s.pointReached a.when_ a.target a.wall a.ang = true
       let rolls := a.when_ = 1 ∧ Sp.getD s.trowel.settings 6 1 = 1 ∧ s.rollWaits x = true
       let waits := a.waiting = true ∧ now ≤ a.waitTick
       (¬ point → exec .activationPoint s = .next s) ∧
       (point → ¬ fits → ∃ t, exec .activationPoint s = .next t ∧ t.trowel.act = none ∧ t.regs = s.regs) ∧
       (point → fits → rolls → ∃ t, exec .activationPoint s = .next t ∧ t.trowel.act = some { a with waiting := true, waitTick := now } ∧ t.regs = s.regs) ∧
       (point → fits → ¬ rolls → waits → exec .activationPoint s = .next s) ∧
       (point → fits → ¬ rolls → ¬ waits →
        ∃ t, exec .activationPoint s = .next t ∧ t.trowel.act = some { a with waiting := false, reached := some s.tick } ∧ t.regs = s.regs ∧ MemAndTilesKept s t)) ∧
      (let ready := a.reached.isSome = true ∧ a.restarted = false ∧ s.othersRun = false
       (¬ ready → exec .trowelRestart s = .next s) ∧
       (ready → ¬ fits → ∃ t, exec .trowelRestart s = .next t ∧ t.trowel.act = none ∧ t.regs = s.regs) ∧
       (ready → fits →
        ∃ t, exec .trowelRestart s = .next t ∧ t.trowel.running = false ∧ (t.trowel.slot a.slot).state = 4 ∧ t.trowel.bootAt = s.tick ∧
          t.regs = s.regs ∧ MemAndTilesKept s t ∧ ∃ b, t.trowel.act = some b ∧ b.restarted = true)) ∧
      (let soaked := s.trowel.trialSince.any (fun t0 => decide (t0 + (Sp.getD s.trowel.settings 4 5000).toNat * 1250000 ≤ s.tick)) = true ∧
         s.trowel.running = true ∧ a.restarted = true ∧ (∀ w ∈ a.ready, s.isReady w = true) ∧ s.cxl.up = a.cxlUp
       (soaked →
        ∃ t, exec .trialCommit s = .next t ∧ (t.trowel.slot a.slot).state = 5 ∧ t.trowel.act = none ∧ t.trowel.bootFails = 0 ∧
          ((s.trowel.slot (!a.slot)).state = 5 → (t.trowel.slot (!a.slot)).state = 6) ∧ t.trowel.settingsGen = s.trowel.settingsGen + 1) ∧
       (¬ soaked → exec .trialCommit s = .next s)) ∧
      (let late := a.reached.any (fun t0 => decide (t0 + 12500000000 ≤ s.tick)) = true ∧ a.restarted = false ∧ s.othersRun = true
       (late → ∃ t, exec .activationWithdrawn s = .next t ∧ t.trowel.act = none ∧ t.regs = s.regs) ∧
       (¬ late → exec .activationWithdrawn s = .next s)))

/-- R482, R487, R494, R496, R500, R520: TROWEL_BOOT, BOOT_TIME_EXCEEDED, WATCHDOG and WATCHDOG_COUNT_CLEAR complete. The loader boots a slot whose
image is good, or asks only for other settings, reverts a trial that fails, counts the failure of another slot, and enters
the recovery ROM where there is no slot to boot; a boot that takes too long fails. An expiry of the watchdog, a period after
the last, is counted and reported and restarts the trowel; in a trial it reverts, while the loader boots it is a failed
boot; the fourth enters safe mode; 60 s without one clear the count. Else each of them changes nothing. -/
def Rule.TheLoaderBootsOrRecovers : Prop :=
  ∀ (s : State), s.powered = true →
    let loads := s.trowel.running = false ∧ s.trowel.recovery = false
    let reverted (t : State) (b : Bool) : Prop := (t.trowel.slot b).state = 7 ∧ t.trowel.act = none ∧ t.trowel.running = false ∧ t.trowel.reverted = true
    let failed (t : State) (cause : Nat) : Prop := t.trowel.running = false ∧ t.trowel.bootCause = cause ∧
      t.trowel.bootFails = min 3 (s.trowel.bootFails + 1)
    (∀ ok : Bool,
      (¬ loads → exec (.trowelBoot ok) s = .next s) ∧
      (loads → s.trowel.bootSlot = none → ∃ t, exec (.trowelBoot ok) s = .next t ∧ t.trowel.recovery = true ∧ t.trowel.recCause = 2 ∧ t.holdN = false) ∧
      (∀ (b : Bool) (i : Image), loads → s.trowel.bootSlot = some b → (s.trowel.slot b).image = some i →
        let st := if ok then s.bootCheck i else stSignature
        let trial := (s.trowel.slot b).state = 4
        ∃ t, exec (.trowelBoot ok) s = .next t ∧
          (st = 0 ∨ (st = stSettings ∧ ¬ trial) → t.trowel.running = true ∧ t.trowel.runSlot = b ∧ t.trowel.booted = true) ∧
          (st ≠ 0 → trial → reverted t b) ∧
          (st ≠ 0 → st ≠ stSettings → ¬ trial → failed t (if ok then (if st = stTypeMismatch then 3 else 2) else 4)))) ∧
    (∀ (b : Bool) (i : Image), loads → s.trowel.bootSlot = some b → (s.trowel.slot b).image = some i →
      let late := s.trowel.bootAt + (if i.peger then 812500000 else 312500000) ≤ s.tick
      (¬ late → exec .bootTimeExceeded s = .next s) ∧
      (late → ∃ t, exec .bootTimeExceeded s = .next t ∧ ((s.trowel.slot b).state = 4 → reverted t b) ∧ ((s.trowel.slot b).state ≠ 4 → failed t 5))) ∧
    (¬ loads ∨ s.trowel.bootSlot = none → exec .bootTimeExceeded s = .next s) ∧
    (let n := min 255 (s.fl R.PWR_WDT F.PWR_WDT_count + 1)
     let expired := s.trowel.recovery = false ∧ s.wdtOver = true
     (expired → ∃ t, exec .watchdog s = .next t ∧ t.fl R.PWR_WDT F.PWR_WDT_count = n ∧ (∃ e ∈ t.hubWait, e.code = 96) ∧
      t.service.wdtLast = s.tick ∧ (s.trowel.running = true → t.trowel.running = false) ∧ (n = 4 → t.service.safe = true) ∧
      (∀ b, s.trowel.slotIn 4 = some b → reverted t b) ∧
      (∀ b, s.trowel.slotIn 4 = none → s.trowel.running = false → s.trowel.bootSlot = some b → failed t 1)) ∧
     (¬ expired → exec .watchdog s = .next s)) ∧
    (let clear := s.trowel.running = true ∧ s.trowel.bootAt + 75000000000 ≤ s.tick ∧ s.service.wdtLast + 75000000000 ≤ s.tick
     (clear → ∃ t, exec .watchdogCountClear s = .next t ∧ t.fl R.PWR_WDT F.PWR_WDT_count = 0 ∧ RegsKeptBut s t [R.PWR_WDT] ∧ MemAndTilesKept s t) ∧
     (¬ clear → exec .watchdogCountClear s = .next s))

/-- R486, R501, R503: RCV_PUSH, RCV_ABORT, RCV_DONE, XMODEM_BLOCK and TRW_RCV_SEND complete. In the recovery ROM master 0 pushes the window's bytes to
the image, whose header is checked as soon as it has arrived, and `done` ends the download: a bad image leaves its status, a
good one is COMMITTED and the module resets with cause 4; `abort` discards the download; a push of no byte, or of more than
4,096, is BAD_ARGUMENT; outside the ROM and to other masters the registers answer ACCESS_DENIED. The UART takes blocks of
1,024 bytes in the same way. TRW_RCV_SEND sends the COMMITTED image along the chain. -/
def Rule.RecoveryTakesAnImage : Prop :=
  ∀ (s : State) (m : Mid),
    let a := R.RCV_CTRL
    let rom := s.trowel.recovery = true ∧ m = 0
    let dropped (t : State) : Prop := t.trowel.rcvGot = [] ∧ t.trowel.rcvWin = [] ∧ t.rd R.RCV_COUNT = 0
    let refused (t : State) (st : Nat) : Prop := t.trowel.recovery = true ∧ t.trowel.rcvGot = [] ∧ t.fl R.RCV_STATUS F.RCV_STATUS_status = st % 65536 ∧
      t.rd R.RCV_COUNT = 0 ∧ t.trowel.slotA = s.trowel.slotA
    (Allowed s m a true →
      (∀ v : Word,
        let len := fld v F.RCV_CTRL_len
        let got := s.trowel.rcvGot ++ (bytesOfWords ((List.range 1024).map (fun j => Sp.getD s.trowel.rcvWin j 0))).take len
        let legal := 1 ≤ len ∧ len ≤ 4096
        ∃ t, exec (.rcvPush m v) s = .next t ∧
          (¬ rom → Answered t m a stAccessDenied ∧ t.trowel = s.trowel) ∧
          (rom → fld v F.RCV_CTRL_abort = 1 → Answered t m a 0 ∧ dropped t) ∧
          (rom → fld v F.RCV_CTRL_abort = 0 → ¬ legal → Answered t m a stBadArg ∧ t.trowel = s.trowel) ∧
          (rom → fld v F.RCV_CTRL_abort = 0 → legal → fld v F.RCV_CTRL_done = 0 → Answered t m a 0 ∧ t.trowel.rcvWin = [] ∧ MemAndTilesKept s t ∧
            (s.headStatus got = 0 → t.trowel.rcvGot = got) ∧ (s.headStatus got ≠ 0 → refused t (s.headStatus got))) ∧
          (rom → fld v F.RCV_CTRL_abort = 0 → legal → fld v F.RCV_CTRL_done = 1 → Answered t m a 0 ∧ t.trowel.rcvGot = [])) ∧
      (∃ t, exec (.rcvAbort m) s = .next t ∧ (¬ rom → Answered t m a stAccessDenied ∧ t.trowel = s.trowel) ∧
        (rom → Answered t m a 0 ∧ dropped t)) ∧
      (∀ img : Image, let i := imageOf s.trowel.rcvGot img.sigOk
        let st := if hdr i.header 5 1 ≠ 1 then stBadArg else s.imageCheck i
        ∃ t, exec (.rcvDone m img) s = .next t ∧
          (¬ rom → Answered t m a stAccessDenied ∧ t.trowel = s.trowel) ∧
          (rom → st ≠ 0 → Answered t m a 0 ∧ refused t st) ∧
          (rom → st = 0 → Answered t m a 0 ∧ t.trowel.recovery = false ∧
            t.trowel.slot (!s.trowel.lastBoot) = { state := 5, version := imgVersion i, image := some i } ∧
            t.fl R.PWR_CAUSE F.PWR_CAUSE_cause = 4))) ∧
    (∀ data : Bytes,
      let b := s.trowel.xmodem ++ data
      let takes := s.trowel.recovery = true ∧ data.length = 1024
      (¬ takes → exec (.xmodemBlock data) s = .next s) ∧
      (takes → ∃ t, exec (.xmodemBlock data) s = .next t ∧
        (s.headStatus b = 0 → b.length < 512 + hdr b 16 4 → t = { s with trowel := { s.trowel with xmodem := b } }) ∧
        (s.headStatus b = 0 → 512 + hdr b 16 4 ≤ b.length → t.trowel.xmodem = []) ∧
        (s.headStatus b ≠ 0 → t.trowel.xmodem = [] ∧ refused t (s.headStatus b)))) ∧
    (∀ v : Word, Allowed s m R.TRW_RCV_SEND true → ∃ t, exec (.trwRcvSend m v) s = .next t ∧ Answered t m R.TRW_RCV_SEND 0 ∧
      t.trowel = s.trowel ∧ MemAndTilesKept s t ∧
      (fld v F.TRW_RCV_SEND_go = 0 ∨ s.trowel.slotIn 5 = none → t.chain = s.chain) ∧
      (fld v F.TRW_RCV_SEND_go = 1 → ∀ b i, s.trowel.slotIn 5 = some b → (s.trowel.slot b).image = some i →
        t.chain.txFrames.length = ((imgBytes i).length + 1007) / 1008 ∧ ∀ f ∈ t.chain.txFrames, f.typ = 4))

/-! ## The register bus, the console and boundary scan (10_host_interface, 12_trowel_firmware, 14_field_service) -/

/-- R280, R409, R571: REGISTER_BUS_ACCESS completes: a packet of four bytes that reaches a wall's register bus reads or writes one register as
its master, with the checks and the effect of that access; a message, another size and an address outside the wall's space
are refused. -/
def Rule.RegisterBusPacketsAccessRegisters : Prop :=
  ∀ (s s1 : State) (w : Wall) (p : Packet), OnWall s w → p.isAnswer = false → Reaches s s1 w.val 23 0 p →
    let a := wallBase w.val + p.addr.toNat
    let v : Word := BitVec.ofNat 32 (ofLeBytes (p.payload.take 4))
    let fits := p.count = 4 ∧ p.addr.toNat < 0x400000
    (p.typ = 0 → fits → ∃ (t u : State), exec (.registerBusAccess w p) s = .next t ∧ exec (.registerWrite p.mid a v) s1 = .next u ∧
      t.last = u.last ∧ t.sram = u.sram ∧ t.gddr = u.gddr ∧ t.tiles = u.tiles) ∧
    (p.typ ≠ 0 → p.typ ≠ 3 → fits → ∃ t, exec (.registerBusAccess w p) s = .next t ∧ t.last = (s1.regRead p.mid.toNat a).last ∧ MemAndTilesKept s t) ∧
    (p.typ = 3 ∨ ¬ fits → ∃ t, exec (.registerBusAccess w p) s = .next t ∧ t.last = s.last ∧ MemAndTilesKept s t ∧
      t.rd (R.BOND_NACK_COUNT w.val) = satInc (s.rd (R.BOND_NACK_COUNT w.val)))

/-- A console session is open, and the trowel answers it. -/
abbrev AtConsole (s : State) : Prop := s.powered = true ∧ s.service.open_ = true ∧ s.trowel.running = true ∧ s.trowel.recovery = false

/-- The module once the console has taken a line of input. -/
abbrev heard (s : State) : State := { s with service := { s.service with lastInput := s.tick } }

/-- The command printed the lines `ls` and changed nothing but the console. -/
def Prints (s t : State) (ls : List String) : Prop :=
  t = { s with service := { s.service with lastInput := s.tick, out := s.service.out ++ ls } }

/-- R529 to R532: CONSOLE_OPEN, CONSOLE_TIMEOUT, HELP, ID, the PAGE commands, REG, LOG and QUIT complete. A carriage return opens a session while
the UART is free, is input in a session, and answers BUSY while another master holds the UART; 15 minutes without input or
`quit` close it; the commands that read print their lines and change nothing else; a page of a wall that the part does not
populate is a bad argument, as is a register outside the map. In the recovery ROM every command but `id` is a bad argument,
and without a session no command does anything. -/
def Rule.ConsoleSessionsReadTheModule : Prop :=
  ∀ (s : State),
    (s.uartAlive = true → s.service.open_ = false →
      (s.claimed claimUart = false → ∃ t, exec .consoleOpen s = .next t ∧ t.service.open_ = true ∧ t.service.lastInput = s.tick ∧
        t.holds claimUart 34 = true ∧ HubRaised s t 24 0 ∧ MemAndTilesKept s t) ∧
      (s.claimed claimUart = true → exec .consoleOpen s = .next (s.say "BUSY"))) ∧
    (s.uartAlive = true → s.service.open_ = true → exec .consoleOpen s = .next (heard s)) ∧
    (s.uartAlive = false → exec .consoleOpen s = .next s) ∧
    (let expired := s.service.open_ = true ∧ s.service.lastInput + 1125000000000 ≤ s.tick
     (expired → ∃ t, exec .consoleTimeout s = .next t ∧ t.service.open_ = false ∧ t.claimed claimUart = false ∧ HubRaised s t 24 1) ∧
     (¬ expired → exec .consoleTimeout s = .next s)) ∧
    (AtConsole s →
      (∃ t, exec .help s = .next t ∧ Prints s t (helpLines ++ ["OK"])) ∧
      (∃ t, exec .pageEvent s = .next t ∧ Prints s t ((s.log.drop (s.log.length - 32)).map EvRec.line ++ ["OK"])) ∧
      (∀ p n, ∃ t, exec (.log p n) s = .next t ∧ Prints s t ((s.logFrom p n).map EvRec.line ++ ["OK"])) ∧
      (∀ i : Instr, i ∈ [.pagePower, .pageChain, .pageHost] → ∃ t ls, exec i s = .next t ∧ Prints s t (ls ++ ["OK"])) ∧
      (∀ (w : Wall) (n : Fin 16) (i : Instr), i ∈ [.pageMemory w, .pageWall w, .pageLink w n, .pagePin w] →
        (s.populated w.val = true → ∃ t ls, exec i s = .next t ∧ Prints s t (ls ++ ["OK"])) ∧
        (s.populated w.val = false → ∃ t, exec i s = .next t ∧ Prints s t ["ERR 0x0012 BAD_ARGUMENT"])) ∧
      (∀ a n,
        let legal := a % 4 = 0 ∧ a + 4 * n ≤ 0x4000000
        let there := ∀ k, k < n → (wallOfAddr (a + 4 * k)).all (fun e => s.populated e.1) = true
        ∃ t, exec (.reg a n) s = .next t ∧
          (¬ legal → Prints s t ["ERR 0x0012 BAD_ARGUMENT"]) ∧
          (legal → ¬ there → Prints s t ["ERR 0x0010 ACCESS_DENIED"]) ∧
          (legal → there →
            Prints s t ((List.range n).map (fun k => regLine ("0x" ++ hexN 7 (a + 4 * k)) (s.consoleWord (a + 4 * k))) ++ ["OK"]))) ∧
      (∃ t, exec .quit s = .next t ∧ t.service.open_ = false ∧ t.claimed claimUart = false ∧ HubRaised s t 24 1 ∧
        t.service.out = s.service.out ++ ["OK"])) ∧
    (s.uartAlive = true → s.service.open_ = true →
      ∃ t ls, exec .id s = .next t ∧ t.service.out = s.service.out ++ ls ++ ["OK"] ∧ t.regs = s.regs ∧ MemAndTilesKept s t) ∧
    (∀ (w : Wall) (n : Fin 16) (a k e : Nat) (v x y z : Word) (b : BitVec 8) (c d : BitVec 2) (far : Bool) (i : Instr),
      i ∈ [.help, .pagePower, .pageMemory w, .pageWall w, .pageLink w n, .pagePin w, .pageChain, .pageEvent, .pageHost, .reg a k, .log a e,
        .meter v, .test b w x y z, .consoleMarch w b c d, .loop w n far x, .consoleWallReset w, .consoleWallLoad w c,
        .consoleWallPower w c, .raise v, .safeEnter, .safeExit, .recovery, .quit] →
      (s.uartAlive = true → s.service.open_ = true → s.trowel.recovery = true → exec i s = .next ((heard s).say "ERR 0x0012 BAD_ARGUMENT")) ∧
      (s.uartAlive = false ∨ s.service.open_ = false → exec i s = .next s))

/-- What a long command given at the console starts with: RESOURCE_BUSY while another of the console is in progress, else what the
checks of R426 answer. -/
def consoleStatus (s : State) (x : CmdCtx) (d : Cmd) : Nat := if s.longs.any (fun l => l.console) then stBusy else cmdStatus s x d

/-- R426, R530, R531, R535: RAISE, METER, TEST, LOOP, CONSOLE_MARCH, CONSOLE_WALL_RESET, CONSOLE_WALL_LOAD and CONSOLE_WALL_POWER complete, as the console's
master: a command that fails its checks, or finds another of the console in progress, says so; a self-test, a march, a
loopback, a wall's reset, load or power change goes on as a long command of the console; `raise` raises the event; `meter`
takes the meter's claim and selects, unless another master holds it or the wall is not there. -/
def Rule.ConsoleCommandsAct : Prop :=
  ∀ (s : State) (w : Wall), AtConsole s →
    let m := s.consoleMid
    let begun (i : Instr) (u : State) (op : Nat) : Prop := exec i s = .next u ∧ ∃ l ∈ u.longs, l.op = op ∧ l.console = true
    let tests (u : State) (num : Nat) : Prop := ∃ t ∈ u.service.tests, t.num = num ∧ t.console = true
    let reports (i : Instr) (st : Nat) : Prop := exec i s = .next ((heard s).sayEnd st)
    let refuses (i : Instr) (num st : Nat) : Prop := exec i s = .next (((heard s).testRefused m num).sayEnd st)
    (∀ v : Word, let st := s.regCheck m R.EV_RAISE true
      (st = 0 → ∃ t, exec (.raise v) s = .next t ∧ HubRaised s t 31 0 ∧ t.service.out = s.service.out ++ ["OK"]) ∧
      (st ≠ 0 → ∃ t l, exec (.raise v) s = .next t ∧ t.last.status = st ∧ t.service.out = s.service.out ++ [l])) ∧
    (∀ v : Word,
      let free := s.claimed claimMeter = false ∨ s.holds claimMeter m = true
      let there := meterNamesWall v = false ∨ s.populated (fld v F.SVC_METER_SEL_wall) = true
      let legal := fld v F.SVC_METER_SEL_mode ≠ 3 ∧ (fld v F.SVC_METER_SEL_mode = 1 → 1 ≤ fld v F.SVC_METER_SEL_qty ∧ fld v F.SVC_METER_SEL_qty ≤ 9)
      (¬ there → reports (.meter v) stBadArg) ∧
      (there → ¬ free → reports (.meter v) stBusy) ∧
      (there → free → s.regCheck m R.SVC_METER_SEL true = 0 →
        ∃ t, exec (.meter v) s = .next t ∧ t.holds claimMeter m = true ∧ MemAndTilesKept s t ∧
          (legal → t.fl R.SVC_METER_SEL F.SVC_METER_SEL_mode = fld v F.SVC_METER_SEL_mode ∧ t.service.out = s.service.out ++ ["OK"]) ∧
          (¬ legal → t.rd R.SVC_METER_SEL = s.rd R.SVC_METER_SEL ∧ t.service.out = s.service.out ++ ["ERR 0x0012 BAD_ARGUMENT"]))) ∧
    (∀ (t : BitVec 8) (a b c : Word), let x := consoleCtx w [BitVec.ofNat 32 t.toNat, a, b, c]
      let st := consoleStatus s x (s.selfTestCmd t.toNat m x true)
      (st ≠ 0 → refuses (.test t w a b c) t.toNat st) ∧
      (st = 0 → s.testCheck t.toNat m x ≠ 0 → refuses (.test t w a b c) t.toNat (s.testCheck t.toNat m x)) ∧
      (st = 0 → s.testCheck t.toNat m x = 0 → t.toNat ≠ 6 → t.toNat ≠ 7 → ∃ u, begun (.test t w a b c) u 32 ∧ tests u t.toNat) ∧
      (st = 0 → s.testCheck t.toNat m x = 0 → t = 6 ∨ t = 7 → match s.laneClaim m w.val a.toNat with
        | .error e => refuses (.test t w a b c) t.toNat e
        | .ok _ => ∃ u, begun (.test t w a b c) u 32 ∧ tests u t.toNat)) ∧
    (∀ (n : Fin 16) (far : Bool) (sec : Word), let num := if far then 7 else 6
      let x := consoleCtx w [BitVec.ofNat 32 num, BitVec.ofNat 32 n.val, sec]
      let st := consoleStatus s x (s.selfTestCmd num m x true)
      (st ≠ 0 → refuses (.loop w n far sec) num st) ∧
      (st = 0 → s.testCheck num m x ≠ 0 → refuses (.loop w n far sec) num (s.testCheck num m x)) ∧
      (st = 0 → s.testCheck num m x = 0 → match s.laneClaim m w.val n.val with
        | .error e => refuses (.loop w n far sec) num e
        | .ok _ => ∃ u, begun (.loop w n far sec) u 32 ∧ tests u num)) ∧
    (∀ (banks : BitVec 8) (alg bg : BitVec 2), let x := consoleCtx w [BitVec.ofNat 32 (banks.toNat + alg.toNat * 256 + bg.toNat * 1024)]
      let st := consoleStatus s x (s.marchCmd m x)
      let r := (s.marchRequest w.val banks.toNat alg.toNat bg.toNat m).2
      (st ≠ 0 → reports (.consoleMarch w banks alg bg) st) ∧
      (st = 0 → r ≠ 0 → reports (.consoleMarch w banks alg bg) r) ∧
      (st = 0 → r = 0 → ∃ u, begun (.consoleMarch w banks alg bg) u 24 ∧ ∀ b, b < 8 → nbit banks.toNat b = true → u.inTest w.val b = true)) ∧
    (let x := consoleCtx w []
     let st := consoleStatus s x (s.wallResetCmd m x)
     let legal := s.phase w.val ≠ 7 ∧ s.fl (R.KILN_STATUS w.val) F.KILN_STATUS_cfg ≠ 0
     (st ≠ 0 → reports (.consoleWallReset w) st) ∧ (st = 0 → ¬ legal → reports (.consoleWallReset w) stBadArg) ∧
     (st = 0 → legal → ∃ u, begun (.consoleWallReset w) u 17 ∧ u.phase w.val = 1)) ∧
    (∀ e : BitVec 2, let x := consoleCtx w [BitVec.ofNat 32 (2 ^ w.val)]
      let st := consoleStatus s x (s.entryLoadCmd m x e.toNat)
      let stored := (Sp.getD s.trowel.store e.toNat {}).image
      let legal := e.toNat < 3 ∧ stored ≠ none ∧ s.trowel.lifecycle ≠ 3
      (st ≠ 0 → reports (.consoleWallLoad w e) st) ∧ (st = 0 → ¬ legal → reports (.consoleWallLoad w e) stBadArg) ∧
      (∀ img, st = 0 → legal → stored = some img → ∃ u, begun (.consoleWallLoad w e) u 16 ∧ u.phase w.val = 1 ∧ (u.kiln w.val).got = wordsOfBytes img.payload)) ∧
    (∀ p : BitVec 2, let x := consoleCtx w [BitVec.ofNat 32 p.toNat]
      let st := consoleStatus s x (s.wallPowerCmd m x)
      (st ≠ 0 → reports (.consoleWallPower w p) st) ∧ (st = 0 → p = 3 → reports (.consoleWallPower w p) stBadArg) ∧
      (st = 0 → p ≠ 3 → s.wallPower w.val = 3 → reports (.consoleWallPower w p) stBusy) ∧
      (st = 0 → p ≠ 3 → s.wallPower w.val ≠ 3 → ∃ u, begun (.consoleWallPower w p) u 18 ∧ (u.wallPower w.val = p.toNat ∨ u.wallPower w.val = 3)))

/-- R500, R543 to R545: SAFE_ENTER, SAFE_EXIT, RECOVERY, SVC_SAFE_ENTER and SVC_SAFE_EXIT complete. Safe mode is entered from the console or, by master 0,
through SVC_SAFE, and left the same way; entering holds HOLD_N low and puts every wall that is on into RESET, as does
entering the recovery ROM from the console; leaving clears the watchdog's count and lets the boot loads follow. Entering
safe mode again, and leaving it twice, change nothing. -/
def Obligations.SafeModeAndRecoveryHoldTheWalls : Prop :=
  ∀ (s : State) (m : Mid),
    let held (t : State) : Prop := t.holdN = false ∧ ∀ w, w < 8 → s.populated w = true → s.wallOff w = false → t.phase w = 1
    let entered (t : State) (cause : Nat) : Prop := t.service.safe = true ∧ t.service.safeCause = cause ∧ held t ∧ ∃ e ∈ t.hubWait, e.code = 104
    let left (t : State) : Prop := t.service.safe = false ∧ t.fl R.PWR_WDT F.PWR_WDT_count = 0 ∧ HubRaised s t 13 1 ∧
      (∀ w, w < 8 → (t.wall w).bootLoaded = false) ∧ MemAndTilesKept s t
    (AtConsole s →
      (s.service.safe = false → ∃ t, exec .safeEnter s = .next t ∧ entered t 2 ∧ t.service.out = s.service.out ++ ["OK"]) ∧
      (s.service.safe = true → exec .safeEnter s = .next ((heard s).sayEnd 0)) ∧
      (s.service.safe = true → ∃ t, exec .safeExit s = .next t ∧ left t ∧ t.service.out = s.service.out ++ ["OK"]) ∧
      (s.service.safe = false → exec .safeExit s = .next ((heard s).sayEnd 0)) ∧
      (∃ t, exec .recovery s = .next t ∧ t.trowel.recovery = true ∧ t.trowel.recCause = 3 ∧ t.trowel.running = false ∧ held t ∧
        t.service.out = s.service.out ++ ["OK"])) ∧
    (Allowed s m R.SVC_SAFE true →
      (∃ t, exec (.svcSafeEnter m) s = .next t ∧ (m = 0 → Answered t m R.SVC_SAFE 0) ∧ (m = 0 → s.service.safe = false → entered t 3) ∧
        (m = 0 → s.service.safe = true → t.service = s.service ∧ t.walls = s.walls) ∧
        (m ≠ 0 → Answered t m R.SVC_SAFE stAccessDenied ∧ t.service = s.service)) ∧
      (∃ t, exec (.svcSafeExit m) s = .next t ∧ (m = 0 → Answered t m R.SVC_SAFE 0) ∧ (m = 0 → s.service.safe = true → left t) ∧
        (m = 0 → s.service.safe = false → t.service = s.service ∧ t.walls = s.walls) ∧
        (m ≠ 0 → Answered t m R.SVC_SAFE stAccessDenied ∧ t.service = s.service)))

/-- R533 to R535: SVC_METER_SEL_WRITE and SVC_METER_UPDATE complete: the meter's holder selects a mode and a quantity, and another master or a
bad selection is refused; once a millisecond, and not before, the output takes its level: 0 mV when off, the verdict's
level, or the quantity's, clamped to 2,500 mV. -/
def Obligations.TheMeterShowsItsQuantity : Prop :=
  ∀ (s : State) (m : Mid),
    let a := R.SVC_METER_SEL
    let lvl (t : State) : Nat := t.fl R.SVC_METER_MV F.SVC_METER_MV_mv
    (∀ v : Word, Allowed s m a true → let mode := fld v F.SVC_METER_SEL_mode
      let good := mode ≠ 3 ∧ (mode = 1 → 1 ≤ fld v F.SVC_METER_SEL_qty ∧ fld v F.SVC_METER_SEL_qty ≤ 9)
      ∃ t, exec (.svcMeterSelWrite m v) s = .next t ∧ MemAndTilesKept s t ∧
        (s.holds claimMeter m.toNat = false → Answered t m a stBusy ∧ t.rd a = s.rd a) ∧
        (s.holds claimMeter m.toNat = true → good → Answered t m a 0 ∧ t.fl a F.SVC_METER_SEL_mode = mode ∧
          t.fl a F.SVC_METER_SEL_qty = fld v F.SVC_METER_SEL_qty) ∧
        (s.holds claimMeter m.toNat = true → ¬ good → Answered t m a stBadArg ∧ t.rd a = s.rd a)) ∧
    (let mode := s.fl a F.SVC_METER_SEL_mode
     let due := s.powered = true ∧ s.periodOver s.service.meterAt 1250000 = true
     (due → ∃ t, exec .svcMeterUpdate s = .next t ∧ RegsKeptBut s t [R.SVC_METER_MV] ∧ MemAndTilesKept s t ∧ t.service.meterAt = some s.tick ∧
        (mode = 0 → lvl t = 0) ∧ (mode = 2 → lvl t = s.meterVerdict) ∧
        (mode = 1 → (∀ x, s.meterQuantity (s.rd a) = some x → lvl t = meterClamp x) ∧ lvl t ≤ 2500)) ∧
     (¬ due → exec .svcMeterUpdate s = .next s))

/-- R540 to R542: the instructions of the test access port complete: SAMPLE_PRELOAD, IDCODE, BYPASS and TEST_LOGIC_RESET change the
instruction register alone; EXTEST, HIGHZ, CLAMP, EXTEST_PULSE and EXTEST_TRAIN put every wall that is on into RESET and the
CXL link down; a WALL_SCAN holds its wall in RESET and wipes its secure bank, and acts as BYPASS for a wall that the part
does not populate; without supply nothing answers. -/
def Obligations.BoundaryScanStopsTheModule : Prop :=
  ∀ (s : State),
    (s.powered = true →
      (∀ i op, (i, op) ∈ [(Instr.samplePreload, 1), (.idcode, 2), (.bypass, 255), (.testLogicReset, 2)] →
        ∃ t, exec i s = .next t ∧ t = { s with service := { s.service with ir := op } } ∧ (op = 2 → t.tapData = some s.idCode)) ∧
      (∀ i op, (i, op) ∈ [(Instr.extest, 0), (.highz, 3), (.clamp, 4), (.extestPulse, 5), (.extestTrain, 6)] →
        ∃ t, exec i s = .next t ∧ t.service.ir = op ∧ t.service.scanHold = true ∧ t.cxl.up = false ∧
          ∀ w, w < 8 → s.populated w = true → s.wallOff w = false → t.phase w = 1) ∧
      (∀ w : Wall, ∃ t, exec (.wallScan w) s = .next t ∧ t.service.ir = 64 + w.val ∧
        (s.populated w.val = true → (t.wall w.val).scan = true ∧ (s.wallOff w.val = false → t.phase w.val = 1) ∧
          (s.wallPower w.val ≠ 2 → (t.wall w.val).wipe.isSome = true)) ∧
        (s.populated w.val = false → t = { s with service := { s.service with ir := 64 + w.val } }))) ∧
    (s.powered = false → ∀ (w : Wall) (i : Instr), i ∈ [.extest, .samplePreload, .idcode, .highz, .clamp, .extestPulse, .extestTrain, .bypass,
      .testLogicReset, .wallScan w] → exec i s = .next s)

/-! ## The statements with several parts -/

/-- ALU and immediate instructions deliver their result and flags; compares set flags only (R146, R147). -/
def Obligations.ArithmeticDeliversResultAndFlags : Prop := Rule.AluDeliversResultAndFlags ∧ Rule.AliDeliversResult ∧ Rule.CompareSetsFlagsOnly

/-- The address unit moves values, steps circularly and folds its pointer (R148, R149, R165, R166, R167). -/
def Obligations.AddressUnitMovesAndSteps : Prop := Rule.AddressUnitMovesValues ∧ Rule.StepsAreCircular ∧ Rule.LdliFoldsThePointer

/-- Branches set the PC and repeats run their body (R150, R161, R162, R163). -/
def Obligations.BranchesAndRepeatsSetThePc : Prop := Rule.BranchesSetThePc ∧ Rule.RepStartsARepeat ∧ Rule.RepeatBodyRunsCountTimes

/-- Waiting keeps the scalar state; TPSET, RDS and WRS act (R118, R119, R127, R151, R152, R156). -/
def Obligations.FlagsAndSpecialRegistersAct : Prop := Rule.WaitForIssueKeepsScalarState ∧ Rule.TpsetTestsTheFlagVector ∧ Rule.SpecialRegistersReadAndWrite

/-- PAT selects its slot and acts on the buses; the end of a part waits for the set or ends the run (R79, R122, R144, R145, R159, R181, R183, R184). -/
def Obligations.PatternsAndPartsActByRule : Prop := Rule.PatActsOnBusesAndSelectsItsSlot ∧ Rule.EndOfPartWaitsForTheSet ∧ Rule.LastTileEndsTheRun

/-- RETF returns from a handler, SYNC releases the set together, SIGNAL raises FLOW_SIGNAL (R120, R137, R141, R150, R429). -/
def Obligations.ControlInstructionsAct : Prop := Rule.RetfReturnsFromTheHandler ∧ Rule.SyncReleasesTheSetTogether ∧ Rule.SignalRaisesFlowSignal

/-- SAVEW and CALLW open a register window, RESTW and RETW close one (R130, R132, R133, R572). -/
def Obligations.WindowsOpenAndClose : Prop := Rule.SavewAndCallwOpenAWindow ∧ Rule.RestwAndRetwCloseAWindow

/-- Block instructions request the hod engine, SEND puts a packet on the bond, FENCE waits (R152, R153, R173, R284, R285). -/
def Obligations.BlockAndSendInstructionsAct : Prop := Rule.BlockInstructionsRequestTheHod ∧ Rule.SendPutsAPacketOnTheBond ∧ Rule.FenceWaitsForTheSends

/-- Register reads and writes act, refused ones change nothing, pairs are coherent, by host and by packet (R10, R11, R13, R409, R414, R431, R571). -/
def Obligations.RegisterAccessesAct : Prop := Rule.RegisterWriteStoresTheValue ∧ Rule.RegisterWriteCompletes ∧ Rule.RegisterWriteIsItsCommand ∧ Rule.RefusedAccessChangesNothing ∧
  Rule.PairReadsAreCoherent ∧ Rule.RegisterReadReturnsTheWord ∧ Rule.RegisterBusPacketsAccessRegisters

/-- Pins request slots, refills fill ways, a pattern issue is one datapath cycle (R21, R22, R81, R82, R85, R86, R89, R91, R116). -/
def Obligations.CachesRefillAndIssue : Prop := Rule.PinWriteRequestsPinnedSlots ∧ Rule.RefillsFillAWay ∧ Rule.PatternIssueIsOneCycle

/-- Window handlers exclude fast flows; captures hold the tiles at the edge (R108, R109, R110, R138). -/
def Obligations.HandlersAndCapturesAct : Prop := Rule.WindowHandlersExcludeFastFlows ∧ Rule.CapturesHoldTheTilesAtTheEdge

/-- The life cycle of a flow: create, enable, disable, restart, destroy (R188, R189, R192). -/
def Obligations.FlowsAreCreatedAndEnabled : Prop := Rule.FlowLifecycle ∧ Rule.EnablePutsAFlowInPlace

/-- Targets are written only with a disarmed schedule; FD_SCHED arms and disarms (R186, R187, R197, R217). -/
def Obligations.DescriptorWritesRuleSchedules : Prop := Rule.TargetWritesNeedADisarmedSchedule ∧ Rule.SchedWriteArmsTheTarget

/-- Fill windows and leases are set; targets match once; pre-staging comes and goes (R197, R198, R199, R200, R202, R205, R217, R219). -/
def Obligations.WindowsLeasesAndTargetsAct : Prop := Rule.WindowsAndLeases ∧ Rule.TargetsMatchOnce ∧ Rule.PrestageAdmitsAndWithdraws

/-- Flows start on granted tiles; hod operations start by class and complete with their effect (R131, R132, R173, R174, R193, R194, R206, R209, R210, R215). -/
def Obligations.StartsAndHodOperationsAct : Prop :=
  Rule.StartsGrantTheTiles ∧ Rule.HodStartsByClass ∧ Rule.RestoreAndMakeColdComplete ∧ Rule.WindowAndBlockOperationsComplete ∧
  Rule.UncorrectableAreasLoseTheContext

/-- Reference edges move the edge angle; bases advance by their velocity (R228, R229, R230, R231, R232, R233, R235, R236, R240, R257). -/
def Obligations.ReferencesMoveTheBases : Prop := Rule.ReferenceEdgesMoveTheEdgeAngle ∧ Rule.BasesAdvanceByTheirVelocity

/-- Feeds set the velocity; lost references hold or coast; angle registers configure (R226, R227, R237, R238, R241, R244, R258). -/
def Obligations.FeedsLossesAndSettingsAct : Prop := Rule.FeedsSetTheVelocity ∧ Rule.LossHoldsOrCoasts ∧ Rule.AngleRegistersConfigure

/-- Walls report their records; the hub appends them in order and sends messages (R263, R430, R431, R432, R433, R434). -/
def Obligations.RecordsReachTheLog : Prop := Rule.WallsReportTheirRecords ∧ Rule.TheHubKeepsTheLog

/-- Packets are injected, routed and delivered; a tile's interface writes its memory (R103, R104, R278, R279, R286, R287, R298, R302, R313, R574). -/
def Obligations.PacketsTravelTheMesh : Prop := Rule.InjectionEntersTheMesh ∧ Rule.PacketsTravelToTheirTarget ∧ Rule.BondInterfaceWritesTheOldestWord

/-- Tile interfaces buffer packets; answers end what they answer (R280, R281, R282, R285, R296, R303, R405, R406, R571). -/
def Obligations.EndpointsTakeAndAnswer : Prop := Rule.TileInterfacesBufferPackets ∧ Rule.AnswersEndWhatTheyAnswer

/-- Epochs flip at the frame boundary; connections and rings are checked; domains drain (R282, R295, R301, R305, R306, R307, R309, R310, R311). -/
def Obligations.EpochsConnectionsAndDomains : Prop := Rule.EpochsFlipAtTheFrameBoundary ∧ Rule.ConnectionsAndRingsAreChecked ∧ Rule.DomainsDrainAndRelease

/-- Banks serve allowed accesses only; patrol and retention keep their bytes (R321, R322, R323, R327, R328, R331, R335, R336). -/
def Obligations.BanksServeAndKeepTheirBytes : Prop := Rule.BanksServeReadsAndWrites ∧ Rule.PatrolAndRetentionKeepTheBanks

/-- Marches test banks; tamper wipes the secure bank (R332, R333, R334, R337, R338, R340, R341). -/
def Obligations.MarchesAndWipesAct : Prop := Rule.MarchesTestBanks ∧ Rule.TamperWipesTheSecureBank

/-- GDDR7 devices serve walls and host, report heat, and follow the host's copies (R344, R345, R347, R348, R349, R351, R352, R354, R355, R356, R357, R358). -/
def Obligations.DevicesServeAndFollowTheHost : Prop := Rule.DevicesServeWallsAndHost ∧ Rule.HotDevicesAreReported ∧ Rule.DevicesFollowTheHost

/-- Links train, lose lock and receive frames (R362, R365, R366, R367, R370, R371, R372, R373, R374, R375, R385). -/
def Obligations.LinksTrainAndReceive : Prop := Rule.LinksTrainAndLoseLock ∧ Rule.LinksReceiveFrames

/-- Triggers send frames; Ethernet receives and transmits; the PTP clock is adjusted and read (R376, R377, R378, R380, R381, R382, R383). -/
def Obligations.LinksSendAndEthernetActs : Prop := Rule.TriggersSendFrames ∧ Rule.EthernetAndPtp

/-- Pins sample and trip; VIO gates them (R389, R390, R391, R392, R394). -/
def Obligations.PinsSampleTripAndFollowVio : Prop := Rule.PinsSampleAndTrip ∧ Rule.VioGatesThePins

/-- The chain enumerates, ticks, carries images and health, HOLD_N and DONE_OD (R398, R399, R400, R401, R464, R465, R489, R490, R497, R499). -/
def Obligations.TheChainCarriesItsFrames : Prop := Rule.ChainEnumeratesAndTicks ∧ Rule.ChainCarriesImagesAndHealth ∧ Rule.HoldAndDoneFollowTheChain

/-- Queues are configured, rung, fetched from, and completed to in order (R420, R421, R422, R423, R424, R425). -/
def Obligations.QueuesFetchAndComplete : Prop := Rule.QueuesAreConfiguredAndRung ∧ Rule.CompletionsArePostedInOrder ∧ Rule.EntriesAreFetchedAndFinished

/-- Hub commands act; a command that fails a check changes nothing (R418, R426, R427, R502, R546). -/
def Obligations.HubCommandsActOrAreRefused : Prop := Rule.RefusedCommandsChangeNothing ∧ Rule.HubCommandsAct

/-- Commands on walls begin: loads, resets, power, images, captures, marches, training, firmware (R418, R453, R461, R467, R468, R470, R488, R493, R514, R515, R538). -/
def Obligations.WallCommandsAct : Prop := Rule.WallCommandsChangeTheWall ∧ Rule.PatternImagesAreWrittenSlotBySlot ∧ Rule.LongCommandsBegin

/-- Streams are written frame by frame and ended by END; boot loads begin (R446, R451, R452, R453, R454, R455, R470). -/
def Obligations.ImagesAreLoaded : Prop := Rule.StreamsAreWrittenFrameByFrame ∧ Rule.EndRecordsAndBootLoads

/-- A wall starts up phase by phase in its order (R456, R457, R458, R459, R461, R465, R477). -/
def Obligations.WallsStartUp : Prop := Rule.StartUpGoesFromPhaseToPhase ∧ Rule.StartUpOrderAndPointingSettings

/-- Walls and courses change their power; clock steps follow the temperature (R507, R513, R515, R517, R523, R524, R525). -/
def Obligations.WallsCoursesAndClocksChange : Prop := Rule.WallsAndCoursesArePowered ∧ Rule.ClockStepsFollowTheTemperature

/-- Activations go through a trial; the loader boots or recovers; the ROM takes an image (R493, R494, R495, R496, R497, R498, R500, R501, R503, R520). -/
def Obligations.FirmwareBootsTriesAndRecovers : Prop := Rule.ActivationsGoThroughATrial ∧ Rule.TheLoaderBootsOrRecovers ∧ Rule.RecoveryTakesAnImage

/-- Console sessions read the module and act on it (R529, R530, R531, R532). -/
def Obligations.ConsoleReadsAndActs : Prop := Rule.ConsoleSessionsReadTheModule ∧ Rule.ConsoleCommandsAct

/-! ## The words and the flits -/

/-- Whether the fields of a sequencer instruction at address pc of its program memory have values that R142 to R154 do not reserve
(the field that a form of REP does not have is 0). -/
def SeqForm (pc : Nat) (i : Instr) : Prop :=
  match i with
  | .pat _ f => f.ba ≠ 3 ∧ f.bb ≠ 3 ∧ f.bc ≠ 3 ∧ f.cond.toNat ≤ 10
  | .aluAdd _ f | .aluSub _ f | .aluAnd _ f | .aluOr _ f | .aluXor _ f | .aluShl _ f | .aluShr _ f | .aluSra _ f | .aluMov _ f
  | .aluMin _ f | .aluMax _ f | .aluMinu _ f | .aluMaxu _ f | .aluMul _ f | .aluMulh _ f | .aluCmp _ f | .aluSx24 _ f
  | .aluClz _ f => f.cond.toNat ≤ 10
  | .ldi _ f | .lui _ f | .addi _ f | .andi _ f | .ori _ f | .xori _ f | .cmpi _ f => f.cond.toNat ≤ 10
  | .br _ k _ | .callw _ k _ | .jmp _ k _ => k.toNat ≤ 10
  | .retw _ k => k.toNat ≤ 10
  | .rep _ f => pc < f.fin.toNat ∧ (if f.src then f.count = 0 else f.ra = 0)
  | .tpset _ f => f.flag ≠ 7 ∧ f.mode ≠ 3 ∧ f.cond.toNat ≤ 10
  | .send _ f => f.kind.toNat < 2
  | _ => True

/-- R142 to R154: the word of every sequencer instruction of legal fields is legal, and is decoded as that instruction, every field
as it was. -/
def Rule.SequencerWordsDecodeBack : Prop :=
  ∀ (pc : Nat) (i : Instr) (v : Word), SeqForm pc i → seqEncode i = some v →
    wordIllegalSeq v pc = false ∧ ∃ x : TileRef, seqDecode x pc v = some i

/-- R276, R278: the flits of a packet, which carries a payload exactly where its type has one, spell that packet: no field of the
head and no byte of the payload is lost. -/
def Rule.FlitsSpellTheirPacket : Prop :=
  ∀ p : Packet, p.wf = true → p.payload = [] ∧ p.typ ∉ [0, 2, 3] ∧ p.len = 0 ∨ p.payload ≠ [] ∧ p.typ ∈ [0, 2, 3] →
    Packet.ofFlits p.flitList = some p

/-- Encoded sequencer words and packets decode back (R142, R143, R144, R146, R147, R148, R150, R152, R153, R154, R276, R278). -/
def Obligations.WordsAndFlitsDecodeBack : Prop := Rule.SequencerWordsDecodeBack ∧ Rule.FlitsSpellTheirPacket
end

