-- ==== Sys2Proof/Laws/Sparse.lean ====
section
/-!
SUPPORT. Laws/Sparse.lean: sparse data by key and byte stores: a read after a write, and the canonical form that every
operation keeps.
-/
namespace Sys2Proof.Machine
open Sys2Proof

variable {α : Type}

@[simp] theorem Sp.getD_nil (k : Nat) (d : α) : Sp.getD ([] : Sp α) k d = d := rfl

@[simp] theorem Sp.getD_put_same (m : Sp α) (k : Nat) (v d : α) : Sp.getD (Sp.put m k v) k d = v := by
  induction m with
  | nil => simp [Sp.put, Sp.getD]
  | cons e r ih =>
    obtain ⟨a, w⟩ := e
    unfold Sp.put
    split
    · simp [Sp.getD]
    · split
      · simp [Sp.getD]
      · rename_i h _
        simp [Sp.getD, h, ih]

theorem Sp.getD_put_ne (m : Sp α) {k j : Nat} (h : j ≠ k) (v d : α) : Sp.getD (Sp.put m k v) j d = Sp.getD m j d := by
  induction m with
  | nil => simp [Sp.put, Sp.getD, Ne.symm h]
  | cons e r ih =>
    obtain ⟨a, w⟩ := e
    unfold Sp.put
    split
    · rename_i ha
      subst ha
      simp [Sp.getD, Ne.symm h]
    · split
      · simp [Sp.getD, Ne.symm h]
      · simp [Sp.getD, ih]

@[simp] theorem Sp.getD_drop_same (m : Sp α) (k : Nat) (d : α) : Sp.getD (Sp.drop m k) k d = d := by
  induction m with
  | nil => rfl
  | cons e r ih =>
    obtain ⟨a, w⟩ := e
    unfold Sp.drop
    split
    · exact ih
    · rename_i h
      simp [Sp.getD, h, ih]

theorem Sp.getD_drop_ne (m : Sp α) {k j : Nat} (h : j ≠ k) (d : α) : Sp.getD (Sp.drop m k) j d = Sp.getD m j d := by
  induction m with
  | nil => rfl
  | cons e r ih =>
    obtain ⟨a, w⟩ := e
    unfold Sp.drop
    split
    · rename_i ha
      subst ha
      simp [Sp.getD, Ne.symm h, ih]
    · simp [Sp.getD, ih]

@[simp] theorem Sp.getD_set_same [DecidableEq α] (m : Sp α) (k : Nat) (v d : α) : Sp.getD (Sp.set m k v d) k d = v := by
  unfold Sp.set
  split
  · rename_i h
    simp [h]
  · simp

theorem Sp.getD_set_ne [DecidableEq α] (m : Sp α) {k j : Nat} (h : j ≠ k) (v d e : α) :
    Sp.getD (Sp.set m k v d) j e = Sp.getD m j e := by
  unfold Sp.set
  split
  · exact Sp.getD_drop_ne m h e
  · exact Sp.getD_put_ne m h v e

/-! ### The canonical form -/

theorem Sp.wfFrom_mono [DecidableEq α] (d : Nat → α) {a b : Nat} (h : b ≤ a) (m : Sp α)
    (hm : Sp.wfFrom d (some a) m = true) : Sp.wfFrom d (some b) m = true := by
  cases m with
  | nil => rfl
  | cons e r =>
    obtain ⟨k, v⟩ := e
    simp only [Sp.wfFrom, Bool.and_eq_true, decide_eq_true_eq] at hm ⊢
    exact ⟨⟨by omega, hm.1.2⟩, hm.2⟩

theorem Sp.wfFrom_none [DecidableEq α] (d : Nat → α) {a : Nat} (m : Sp α)
    (hm : Sp.wfFrom d (some a) m = true) : Sp.wfFrom d none m = true := by
  cases m with
  | nil => rfl
  | cons e r =>
    obtain ⟨k, v⟩ := e
    simp only [Sp.wfFrom, Bool.and_eq_true, decide_eq_true_eq] at hm ⊢
    exact ⟨⟨trivial, hm.1.2⟩, hm.2⟩

theorem Sp.wfFrom_put [DecidableEq α] (d : Nat → α) (k : Nat) (v : α) (hv : v ≠ d k) (m : Sp α) :
    ∀ lo : Option Nat, (∀ b, lo = some b → b < k) → Sp.wfFrom d lo m = true → Sp.wfFrom d lo (Sp.put m k v) = true := by
  induction m with
  | nil =>
    intro lo hlo _
    cases lo with
    | none => simp [Sp.put, Sp.wfFrom, hv]
    | some b => simp [Sp.put, Sp.wfFrom, hv, hlo b rfl]
  | cons e r ih =>
    obtain ⟨a, w⟩ := e
    intro lo hlo hm
    simp only [Sp.wfFrom, Bool.and_eq_true, decide_eq_true_eq] at hm
    unfold Sp.put
    split
    · rename_i ha
      subst ha
      simp only [Sp.wfFrom, Bool.and_eq_true, decide_eq_true_eq]
      exact ⟨⟨hm.1.1, hv⟩, hm.2⟩
    · split
      · rename_i hne hlt
        simp only [Sp.wfFrom, Bool.and_eq_true, decide_eq_true_eq]
        refine ⟨⟨?_, hv⟩, ⟨hlt, hm.1.2⟩, hm.2⟩
        cases lo with
        | none => trivial
        | some b => simpa using hlo b rfl
      · rename_i hne hlt
        simp only [Sp.wfFrom, Bool.and_eq_true, decide_eq_true_eq]
        exact ⟨hm.1, ih (some a) (by intro b hb; cases hb; omega) hm.2⟩

theorem Sp.wfFrom_drop [DecidableEq α] (d : Nat → α) (k : Nat) (m : Sp α) :
    ∀ lo : Option Nat, Sp.wfFrom d lo m = true → Sp.wfFrom d lo (Sp.drop m k) = true := by
  induction m with
  | nil => intro lo h; exact h
  | cons e r ih =>
    obtain ⟨a, w⟩ := e
    intro lo hm
    simp only [Sp.wfFrom, Bool.and_eq_true, decide_eq_true_eq] at hm
    unfold Sp.drop
    split
    · cases lo with
      | none => exact ih none (Sp.wfFrom_none d r hm.2)
      | some b =>
        have hb : b < a := by simpa using hm.1.1
        exact ih (some b) (Sp.wfFrom_mono d (Nat.le_of_lt hb) r hm.2)
    · simp only [Sp.wfFrom, Bool.and_eq_true, decide_eq_true_eq]
      exact ⟨hm.1, ih (some a) hm.2⟩

theorem Sp.wf_set [DecidableEq α] (d : Nat → α) (m : Sp α) (k : Nat) (v : α) (hm : Sp.wf d m = true) :
    Sp.wf d (Sp.set m k v (d k)) = true := by
  unfold Sp.set
  split
  · exact Sp.wfFrom_drop d k m none hm
  · rename_i h
    exact Sp.wfFrom_put d k v h m none (by intro b hb; cases hb) hm

/-- Leaving entries out keeps the canonical form. -/
theorem Sp.wfFrom_filter [DecidableEq α] (d : Nat → α) (p : Nat × α → Bool) (m : Sp α) :
    ∀ lo : Option Nat, Sp.wfFrom d lo m = true → Sp.wfFrom d lo (m.filter p) = true := by
  induction m with
  | nil => intro lo h; exact h
  | cons e r ih =>
    obtain ⟨a, w⟩ := e
    intro lo hm
    simp only [Sp.wfFrom, Bool.and_eq_true, decide_eq_true_eq] at hm
    simp only [List.filter_cons]
    split
    · simp only [Sp.wfFrom, Bool.and_eq_true, decide_eq_true_eq]
      exact ⟨hm.1, ih (some a) hm.2⟩
    · cases lo with
      | none => exact ih none (Sp.wfFrom_none d r hm.2)
      | some b =>
        have hb : b < a := by simpa using hm.1.1
        exact ih (some b) (Sp.wfFrom_mono d (Nat.le_of_lt hb) r hm.2)

theorem Sp.wf_filter [DecidableEq α] (d : Nat → α) (p : Nat × α → Bool) (m : Sp α) (h : Sp.wf d m = true) :
    Sp.wf d (m.filter p) = true := Sp.wfFrom_filter d p m none h

/-! ### Byte stores -/

@[simp] theorem memByte_set_same (m : List Host.Cell) (a : Nat) (v : Byte) : memByte (memSetByte m a v) a = v := by
  simp [memByte, memSetByte]

theorem memByte_set_ne (m : List Host.Cell) {a b : Nat} (h : b ≠ a) (v : Byte) :
    memByte (memSetByte m a v) b = memByte m b := by
  simp [memByte, memSetByte, Sp.getD_set_ne m h]

theorem Memory.wf_setByte (m : List Host.Cell) (a : Nat) (v : Byte) (h : Memory.wf m = true) :
    Memory.wf (memSetByte m a v) = true := Sp.wf_set memDefault m a v h

theorem Memory.wf_setBytes (bs : List Byte) : ∀ (m : List Host.Cell) (a : Nat), Memory.wf m = true →
    Memory.wf (memSetBytes m a bs) = true := by
  induction bs with
  | nil => intro m a h; exact h
  | cons b r ih => intro m a h; exact ih _ _ (Memory.wf_setByte m a b h)

theorem Memory.wf_filter (m : List Host.Cell) (p : Host.Cell → Bool) (h : Memory.wf m = true) :
    Memory.wf (m.filter p) = true := Sp.wf_filter memDefault p m h

/-- A store changes no byte outside the bytes it stores. -/
theorem memByte_setBytes_out (bs : List Byte) : ∀ (m : List Host.Cell) (a b : Nat),
    (b < a ∨ a + bs.length ≤ b) → memByte (memSetBytes m a bs) b = memByte m b := by
  induction bs with
  | nil => intro m a b _; rfl
  | cons x r ih =>
    intro m a b h
    simp only [List.length_cons] at h
    show memByte (memSetBytes (memSetByte m a x) (a + 1) r) b = _
    rw [ih _ _ _ (by omega), memByte_set_ne _ (by omega)]

/-- A read of what a store has just stored. -/
theorem memBytes_setBytes (bs : List Byte) : ∀ (m : List Host.Cell) (a : Nat),
    memBytes (memSetBytes m a bs) a bs.length = bs := by
  induction bs with
  | nil => intro m a; rfl
  | cons x r ih =>
    intro m a
    show memByte (memSetBytes (memSetByte m a x) (a + 1) r) a :: memBytes (memSetBytes (memSetByte m a x) (a + 1) r) (a + 1) r.length = _
    rw [ih, memByte_setBytes_out _ _ _ _ (by omega), memByte_set_same]

end Sys2Proof.Machine
end

