-- ==== Sys2Proof/Laws/State.lean ====
section
/-!
SUPPORT. Laws/State.lean: what each update of the state leaves alone, field by field, and what a read gives after it.
-/
namespace Sys2Proof.Machine
open Sys2Proof

variable (s : State)

/-! ### State.wr -/
@[simp] theorem State.wr_part (a : Nat) (v : Word) : (s.wr a v).part = s.part := (rfl)
@[simp] theorem State.wr_fresh (a : Nat) (v : Word) : (s.wr a v).fresh = s.fresh := (rfl)
@[simp] theorem State.wr_tick (a : Nat) (v : Word) : (s.wr a v).tick = s.tick := (rfl)
@[simp] theorem State.wr_pairs (a : Nat) (v : Word) : (s.wr a v).pairs = s.pairs := (rfl)
@[simp] theorem State.wr_last (a : Nat) (v : Word) : (s.wr a v).last = s.last := (rfl)
@[simp] theorem State.wr_walls (a : Nat) (v : Word) : (s.wr a v).walls = s.walls := (rfl)
@[simp] theorem State.wr_tiles (a : Nat) (v : Word) : (s.wr a v).tiles = s.tiles := (rfl)
@[simp] theorem State.wr_flows (a : Nat) (v : Word) : (s.wr a v).flows = s.flows := (rfl)
@[simp] theorem State.wr_bases (a : Nat) (v : Word) : (s.wr a v).bases = s.bases := (rfl)
@[simp] theorem State.wr_acus (a : Nat) (v : Word) : (s.wr a v).acus = s.acus := (rfl)
@[simp] theorem State.wr_links (a : Nat) (v : Word) : (s.wr a v).links = s.links := (rfl)
@[simp] theorem State.wr_pins (a : Nat) (v : Word) : (s.wr a v).pins = s.pins := (rfl)
@[simp] theorem State.wr_gddrx (a : Nat) (v : Word) : (s.wr a v).gddrx = s.gddrx := (rfl)
@[simp] theorem State.wr_sram (a : Nat) (v : Word) : (s.wr a v).sram = s.sram := (rfl)
@[simp] theorem State.wr_sramErr (a : Nat) (v : Word) : (s.wr a v).sramErr = s.sramErr := (rfl)
@[simp] theorem State.wr_gddr (a : Nat) (v : Word) : (s.wr a v).gddr = s.gddr := (rfl)
@[simp] theorem State.wr_gddrErr (a : Nat) (v : Word) : (s.wr a v).gddrErr = s.gddrErr := (rfl)
@[simp] theorem State.wr_found (a : Nat) (v : Word) : (s.wr a v).found = s.found := (rfl)
@[simp] theorem State.wr_frameCode (a : Nat) (v : Word) : (s.wr a v).frameCode = s.frameCode := (rfl)
@[simp] theorem State.wr_flight (a : Nat) (v : Word) : (s.wr a v).flight = s.flight := (rfl)
@[simp] theorem State.wr_awaiting (a : Nat) (v : Word) : (s.wr a v).awaiting = s.awaiting := (rfl)
@[simp] theorem State.wr_hubSeq (a : Nat) (v : Word) : (s.wr a v).hubSeq = s.hubSeq := (rfl)
@[simp] theorem State.wr_hubWait (a : Nat) (v : Word) : (s.wr a v).hubWait = s.hubWait := (rfl)
@[simp] theorem State.wr_log (a : Nat) (v : Word) : (s.wr a v).log = s.log := (rfl)
@[simp] theorem State.wr_logCount (a : Nat) (v : Word) : (s.wr a v).logCount = s.logCount := (rfl)
@[simp] theorem State.wr_ringLostSeen (a : Nat) (v : Word) : (s.wr a v).ringLostSeen = s.ringLostSeen := (rfl)
@[simp] theorem State.wr_queues (a : Nat) (v : Word) : (s.wr a v).queues = s.queues := (rfl)
@[simp] theorem State.wr_sqTurn (a : Nat) (v : Word) : (s.wr a v).sqTurn = s.sqTurn := (rfl)
@[simp] theorem State.wr_longs (a : Nat) (v : Word) : (s.wr a v).longs = s.longs := (rfl)
@[simp] theorem State.wr_hostOut (a : Nat) (v : Word) : (s.wr a v).hostOut = s.hostOut := (rfl)
@[simp] theorem State.wr_cxl (a : Nat) (v : Word) : (s.wr a v).cxl = s.cxl := (rfl)
@[simp] theorem State.wr_chain (a : Nat) (v : Word) : (s.wr a v).chain = s.chain := (rfl)
@[simp] theorem State.wr_doneOd (a : Nat) (v : Word) : (s.wr a v).doneOd = s.doneOd := (rfl)
@[simp] theorem State.wr_holdN (a : Nat) (v : Word) : (s.wr a v).holdN = s.holdN := (rfl)
@[simp] theorem State.wr_trowel (a : Nat) (v : Word) : (s.wr a v).trowel = s.trowel := (rfl)
@[simp] theorem State.wr_mons (a : Nat) (v : Word) : (s.wr a v).mons = s.mons := (rfl)
@[simp] theorem State.wr_service (a : Nat) (v : Word) : (s.wr a v).service = s.service := (rfl)
@[simp] theorem State.wr_powered (a : Nat) (v : Word) : (s.wr a v).powered = s.powered := (rfl)
@[simp] theorem State.wr_pending (a : Nat) (v : Word) : (s.wr a v).pending = s.pending := (rfl)
@[simp] theorem State.wr_wall (a : Nat) (v : Word) (j : Nat) : (s.wr a v).wall j = s.wall j := (rfl)
@[simp] theorem State.wr_tile (a : Nat) (v : Word) (j k : Nat) : (s.wr a v).tile j k = s.tile j k := (rfl)
@[simp] theorem State.wr_flow (a : Nat) (v : Word) (j k : Nat) : (s.wr a v).flow j k = s.flow j k := (rfl)
@[simp] theorem State.wr_base (a : Nat) (v : Word) (j k : Nat) : (s.wr a v).base j k = s.base j k := (rfl)
@[simp] theorem State.wr_acu (a : Nat) (v : Word) (j k : Nat) : (s.wr a v).acu j k = s.acu j k := (rfl)
@[simp] theorem State.wr_link (a : Nat) (v : Word) (j k : Nat) : (s.wr a v).link j k = s.link j k := (rfl)
@[simp] theorem State.wr_pin (a : Nat) (v : Word) (j k : Nat) : (s.wr a v).pin j k = s.pin j k := (rfl)
@[simp] theorem State.wr_gdx (a : Nat) (v : Word) (j k : Nat) : (s.wr a v).gdx j k = s.gdx j k := (rfl)
@[simp] theorem State.wr_queue (a : Nat) (v : Word) (j : Nat) : (s.wr a v).queue j = s.queue j := (rfl)
@[simp] theorem State.wr_mon (a : Nat) (v : Word) (j : Nat) : (s.wr a v).mon j = s.mon j := (rfl)

/-! ### State.setFl -/
@[simp] theorem State.setFl_part (a : Nat) (f : Fld) (v : Nat) : (s.setFl a f v).part = s.part := (rfl)
@[simp] theorem State.setFl_fresh (a : Nat) (f : Fld) (v : Nat) : (s.setFl a f v).fresh = s.fresh := (rfl)
@[simp] theorem State.setFl_tick (a : Nat) (f : Fld) (v : Nat) : (s.setFl a f v).tick = s.tick := (rfl)
@[simp] theorem State.setFl_pairs (a : Nat) (f : Fld) (v : Nat) : (s.setFl a f v).pairs = s.pairs := (rfl)
@[simp] theorem State.setFl_last (a : Nat) (f : Fld) (v : Nat) : (s.setFl a f v).last = s.last := (rfl)
@[simp] theorem State.setFl_walls (a : Nat) (f : Fld) (v : Nat) : (s.setFl a f v).walls = s.walls := (rfl)
@[simp] theorem State.setFl_tiles (a : Nat) (f : Fld) (v : Nat) : (s.setFl a f v).tiles = s.tiles := (rfl)
@[simp] theorem State.setFl_flows (a : Nat) (f : Fld) (v : Nat) : (s.setFl a f v).flows = s.flows := (rfl)
@[simp] theorem State.setFl_bases (a : Nat) (f : Fld) (v : Nat) : (s.setFl a f v).bases = s.bases := (rfl)
@[simp] theorem State.setFl_acus (a : Nat) (f : Fld) (v : Nat) : (s.setFl a f v).acus = s.acus := (rfl)
@[simp] theorem State.setFl_links (a : Nat) (f : Fld) (v : Nat) : (s.setFl a f v).links = s.links := (rfl)
@[simp] theorem State.setFl_pins (a : Nat) (f : Fld) (v : Nat) : (s.setFl a f v).pins = s.pins := (rfl)
@[simp] theorem State.setFl_gddrx (a : Nat) (f : Fld) (v : Nat) : (s.setFl a f v).gddrx = s.gddrx := (rfl)
@[simp] theorem State.setFl_sram (a : Nat) (f : Fld) (v : Nat) : (s.setFl a f v).sram = s.sram := (rfl)
@[simp] theorem State.setFl_sramErr (a : Nat) (f : Fld) (v : Nat) : (s.setFl a f v).sramErr = s.sramErr := (rfl)
@[simp] theorem State.setFl_gddr (a : Nat) (f : Fld) (v : Nat) : (s.setFl a f v).gddr = s.gddr := (rfl)
@[simp] theorem State.setFl_gddrErr (a : Nat) (f : Fld) (v : Nat) : (s.setFl a f v).gddrErr = s.gddrErr := (rfl)
@[simp] theorem State.setFl_found (a : Nat) (f : Fld) (v : Nat) : (s.setFl a f v).found = s.found := (rfl)
@[simp] theorem State.setFl_frameCode (a : Nat) (f : Fld) (v : Nat) : (s.setFl a f v).frameCode = s.frameCode := (rfl)
@[simp] theorem State.setFl_flight (a : Nat) (f : Fld) (v : Nat) : (s.setFl a f v).flight = s.flight := (rfl)
@[simp] theorem State.setFl_awaiting (a : Nat) (f : Fld) (v : Nat) : (s.setFl a f v).awaiting = s.awaiting := (rfl)
@[simp] theorem State.setFl_hubSeq (a : Nat) (f : Fld) (v : Nat) : (s.setFl a f v).hubSeq = s.hubSeq := (rfl)
@[simp] theorem State.setFl_hubWait (a : Nat) (f : Fld) (v : Nat) : (s.setFl a f v).hubWait = s.hubWait := (rfl)
@[simp] theorem State.setFl_log (a : Nat) (f : Fld) (v : Nat) : (s.setFl a f v).log = s.log := (rfl)
@[simp] theorem State.setFl_logCount (a : Nat) (f : Fld) (v : Nat) : (s.setFl a f v).logCount = s.logCount := (rfl)
@[simp] theorem State.setFl_ringLostSeen (a : Nat) (f : Fld) (v : Nat) : (s.setFl a f v).ringLostSeen = s.ringLostSeen := (rfl)
@[simp] theorem State.setFl_queues (a : Nat) (f : Fld) (v : Nat) : (s.setFl a f v).queues = s.queues := (rfl)
@[simp] theorem State.setFl_sqTurn (a : Nat) (f : Fld) (v : Nat) : (s.setFl a f v).sqTurn = s.sqTurn := (rfl)
@[simp] theorem State.setFl_longs (a : Nat) (f : Fld) (v : Nat) : (s.setFl a f v).longs = s.longs := (rfl)
@[simp] theorem State.setFl_hostOut (a : Nat) (f : Fld) (v : Nat) : (s.setFl a f v).hostOut = s.hostOut := (rfl)
@[simp] theorem State.setFl_cxl (a : Nat) (f : Fld) (v : Nat) : (s.setFl a f v).cxl = s.cxl := (rfl)
@[simp] theorem State.setFl_chain (a : Nat) (f : Fld) (v : Nat) : (s.setFl a f v).chain = s.chain := (rfl)
@[simp] theorem State.setFl_doneOd (a : Nat) (f : Fld) (v : Nat) : (s.setFl a f v).doneOd = s.doneOd := (rfl)
@[simp] theorem State.setFl_holdN (a : Nat) (f : Fld) (v : Nat) : (s.setFl a f v).holdN = s.holdN := (rfl)
@[simp] theorem State.setFl_trowel (a : Nat) (f : Fld) (v : Nat) : (s.setFl a f v).trowel = s.trowel := (rfl)
@[simp] theorem State.setFl_mons (a : Nat) (f : Fld) (v : Nat) : (s.setFl a f v).mons = s.mons := (rfl)
@[simp] theorem State.setFl_service (a : Nat) (f : Fld) (v : Nat) : (s.setFl a f v).service = s.service := (rfl)
@[simp] theorem State.setFl_powered (a : Nat) (f : Fld) (v : Nat) : (s.setFl a f v).powered = s.powered := (rfl)
@[simp] theorem State.setFl_pending (a : Nat) (f : Fld) (v : Nat) : (s.setFl a f v).pending = s.pending := (rfl)
@[simp] theorem State.setFl_wall (a : Nat) (f : Fld) (v : Nat) (j : Nat) : (s.setFl a f v).wall j = s.wall j := (rfl)
@[simp] theorem State.setFl_tile (a : Nat) (f : Fld) (v : Nat) (j k : Nat) : (s.setFl a f v).tile j k = s.tile j k := (rfl)
@[simp] theorem State.setFl_flow (a : Nat) (f : Fld) (v : Nat) (j k : Nat) : (s.setFl a f v).flow j k = s.flow j k := (rfl)
@[simp] theorem State.setFl_base (a : Nat) (f : Fld) (v : Nat) (j k : Nat) : (s.setFl a f v).base j k = s.base j k := (rfl)
@[simp] theorem State.setFl_acu (a : Nat) (f : Fld) (v : Nat) (j k : Nat) : (s.setFl a f v).acu j k = s.acu j k := (rfl)
@[simp] theorem State.setFl_link (a : Nat) (f : Fld) (v : Nat) (j k : Nat) : (s.setFl a f v).link j k = s.link j k := (rfl)
@[simp] theorem State.setFl_pin (a : Nat) (f : Fld) (v : Nat) (j k : Nat) : (s.setFl a f v).pin j k = s.pin j k := (rfl)
@[simp] theorem State.setFl_gdx (a : Nat) (f : Fld) (v : Nat) (j k : Nat) : (s.setFl a f v).gdx j k = s.gdx j k := (rfl)
@[simp] theorem State.setFl_queue (a : Nat) (f : Fld) (v : Nat) (j : Nat) : (s.setFl a f v).queue j = s.queue j := (rfl)
@[simp] theorem State.setFl_mon (a : Nat) (f : Fld) (v : Nat) (j : Nat) : (s.setFl a f v).mon j = s.mon j := (rfl)

/-! ### State.bump -/
@[simp] theorem State.bump_part (a : Nat) : (s.bump a).part = s.part := (rfl)
@[simp] theorem State.bump_fresh (a : Nat) : (s.bump a).fresh = s.fresh := (rfl)
@[simp] theorem State.bump_tick (a : Nat) : (s.bump a).tick = s.tick := (rfl)
@[simp] theorem State.bump_pairs (a : Nat) : (s.bump a).pairs = s.pairs := (rfl)
@[simp] theorem State.bump_last (a : Nat) : (s.bump a).last = s.last := (rfl)
@[simp] theorem State.bump_walls (a : Nat) : (s.bump a).walls = s.walls := (rfl)
@[simp] theorem State.bump_tiles (a : Nat) : (s.bump a).tiles = s.tiles := (rfl)
@[simp] theorem State.bump_flows (a : Nat) : (s.bump a).flows = s.flows := (rfl)
@[simp] theorem State.bump_bases (a : Nat) : (s.bump a).bases = s.bases := (rfl)
@[simp] theorem State.bump_acus (a : Nat) : (s.bump a).acus = s.acus := (rfl)
@[simp] theorem State.bump_links (a : Nat) : (s.bump a).links = s.links := (rfl)
@[simp] theorem State.bump_pins (a : Nat) : (s.bump a).pins = s.pins := (rfl)
@[simp] theorem State.bump_gddrx (a : Nat) : (s.bump a).gddrx = s.gddrx := (rfl)
@[simp] theorem State.bump_sram (a : Nat) : (s.bump a).sram = s.sram := (rfl)
@[simp] theorem State.bump_sramErr (a : Nat) : (s.bump a).sramErr = s.sramErr := (rfl)
@[simp] theorem State.bump_gddr (a : Nat) : (s.bump a).gddr = s.gddr := (rfl)
@[simp] theorem State.bump_gddrErr (a : Nat) : (s.bump a).gddrErr = s.gddrErr := (rfl)
@[simp] theorem State.bump_found (a : Nat) : (s.bump a).found = s.found := (rfl)
@[simp] theorem State.bump_frameCode (a : Nat) : (s.bump a).frameCode = s.frameCode := (rfl)
@[simp] theorem State.bump_flight (a : Nat) : (s.bump a).flight = s.flight := (rfl)
@[simp] theorem State.bump_awaiting (a : Nat) : (s.bump a).awaiting = s.awaiting := (rfl)
@[simp] theorem State.bump_hubSeq (a : Nat) : (s.bump a).hubSeq = s.hubSeq := (rfl)
@[simp] theorem State.bump_hubWait (a : Nat) : (s.bump a).hubWait = s.hubWait := (rfl)
@[simp] theorem State.bump_log (a : Nat) : (s.bump a).log = s.log := (rfl)
@[simp] theorem State.bump_logCount (a : Nat) : (s.bump a).logCount = s.logCount := (rfl)
@[simp] theorem State.bump_ringLostSeen (a : Nat) : (s.bump a).ringLostSeen = s.ringLostSeen := (rfl)
@[simp] theorem State.bump_queues (a : Nat) : (s.bump a).queues = s.queues := (rfl)
@[simp] theorem State.bump_sqTurn (a : Nat) : (s.bump a).sqTurn = s.sqTurn := (rfl)
@[simp] theorem State.bump_longs (a : Nat) : (s.bump a).longs = s.longs := (rfl)
@[simp] theorem State.bump_hostOut (a : Nat) : (s.bump a).hostOut = s.hostOut := (rfl)
@[simp] theorem State.bump_cxl (a : Nat) : (s.bump a).cxl = s.cxl := (rfl)
@[simp] theorem State.bump_chain (a : Nat) : (s.bump a).chain = s.chain := (rfl)
@[simp] theorem State.bump_doneOd (a : Nat) : (s.bump a).doneOd = s.doneOd := (rfl)
@[simp] theorem State.bump_holdN (a : Nat) : (s.bump a).holdN = s.holdN := (rfl)
@[simp] theorem State.bump_trowel (a : Nat) : (s.bump a).trowel = s.trowel := (rfl)
@[simp] theorem State.bump_mons (a : Nat) : (s.bump a).mons = s.mons := (rfl)
@[simp] theorem State.bump_service (a : Nat) : (s.bump a).service = s.service := (rfl)
@[simp] theorem State.bump_powered (a : Nat) : (s.bump a).powered = s.powered := (rfl)
@[simp] theorem State.bump_pending (a : Nat) : (s.bump a).pending = s.pending := (rfl)
@[simp] theorem State.bump_wall (a : Nat) (j : Nat) : (s.bump a).wall j = s.wall j := (rfl)
@[simp] theorem State.bump_tile (a : Nat) (j k : Nat) : (s.bump a).tile j k = s.tile j k := (rfl)
@[simp] theorem State.bump_flow (a : Nat) (j k : Nat) : (s.bump a).flow j k = s.flow j k := (rfl)
@[simp] theorem State.bump_base (a : Nat) (j k : Nat) : (s.bump a).base j k = s.base j k := (rfl)
@[simp] theorem State.bump_acu (a : Nat) (j k : Nat) : (s.bump a).acu j k = s.acu j k := (rfl)
@[simp] theorem State.bump_link (a : Nat) (j k : Nat) : (s.bump a).link j k = s.link j k := (rfl)
@[simp] theorem State.bump_pin (a : Nat) (j k : Nat) : (s.bump a).pin j k = s.pin j k := (rfl)
@[simp] theorem State.bump_gdx (a : Nat) (j k : Nat) : (s.bump a).gdx j k = s.gdx j k := (rfl)
@[simp] theorem State.bump_queue (a : Nat) (j : Nat) : (s.bump a).queue j = s.queue j := (rfl)
@[simp] theorem State.bump_mon (a : Nat) (j : Nat) : (s.bump a).mon j = s.mon j := (rfl)

/-! ### State.bumpBy -/
@[simp] theorem State.bumpBy_part (a n : Nat) : (s.bumpBy a n).part = s.part := (rfl)
@[simp] theorem State.bumpBy_fresh (a n : Nat) : (s.bumpBy a n).fresh = s.fresh := (rfl)
@[simp] theorem State.bumpBy_tick (a n : Nat) : (s.bumpBy a n).tick = s.tick := (rfl)
@[simp] theorem State.bumpBy_pairs (a n : Nat) : (s.bumpBy a n).pairs = s.pairs := (rfl)
@[simp] theorem State.bumpBy_last (a n : Nat) : (s.bumpBy a n).last = s.last := (rfl)
@[simp] theorem State.bumpBy_walls (a n : Nat) : (s.bumpBy a n).walls = s.walls := (rfl)
@[simp] theorem State.bumpBy_tiles (a n : Nat) : (s.bumpBy a n).tiles = s.tiles := (rfl)
@[simp] theorem State.bumpBy_flows (a n : Nat) : (s.bumpBy a n).flows = s.flows := (rfl)
@[simp] theorem State.bumpBy_bases (a n : Nat) : (s.bumpBy a n).bases = s.bases := (rfl)
@[simp] theorem State.bumpBy_acus (a n : Nat) : (s.bumpBy a n).acus = s.acus := (rfl)
@[simp] theorem State.bumpBy_links (a n : Nat) : (s.bumpBy a n).links = s.links := (rfl)
@[simp] theorem State.bumpBy_pins (a n : Nat) : (s.bumpBy a n).pins = s.pins := (rfl)
@[simp] theorem State.bumpBy_gddrx (a n : Nat) : (s.bumpBy a n).gddrx = s.gddrx := (rfl)
@[simp] theorem State.bumpBy_sram (a n : Nat) : (s.bumpBy a n).sram = s.sram := (rfl)
@[simp] theorem State.bumpBy_sramErr (a n : Nat) : (s.bumpBy a n).sramErr = s.sramErr := (rfl)
@[simp] theorem State.bumpBy_gddr (a n : Nat) : (s.bumpBy a n).gddr = s.gddr := (rfl)
@[simp] theorem State.bumpBy_gddrErr (a n : Nat) : (s.bumpBy a n).gddrErr = s.gddrErr := (rfl)
@[simp] theorem State.bumpBy_found (a n : Nat) : (s.bumpBy a n).found = s.found := (rfl)
@[simp] theorem State.bumpBy_frameCode (a n : Nat) : (s.bumpBy a n).frameCode = s.frameCode := (rfl)
@[simp] theorem State.bumpBy_flight (a n : Nat) : (s.bumpBy a n).flight = s.flight := (rfl)
@[simp] theorem State.bumpBy_awaiting (a n : Nat) : (s.bumpBy a n).awaiting = s.awaiting := (rfl)
@[simp] theorem State.bumpBy_hubSeq (a n : Nat) : (s.bumpBy a n).hubSeq = s.hubSeq := (rfl)
@[simp] theorem State.bumpBy_hubWait (a n : Nat) : (s.bumpBy a n).hubWait = s.hubWait := (rfl)
@[simp] theorem State.bumpBy_log (a n : Nat) : (s.bumpBy a n).log = s.log := (rfl)
@[simp] theorem State.bumpBy_logCount (a n : Nat) : (s.bumpBy a n).logCount = s.logCount := (rfl)
@[simp] theorem State.bumpBy_ringLostSeen (a n : Nat) : (s.bumpBy a n).ringLostSeen = s.ringLostSeen := (rfl)
@[simp] theorem State.bumpBy_queues (a n : Nat) : (s.bumpBy a n).queues = s.queues := (rfl)
@[simp] theorem State.bumpBy_sqTurn (a n : Nat) : (s.bumpBy a n).sqTurn = s.sqTurn := (rfl)
@[simp] theorem State.bumpBy_longs (a n : Nat) : (s.bumpBy a n).longs = s.longs := (rfl)
@[simp] theorem State.bumpBy_hostOut (a n : Nat) : (s.bumpBy a n).hostOut = s.hostOut := (rfl)
@[simp] theorem State.bumpBy_cxl (a n : Nat) : (s.bumpBy a n).cxl = s.cxl := (rfl)
@[simp] theorem State.bumpBy_chain (a n : Nat) : (s.bumpBy a n).chain = s.chain := (rfl)
@[simp] theorem State.bumpBy_doneOd (a n : Nat) : (s.bumpBy a n).doneOd = s.doneOd := (rfl)
@[simp] theorem State.bumpBy_holdN (a n : Nat) : (s.bumpBy a n).holdN = s.holdN := (rfl)
@[simp] theorem State.bumpBy_trowel (a n : Nat) : (s.bumpBy a n).trowel = s.trowel := (rfl)
@[simp] theorem State.bumpBy_mons (a n : Nat) : (s.bumpBy a n).mons = s.mons := (rfl)
@[simp] theorem State.bumpBy_service (a n : Nat) : (s.bumpBy a n).service = s.service := (rfl)
@[simp] theorem State.bumpBy_powered (a n : Nat) : (s.bumpBy a n).powered = s.powered := (rfl)
@[simp] theorem State.bumpBy_pending (a n : Nat) : (s.bumpBy a n).pending = s.pending := (rfl)
@[simp] theorem State.bumpBy_wall (a n : Nat) (j : Nat) : (s.bumpBy a n).wall j = s.wall j := (rfl)
@[simp] theorem State.bumpBy_tile (a n : Nat) (j k : Nat) : (s.bumpBy a n).tile j k = s.tile j k := (rfl)
@[simp] theorem State.bumpBy_flow (a n : Nat) (j k : Nat) : (s.bumpBy a n).flow j k = s.flow j k := (rfl)
@[simp] theorem State.bumpBy_base (a n : Nat) (j k : Nat) : (s.bumpBy a n).base j k = s.base j k := (rfl)
@[simp] theorem State.bumpBy_acu (a n : Nat) (j k : Nat) : (s.bumpBy a n).acu j k = s.acu j k := (rfl)
@[simp] theorem State.bumpBy_link (a n : Nat) (j k : Nat) : (s.bumpBy a n).link j k = s.link j k := (rfl)
@[simp] theorem State.bumpBy_pin (a n : Nat) (j k : Nat) : (s.bumpBy a n).pin j k = s.pin j k := (rfl)
@[simp] theorem State.bumpBy_gdx (a n : Nat) (j k : Nat) : (s.bumpBy a n).gdx j k = s.gdx j k := (rfl)
@[simp] theorem State.bumpBy_queue (a n : Nat) (j : Nat) : (s.bumpBy a n).queue j = s.queue j := (rfl)
@[simp] theorem State.bumpBy_mon (a n : Nat) (j : Nat) : (s.bumpBy a n).mon j = s.mon j := (rfl)

/-! ### State.bumpFl -/
@[simp] theorem State.bumpFl_part (a : Nat) (f : Fld) : (s.bumpFl a f).part = s.part := (rfl)
@[simp] theorem State.bumpFl_fresh (a : Nat) (f : Fld) : (s.bumpFl a f).fresh = s.fresh := (rfl)
@[simp] theorem State.bumpFl_tick (a : Nat) (f : Fld) : (s.bumpFl a f).tick = s.tick := (rfl)
@[simp] theorem State.bumpFl_pairs (a : Nat) (f : Fld) : (s.bumpFl a f).pairs = s.pairs := (rfl)
@[simp] theorem State.bumpFl_last (a : Nat) (f : Fld) : (s.bumpFl a f).last = s.last := (rfl)
@[simp] theorem State.bumpFl_walls (a : Nat) (f : Fld) : (s.bumpFl a f).walls = s.walls := (rfl)
@[simp] theorem State.bumpFl_tiles (a : Nat) (f : Fld) : (s.bumpFl a f).tiles = s.tiles := (rfl)
@[simp] theorem State.bumpFl_flows (a : Nat) (f : Fld) : (s.bumpFl a f).flows = s.flows := (rfl)
@[simp] theorem State.bumpFl_bases (a : Nat) (f : Fld) : (s.bumpFl a f).bases = s.bases := (rfl)
@[simp] theorem State.bumpFl_acus (a : Nat) (f : Fld) : (s.bumpFl a f).acus = s.acus := (rfl)
@[simp] theorem State.bumpFl_links (a : Nat) (f : Fld) : (s.bumpFl a f).links = s.links := (rfl)
@[simp] theorem State.bumpFl_pins (a : Nat) (f : Fld) : (s.bumpFl a f).pins = s.pins := (rfl)
@[simp] theorem State.bumpFl_gddrx (a : Nat) (f : Fld) : (s.bumpFl a f).gddrx = s.gddrx := (rfl)
@[simp] theorem State.bumpFl_sram (a : Nat) (f : Fld) : (s.bumpFl a f).sram = s.sram := (rfl)
@[simp] theorem State.bumpFl_sramErr (a : Nat) (f : Fld) : (s.bumpFl a f).sramErr = s.sramErr := (rfl)
@[simp] theorem State.bumpFl_gddr (a : Nat) (f : Fld) : (s.bumpFl a f).gddr = s.gddr := (rfl)
@[simp] theorem State.bumpFl_gddrErr (a : Nat) (f : Fld) : (s.bumpFl a f).gddrErr = s.gddrErr := (rfl)
@[simp] theorem State.bumpFl_found (a : Nat) (f : Fld) : (s.bumpFl a f).found = s.found := (rfl)
@[simp] theorem State.bumpFl_frameCode (a : Nat) (f : Fld) : (s.bumpFl a f).frameCode = s.frameCode := (rfl)
@[simp] theorem State.bumpFl_flight (a : Nat) (f : Fld) : (s.bumpFl a f).flight = s.flight := (rfl)
@[simp] theorem State.bumpFl_awaiting (a : Nat) (f : Fld) : (s.bumpFl a f).awaiting = s.awaiting := (rfl)
@[simp] theorem State.bumpFl_hubSeq (a : Nat) (f : Fld) : (s.bumpFl a f).hubSeq = s.hubSeq := (rfl)
@[simp] theorem State.bumpFl_hubWait (a : Nat) (f : Fld) : (s.bumpFl a f).hubWait = s.hubWait := (rfl)
@[simp] theorem State.bumpFl_log (a : Nat) (f : Fld) : (s.bumpFl a f).log = s.log := (rfl)
@[simp] theorem State.bumpFl_logCount (a : Nat) (f : Fld) : (s.bumpFl a f).logCount = s.logCount := (rfl)
@[simp] theorem State.bumpFl_ringLostSeen (a : Nat) (f : Fld) : (s.bumpFl a f).ringLostSeen = s.ringLostSeen := (rfl)
@[simp] theorem State.bumpFl_queues (a : Nat) (f : Fld) : (s.bumpFl a f).queues = s.queues := (rfl)
@[simp] theorem State.bumpFl_sqTurn (a : Nat) (f : Fld) : (s.bumpFl a f).sqTurn = s.sqTurn := (rfl)
@[simp] theorem State.bumpFl_longs (a : Nat) (f : Fld) : (s.bumpFl a f).longs = s.longs := (rfl)
@[simp] theorem State.bumpFl_hostOut (a : Nat) (f : Fld) : (s.bumpFl a f).hostOut = s.hostOut := (rfl)
@[simp] theorem State.bumpFl_cxl (a : Nat) (f : Fld) : (s.bumpFl a f).cxl = s.cxl := (rfl)
@[simp] theorem State.bumpFl_chain (a : Nat) (f : Fld) : (s.bumpFl a f).chain = s.chain := (rfl)
@[simp] theorem State.bumpFl_doneOd (a : Nat) (f : Fld) : (s.bumpFl a f).doneOd = s.doneOd := (rfl)
@[simp] theorem State.bumpFl_holdN (a : Nat) (f : Fld) : (s.bumpFl a f).holdN = s.holdN := (rfl)
@[simp] theorem State.bumpFl_trowel (a : Nat) (f : Fld) : (s.bumpFl a f).trowel = s.trowel := (rfl)
@[simp] theorem State.bumpFl_mons (a : Nat) (f : Fld) : (s.bumpFl a f).mons = s.mons := (rfl)
@[simp] theorem State.bumpFl_service (a : Nat) (f : Fld) : (s.bumpFl a f).service = s.service := (rfl)
@[simp] theorem State.bumpFl_powered (a : Nat) (f : Fld) : (s.bumpFl a f).powered = s.powered := (rfl)
@[simp] theorem State.bumpFl_pending (a : Nat) (f : Fld) : (s.bumpFl a f).pending = s.pending := (rfl)
@[simp] theorem State.bumpFl_wall (a : Nat) (f : Fld) (j : Nat) : (s.bumpFl a f).wall j = s.wall j := (rfl)
@[simp] theorem State.bumpFl_tile (a : Nat) (f : Fld) (j k : Nat) : (s.bumpFl a f).tile j k = s.tile j k := (rfl)
@[simp] theorem State.bumpFl_flow (a : Nat) (f : Fld) (j k : Nat) : (s.bumpFl a f).flow j k = s.flow j k := (rfl)
@[simp] theorem State.bumpFl_base (a : Nat) (f : Fld) (j k : Nat) : (s.bumpFl a f).base j k = s.base j k := (rfl)
@[simp] theorem State.bumpFl_acu (a : Nat) (f : Fld) (j k : Nat) : (s.bumpFl a f).acu j k = s.acu j k := (rfl)
@[simp] theorem State.bumpFl_link (a : Nat) (f : Fld) (j k : Nat) : (s.bumpFl a f).link j k = s.link j k := (rfl)
@[simp] theorem State.bumpFl_pin (a : Nat) (f : Fld) (j k : Nat) : (s.bumpFl a f).pin j k = s.pin j k := (rfl)
@[simp] theorem State.bumpFl_gdx (a : Nat) (f : Fld) (j k : Nat) : (s.bumpFl a f).gdx j k = s.gdx j k := (rfl)
@[simp] theorem State.bumpFl_queue (a : Nat) (f : Fld) (j : Nat) : (s.bumpFl a f).queue j = s.queue j := (rfl)
@[simp] theorem State.bumpFl_mon (a : Nat) (f : Fld) (j : Nat) : (s.bumpFl a f).mon j = s.mon j := (rfl)

/-! ### State.wrapFl -/
@[simp] theorem State.wrapFl_part (a : Nat) (f : Fld) : (s.wrapFl a f).part = s.part := (rfl)
@[simp] theorem State.wrapFl_fresh (a : Nat) (f : Fld) : (s.wrapFl a f).fresh = s.fresh := (rfl)
@[simp] theorem State.wrapFl_tick (a : Nat) (f : Fld) : (s.wrapFl a f).tick = s.tick := (rfl)
@[simp] theorem State.wrapFl_pairs (a : Nat) (f : Fld) : (s.wrapFl a f).pairs = s.pairs := (rfl)
@[simp] theorem State.wrapFl_last (a : Nat) (f : Fld) : (s.wrapFl a f).last = s.last := (rfl)
@[simp] theorem State.wrapFl_walls (a : Nat) (f : Fld) : (s.wrapFl a f).walls = s.walls := (rfl)
@[simp] theorem State.wrapFl_tiles (a : Nat) (f : Fld) : (s.wrapFl a f).tiles = s.tiles := (rfl)
@[simp] theorem State.wrapFl_flows (a : Nat) (f : Fld) : (s.wrapFl a f).flows = s.flows := (rfl)
@[simp] theorem State.wrapFl_bases (a : Nat) (f : Fld) : (s.wrapFl a f).bases = s.bases := (rfl)
@[simp] theorem State.wrapFl_acus (a : Nat) (f : Fld) : (s.wrapFl a f).acus = s.acus := (rfl)
@[simp] theorem State.wrapFl_links (a : Nat) (f : Fld) : (s.wrapFl a f).links = s.links := (rfl)
@[simp] theorem State.wrapFl_pins (a : Nat) (f : Fld) : (s.wrapFl a f).pins = s.pins := (rfl)
@[simp] theorem State.wrapFl_gddrx (a : Nat) (f : Fld) : (s.wrapFl a f).gddrx = s.gddrx := (rfl)
@[simp] theorem State.wrapFl_sram (a : Nat) (f : Fld) : (s.wrapFl a f).sram = s.sram := (rfl)
@[simp] theorem State.wrapFl_sramErr (a : Nat) (f : Fld) : (s.wrapFl a f).sramErr = s.sramErr := (rfl)
@[simp] theorem State.wrapFl_gddr (a : Nat) (f : Fld) : (s.wrapFl a f).gddr = s.gddr := (rfl)
@[simp] theorem State.wrapFl_gddrErr (a : Nat) (f : Fld) : (s.wrapFl a f).gddrErr = s.gddrErr := (rfl)
@[simp] theorem State.wrapFl_found (a : Nat) (f : Fld) : (s.wrapFl a f).found = s.found := (rfl)
@[simp] theorem State.wrapFl_frameCode (a : Nat) (f : Fld) : (s.wrapFl a f).frameCode = s.frameCode := (rfl)
@[simp] theorem State.wrapFl_flight (a : Nat) (f : Fld) : (s.wrapFl a f).flight = s.flight := (rfl)
@[simp] theorem State.wrapFl_awaiting (a : Nat) (f : Fld) : (s.wrapFl a f).awaiting = s.awaiting := (rfl)
@[simp] theorem State.wrapFl_hubSeq (a : Nat) (f : Fld) : (s.wrapFl a f).hubSeq = s.hubSeq := (rfl)
@[simp] theorem State.wrapFl_hubWait (a : Nat) (f : Fld) : (s.wrapFl a f).hubWait = s.hubWait := (rfl)
@[simp] theorem State.wrapFl_log (a : Nat) (f : Fld) : (s.wrapFl a f).log = s.log := (rfl)
@[simp] theorem State.wrapFl_logCount (a : Nat) (f : Fld) : (s.wrapFl a f).logCount = s.logCount := (rfl)
@[simp] theorem State.wrapFl_ringLostSeen (a : Nat) (f : Fld) : (s.wrapFl a f).ringLostSeen = s.ringLostSeen := (rfl)
@[simp] theorem State.wrapFl_queues (a : Nat) (f : Fld) : (s.wrapFl a f).queues = s.queues := (rfl)
@[simp] theorem State.wrapFl_sqTurn (a : Nat) (f : Fld) : (s.wrapFl a f).sqTurn = s.sqTurn := (rfl)
@[simp] theorem State.wrapFl_longs (a : Nat) (f : Fld) : (s.wrapFl a f).longs = s.longs := (rfl)
@[simp] theorem State.wrapFl_hostOut (a : Nat) (f : Fld) : (s.wrapFl a f).hostOut = s.hostOut := (rfl)
@[simp] theorem State.wrapFl_cxl (a : Nat) (f : Fld) : (s.wrapFl a f).cxl = s.cxl := (rfl)
@[simp] theorem State.wrapFl_chain (a : Nat) (f : Fld) : (s.wrapFl a f).chain = s.chain := (rfl)
@[simp] theorem State.wrapFl_doneOd (a : Nat) (f : Fld) : (s.wrapFl a f).doneOd = s.doneOd := (rfl)
@[simp] theorem State.wrapFl_holdN (a : Nat) (f : Fld) : (s.wrapFl a f).holdN = s.holdN := (rfl)
@[simp] theorem State.wrapFl_trowel (a : Nat) (f : Fld) : (s.wrapFl a f).trowel = s.trowel := (rfl)
@[simp] theorem State.wrapFl_mons (a : Nat) (f : Fld) : (s.wrapFl a f).mons = s.mons := (rfl)
@[simp] theorem State.wrapFl_service (a : Nat) (f : Fld) : (s.wrapFl a f).service = s.service := (rfl)
@[simp] theorem State.wrapFl_powered (a : Nat) (f : Fld) : (s.wrapFl a f).powered = s.powered := (rfl)
@[simp] theorem State.wrapFl_pending (a : Nat) (f : Fld) : (s.wrapFl a f).pending = s.pending := (rfl)
@[simp] theorem State.wrapFl_wall (a : Nat) (f : Fld) (j : Nat) : (s.wrapFl a f).wall j = s.wall j := (rfl)
@[simp] theorem State.wrapFl_tile (a : Nat) (f : Fld) (j k : Nat) : (s.wrapFl a f).tile j k = s.tile j k := (rfl)
@[simp] theorem State.wrapFl_flow (a : Nat) (f : Fld) (j k : Nat) : (s.wrapFl a f).flow j k = s.flow j k := (rfl)
@[simp] theorem State.wrapFl_base (a : Nat) (f : Fld) (j k : Nat) : (s.wrapFl a f).base j k = s.base j k := (rfl)
@[simp] theorem State.wrapFl_acu (a : Nat) (f : Fld) (j k : Nat) : (s.wrapFl a f).acu j k = s.acu j k := (rfl)
@[simp] theorem State.wrapFl_link (a : Nat) (f : Fld) (j k : Nat) : (s.wrapFl a f).link j k = s.link j k := (rfl)
@[simp] theorem State.wrapFl_pin (a : Nat) (f : Fld) (j k : Nat) : (s.wrapFl a f).pin j k = s.pin j k := (rfl)
@[simp] theorem State.wrapFl_gdx (a : Nat) (f : Fld) (j k : Nat) : (s.wrapFl a f).gdx j k = s.gdx j k := (rfl)
@[simp] theorem State.wrapFl_queue (a : Nat) (f : Fld) (j : Nat) : (s.wrapFl a f).queue j = s.queue j := (rfl)
@[simp] theorem State.wrapFl_mon (a : Nat) (f : Fld) (j : Nat) : (s.wrapFl a f).mon j = s.mon j := (rfl)

/-! ### State.setWall -/
@[simp] theorem State.setWall_part (w : Nat) (x : WallX) : (s.setWall w x).part = s.part := (rfl)
@[simp] theorem State.setWall_fresh (w : Nat) (x : WallX) : (s.setWall w x).fresh = s.fresh := (rfl)
@[simp] theorem State.setWall_tick (w : Nat) (x : WallX) : (s.setWall w x).tick = s.tick := (rfl)
@[simp] theorem State.setWall_regs (w : Nat) (x : WallX) : (s.setWall w x).regs = s.regs := (rfl)
@[simp] theorem State.setWall_pairs (w : Nat) (x : WallX) : (s.setWall w x).pairs = s.pairs := (rfl)
@[simp] theorem State.setWall_last (w : Nat) (x : WallX) : (s.setWall w x).last = s.last := (rfl)
@[simp] theorem State.setWall_tiles (w : Nat) (x : WallX) : (s.setWall w x).tiles = s.tiles := (rfl)
@[simp] theorem State.setWall_flows (w : Nat) (x : WallX) : (s.setWall w x).flows = s.flows := (rfl)
@[simp] theorem State.setWall_bases (w : Nat) (x : WallX) : (s.setWall w x).bases = s.bases := (rfl)
@[simp] theorem State.setWall_acus (w : Nat) (x : WallX) : (s.setWall w x).acus = s.acus := (rfl)
@[simp] theorem State.setWall_links (w : Nat) (x : WallX) : (s.setWall w x).links = s.links := (rfl)
@[simp] theorem State.setWall_pins (w : Nat) (x : WallX) : (s.setWall w x).pins = s.pins := (rfl)
@[simp] theorem State.setWall_gddrx (w : Nat) (x : WallX) : (s.setWall w x).gddrx = s.gddrx := (rfl)
@[simp] theorem State.setWall_sram (w : Nat) (x : WallX) : (s.setWall w x).sram = s.sram := (rfl)
@[simp] theorem State.setWall_sramErr (w : Nat) (x : WallX) : (s.setWall w x).sramErr = s.sramErr := (rfl)
@[simp] theorem State.setWall_gddr (w : Nat) (x : WallX) : (s.setWall w x).gddr = s.gddr := (rfl)
@[simp] theorem State.setWall_gddrErr (w : Nat) (x : WallX) : (s.setWall w x).gddrErr = s.gddrErr := (rfl)
@[simp] theorem State.setWall_found (w : Nat) (x : WallX) : (s.setWall w x).found = s.found := (rfl)
@[simp] theorem State.setWall_frameCode (w : Nat) (x : WallX) : (s.setWall w x).frameCode = s.frameCode := (rfl)
@[simp] theorem State.setWall_flight (w : Nat) (x : WallX) : (s.setWall w x).flight = s.flight := (rfl)
@[simp] theorem State.setWall_awaiting (w : Nat) (x : WallX) : (s.setWall w x).awaiting = s.awaiting := (rfl)
@[simp] theorem State.setWall_hubSeq (w : Nat) (x : WallX) : (s.setWall w x).hubSeq = s.hubSeq := (rfl)
@[simp] theorem State.setWall_hubWait (w : Nat) (x : WallX) : (s.setWall w x).hubWait = s.hubWait := (rfl)
@[simp] theorem State.setWall_log (w : Nat) (x : WallX) : (s.setWall w x).log = s.log := (rfl)
@[simp] theorem State.setWall_logCount (w : Nat) (x : WallX) : (s.setWall w x).logCount = s.logCount := (rfl)
@[simp] theorem State.setWall_ringLostSeen (w : Nat) (x : WallX) : (s.setWall w x).ringLostSeen = s.ringLostSeen := (rfl)
@[simp] theorem State.setWall_queues (w : Nat) (x : WallX) : (s.setWall w x).queues = s.queues := (rfl)
@[simp] theorem State.setWall_sqTurn (w : Nat) (x : WallX) : (s.setWall w x).sqTurn = s.sqTurn := (rfl)
@[simp] theorem State.setWall_longs (w : Nat) (x : WallX) : (s.setWall w x).longs = s.longs := (rfl)
@[simp] theorem State.setWall_hostOut (w : Nat) (x : WallX) : (s.setWall w x).hostOut = s.hostOut := (rfl)
@[simp] theorem State.setWall_cxl (w : Nat) (x : WallX) : (s.setWall w x).cxl = s.cxl := (rfl)
@[simp] theorem State.setWall_chain (w : Nat) (x : WallX) : (s.setWall w x).chain = s.chain := (rfl)
@[simp] theorem State.setWall_doneOd (w : Nat) (x : WallX) : (s.setWall w x).doneOd = s.doneOd := (rfl)
@[simp] theorem State.setWall_holdN (w : Nat) (x : WallX) : (s.setWall w x).holdN = s.holdN := (rfl)
@[simp] theorem State.setWall_trowel (w : Nat) (x : WallX) : (s.setWall w x).trowel = s.trowel := (rfl)
@[simp] theorem State.setWall_mons (w : Nat) (x : WallX) : (s.setWall w x).mons = s.mons := (rfl)
@[simp] theorem State.setWall_service (w : Nat) (x : WallX) : (s.setWall w x).service = s.service := (rfl)
@[simp] theorem State.setWall_powered (w : Nat) (x : WallX) : (s.setWall w x).powered = s.powered := (rfl)
@[simp] theorem State.setWall_pending (w : Nat) (x : WallX) : (s.setWall w x).pending = s.pending := (rfl)
@[simp] theorem State.setWall_rd (w : Nat) (x : WallX) (j : Nat) : (s.setWall w x).rd j = s.rd j := (rfl)
@[simp] theorem State.setWall_tile (w : Nat) (x : WallX) (j k : Nat) : (s.setWall w x).tile j k = s.tile j k := (rfl)
@[simp] theorem State.setWall_flow (w : Nat) (x : WallX) (j k : Nat) : (s.setWall w x).flow j k = s.flow j k := (rfl)
@[simp] theorem State.setWall_base (w : Nat) (x : WallX) (j k : Nat) : (s.setWall w x).base j k = s.base j k := (rfl)
@[simp] theorem State.setWall_acu (w : Nat) (x : WallX) (j k : Nat) : (s.setWall w x).acu j k = s.acu j k := (rfl)
@[simp] theorem State.setWall_link (w : Nat) (x : WallX) (j k : Nat) : (s.setWall w x).link j k = s.link j k := (rfl)
@[simp] theorem State.setWall_pin (w : Nat) (x : WallX) (j k : Nat) : (s.setWall w x).pin j k = s.pin j k := (rfl)
@[simp] theorem State.setWall_gdx (w : Nat) (x : WallX) (j k : Nat) : (s.setWall w x).gdx j k = s.gdx j k := (rfl)
@[simp] theorem State.setWall_queue (w : Nat) (x : WallX) (j : Nat) : (s.setWall w x).queue j = s.queue j := (rfl)
@[simp] theorem State.setWall_mon (w : Nat) (x : WallX) (j : Nat) : (s.setWall w x).mon j = s.mon j := (rfl)

/-! ### State.setTile -/
@[simp] theorem State.setTile_part (w i : Nat) (x : Tile) : (s.setTile w i x).part = s.part := (rfl)
@[simp] theorem State.setTile_fresh (w i : Nat) (x : Tile) : (s.setTile w i x).fresh = s.fresh := (rfl)
@[simp] theorem State.setTile_tick (w i : Nat) (x : Tile) : (s.setTile w i x).tick = s.tick := (rfl)
@[simp] theorem State.setTile_regs (w i : Nat) (x : Tile) : (s.setTile w i x).regs = s.regs := (rfl)
@[simp] theorem State.setTile_pairs (w i : Nat) (x : Tile) : (s.setTile w i x).pairs = s.pairs := (rfl)
@[simp] theorem State.setTile_last (w i : Nat) (x : Tile) : (s.setTile w i x).last = s.last := (rfl)
@[simp] theorem State.setTile_walls (w i : Nat) (x : Tile) : (s.setTile w i x).walls = s.walls := (rfl)
@[simp] theorem State.setTile_flows (w i : Nat) (x : Tile) : (s.setTile w i x).flows = s.flows := (rfl)
@[simp] theorem State.setTile_bases (w i : Nat) (x : Tile) : (s.setTile w i x).bases = s.bases := (rfl)
@[simp] theorem State.setTile_acus (w i : Nat) (x : Tile) : (s.setTile w i x).acus = s.acus := (rfl)
@[simp] theorem State.setTile_links (w i : Nat) (x : Tile) : (s.setTile w i x).links = s.links := (rfl)
@[simp] theorem State.setTile_pins (w i : Nat) (x : Tile) : (s.setTile w i x).pins = s.pins := (rfl)
@[simp] theorem State.setTile_gddrx (w i : Nat) (x : Tile) : (s.setTile w i x).gddrx = s.gddrx := (rfl)
@[simp] theorem State.setTile_sram (w i : Nat) (x : Tile) : (s.setTile w i x).sram = s.sram := (rfl)
@[simp] theorem State.setTile_sramErr (w i : Nat) (x : Tile) : (s.setTile w i x).sramErr = s.sramErr := (rfl)
@[simp] theorem State.setTile_gddr (w i : Nat) (x : Tile) : (s.setTile w i x).gddr = s.gddr := (rfl)
@[simp] theorem State.setTile_gddrErr (w i : Nat) (x : Tile) : (s.setTile w i x).gddrErr = s.gddrErr := (rfl)
@[simp] theorem State.setTile_found (w i : Nat) (x : Tile) : (s.setTile w i x).found = s.found := (rfl)
@[simp] theorem State.setTile_frameCode (w i : Nat) (x : Tile) : (s.setTile w i x).frameCode = s.frameCode := (rfl)
@[simp] theorem State.setTile_flight (w i : Nat) (x : Tile) : (s.setTile w i x).flight = s.flight := (rfl)
@[simp] theorem State.setTile_awaiting (w i : Nat) (x : Tile) : (s.setTile w i x).awaiting = s.awaiting := (rfl)
@[simp] theorem State.setTile_hubSeq (w i : Nat) (x : Tile) : (s.setTile w i x).hubSeq = s.hubSeq := (rfl)
@[simp] theorem State.setTile_hubWait (w i : Nat) (x : Tile) : (s.setTile w i x).hubWait = s.hubWait := (rfl)
@[simp] theorem State.setTile_log (w i : Nat) (x : Tile) : (s.setTile w i x).log = s.log := (rfl)
@[simp] theorem State.setTile_logCount (w i : Nat) (x : Tile) : (s.setTile w i x).logCount = s.logCount := (rfl)
@[simp] theorem State.setTile_ringLostSeen (w i : Nat) (x : Tile) : (s.setTile w i x).ringLostSeen = s.ringLostSeen := (rfl)
@[simp] theorem State.setTile_queues (w i : Nat) (x : Tile) : (s.setTile w i x).queues = s.queues := (rfl)
@[simp] theorem State.setTile_sqTurn (w i : Nat) (x : Tile) : (s.setTile w i x).sqTurn = s.sqTurn := (rfl)
@[simp] theorem State.setTile_longs (w i : Nat) (x : Tile) : (s.setTile w i x).longs = s.longs := (rfl)
@[simp] theorem State.setTile_hostOut (w i : Nat) (x : Tile) : (s.setTile w i x).hostOut = s.hostOut := (rfl)
@[simp] theorem State.setTile_cxl (w i : Nat) (x : Tile) : (s.setTile w i x).cxl = s.cxl := (rfl)
@[simp] theorem State.setTile_chain (w i : Nat) (x : Tile) : (s.setTile w i x).chain = s.chain := (rfl)
@[simp] theorem State.setTile_doneOd (w i : Nat) (x : Tile) : (s.setTile w i x).doneOd = s.doneOd := (rfl)
@[simp] theorem State.setTile_holdN (w i : Nat) (x : Tile) : (s.setTile w i x).holdN = s.holdN := (rfl)
@[simp] theorem State.setTile_trowel (w i : Nat) (x : Tile) : (s.setTile w i x).trowel = s.trowel := (rfl)
@[simp] theorem State.setTile_mons (w i : Nat) (x : Tile) : (s.setTile w i x).mons = s.mons := (rfl)
@[simp] theorem State.setTile_service (w i : Nat) (x : Tile) : (s.setTile w i x).service = s.service := (rfl)
@[simp] theorem State.setTile_powered (w i : Nat) (x : Tile) : (s.setTile w i x).powered = s.powered := (rfl)
@[simp] theorem State.setTile_pending (w i : Nat) (x : Tile) : (s.setTile w i x).pending = s.pending := (rfl)
@[simp] theorem State.setTile_rd (w i : Nat) (x : Tile) (j : Nat) : (s.setTile w i x).rd j = s.rd j := (rfl)
@[simp] theorem State.setTile_wall (w i : Nat) (x : Tile) (j : Nat) : (s.setTile w i x).wall j = s.wall j := (rfl)
@[simp] theorem State.setTile_flow (w i : Nat) (x : Tile) (j k : Nat) : (s.setTile w i x).flow j k = s.flow j k := (rfl)
@[simp] theorem State.setTile_base (w i : Nat) (x : Tile) (j k : Nat) : (s.setTile w i x).base j k = s.base j k := (rfl)
@[simp] theorem State.setTile_acu (w i : Nat) (x : Tile) (j k : Nat) : (s.setTile w i x).acu j k = s.acu j k := (rfl)
@[simp] theorem State.setTile_link (w i : Nat) (x : Tile) (j k : Nat) : (s.setTile w i x).link j k = s.link j k := (rfl)
@[simp] theorem State.setTile_pin (w i : Nat) (x : Tile) (j k : Nat) : (s.setTile w i x).pin j k = s.pin j k := (rfl)
@[simp] theorem State.setTile_gdx (w i : Nat) (x : Tile) (j k : Nat) : (s.setTile w i x).gdx j k = s.gdx j k := (rfl)
@[simp] theorem State.setTile_queue (w i : Nat) (x : Tile) (j : Nat) : (s.setTile w i x).queue j = s.queue j := (rfl)
@[simp] theorem State.setTile_mon (w i : Nat) (x : Tile) (j : Nat) : (s.setTile w i x).mon j = s.mon j := (rfl)

/-! ### State.setFlow -/
@[simp] theorem State.setFlow_part (w f : Nat) (x : FlowX) : (s.setFlow w f x).part = s.part := (rfl)
@[simp] theorem State.setFlow_fresh (w f : Nat) (x : FlowX) : (s.setFlow w f x).fresh = s.fresh := (rfl)
@[simp] theorem State.setFlow_tick (w f : Nat) (x : FlowX) : (s.setFlow w f x).tick = s.tick := (rfl)
@[simp] theorem State.setFlow_regs (w f : Nat) (x : FlowX) : (s.setFlow w f x).regs = s.regs := (rfl)
@[simp] theorem State.setFlow_pairs (w f : Nat) (x : FlowX) : (s.setFlow w f x).pairs = s.pairs := (rfl)
@[simp] theorem State.setFlow_last (w f : Nat) (x : FlowX) : (s.setFlow w f x).last = s.last := (rfl)
@[simp] theorem State.setFlow_walls (w f : Nat) (x : FlowX) : (s.setFlow w f x).walls = s.walls := (rfl)
@[simp] theorem State.setFlow_tiles (w f : Nat) (x : FlowX) : (s.setFlow w f x).tiles = s.tiles := (rfl)
@[simp] theorem State.setFlow_bases (w f : Nat) (x : FlowX) : (s.setFlow w f x).bases = s.bases := (rfl)
@[simp] theorem State.setFlow_acus (w f : Nat) (x : FlowX) : (s.setFlow w f x).acus = s.acus := (rfl)
@[simp] theorem State.setFlow_links (w f : Nat) (x : FlowX) : (s.setFlow w f x).links = s.links := (rfl)
@[simp] theorem State.setFlow_pins (w f : Nat) (x : FlowX) : (s.setFlow w f x).pins = s.pins := (rfl)
@[simp] theorem State.setFlow_gddrx (w f : Nat) (x : FlowX) : (s.setFlow w f x).gddrx = s.gddrx := (rfl)
@[simp] theorem State.setFlow_sram (w f : Nat) (x : FlowX) : (s.setFlow w f x).sram = s.sram := (rfl)
@[simp] theorem State.setFlow_sramErr (w f : Nat) (x : FlowX) : (s.setFlow w f x).sramErr = s.sramErr := (rfl)
@[simp] theorem State.setFlow_gddr (w f : Nat) (x : FlowX) : (s.setFlow w f x).gddr = s.gddr := (rfl)
@[simp] theorem State.setFlow_gddrErr (w f : Nat) (x : FlowX) : (s.setFlow w f x).gddrErr = s.gddrErr := (rfl)
@[simp] theorem State.setFlow_found (w f : Nat) (x : FlowX) : (s.setFlow w f x).found = s.found := (rfl)
@[simp] theorem State.setFlow_frameCode (w f : Nat) (x : FlowX) : (s.setFlow w f x).frameCode = s.frameCode := (rfl)
@[simp] theorem State.setFlow_flight (w f : Nat) (x : FlowX) : (s.setFlow w f x).flight = s.flight := (rfl)
@[simp] theorem State.setFlow_awaiting (w f : Nat) (x : FlowX) : (s.setFlow w f x).awaiting = s.awaiting := (rfl)
@[simp] theorem State.setFlow_hubSeq (w f : Nat) (x : FlowX) : (s.setFlow w f x).hubSeq = s.hubSeq := (rfl)
@[simp] theorem State.setFlow_hubWait (w f : Nat) (x : FlowX) : (s.setFlow w f x).hubWait = s.hubWait := (rfl)
@[simp] theorem State.setFlow_log (w f : Nat) (x : FlowX) : (s.setFlow w f x).log = s.log := (rfl)
@[simp] theorem State.setFlow_logCount (w f : Nat) (x : FlowX) : (s.setFlow w f x).logCount = s.logCount := (rfl)
@[simp] theorem State.setFlow_ringLostSeen (w f : Nat) (x : FlowX) : (s.setFlow w f x).ringLostSeen = s.ringLostSeen := (rfl)
@[simp] theorem State.setFlow_queues (w f : Nat) (x : FlowX) : (s.setFlow w f x).queues = s.queues := (rfl)
@[simp] theorem State.setFlow_sqTurn (w f : Nat) (x : FlowX) : (s.setFlow w f x).sqTurn = s.sqTurn := (rfl)
@[simp] theorem State.setFlow_longs (w f : Nat) (x : FlowX) : (s.setFlow w f x).longs = s.longs := (rfl)
@[simp] theorem State.setFlow_hostOut (w f : Nat) (x : FlowX) : (s.setFlow w f x).hostOut = s.hostOut := (rfl)
@[simp] theorem State.setFlow_cxl (w f : Nat) (x : FlowX) : (s.setFlow w f x).cxl = s.cxl := (rfl)
@[simp] theorem State.setFlow_chain (w f : Nat) (x : FlowX) : (s.setFlow w f x).chain = s.chain := (rfl)
@[simp] theorem State.setFlow_doneOd (w f : Nat) (x : FlowX) : (s.setFlow w f x).doneOd = s.doneOd := (rfl)
@[simp] theorem State.setFlow_holdN (w f : Nat) (x : FlowX) : (s.setFlow w f x).holdN = s.holdN := (rfl)
@[simp] theorem State.setFlow_trowel (w f : Nat) (x : FlowX) : (s.setFlow w f x).trowel = s.trowel := (rfl)
@[simp] theorem State.setFlow_mons (w f : Nat) (x : FlowX) : (s.setFlow w f x).mons = s.mons := (rfl)
@[simp] theorem State.setFlow_service (w f : Nat) (x : FlowX) : (s.setFlow w f x).service = s.service := (rfl)
@[simp] theorem State.setFlow_powered (w f : Nat) (x : FlowX) : (s.setFlow w f x).powered = s.powered := (rfl)
@[simp] theorem State.setFlow_pending (w f : Nat) (x : FlowX) : (s.setFlow w f x).pending = s.pending := (rfl)
@[simp] theorem State.setFlow_rd (w f : Nat) (x : FlowX) (j : Nat) : (s.setFlow w f x).rd j = s.rd j := (rfl)
@[simp] theorem State.setFlow_wall (w f : Nat) (x : FlowX) (j : Nat) : (s.setFlow w f x).wall j = s.wall j := (rfl)
@[simp] theorem State.setFlow_tile (w f : Nat) (x : FlowX) (j k : Nat) : (s.setFlow w f x).tile j k = s.tile j k := (rfl)
@[simp] theorem State.setFlow_base (w f : Nat) (x : FlowX) (j k : Nat) : (s.setFlow w f x).base j k = s.base j k := (rfl)
@[simp] theorem State.setFlow_acu (w f : Nat) (x : FlowX) (j k : Nat) : (s.setFlow w f x).acu j k = s.acu j k := (rfl)
@[simp] theorem State.setFlow_link (w f : Nat) (x : FlowX) (j k : Nat) : (s.setFlow w f x).link j k = s.link j k := (rfl)
@[simp] theorem State.setFlow_pin (w f : Nat) (x : FlowX) (j k : Nat) : (s.setFlow w f x).pin j k = s.pin j k := (rfl)
@[simp] theorem State.setFlow_gdx (w f : Nat) (x : FlowX) (j k : Nat) : (s.setFlow w f x).gdx j k = s.gdx j k := (rfl)
@[simp] theorem State.setFlow_queue (w f : Nat) (x : FlowX) (j : Nat) : (s.setFlow w f x).queue j = s.queue j := (rfl)
@[simp] theorem State.setFlow_mon (w f : Nat) (x : FlowX) (j : Nat) : (s.setFlow w f x).mon j = s.mon j := (rfl)

/-! ### State.setBase -/
@[simp] theorem State.setBase_part (w n : Nat) (x : AngBase) : (s.setBase w n x).part = s.part := (rfl)
@[simp] theorem State.setBase_fresh (w n : Nat) (x : AngBase) : (s.setBase w n x).fresh = s.fresh := (rfl)
@[simp] theorem State.setBase_tick (w n : Nat) (x : AngBase) : (s.setBase w n x).tick = s.tick := (rfl)
@[simp] theorem State.setBase_regs (w n : Nat) (x : AngBase) : (s.setBase w n x).regs = s.regs := (rfl)
@[simp] theorem State.setBase_pairs (w n : Nat) (x : AngBase) : (s.setBase w n x).pairs = s.pairs := (rfl)
@[simp] theorem State.setBase_last (w n : Nat) (x : AngBase) : (s.setBase w n x).last = s.last := (rfl)
@[simp] theorem State.setBase_walls (w n : Nat) (x : AngBase) : (s.setBase w n x).walls = s.walls := (rfl)
@[simp] theorem State.setBase_tiles (w n : Nat) (x : AngBase) : (s.setBase w n x).tiles = s.tiles := (rfl)
@[simp] theorem State.setBase_flows (w n : Nat) (x : AngBase) : (s.setBase w n x).flows = s.flows := (rfl)
@[simp] theorem State.setBase_acus (w n : Nat) (x : AngBase) : (s.setBase w n x).acus = s.acus := (rfl)
@[simp] theorem State.setBase_links (w n : Nat) (x : AngBase) : (s.setBase w n x).links = s.links := (rfl)
@[simp] theorem State.setBase_pins (w n : Nat) (x : AngBase) : (s.setBase w n x).pins = s.pins := (rfl)
@[simp] theorem State.setBase_gddrx (w n : Nat) (x : AngBase) : (s.setBase w n x).gddrx = s.gddrx := (rfl)
@[simp] theorem State.setBase_sram (w n : Nat) (x : AngBase) : (s.setBase w n x).sram = s.sram := (rfl)
@[simp] theorem State.setBase_sramErr (w n : Nat) (x : AngBase) : (s.setBase w n x).sramErr = s.sramErr := (rfl)
@[simp] theorem State.setBase_gddr (w n : Nat) (x : AngBase) : (s.setBase w n x).gddr = s.gddr := (rfl)
@[simp] theorem State.setBase_gddrErr (w n : Nat) (x : AngBase) : (s.setBase w n x).gddrErr = s.gddrErr := (rfl)
@[simp] theorem State.setBase_found (w n : Nat) (x : AngBase) : (s.setBase w n x).found = s.found := (rfl)
@[simp] theorem State.setBase_frameCode (w n : Nat) (x : AngBase) : (s.setBase w n x).frameCode = s.frameCode := (rfl)
@[simp] theorem State.setBase_flight (w n : Nat) (x : AngBase) : (s.setBase w n x).flight = s.flight := (rfl)
@[simp] theorem State.setBase_awaiting (w n : Nat) (x : AngBase) : (s.setBase w n x).awaiting = s.awaiting := (rfl)
@[simp] theorem State.setBase_hubSeq (w n : Nat) (x : AngBase) : (s.setBase w n x).hubSeq = s.hubSeq := (rfl)
@[simp] theorem State.setBase_hubWait (w n : Nat) (x : AngBase) : (s.setBase w n x).hubWait = s.hubWait := (rfl)
@[simp] theorem State.setBase_log (w n : Nat) (x : AngBase) : (s.setBase w n x).log = s.log := (rfl)
@[simp] theorem State.setBase_logCount (w n : Nat) (x : AngBase) : (s.setBase w n x).logCount = s.logCount := (rfl)
@[simp] theorem State.setBase_ringLostSeen (w n : Nat) (x : AngBase) : (s.setBase w n x).ringLostSeen = s.ringLostSeen := (rfl)
@[simp] theorem State.setBase_queues (w n : Nat) (x : AngBase) : (s.setBase w n x).queues = s.queues := (rfl)
@[simp] theorem State.setBase_sqTurn (w n : Nat) (x : AngBase) : (s.setBase w n x).sqTurn = s.sqTurn := (rfl)
@[simp] theorem State.setBase_longs (w n : Nat) (x : AngBase) : (s.setBase w n x).longs = s.longs := (rfl)
@[simp] theorem State.setBase_hostOut (w n : Nat) (x : AngBase) : (s.setBase w n x).hostOut = s.hostOut := (rfl)
@[simp] theorem State.setBase_cxl (w n : Nat) (x : AngBase) : (s.setBase w n x).cxl = s.cxl := (rfl)
@[simp] theorem State.setBase_chain (w n : Nat) (x : AngBase) : (s.setBase w n x).chain = s.chain := (rfl)
@[simp] theorem State.setBase_doneOd (w n : Nat) (x : AngBase) : (s.setBase w n x).doneOd = s.doneOd := (rfl)
@[simp] theorem State.setBase_holdN (w n : Nat) (x : AngBase) : (s.setBase w n x).holdN = s.holdN := (rfl)
@[simp] theorem State.setBase_trowel (w n : Nat) (x : AngBase) : (s.setBase w n x).trowel = s.trowel := (rfl)
@[simp] theorem State.setBase_mons (w n : Nat) (x : AngBase) : (s.setBase w n x).mons = s.mons := (rfl)
@[simp] theorem State.setBase_service (w n : Nat) (x : AngBase) : (s.setBase w n x).service = s.service := (rfl)
@[simp] theorem State.setBase_powered (w n : Nat) (x : AngBase) : (s.setBase w n x).powered = s.powered := (rfl)
@[simp] theorem State.setBase_pending (w n : Nat) (x : AngBase) : (s.setBase w n x).pending = s.pending := (rfl)
@[simp] theorem State.setBase_rd (w n : Nat) (x : AngBase) (j : Nat) : (s.setBase w n x).rd j = s.rd j := (rfl)
@[simp] theorem State.setBase_wall (w n : Nat) (x : AngBase) (j : Nat) : (s.setBase w n x).wall j = s.wall j := (rfl)
@[simp] theorem State.setBase_tile (w n : Nat) (x : AngBase) (j k : Nat) : (s.setBase w n x).tile j k = s.tile j k := (rfl)
@[simp] theorem State.setBase_flow (w n : Nat) (x : AngBase) (j k : Nat) : (s.setBase w n x).flow j k = s.flow j k := (rfl)
@[simp] theorem State.setBase_acu (w n : Nat) (x : AngBase) (j k : Nat) : (s.setBase w n x).acu j k = s.acu j k := (rfl)
@[simp] theorem State.setBase_link (w n : Nat) (x : AngBase) (j k : Nat) : (s.setBase w n x).link j k = s.link j k := (rfl)
@[simp] theorem State.setBase_pin (w n : Nat) (x : AngBase) (j k : Nat) : (s.setBase w n x).pin j k = s.pin j k := (rfl)
@[simp] theorem State.setBase_gdx (w n : Nat) (x : AngBase) (j k : Nat) : (s.setBase w n x).gdx j k = s.gdx j k := (rfl)
@[simp] theorem State.setBase_queue (w n : Nat) (x : AngBase) (j : Nat) : (s.setBase w n x).queue j = s.queue j := (rfl)
@[simp] theorem State.setBase_mon (w n : Nat) (x : AngBase) (j : Nat) : (s.setBase w n x).mon j = s.mon j := (rfl)

/-! ### State.setAcu -/
@[simp] theorem State.setAcu_part (w u : Nat) (x : Acu) : (s.setAcu w u x).part = s.part := (rfl)
@[simp] theorem State.setAcu_fresh (w u : Nat) (x : Acu) : (s.setAcu w u x).fresh = s.fresh := (rfl)
@[simp] theorem State.setAcu_tick (w u : Nat) (x : Acu) : (s.setAcu w u x).tick = s.tick := (rfl)
@[simp] theorem State.setAcu_regs (w u : Nat) (x : Acu) : (s.setAcu w u x).regs = s.regs := (rfl)
@[simp] theorem State.setAcu_pairs (w u : Nat) (x : Acu) : (s.setAcu w u x).pairs = s.pairs := (rfl)
@[simp] theorem State.setAcu_last (w u : Nat) (x : Acu) : (s.setAcu w u x).last = s.last := (rfl)
@[simp] theorem State.setAcu_walls (w u : Nat) (x : Acu) : (s.setAcu w u x).walls = s.walls := (rfl)
@[simp] theorem State.setAcu_tiles (w u : Nat) (x : Acu) : (s.setAcu w u x).tiles = s.tiles := (rfl)
@[simp] theorem State.setAcu_flows (w u : Nat) (x : Acu) : (s.setAcu w u x).flows = s.flows := (rfl)
@[simp] theorem State.setAcu_bases (w u : Nat) (x : Acu) : (s.setAcu w u x).bases = s.bases := (rfl)
@[simp] theorem State.setAcu_links (w u : Nat) (x : Acu) : (s.setAcu w u x).links = s.links := (rfl)
@[simp] theorem State.setAcu_pins (w u : Nat) (x : Acu) : (s.setAcu w u x).pins = s.pins := (rfl)
@[simp] theorem State.setAcu_gddrx (w u : Nat) (x : Acu) : (s.setAcu w u x).gddrx = s.gddrx := (rfl)
@[simp] theorem State.setAcu_sram (w u : Nat) (x : Acu) : (s.setAcu w u x).sram = s.sram := (rfl)
@[simp] theorem State.setAcu_sramErr (w u : Nat) (x : Acu) : (s.setAcu w u x).sramErr = s.sramErr := (rfl)
@[simp] theorem State.setAcu_gddr (w u : Nat) (x : Acu) : (s.setAcu w u x).gddr = s.gddr := (rfl)
@[simp] theorem State.setAcu_gddrErr (w u : Nat) (x : Acu) : (s.setAcu w u x).gddrErr = s.gddrErr := (rfl)
@[simp] theorem State.setAcu_found (w u : Nat) (x : Acu) : (s.setAcu w u x).found = s.found := (rfl)
@[simp] theorem State.setAcu_frameCode (w u : Nat) (x : Acu) : (s.setAcu w u x).frameCode = s.frameCode := (rfl)
@[simp] theorem State.setAcu_flight (w u : Nat) (x : Acu) : (s.setAcu w u x).flight = s.flight := (rfl)
@[simp] theorem State.setAcu_awaiting (w u : Nat) (x : Acu) : (s.setAcu w u x).awaiting = s.awaiting := (rfl)
@[simp] theorem State.setAcu_hubSeq (w u : Nat) (x : Acu) : (s.setAcu w u x).hubSeq = s.hubSeq := (rfl)
@[simp] theorem State.setAcu_hubWait (w u : Nat) (x : Acu) : (s.setAcu w u x).hubWait = s.hubWait := (rfl)
@[simp] theorem State.setAcu_log (w u : Nat) (x : Acu) : (s.setAcu w u x).log = s.log := (rfl)
@[simp] theorem State.setAcu_logCount (w u : Nat) (x : Acu) : (s.setAcu w u x).logCount = s.logCount := (rfl)
@[simp] theorem State.setAcu_ringLostSeen (w u : Nat) (x : Acu) : (s.setAcu w u x).ringLostSeen = s.ringLostSeen := (rfl)
@[simp] theorem State.setAcu_queues (w u : Nat) (x : Acu) : (s.setAcu w u x).queues = s.queues := (rfl)
@[simp] theorem State.setAcu_sqTurn (w u : Nat) (x : Acu) : (s.setAcu w u x).sqTurn = s.sqTurn := (rfl)
@[simp] theorem State.setAcu_longs (w u : Nat) (x : Acu) : (s.setAcu w u x).longs = s.longs := (rfl)
@[simp] theorem State.setAcu_hostOut (w u : Nat) (x : Acu) : (s.setAcu w u x).hostOut = s.hostOut := (rfl)
@[simp] theorem State.setAcu_cxl (w u : Nat) (x : Acu) : (s.setAcu w u x).cxl = s.cxl := (rfl)
@[simp] theorem State.setAcu_chain (w u : Nat) (x : Acu) : (s.setAcu w u x).chain = s.chain := (rfl)
@[simp] theorem State.setAcu_doneOd (w u : Nat) (x : Acu) : (s.setAcu w u x).doneOd = s.doneOd := (rfl)
@[simp] theorem State.setAcu_holdN (w u : Nat) (x : Acu) : (s.setAcu w u x).holdN = s.holdN := (rfl)
@[simp] theorem State.setAcu_trowel (w u : Nat) (x : Acu) : (s.setAcu w u x).trowel = s.trowel := (rfl)
@[simp] theorem State.setAcu_mons (w u : Nat) (x : Acu) : (s.setAcu w u x).mons = s.mons := (rfl)
@[simp] theorem State.setAcu_service (w u : Nat) (x : Acu) : (s.setAcu w u x).service = s.service := (rfl)
@[simp] theorem State.setAcu_powered (w u : Nat) (x : Acu) : (s.setAcu w u x).powered = s.powered := (rfl)
@[simp] theorem State.setAcu_pending (w u : Nat) (x : Acu) : (s.setAcu w u x).pending = s.pending := (rfl)
@[simp] theorem State.setAcu_rd (w u : Nat) (x : Acu) (j : Nat) : (s.setAcu w u x).rd j = s.rd j := (rfl)
@[simp] theorem State.setAcu_wall (w u : Nat) (x : Acu) (j : Nat) : (s.setAcu w u x).wall j = s.wall j := (rfl)
@[simp] theorem State.setAcu_tile (w u : Nat) (x : Acu) (j k : Nat) : (s.setAcu w u x).tile j k = s.tile j k := (rfl)
@[simp] theorem State.setAcu_flow (w u : Nat) (x : Acu) (j k : Nat) : (s.setAcu w u x).flow j k = s.flow j k := (rfl)
@[simp] theorem State.setAcu_base (w u : Nat) (x : Acu) (j k : Nat) : (s.setAcu w u x).base j k = s.base j k := (rfl)
@[simp] theorem State.setAcu_link (w u : Nat) (x : Acu) (j k : Nat) : (s.setAcu w u x).link j k = s.link j k := (rfl)
@[simp] theorem State.setAcu_pin (w u : Nat) (x : Acu) (j k : Nat) : (s.setAcu w u x).pin j k = s.pin j k := (rfl)
@[simp] theorem State.setAcu_gdx (w u : Nat) (x : Acu) (j k : Nat) : (s.setAcu w u x).gdx j k = s.gdx j k := (rfl)
@[simp] theorem State.setAcu_queue (w u : Nat) (x : Acu) (j : Nat) : (s.setAcu w u x).queue j = s.queue j := (rfl)
@[simp] theorem State.setAcu_mon (w u : Nat) (x : Acu) (j : Nat) : (s.setAcu w u x).mon j = s.mon j := (rfl)

/-! ### State.setLink -/
@[simp] theorem State.setLink_part (w n : Nat) (x : LinkX) : (s.setLink w n x).part = s.part := (rfl)
@[simp] theorem State.setLink_fresh (w n : Nat) (x : LinkX) : (s.setLink w n x).fresh = s.fresh := (rfl)
@[simp] theorem State.setLink_tick (w n : Nat) (x : LinkX) : (s.setLink w n x).tick = s.tick := (rfl)
@[simp] theorem State.setLink_regs (w n : Nat) (x : LinkX) : (s.setLink w n x).regs = s.regs := (rfl)
@[simp] theorem State.setLink_pairs (w n : Nat) (x : LinkX) : (s.setLink w n x).pairs = s.pairs := (rfl)
@[simp] theorem State.setLink_last (w n : Nat) (x : LinkX) : (s.setLink w n x).last = s.last := (rfl)
@[simp] theorem State.setLink_walls (w n : Nat) (x : LinkX) : (s.setLink w n x).walls = s.walls := (rfl)
@[simp] theorem State.setLink_tiles (w n : Nat) (x : LinkX) : (s.setLink w n x).tiles = s.tiles := (rfl)
@[simp] theorem State.setLink_flows (w n : Nat) (x : LinkX) : (s.setLink w n x).flows = s.flows := (rfl)
@[simp] theorem State.setLink_bases (w n : Nat) (x : LinkX) : (s.setLink w n x).bases = s.bases := (rfl)
@[simp] theorem State.setLink_acus (w n : Nat) (x : LinkX) : (s.setLink w n x).acus = s.acus := (rfl)
@[simp] theorem State.setLink_pins (w n : Nat) (x : LinkX) : (s.setLink w n x).pins = s.pins := (rfl)
@[simp] theorem State.setLink_gddrx (w n : Nat) (x : LinkX) : (s.setLink w n x).gddrx = s.gddrx := (rfl)
@[simp] theorem State.setLink_sram (w n : Nat) (x : LinkX) : (s.setLink w n x).sram = s.sram := (rfl)
@[simp] theorem State.setLink_sramErr (w n : Nat) (x : LinkX) : (s.setLink w n x).sramErr = s.sramErr := (rfl)
@[simp] theorem State.setLink_gddr (w n : Nat) (x : LinkX) : (s.setLink w n x).gddr = s.gddr := (rfl)
@[simp] theorem State.setLink_gddrErr (w n : Nat) (x : LinkX) : (s.setLink w n x).gddrErr = s.gddrErr := (rfl)
@[simp] theorem State.setLink_found (w n : Nat) (x : LinkX) : (s.setLink w n x).found = s.found := (rfl)
@[simp] theorem State.setLink_frameCode (w n : Nat) (x : LinkX) : (s.setLink w n x).frameCode = s.frameCode := (rfl)
@[simp] theorem State.setLink_flight (w n : Nat) (x : LinkX) : (s.setLink w n x).flight = s.flight := (rfl)
@[simp] theorem State.setLink_awaiting (w n : Nat) (x : LinkX) : (s.setLink w n x).awaiting = s.awaiting := (rfl)
@[simp] theorem State.setLink_hubSeq (w n : Nat) (x : LinkX) : (s.setLink w n x).hubSeq = s.hubSeq := (rfl)
@[simp] theorem State.setLink_hubWait (w n : Nat) (x : LinkX) : (s.setLink w n x).hubWait = s.hubWait := (rfl)
@[simp] theorem State.setLink_log (w n : Nat) (x : LinkX) : (s.setLink w n x).log = s.log := (rfl)
@[simp] theorem State.setLink_logCount (w n : Nat) (x : LinkX) : (s.setLink w n x).logCount = s.logCount := (rfl)
@[simp] theorem State.setLink_ringLostSeen (w n : Nat) (x : LinkX) : (s.setLink w n x).ringLostSeen = s.ringLostSeen := (rfl)
@[simp] theorem State.setLink_queues (w n : Nat) (x : LinkX) : (s.setLink w n x).queues = s.queues := (rfl)
@[simp] theorem State.setLink_sqTurn (w n : Nat) (x : LinkX) : (s.setLink w n x).sqTurn = s.sqTurn := (rfl)
@[simp] theorem State.setLink_longs (w n : Nat) (x : LinkX) : (s.setLink w n x).longs = s.longs := (rfl)
@[simp] theorem State.setLink_hostOut (w n : Nat) (x : LinkX) : (s.setLink w n x).hostOut = s.hostOut := (rfl)
@[simp] theorem State.setLink_cxl (w n : Nat) (x : LinkX) : (s.setLink w n x).cxl = s.cxl := (rfl)
@[simp] theorem State.setLink_chain (w n : Nat) (x : LinkX) : (s.setLink w n x).chain = s.chain := (rfl)
@[simp] theorem State.setLink_doneOd (w n : Nat) (x : LinkX) : (s.setLink w n x).doneOd = s.doneOd := (rfl)
@[simp] theorem State.setLink_holdN (w n : Nat) (x : LinkX) : (s.setLink w n x).holdN = s.holdN := (rfl)
@[simp] theorem State.setLink_trowel (w n : Nat) (x : LinkX) : (s.setLink w n x).trowel = s.trowel := (rfl)
@[simp] theorem State.setLink_mons (w n : Nat) (x : LinkX) : (s.setLink w n x).mons = s.mons := (rfl)
@[simp] theorem State.setLink_service (w n : Nat) (x : LinkX) : (s.setLink w n x).service = s.service := (rfl)
@[simp] theorem State.setLink_powered (w n : Nat) (x : LinkX) : (s.setLink w n x).powered = s.powered := (rfl)
@[simp] theorem State.setLink_pending (w n : Nat) (x : LinkX) : (s.setLink w n x).pending = s.pending := (rfl)
@[simp] theorem State.setLink_rd (w n : Nat) (x : LinkX) (j : Nat) : (s.setLink w n x).rd j = s.rd j := (rfl)
@[simp] theorem State.setLink_wall (w n : Nat) (x : LinkX) (j : Nat) : (s.setLink w n x).wall j = s.wall j := (rfl)
@[simp] theorem State.setLink_tile (w n : Nat) (x : LinkX) (j k : Nat) : (s.setLink w n x).tile j k = s.tile j k := (rfl)
@[simp] theorem State.setLink_flow (w n : Nat) (x : LinkX) (j k : Nat) : (s.setLink w n x).flow j k = s.flow j k := (rfl)
@[simp] theorem State.setLink_base (w n : Nat) (x : LinkX) (j k : Nat) : (s.setLink w n x).base j k = s.base j k := (rfl)
@[simp] theorem State.setLink_acu (w n : Nat) (x : LinkX) (j k : Nat) : (s.setLink w n x).acu j k = s.acu j k := (rfl)
@[simp] theorem State.setLink_pin (w n : Nat) (x : LinkX) (j k : Nat) : (s.setLink w n x).pin j k = s.pin j k := (rfl)
@[simp] theorem State.setLink_gdx (w n : Nat) (x : LinkX) (j k : Nat) : (s.setLink w n x).gdx j k = s.gdx j k := (rfl)
@[simp] theorem State.setLink_queue (w n : Nat) (x : LinkX) (j : Nat) : (s.setLink w n x).queue j = s.queue j := (rfl)
@[simp] theorem State.setLink_mon (w n : Nat) (x : LinkX) (j : Nat) : (s.setLink w n x).mon j = s.mon j := (rfl)

/-! ### State.setPin -/
@[simp] theorem State.setPin_part (w p : Nat) (x : PinX) : (s.setPin w p x).part = s.part := (rfl)
@[simp] theorem State.setPin_fresh (w p : Nat) (x : PinX) : (s.setPin w p x).fresh = s.fresh := (rfl)
@[simp] theorem State.setPin_tick (w p : Nat) (x : PinX) : (s.setPin w p x).tick = s.tick := (rfl)
@[simp] theorem State.setPin_regs (w p : Nat) (x : PinX) : (s.setPin w p x).regs = s.regs := (rfl)
@[simp] theorem State.setPin_pairs (w p : Nat) (x : PinX) : (s.setPin w p x).pairs = s.pairs := (rfl)
@[simp] theorem State.setPin_last (w p : Nat) (x : PinX) : (s.setPin w p x).last = s.last := (rfl)
@[simp] theorem State.setPin_walls (w p : Nat) (x : PinX) : (s.setPin w p x).walls = s.walls := (rfl)
@[simp] theorem State.setPin_tiles (w p : Nat) (x : PinX) : (s.setPin w p x).tiles = s.tiles := (rfl)
@[simp] theorem State.setPin_flows (w p : Nat) (x : PinX) : (s.setPin w p x).flows = s.flows := (rfl)
@[simp] theorem State.setPin_bases (w p : Nat) (x : PinX) : (s.setPin w p x).bases = s.bases := (rfl)
@[simp] theorem State.setPin_acus (w p : Nat) (x : PinX) : (s.setPin w p x).acus = s.acus := (rfl)
@[simp] theorem State.setPin_links (w p : Nat) (x : PinX) : (s.setPin w p x).links = s.links := (rfl)
@[simp] theorem State.setPin_gddrx (w p : Nat) (x : PinX) : (s.setPin w p x).gddrx = s.gddrx := (rfl)
@[simp] theorem State.setPin_sram (w p : Nat) (x : PinX) : (s.setPin w p x).sram = s.sram := (rfl)
@[simp] theorem State.setPin_sramErr (w p : Nat) (x : PinX) : (s.setPin w p x).sramErr = s.sramErr := (rfl)
@[simp] theorem State.setPin_gddr (w p : Nat) (x : PinX) : (s.setPin w p x).gddr = s.gddr := (rfl)
@[simp] theorem State.setPin_gddrErr (w p : Nat) (x : PinX) : (s.setPin w p x).gddrErr = s.gddrErr := (rfl)
@[simp] theorem State.setPin_found (w p : Nat) (x : PinX) : (s.setPin w p x).found = s.found := (rfl)
@[simp] theorem State.setPin_frameCode (w p : Nat) (x : PinX) : (s.setPin w p x).frameCode = s.frameCode := (rfl)
@[simp] theorem State.setPin_flight (w p : Nat) (x : PinX) : (s.setPin w p x).flight = s.flight := (rfl)
@[simp] theorem State.setPin_awaiting (w p : Nat) (x : PinX) : (s.setPin w p x).awaiting = s.awaiting := (rfl)
@[simp] theorem State.setPin_hubSeq (w p : Nat) (x : PinX) : (s.setPin w p x).hubSeq = s.hubSeq := (rfl)
@[simp] theorem State.setPin_hubWait (w p : Nat) (x : PinX) : (s.setPin w p x).hubWait = s.hubWait := (rfl)
@[simp] theorem State.setPin_log (w p : Nat) (x : PinX) : (s.setPin w p x).log = s.log := (rfl)
@[simp] theorem State.setPin_logCount (w p : Nat) (x : PinX) : (s.setPin w p x).logCount = s.logCount := (rfl)
@[simp] theorem State.setPin_ringLostSeen (w p : Nat) (x : PinX) : (s.setPin w p x).ringLostSeen = s.ringLostSeen := (rfl)
@[simp] theorem State.setPin_queues (w p : Nat) (x : PinX) : (s.setPin w p x).queues = s.queues := (rfl)
@[simp] theorem State.setPin_sqTurn (w p : Nat) (x : PinX) : (s.setPin w p x).sqTurn = s.sqTurn := (rfl)
@[simp] theorem State.setPin_longs (w p : Nat) (x : PinX) : (s.setPin w p x).longs = s.longs := (rfl)
@[simp] theorem State.setPin_hostOut (w p : Nat) (x : PinX) : (s.setPin w p x).hostOut = s.hostOut := (rfl)
@[simp] theorem State.setPin_cxl (w p : Nat) (x : PinX) : (s.setPin w p x).cxl = s.cxl := (rfl)
@[simp] theorem State.setPin_chain (w p : Nat) (x : PinX) : (s.setPin w p x).chain = s.chain := (rfl)
@[simp] theorem State.setPin_doneOd (w p : Nat) (x : PinX) : (s.setPin w p x).doneOd = s.doneOd := (rfl)
@[simp] theorem State.setPin_holdN (w p : Nat) (x : PinX) : (s.setPin w p x).holdN = s.holdN := (rfl)
@[simp] theorem State.setPin_trowel (w p : Nat) (x : PinX) : (s.setPin w p x).trowel = s.trowel := (rfl)
@[simp] theorem State.setPin_mons (w p : Nat) (x : PinX) : (s.setPin w p x).mons = s.mons := (rfl)
@[simp] theorem State.setPin_service (w p : Nat) (x : PinX) : (s.setPin w p x).service = s.service := (rfl)
@[simp] theorem State.setPin_powered (w p : Nat) (x : PinX) : (s.setPin w p x).powered = s.powered := (rfl)
@[simp] theorem State.setPin_pending (w p : Nat) (x : PinX) : (s.setPin w p x).pending = s.pending := (rfl)
@[simp] theorem State.setPin_rd (w p : Nat) (x : PinX) (j : Nat) : (s.setPin w p x).rd j = s.rd j := (rfl)
@[simp] theorem State.setPin_wall (w p : Nat) (x : PinX) (j : Nat) : (s.setPin w p x).wall j = s.wall j := (rfl)
@[simp] theorem State.setPin_tile (w p : Nat) (x : PinX) (j k : Nat) : (s.setPin w p x).tile j k = s.tile j k := (rfl)
@[simp] theorem State.setPin_flow (w p : Nat) (x : PinX) (j k : Nat) : (s.setPin w p x).flow j k = s.flow j k := (rfl)
@[simp] theorem State.setPin_base (w p : Nat) (x : PinX) (j k : Nat) : (s.setPin w p x).base j k = s.base j k := (rfl)
@[simp] theorem State.setPin_acu (w p : Nat) (x : PinX) (j k : Nat) : (s.setPin w p x).acu j k = s.acu j k := (rfl)
@[simp] theorem State.setPin_link (w p : Nat) (x : PinX) (j k : Nat) : (s.setPin w p x).link j k = s.link j k := (rfl)
@[simp] theorem State.setPin_gdx (w p : Nat) (x : PinX) (j k : Nat) : (s.setPin w p x).gdx j k = s.gdx j k := (rfl)
@[simp] theorem State.setPin_queue (w p : Nat) (x : PinX) (j : Nat) : (s.setPin w p x).queue j = s.queue j := (rfl)
@[simp] theorem State.setPin_mon (w p : Nat) (x : PinX) (j : Nat) : (s.setPin w p x).mon j = s.mon j := (rfl)

/-! ### State.setGdx -/
@[simp] theorem State.setGdx_part (w d : Nat) (x : GddrX) : (s.setGdx w d x).part = s.part := (rfl)
@[simp] theorem State.setGdx_fresh (w d : Nat) (x : GddrX) : (s.setGdx w d x).fresh = s.fresh := (rfl)
@[simp] theorem State.setGdx_tick (w d : Nat) (x : GddrX) : (s.setGdx w d x).tick = s.tick := (rfl)
@[simp] theorem State.setGdx_regs (w d : Nat) (x : GddrX) : (s.setGdx w d x).regs = s.regs := (rfl)
@[simp] theorem State.setGdx_pairs (w d : Nat) (x : GddrX) : (s.setGdx w d x).pairs = s.pairs := (rfl)
@[simp] theorem State.setGdx_last (w d : Nat) (x : GddrX) : (s.setGdx w d x).last = s.last := (rfl)
@[simp] theorem State.setGdx_walls (w d : Nat) (x : GddrX) : (s.setGdx w d x).walls = s.walls := (rfl)
@[simp] theorem State.setGdx_tiles (w d : Nat) (x : GddrX) : (s.setGdx w d x).tiles = s.tiles := (rfl)
@[simp] theorem State.setGdx_flows (w d : Nat) (x : GddrX) : (s.setGdx w d x).flows = s.flows := (rfl)
@[simp] theorem State.setGdx_bases (w d : Nat) (x : GddrX) : (s.setGdx w d x).bases = s.bases := (rfl)
@[simp] theorem State.setGdx_acus (w d : Nat) (x : GddrX) : (s.setGdx w d x).acus = s.acus := (rfl)
@[simp] theorem State.setGdx_links (w d : Nat) (x : GddrX) : (s.setGdx w d x).links = s.links := (rfl)
@[simp] theorem State.setGdx_pins (w d : Nat) (x : GddrX) : (s.setGdx w d x).pins = s.pins := (rfl)
@[simp] theorem State.setGdx_sram (w d : Nat) (x : GddrX) : (s.setGdx w d x).sram = s.sram := (rfl)
@[simp] theorem State.setGdx_sramErr (w d : Nat) (x : GddrX) : (s.setGdx w d x).sramErr = s.sramErr := (rfl)
@[simp] theorem State.setGdx_gddr (w d : Nat) (x : GddrX) : (s.setGdx w d x).gddr = s.gddr := (rfl)
@[simp] theorem State.setGdx_gddrErr (w d : Nat) (x : GddrX) : (s.setGdx w d x).gddrErr = s.gddrErr := (rfl)
@[simp] theorem State.setGdx_found (w d : Nat) (x : GddrX) : (s.setGdx w d x).found = s.found := (rfl)
@[simp] theorem State.setGdx_frameCode (w d : Nat) (x : GddrX) : (s.setGdx w d x).frameCode = s.frameCode := (rfl)
@[simp] theorem State.setGdx_flight (w d : Nat) (x : GddrX) : (s.setGdx w d x).flight = s.flight := (rfl)
@[simp] theorem State.setGdx_awaiting (w d : Nat) (x : GddrX) : (s.setGdx w d x).awaiting = s.awaiting := (rfl)
@[simp] theorem State.setGdx_hubSeq (w d : Nat) (x : GddrX) : (s.setGdx w d x).hubSeq = s.hubSeq := (rfl)
@[simp] theorem State.setGdx_hubWait (w d : Nat) (x : GddrX) : (s.setGdx w d x).hubWait = s.hubWait := (rfl)
@[simp] theorem State.setGdx_log (w d : Nat) (x : GddrX) : (s.setGdx w d x).log = s.log := (rfl)
@[simp] theorem State.setGdx_logCount (w d : Nat) (x : GddrX) : (s.setGdx w d x).logCount = s.logCount := (rfl)
@[simp] theorem State.setGdx_ringLostSeen (w d : Nat) (x : GddrX) : (s.setGdx w d x).ringLostSeen = s.ringLostSeen := (rfl)
@[simp] theorem State.setGdx_queues (w d : Nat) (x : GddrX) : (s.setGdx w d x).queues = s.queues := (rfl)
@[simp] theorem State.setGdx_sqTurn (w d : Nat) (x : GddrX) : (s.setGdx w d x).sqTurn = s.sqTurn := (rfl)
@[simp] theorem State.setGdx_longs (w d : Nat) (x : GddrX) : (s.setGdx w d x).longs = s.longs := (rfl)
@[simp] theorem State.setGdx_hostOut (w d : Nat) (x : GddrX) : (s.setGdx w d x).hostOut = s.hostOut := (rfl)
@[simp] theorem State.setGdx_cxl (w d : Nat) (x : GddrX) : (s.setGdx w d x).cxl = s.cxl := (rfl)
@[simp] theorem State.setGdx_chain (w d : Nat) (x : GddrX) : (s.setGdx w d x).chain = s.chain := (rfl)
@[simp] theorem State.setGdx_doneOd (w d : Nat) (x : GddrX) : (s.setGdx w d x).doneOd = s.doneOd := (rfl)
@[simp] theorem State.setGdx_holdN (w d : Nat) (x : GddrX) : (s.setGdx w d x).holdN = s.holdN := (rfl)
@[simp] theorem State.setGdx_trowel (w d : Nat) (x : GddrX) : (s.setGdx w d x).trowel = s.trowel := (rfl)
@[simp] theorem State.setGdx_mons (w d : Nat) (x : GddrX) : (s.setGdx w d x).mons = s.mons := (rfl)
@[simp] theorem State.setGdx_service (w d : Nat) (x : GddrX) : (s.setGdx w d x).service = s.service := (rfl)
@[simp] theorem State.setGdx_powered (w d : Nat) (x : GddrX) : (s.setGdx w d x).powered = s.powered := (rfl)
@[simp] theorem State.setGdx_pending (w d : Nat) (x : GddrX) : (s.setGdx w d x).pending = s.pending := (rfl)
@[simp] theorem State.setGdx_rd (w d : Nat) (x : GddrX) (j : Nat) : (s.setGdx w d x).rd j = s.rd j := (rfl)
@[simp] theorem State.setGdx_wall (w d : Nat) (x : GddrX) (j : Nat) : (s.setGdx w d x).wall j = s.wall j := (rfl)
@[simp] theorem State.setGdx_tile (w d : Nat) (x : GddrX) (j k : Nat) : (s.setGdx w d x).tile j k = s.tile j k := (rfl)
@[simp] theorem State.setGdx_flow (w d : Nat) (x : GddrX) (j k : Nat) : (s.setGdx w d x).flow j k = s.flow j k := (rfl)
@[simp] theorem State.setGdx_base (w d : Nat) (x : GddrX) (j k : Nat) : (s.setGdx w d x).base j k = s.base j k := (rfl)
@[simp] theorem State.setGdx_acu (w d : Nat) (x : GddrX) (j k : Nat) : (s.setGdx w d x).acu j k = s.acu j k := (rfl)
@[simp] theorem State.setGdx_link (w d : Nat) (x : GddrX) (j k : Nat) : (s.setGdx w d x).link j k = s.link j k := (rfl)
@[simp] theorem State.setGdx_pin (w d : Nat) (x : GddrX) (j k : Nat) : (s.setGdx w d x).pin j k = s.pin j k := (rfl)
@[simp] theorem State.setGdx_queue (w d : Nat) (x : GddrX) (j : Nat) : (s.setGdx w d x).queue j = s.queue j := (rfl)
@[simp] theorem State.setGdx_mon (w d : Nat) (x : GddrX) (j : Nat) : (s.setGdx w d x).mon j = s.mon j := (rfl)

/-! ### State.setQueue -/
@[simp] theorem State.setQueue_part (q : Nat) (x : QueueX) : (s.setQueue q x).part = s.part := (rfl)
@[simp] theorem State.setQueue_fresh (q : Nat) (x : QueueX) : (s.setQueue q x).fresh = s.fresh := (rfl)
@[simp] theorem State.setQueue_tick (q : Nat) (x : QueueX) : (s.setQueue q x).tick = s.tick := (rfl)
@[simp] theorem State.setQueue_regs (q : Nat) (x : QueueX) : (s.setQueue q x).regs = s.regs := (rfl)
@[simp] theorem State.setQueue_pairs (q : Nat) (x : QueueX) : (s.setQueue q x).pairs = s.pairs := (rfl)
@[simp] theorem State.setQueue_last (q : Nat) (x : QueueX) : (s.setQueue q x).last = s.last := (rfl)
@[simp] theorem State.setQueue_walls (q : Nat) (x : QueueX) : (s.setQueue q x).walls = s.walls := (rfl)
@[simp] theorem State.setQueue_tiles (q : Nat) (x : QueueX) : (s.setQueue q x).tiles = s.tiles := (rfl)
@[simp] theorem State.setQueue_flows (q : Nat) (x : QueueX) : (s.setQueue q x).flows = s.flows := (rfl)
@[simp] theorem State.setQueue_bases (q : Nat) (x : QueueX) : (s.setQueue q x).bases = s.bases := (rfl)
@[simp] theorem State.setQueue_acus (q : Nat) (x : QueueX) : (s.setQueue q x).acus = s.acus := (rfl)
@[simp] theorem State.setQueue_links (q : Nat) (x : QueueX) : (s.setQueue q x).links = s.links := (rfl)
@[simp] theorem State.setQueue_pins (q : Nat) (x : QueueX) : (s.setQueue q x).pins = s.pins := (rfl)
@[simp] theorem State.setQueue_gddrx (q : Nat) (x : QueueX) : (s.setQueue q x).gddrx = s.gddrx := (rfl)
@[simp] theorem State.setQueue_sram (q : Nat) (x : QueueX) : (s.setQueue q x).sram = s.sram := (rfl)
@[simp] theorem State.setQueue_sramErr (q : Nat) (x : QueueX) : (s.setQueue q x).sramErr = s.sramErr := (rfl)
@[simp] theorem State.setQueue_gddr (q : Nat) (x : QueueX) : (s.setQueue q x).gddr = s.gddr := (rfl)
@[simp] theorem State.setQueue_gddrErr (q : Nat) (x : QueueX) : (s.setQueue q x).gddrErr = s.gddrErr := (rfl)
@[simp] theorem State.setQueue_found (q : Nat) (x : QueueX) : (s.setQueue q x).found = s.found := (rfl)
@[simp] theorem State.setQueue_frameCode (q : Nat) (x : QueueX) : (s.setQueue q x).frameCode = s.frameCode := (rfl)
@[simp] theorem State.setQueue_flight (q : Nat) (x : QueueX) : (s.setQueue q x).flight = s.flight := (rfl)
@[simp] theorem State.setQueue_awaiting (q : Nat) (x : QueueX) : (s.setQueue q x).awaiting = s.awaiting := (rfl)
@[simp] theorem State.setQueue_hubSeq (q : Nat) (x : QueueX) : (s.setQueue q x).hubSeq = s.hubSeq := (rfl)
@[simp] theorem State.setQueue_hubWait (q : Nat) (x : QueueX) : (s.setQueue q x).hubWait = s.hubWait := (rfl)
@[simp] theorem State.setQueue_log (q : Nat) (x : QueueX) : (s.setQueue q x).log = s.log := (rfl)
@[simp] theorem State.setQueue_logCount (q : Nat) (x : QueueX) : (s.setQueue q x).logCount = s.logCount := (rfl)
@[simp] theorem State.setQueue_ringLostSeen (q : Nat) (x : QueueX) : (s.setQueue q x).ringLostSeen = s.ringLostSeen := (rfl)
@[simp] theorem State.setQueue_longs (q : Nat) (x : QueueX) : (s.setQueue q x).longs = s.longs := (rfl)
@[simp] theorem State.setQueue_hostOut (q : Nat) (x : QueueX) : (s.setQueue q x).hostOut = s.hostOut := (rfl)
@[simp] theorem State.setQueue_cxl (q : Nat) (x : QueueX) : (s.setQueue q x).cxl = s.cxl := (rfl)
@[simp] theorem State.setQueue_chain (q : Nat) (x : QueueX) : (s.setQueue q x).chain = s.chain := (rfl)
@[simp] theorem State.setQueue_doneOd (q : Nat) (x : QueueX) : (s.setQueue q x).doneOd = s.doneOd := (rfl)
@[simp] theorem State.setQueue_holdN (q : Nat) (x : QueueX) : (s.setQueue q x).holdN = s.holdN := (rfl)
@[simp] theorem State.setQueue_trowel (q : Nat) (x : QueueX) : (s.setQueue q x).trowel = s.trowel := (rfl)
@[simp] theorem State.setQueue_mons (q : Nat) (x : QueueX) : (s.setQueue q x).mons = s.mons := (rfl)
@[simp] theorem State.setQueue_service (q : Nat) (x : QueueX) : (s.setQueue q x).service = s.service := (rfl)
@[simp] theorem State.setQueue_powered (q : Nat) (x : QueueX) : (s.setQueue q x).powered = s.powered := (rfl)
@[simp] theorem State.setQueue_pending (q : Nat) (x : QueueX) : (s.setQueue q x).pending = s.pending := (rfl)
@[simp] theorem State.setQueue_rd (q : Nat) (x : QueueX) (j : Nat) : (s.setQueue q x).rd j = s.rd j := (rfl)
@[simp] theorem State.setQueue_wall (q : Nat) (x : QueueX) (j : Nat) : (s.setQueue q x).wall j = s.wall j := (rfl)
@[simp] theorem State.setQueue_tile (q : Nat) (x : QueueX) (j k : Nat) : (s.setQueue q x).tile j k = s.tile j k := (rfl)
@[simp] theorem State.setQueue_flow (q : Nat) (x : QueueX) (j k : Nat) : (s.setQueue q x).flow j k = s.flow j k := (rfl)
@[simp] theorem State.setQueue_base (q : Nat) (x : QueueX) (j k : Nat) : (s.setQueue q x).base j k = s.base j k := (rfl)
@[simp] theorem State.setQueue_acu (q : Nat) (x : QueueX) (j k : Nat) : (s.setQueue q x).acu j k = s.acu j k := (rfl)
@[simp] theorem State.setQueue_link (q : Nat) (x : QueueX) (j k : Nat) : (s.setQueue q x).link j k = s.link j k := (rfl)
@[simp] theorem State.setQueue_pin (q : Nat) (x : QueueX) (j k : Nat) : (s.setQueue q x).pin j k = s.pin j k := (rfl)
@[simp] theorem State.setQueue_gdx (q : Nat) (x : QueueX) (j k : Nat) : (s.setQueue q x).gdx j k = s.gdx j k := (rfl)
@[simp] theorem State.setQueue_mon (q : Nat) (x : QueueX) (j : Nat) : (s.setQueue q x).mon j = s.mon j := (rfl)

/-! ### State.setMon -/
@[simp] theorem State.setMon_part (m : Nat) (x : MonX) : (s.setMon m x).part = s.part := (rfl)
@[simp] theorem State.setMon_fresh (m : Nat) (x : MonX) : (s.setMon m x).fresh = s.fresh := (rfl)
@[simp] theorem State.setMon_tick (m : Nat) (x : MonX) : (s.setMon m x).tick = s.tick := (rfl)
@[simp] theorem State.setMon_regs (m : Nat) (x : MonX) : (s.setMon m x).regs = s.regs := (rfl)
@[simp] theorem State.setMon_pairs (m : Nat) (x : MonX) : (s.setMon m x).pairs = s.pairs := (rfl)
@[simp] theorem State.setMon_last (m : Nat) (x : MonX) : (s.setMon m x).last = s.last := (rfl)
@[simp] theorem State.setMon_walls (m : Nat) (x : MonX) : (s.setMon m x).walls = s.walls := (rfl)
@[simp] theorem State.setMon_tiles (m : Nat) (x : MonX) : (s.setMon m x).tiles = s.tiles := (rfl)
@[simp] theorem State.setMon_flows (m : Nat) (x : MonX) : (s.setMon m x).flows = s.flows := (rfl)
@[simp] theorem State.setMon_bases (m : Nat) (x : MonX) : (s.setMon m x).bases = s.bases := (rfl)
@[simp] theorem State.setMon_acus (m : Nat) (x : MonX) : (s.setMon m x).acus = s.acus := (rfl)
@[simp] theorem State.setMon_links (m : Nat) (x : MonX) : (s.setMon m x).links = s.links := (rfl)
@[simp] theorem State.setMon_pins (m : Nat) (x : MonX) : (s.setMon m x).pins = s.pins := (rfl)
@[simp] theorem State.setMon_gddrx (m : Nat) (x : MonX) : (s.setMon m x).gddrx = s.gddrx := (rfl)
@[simp] theorem State.setMon_sram (m : Nat) (x : MonX) : (s.setMon m x).sram = s.sram := (rfl)
@[simp] theorem State.setMon_sramErr (m : Nat) (x : MonX) : (s.setMon m x).sramErr = s.sramErr := (rfl)
@[simp] theorem State.setMon_gddr (m : Nat) (x : MonX) : (s.setMon m x).gddr = s.gddr := (rfl)
@[simp] theorem State.setMon_gddrErr (m : Nat) (x : MonX) : (s.setMon m x).gddrErr = s.gddrErr := (rfl)
@[simp] theorem State.setMon_found (m : Nat) (x : MonX) : (s.setMon m x).found = s.found := (rfl)
@[simp] theorem State.setMon_frameCode (m : Nat) (x : MonX) : (s.setMon m x).frameCode = s.frameCode := (rfl)
@[simp] theorem State.setMon_flight (m : Nat) (x : MonX) : (s.setMon m x).flight = s.flight := (rfl)
@[simp] theorem State.setMon_awaiting (m : Nat) (x : MonX) : (s.setMon m x).awaiting = s.awaiting := (rfl)
@[simp] theorem State.setMon_hubSeq (m : Nat) (x : MonX) : (s.setMon m x).hubSeq = s.hubSeq := (rfl)
@[simp] theorem State.setMon_hubWait (m : Nat) (x : MonX) : (s.setMon m x).hubWait = s.hubWait := (rfl)
@[simp] theorem State.setMon_log (m : Nat) (x : MonX) : (s.setMon m x).log = s.log := (rfl)
@[simp] theorem State.setMon_logCount (m : Nat) (x : MonX) : (s.setMon m x).logCount = s.logCount := (rfl)
@[simp] theorem State.setMon_ringLostSeen (m : Nat) (x : MonX) : (s.setMon m x).ringLostSeen = s.ringLostSeen := (rfl)
@[simp] theorem State.setMon_queues (m : Nat) (x : MonX) : (s.setMon m x).queues = s.queues := (rfl)
@[simp] theorem State.setMon_sqTurn (m : Nat) (x : MonX) : (s.setMon m x).sqTurn = s.sqTurn := (rfl)
@[simp] theorem State.setMon_longs (m : Nat) (x : MonX) : (s.setMon m x).longs = s.longs := (rfl)
@[simp] theorem State.setMon_hostOut (m : Nat) (x : MonX) : (s.setMon m x).hostOut = s.hostOut := (rfl)
@[simp] theorem State.setMon_cxl (m : Nat) (x : MonX) : (s.setMon m x).cxl = s.cxl := (rfl)
@[simp] theorem State.setMon_chain (m : Nat) (x : MonX) : (s.setMon m x).chain = s.chain := (rfl)
@[simp] theorem State.setMon_doneOd (m : Nat) (x : MonX) : (s.setMon m x).doneOd = s.doneOd := (rfl)
@[simp] theorem State.setMon_holdN (m : Nat) (x : MonX) : (s.setMon m x).holdN = s.holdN := (rfl)
@[simp] theorem State.setMon_trowel (m : Nat) (x : MonX) : (s.setMon m x).trowel = s.trowel := (rfl)
@[simp] theorem State.setMon_service (m : Nat) (x : MonX) : (s.setMon m x).service = s.service := (rfl)
@[simp] theorem State.setMon_powered (m : Nat) (x : MonX) : (s.setMon m x).powered = s.powered := (rfl)
@[simp] theorem State.setMon_pending (m : Nat) (x : MonX) : (s.setMon m x).pending = s.pending := (rfl)
@[simp] theorem State.setMon_rd (m : Nat) (x : MonX) (j : Nat) : (s.setMon m x).rd j = s.rd j := (rfl)
@[simp] theorem State.setMon_wall (m : Nat) (x : MonX) (j : Nat) : (s.setMon m x).wall j = s.wall j := (rfl)
@[simp] theorem State.setMon_tile (m : Nat) (x : MonX) (j k : Nat) : (s.setMon m x).tile j k = s.tile j k := (rfl)
@[simp] theorem State.setMon_flow (m : Nat) (x : MonX) (j k : Nat) : (s.setMon m x).flow j k = s.flow j k := (rfl)
@[simp] theorem State.setMon_base (m : Nat) (x : MonX) (j k : Nat) : (s.setMon m x).base j k = s.base j k := (rfl)
@[simp] theorem State.setMon_acu (m : Nat) (x : MonX) (j k : Nat) : (s.setMon m x).acu j k = s.acu j k := (rfl)
@[simp] theorem State.setMon_link (m : Nat) (x : MonX) (j k : Nat) : (s.setMon m x).link j k = s.link j k := (rfl)
@[simp] theorem State.setMon_pin (m : Nat) (x : MonX) (j k : Nat) : (s.setMon m x).pin j k = s.pin j k := (rfl)
@[simp] theorem State.setMon_gdx (m : Nat) (x : MonX) (j k : Nat) : (s.setMon m x).gdx j k = s.gdx j k := (rfl)
@[simp] theorem State.setMon_queue (m : Nat) (x : MonX) (j : Nat) : (s.setMon m x).queue j = s.queue j := (rfl)

/-! ### State.setSram -/
@[simp] theorem State.setSram_part (w b o : Nat) (bs : List Byte) : (s.setSram w b o bs).part = s.part := (rfl)
@[simp] theorem State.setSram_fresh (w b o : Nat) (bs : List Byte) : (s.setSram w b o bs).fresh = s.fresh := (rfl)
@[simp] theorem State.setSram_tick (w b o : Nat) (bs : List Byte) : (s.setSram w b o bs).tick = s.tick := (rfl)
@[simp] theorem State.setSram_regs (w b o : Nat) (bs : List Byte) : (s.setSram w b o bs).regs = s.regs := (rfl)
@[simp] theorem State.setSram_pairs (w b o : Nat) (bs : List Byte) : (s.setSram w b o bs).pairs = s.pairs := (rfl)
@[simp] theorem State.setSram_last (w b o : Nat) (bs : List Byte) : (s.setSram w b o bs).last = s.last := (rfl)
@[simp] theorem State.setSram_walls (w b o : Nat) (bs : List Byte) : (s.setSram w b o bs).walls = s.walls := (rfl)
@[simp] theorem State.setSram_tiles (w b o : Nat) (bs : List Byte) : (s.setSram w b o bs).tiles = s.tiles := (rfl)
@[simp] theorem State.setSram_flows (w b o : Nat) (bs : List Byte) : (s.setSram w b o bs).flows = s.flows := (rfl)
@[simp] theorem State.setSram_bases (w b o : Nat) (bs : List Byte) : (s.setSram w b o bs).bases = s.bases := (rfl)
@[simp] theorem State.setSram_acus (w b o : Nat) (bs : List Byte) : (s.setSram w b o bs).acus = s.acus := (rfl)
@[simp] theorem State.setSram_links (w b o : Nat) (bs : List Byte) : (s.setSram w b o bs).links = s.links := (rfl)
@[simp] theorem State.setSram_pins (w b o : Nat) (bs : List Byte) : (s.setSram w b o bs).pins = s.pins := (rfl)
@[simp] theorem State.setSram_gddrx (w b o : Nat) (bs : List Byte) : (s.setSram w b o bs).gddrx = s.gddrx := (rfl)
@[simp] theorem State.setSram_sramErr (w b o : Nat) (bs : List Byte) : (s.setSram w b o bs).sramErr = s.sramErr := (rfl)
@[simp] theorem State.setSram_gddr (w b o : Nat) (bs : List Byte) : (s.setSram w b o bs).gddr = s.gddr := (rfl)
@[simp] theorem State.setSram_gddrErr (w b o : Nat) (bs : List Byte) : (s.setSram w b o bs).gddrErr = s.gddrErr := (rfl)
@[simp] theorem State.setSram_found (w b o : Nat) (bs : List Byte) : (s.setSram w b o bs).found = s.found := (rfl)
@[simp] theorem State.setSram_frameCode (w b o : Nat) (bs : List Byte) : (s.setSram w b o bs).frameCode = s.frameCode := (rfl)
@[simp] theorem State.setSram_flight (w b o : Nat) (bs : List Byte) : (s.setSram w b o bs).flight = s.flight := (rfl)
@[simp] theorem State.setSram_awaiting (w b o : Nat) (bs : List Byte) : (s.setSram w b o bs).awaiting = s.awaiting := (rfl)
@[simp] theorem State.setSram_hubSeq (w b o : Nat) (bs : List Byte) : (s.setSram w b o bs).hubSeq = s.hubSeq := (rfl)
@[simp] theorem State.setSram_hubWait (w b o : Nat) (bs : List Byte) : (s.setSram w b o bs).hubWait = s.hubWait := (rfl)
@[simp] theorem State.setSram_log (w b o : Nat) (bs : List Byte) : (s.setSram w b o bs).log = s.log := (rfl)
@[simp] theorem State.setSram_logCount (w b o : Nat) (bs : List Byte) : (s.setSram w b o bs).logCount = s.logCount := (rfl)
@[simp] theorem State.setSram_ringLostSeen (w b o : Nat) (bs : List Byte) : (s.setSram w b o bs).ringLostSeen = s.ringLostSeen := (rfl)
@[simp] theorem State.setSram_queues (w b o : Nat) (bs : List Byte) : (s.setSram w b o bs).queues = s.queues := (rfl)
@[simp] theorem State.setSram_sqTurn (w b o : Nat) (bs : List Byte) : (s.setSram w b o bs).sqTurn = s.sqTurn := (rfl)
@[simp] theorem State.setSram_longs (w b o : Nat) (bs : List Byte) : (s.setSram w b o bs).longs = s.longs := (rfl)
@[simp] theorem State.setSram_hostOut (w b o : Nat) (bs : List Byte) : (s.setSram w b o bs).hostOut = s.hostOut := (rfl)
@[simp] theorem State.setSram_cxl (w b o : Nat) (bs : List Byte) : (s.setSram w b o bs).cxl = s.cxl := (rfl)
@[simp] theorem State.setSram_chain (w b o : Nat) (bs : List Byte) : (s.setSram w b o bs).chain = s.chain := (rfl)
@[simp] theorem State.setSram_doneOd (w b o : Nat) (bs : List Byte) : (s.setSram w b o bs).doneOd = s.doneOd := (rfl)
@[simp] theorem State.setSram_holdN (w b o : Nat) (bs : List Byte) : (s.setSram w b o bs).holdN = s.holdN := (rfl)
@[simp] theorem State.setSram_trowel (w b o : Nat) (bs : List Byte) : (s.setSram w b o bs).trowel = s.trowel := (rfl)
@[simp] theorem State.setSram_mons (w b o : Nat) (bs : List Byte) : (s.setSram w b o bs).mons = s.mons := (rfl)
@[simp] theorem State.setSram_service (w b o : Nat) (bs : List Byte) : (s.setSram w b o bs).service = s.service := (rfl)
@[simp] theorem State.setSram_powered (w b o : Nat) (bs : List Byte) : (s.setSram w b o bs).powered = s.powered := (rfl)
@[simp] theorem State.setSram_pending (w b o : Nat) (bs : List Byte) : (s.setSram w b o bs).pending = s.pending := (rfl)
@[simp] theorem State.setSram_rd (w b o : Nat) (bs : List Byte) (j : Nat) : (s.setSram w b o bs).rd j = s.rd j := (rfl)
@[simp] theorem State.setSram_wall (w b o : Nat) (bs : List Byte) (j : Nat) : (s.setSram w b o bs).wall j = s.wall j := (rfl)
@[simp] theorem State.setSram_tile (w b o : Nat) (bs : List Byte) (j k : Nat) : (s.setSram w b o bs).tile j k = s.tile j k := (rfl)
@[simp] theorem State.setSram_flow (w b o : Nat) (bs : List Byte) (j k : Nat) : (s.setSram w b o bs).flow j k = s.flow j k := (rfl)
@[simp] theorem State.setSram_base (w b o : Nat) (bs : List Byte) (j k : Nat) : (s.setSram w b o bs).base j k = s.base j k := (rfl)
@[simp] theorem State.setSram_acu (w b o : Nat) (bs : List Byte) (j k : Nat) : (s.setSram w b o bs).acu j k = s.acu j k := (rfl)
@[simp] theorem State.setSram_link (w b o : Nat) (bs : List Byte) (j k : Nat) : (s.setSram w b o bs).link j k = s.link j k := (rfl)
@[simp] theorem State.setSram_pin (w b o : Nat) (bs : List Byte) (j k : Nat) : (s.setSram w b o bs).pin j k = s.pin j k := (rfl)
@[simp] theorem State.setSram_gdx (w b o : Nat) (bs : List Byte) (j k : Nat) : (s.setSram w b o bs).gdx j k = s.gdx j k := (rfl)
@[simp] theorem State.setSram_queue (w b o : Nat) (bs : List Byte) (j : Nat) : (s.setSram w b o bs).queue j = s.queue j := (rfl)
@[simp] theorem State.setSram_mon (w b o : Nat) (bs : List Byte) (j : Nat) : (s.setSram w b o bs).mon j = s.mon j := (rfl)

/-! ### Reads after writes -/
@[simp] theorem State.rd_wr_same (a : Nat) (v : Word) : (s.wr a v).rd a = v := by
  simp [State.rd, State.wr]
theorem State.rd_wr_ne {a j : Nat} (h : j ≠ a) (v : Word) : (s.wr a v).rd j = s.rd j := by
  simp [State.rd, State.wr, Sp.getD_set_ne _ h]
theorem State.fl_wr_ne {a j : Nat} (h : j ≠ a) (f : Fld) (v : Word) : (s.wr a v).fl j f = s.fl j f := by
  simp [State.fl, State.rd_wr_ne s h]
theorem State.fl_setFl_ne {a j : Nat} (h : j ≠ a) (f g : Fld) (v : Nat) : (s.setFl a g v).fl j f = s.fl j f :=
  State.fl_wr_ne s h f _
theorem State.fl_bump_ne {a j : Nat} (h : j ≠ a) (f : Fld) : (s.bump a).fl j f = s.fl j f := State.fl_wr_ne s h f _
theorem State.fl_bumpBy_ne {a j : Nat} (h : j ≠ a) (f : Fld) (n : Nat) : (s.bumpBy a n).fl j f = s.fl j f :=
  State.fl_wr_ne s h f _
@[simp] theorem State.rd_setFl_same (a : Nat) (f : Fld) (v : Nat) : (s.setFl a f v).rd a = setFld (s.rd a) f v := by
  simp [State.setFl]
@[simp] theorem State.rd_bump_same (a : Nat) : (s.bump a).rd a = satInc (s.rd a) := by
  simp [State.bump]
@[simp] theorem State.rd_bumpBy_same (a n : Nat) : (s.bumpBy a n).rd a = satAdd (s.rd a) n := by
  simp [State.bumpBy]
@[simp] theorem State.wall_setWall_same (w : Nat) (x : WallX) : (s.setWall w x).wall w = x := by
  simp [State.wall, State.setWall]
theorem State.wall_setWall_ne {w j : Nat} (h : j ≠ w) (x : WallX) : (s.setWall w x).wall j = s.wall j := by
  simp [State.wall, State.setWall, Sp.getD_put_ne _ h]
@[simp] theorem State.queue_setQueue_same (q : Nat) (x : QueueX) : (s.setQueue q x).queue q = x := by
  simp [State.queue, State.setQueue]
@[simp] theorem State.mon_setMon_same (m : Nat) (x : MonX) : (s.setMon m x).mon m = x := by
  simp [State.mon, State.setMon]

@[simp] theorem State.tile_setTile_same (w i : Nat) (x : Tile) : (s.setTile w i x).tile w i = x := by
  simp [State.tile, State.setTile]
@[simp] theorem State.flow_setFlow_same (w f : Nat) (x : FlowX) : (s.setFlow w f x).flow w f = x := by
  simp [State.flow, State.setFlow]
@[simp] theorem State.base_setBase_same (w n : Nat) (x : AngBase) : (s.setBase w n x).base w n = x := by
  simp [State.base, State.setBase]
@[simp] theorem State.acu_setAcu_same (w u : Nat) (x : Acu) : (s.setAcu w u x).acu w u = x := by
  simp [State.acu, State.setAcu]
@[simp] theorem State.link_setLink_same (w n : Nat) (x : LinkX) : (s.setLink w n x).link w n = x := by
  simp [State.link, State.setLink]
@[simp] theorem State.pin_setPin_same (w p : Nat) (x : PinX) : (s.setPin w p x).pin w p = x := by
  simp [State.pin, State.setPin]
@[simp] theorem State.gdx_setGdx_same (w d : Nat) (x : GddrX) : (s.setGdx w d x).gdx w d = x := by
  simp [State.gdx, State.setGdx]

/-! ### Fields of words -/
/-- A word with a field replaced, as one shift and mask of naturals below 2^32. -/
theorem setFld_toNat (w : Word) (f : Fld) (v : Nat) (h : f.lo + f.wd ≤ 32) :
    (setFld w f v).toNat =
      w.toNat % 2 ^ f.lo + ((v % 2 ^ f.wd) + (w.toNat / 2 ^ (f.lo + f.wd)) * 2 ^ f.wd) * 2 ^ f.lo := by
  have hw : w.toNat < 2 ^ 32 := w.isLt
  have h1 : w.toNat % 2 ^ f.lo < 2 ^ f.lo := Nat.mod_lt _ (Nat.two_pow_pos _)
  have h2 : v % 2 ^ f.wd < 2 ^ f.wd := Nat.mod_lt _ (Nat.two_pow_pos _)
  have h3 : w.toNat / 2 ^ (f.lo + f.wd) < 2 ^ (32 - (f.lo + f.wd)) := by
    apply Nat.div_lt_of_lt_mul
    rw [← Nat.pow_add]
    rwa [show f.lo + f.wd + (32 - (f.lo + f.wd)) = 32 by omega]
  unfold setFld
  rw [Nat.shiftRight_eq_div_pow, BitVec.toNat_ofNat, Nat.mod_eq_of_lt]
  have h4 : (v % 2 ^ f.wd) + (w.toNat / 2 ^ (f.lo + f.wd)) * 2 ^ f.wd < 2 ^ (32 - f.lo) := by
    calc (v % 2 ^ f.wd) + (w.toNat / 2 ^ (f.lo + f.wd)) * 2 ^ f.wd
        < 2 ^ f.wd + (w.toNat / 2 ^ (f.lo + f.wd)) * 2 ^ f.wd := by omega
      _ = (w.toNat / 2 ^ (f.lo + f.wd) + 1) * 2 ^ f.wd := by rw [Nat.add_mul, Nat.one_mul, Nat.add_comm]
      _ ≤ 2 ^ (32 - (f.lo + f.wd)) * 2 ^ f.wd := Nat.mul_le_mul_right _ h3
      _ = 2 ^ (32 - f.lo) := by rw [← Nat.pow_add]; congr 1; omega
  calc w.toNat % 2 ^ f.lo + ((v % 2 ^ f.wd) + (w.toNat / 2 ^ (f.lo + f.wd)) * 2 ^ f.wd) * 2 ^ f.lo
      < 2 ^ f.lo + ((v % 2 ^ f.wd) + (w.toNat / 2 ^ (f.lo + f.wd)) * 2 ^ f.wd) * 2 ^ f.lo := by omega
    _ = ((v % 2 ^ f.wd) + (w.toNat / 2 ^ (f.lo + f.wd)) * 2 ^ f.wd + 1) * 2 ^ f.lo := by
        rw [Nat.add_mul _ 1, Nat.one_mul, Nat.add_comm]
    _ ≤ 2 ^ (32 - f.lo) * 2 ^ f.lo := Nat.mul_le_mul_right _ h4
    _ = 2 ^ 32 := by rw [← Nat.pow_add]; congr 1; omega

/-- A field read back after it is written. -/
theorem fld_setFld_same (w : Word) (f : Fld) (v : Nat) (h : f.lo + f.wd ≤ 32) : fld (setFld w f v) f = v % 2 ^ f.wd := by
  have h1 : w.toNat % 2 ^ f.lo < 2 ^ f.lo := Nat.mod_lt _ (Nat.two_pow_pos _)
  unfold fld
  rw [setFld_toNat w f v h, Nat.shiftRight_eq_div_pow, Nat.add_mul_div_right _ _ (Nat.two_pow_pos _), Nat.div_eq_of_lt h1,
    Nat.zero_add, Nat.add_mul_mod_self_right, Nat.mod_mod]

/-- A field above the written one keeps its value. -/
theorem fld_setFld_above (w : Word) (f g : Fld) (v : Nat) (h : f.lo + f.wd ≤ 32) (hg : f.lo + f.wd ≤ g.lo) :
    fld (setFld w f v) g = fld w g := by
  have h1 : w.toNat % 2 ^ f.lo < 2 ^ f.lo := Nat.mod_lt _ (Nat.two_pow_pos _)
  have h2 : v % 2 ^ f.wd < 2 ^ f.wd := Nat.mod_lt _ (Nat.two_pow_pos _)
  have h3 : (setFld w f v).toNat / 2 ^ (f.lo + f.wd) = w.toNat / 2 ^ (f.lo + f.wd) := by
    rw [setFld_toNat w f v h]
    generalize w.toNat / 2 ^ (f.lo + f.wd) = q
    rw [Nat.pow_add, ← Nat.div_div_eq_div_mul, Nat.add_mul_div_right _ _ (Nat.two_pow_pos _), Nat.div_eq_of_lt h1,
      Nat.zero_add, Nat.add_mul_div_right _ _ (Nat.two_pow_pos _), Nat.div_eq_of_lt h2, Nat.zero_add]
  unfold fld
  rw [Nat.shiftRight_eq_div_pow, Nat.shiftRight_eq_div_pow, show g.lo = (f.lo + f.wd) + (g.lo - (f.lo + f.wd)) by omega,
    Nat.pow_add, ← Nat.div_div_eq_div_mul, h3, Nat.div_div_eq_div_mul]

/-- A field below the written one keeps its value. -/
theorem fld_setFld_below (w : Word) (f g : Fld) (v : Nat) (h : f.lo + f.wd ≤ 32) (hg : g.lo + g.wd ≤ f.lo) :
    fld (setFld w f v) g = fld w g := by
  have h3 : (setFld w f v).toNat % 2 ^ f.lo = w.toNat % 2 ^ f.lo := by
    rw [setFld_toNat w f v h, Nat.add_mul_mod_self_right, Nat.mod_mod]
  have key (x : Nat) : (x >>> g.lo) % 2 ^ g.wd = ((x % 2 ^ f.lo) >>> g.lo) % 2 ^ g.wd := by
    rw [Nat.shiftRight_eq_div_pow, Nat.shiftRight_eq_div_pow, show f.lo = g.lo + (f.lo - g.lo) by omega, Nat.pow_add,
      Nat.mod_mul_right_div_self, Nat.mod_mod_of_dvd]
    exact Nat.pow_dvd_pow 2 (by omega)
  unfold fld
  rw [key, h3, ← key]

theorem State.fl_setFl_same (a : Nat) (f : Fld) (v : Nat) (h : f.lo + f.wd ≤ 32) :
    (s.setFl a f v).fl a f = v % 2 ^ f.wd := by
  simp [State.fl, fld_setFld_same _ _ _ h]

/-! ### Event records -/

@[simp] theorem State.raiseWall_part (w c v : Nat) (l : List Nat) : (s.raiseWall w c v l).part = s.part := by
  unfold State.raiseWall; dsimp only; split <;> simp
@[simp] theorem State.raiseWall_fresh (w c v : Nat) (l : List Nat) : (s.raiseWall w c v l).fresh = s.fresh := by
  unfold State.raiseWall; dsimp only; split <;> simp
@[simp] theorem State.raiseWall_tick (w c v : Nat) (l : List Nat) : (s.raiseWall w c v l).tick = s.tick := by
  unfold State.raiseWall; dsimp only; split <;> simp
@[simp] theorem State.raiseWall_pairs (w c v : Nat) (l : List Nat) : (s.raiseWall w c v l).pairs = s.pairs := by
  unfold State.raiseWall; dsimp only; split <;> simp
@[simp] theorem State.raiseWall_last (w c v : Nat) (l : List Nat) : (s.raiseWall w c v l).last = s.last := by
  unfold State.raiseWall; dsimp only; split <;> simp
@[simp] theorem State.raiseWall_tiles (w c v : Nat) (l : List Nat) : (s.raiseWall w c v l).tiles = s.tiles := by
  unfold State.raiseWall; dsimp only; split <;> simp
@[simp] theorem State.raiseWall_flows (w c v : Nat) (l : List Nat) : (s.raiseWall w c v l).flows = s.flows := by
  unfold State.raiseWall; dsimp only; split <;> simp
@[simp] theorem State.raiseWall_bases (w c v : Nat) (l : List Nat) : (s.raiseWall w c v l).bases = s.bases := by
  unfold State.raiseWall; dsimp only; split <;> simp
@[simp] theorem State.raiseWall_acus (w c v : Nat) (l : List Nat) : (s.raiseWall w c v l).acus = s.acus := by
  unfold State.raiseWall; dsimp only; split <;> simp
@[simp] theorem State.raiseWall_links (w c v : Nat) (l : List Nat) : (s.raiseWall w c v l).links = s.links := by
  unfold State.raiseWall; dsimp only; split <;> simp
@[simp] theorem State.raiseWall_pins (w c v : Nat) (l : List Nat) : (s.raiseWall w c v l).pins = s.pins := by
  unfold State.raiseWall; dsimp only; split <;> simp
@[simp] theorem State.raiseWall_gddrx (w c v : Nat) (l : List Nat) : (s.raiseWall w c v l).gddrx = s.gddrx := by
  unfold State.raiseWall; dsimp only; split <;> simp
@[simp] theorem State.raiseWall_sram (w c v : Nat) (l : List Nat) : (s.raiseWall w c v l).sram = s.sram := by
  unfold State.raiseWall; dsimp only; split <;> simp
@[simp] theorem State.raiseWall_sramErr (w c v : Nat) (l : List Nat) : (s.raiseWall w c v l).sramErr = s.sramErr := by
  unfold State.raiseWall; dsimp only; split <;> simp
@[simp] theorem State.raiseWall_gddr (w c v : Nat) (l : List Nat) : (s.raiseWall w c v l).gddr = s.gddr := by
  unfold State.raiseWall; dsimp only; split <;> simp
@[simp] theorem State.raiseWall_gddrErr (w c v : Nat) (l : List Nat) : (s.raiseWall w c v l).gddrErr = s.gddrErr := by
  unfold State.raiseWall; dsimp only; split <;> simp
@[simp] theorem State.raiseWall_found (w c v : Nat) (l : List Nat) : (s.raiseWall w c v l).found = s.found := by
  unfold State.raiseWall; dsimp only; split <;> simp
@[simp] theorem State.raiseWall_frameCode (w c v : Nat) (l : List Nat) : (s.raiseWall w c v l).frameCode = s.frameCode := by
  unfold State.raiseWall; dsimp only; split <;> simp
@[simp] theorem State.raiseWall_flight (w c v : Nat) (l : List Nat) : (s.raiseWall w c v l).flight = s.flight := by
  unfold State.raiseWall; dsimp only; split <;> simp
@[simp] theorem State.raiseWall_awaiting (w c v : Nat) (l : List Nat) : (s.raiseWall w c v l).awaiting = s.awaiting := by
  unfold State.raiseWall; dsimp only; split <;> simp
@[simp] theorem State.raiseWall_hubSeq (w c v : Nat) (l : List Nat) : (s.raiseWall w c v l).hubSeq = s.hubSeq := by
  unfold State.raiseWall; dsimp only; split <;> simp
@[simp] theorem State.raiseWall_hubWait (w c v : Nat) (l : List Nat) : (s.raiseWall w c v l).hubWait = s.hubWait := by
  unfold State.raiseWall; dsimp only; split <;> simp
@[simp] theorem State.raiseWall_log (w c v : Nat) (l : List Nat) : (s.raiseWall w c v l).log = s.log := by
  unfold State.raiseWall; dsimp only; split <;> simp
@[simp] theorem State.raiseWall_logCount (w c v : Nat) (l : List Nat) : (s.raiseWall w c v l).logCount = s.logCount := by
  unfold State.raiseWall; dsimp only; split <;> simp
@[simp] theorem State.raiseWall_ringLostSeen (w c v : Nat) (l : List Nat) : (s.raiseWall w c v l).ringLostSeen = s.ringLostSeen := by
  unfold State.raiseWall; dsimp only; split <;> simp
@[simp] theorem State.raiseWall_queues (w c v : Nat) (l : List Nat) : (s.raiseWall w c v l).queues = s.queues := by
  unfold State.raiseWall; dsimp only; split <;> simp
@[simp] theorem State.raiseWall_sqTurn (w c v : Nat) (l : List Nat) : (s.raiseWall w c v l).sqTurn = s.sqTurn := by
  unfold State.raiseWall; dsimp only; split <;> simp
@[simp] theorem State.raiseWall_longs (w c v : Nat) (l : List Nat) : (s.raiseWall w c v l).longs = s.longs := by
  unfold State.raiseWall; dsimp only; split <;> simp
@[simp] theorem State.raiseWall_hostOut (w c v : Nat) (l : List Nat) : (s.raiseWall w c v l).hostOut = s.hostOut := by
  unfold State.raiseWall; dsimp only; split <;> simp
@[simp] theorem State.raiseWall_cxl (w c v : Nat) (l : List Nat) : (s.raiseWall w c v l).cxl = s.cxl := by
  unfold State.raiseWall; dsimp only; split <;> simp
@[simp] theorem State.raiseWall_chain (w c v : Nat) (l : List Nat) : (s.raiseWall w c v l).chain = s.chain := by
  unfold State.raiseWall; dsimp only; split <;> simp
@[simp] theorem State.raiseWall_doneOd (w c v : Nat) (l : List Nat) : (s.raiseWall w c v l).doneOd = s.doneOd := by
  unfold State.raiseWall; dsimp only; split <;> simp
@[simp] theorem State.raiseWall_holdN (w c v : Nat) (l : List Nat) : (s.raiseWall w c v l).holdN = s.holdN := by
  unfold State.raiseWall; dsimp only; split <;> simp
@[simp] theorem State.raiseWall_trowel (w c v : Nat) (l : List Nat) : (s.raiseWall w c v l).trowel = s.trowel := by
  unfold State.raiseWall; dsimp only; split <;> simp
@[simp] theorem State.raiseWall_mons (w c v : Nat) (l : List Nat) : (s.raiseWall w c v l).mons = s.mons := by
  unfold State.raiseWall; dsimp only; split <;> simp
@[simp] theorem State.raiseWall_service (w c v : Nat) (l : List Nat) : (s.raiseWall w c v l).service = s.service := by
  unfold State.raiseWall; dsimp only; split <;> simp
@[simp] theorem State.raiseWall_powered (w c v : Nat) (l : List Nat) : (s.raiseWall w c v l).powered = s.powered := by
  unfold State.raiseWall; dsimp only; split <;> simp
@[simp] theorem State.raiseWall_pending (w c v : Nat) (l : List Nat) : (s.raiseWall w c v l).pending = s.pending := by
  unfold State.raiseWall; dsimp only; split <;> simp
@[simp] theorem State.raiseHub_part (c v : Nat) (l : List Nat) : (s.raiseHub c v l).part = s.part := by
  unfold State.raiseHub; dsimp only
@[simp] theorem State.raiseHub_fresh (c v : Nat) (l : List Nat) : (s.raiseHub c v l).fresh = s.fresh := by
  unfold State.raiseHub; dsimp only
@[simp] theorem State.raiseHub_tick (c v : Nat) (l : List Nat) : (s.raiseHub c v l).tick = s.tick := by
  unfold State.raiseHub; dsimp only
@[simp] theorem State.raiseHub_regs (c v : Nat) (l : List Nat) : (s.raiseHub c v l).regs = s.regs := by
  unfold State.raiseHub; dsimp only
@[simp] theorem State.raiseHub_pairs (c v : Nat) (l : List Nat) : (s.raiseHub c v l).pairs = s.pairs := by
  unfold State.raiseHub; dsimp only
@[simp] theorem State.raiseHub_last (c v : Nat) (l : List Nat) : (s.raiseHub c v l).last = s.last := by
  unfold State.raiseHub; dsimp only
@[simp] theorem State.raiseHub_walls (c v : Nat) (l : List Nat) : (s.raiseHub c v l).walls = s.walls := by
  unfold State.raiseHub; dsimp only
@[simp] theorem State.raiseHub_tiles (c v : Nat) (l : List Nat) : (s.raiseHub c v l).tiles = s.tiles := by
  unfold State.raiseHub; dsimp only
@[simp] theorem State.raiseHub_flows (c v : Nat) (l : List Nat) : (s.raiseHub c v l).flows = s.flows := by
  unfold State.raiseHub; dsimp only
@[simp] theorem State.raiseHub_bases (c v : Nat) (l : List Nat) : (s.raiseHub c v l).bases = s.bases := by
  unfold State.raiseHub; dsimp only
@[simp] theorem State.raiseHub_acus (c v : Nat) (l : List Nat) : (s.raiseHub c v l).acus = s.acus := by
  unfold State.raiseHub; dsimp only
@[simp] theorem State.raiseHub_links (c v : Nat) (l : List Nat) : (s.raiseHub c v l).links = s.links := by
  unfold State.raiseHub; dsimp only
@[simp] theorem State.raiseHub_pins (c v : Nat) (l : List Nat) : (s.raiseHub c v l).pins = s.pins := by
  unfold State.raiseHub; dsimp only
@[simp] theorem State.raiseHub_gddrx (c v : Nat) (l : List Nat) : (s.raiseHub c v l).gddrx = s.gddrx := by
  unfold State.raiseHub; dsimp only
@[simp] theorem State.raiseHub_sram (c v : Nat) (l : List Nat) : (s.raiseHub c v l).sram = s.sram := by
  unfold State.raiseHub; dsimp only
@[simp] theorem State.raiseHub_sramErr (c v : Nat) (l : List Nat) : (s.raiseHub c v l).sramErr = s.sramErr := by
  unfold State.raiseHub; dsimp only
@[simp] theorem State.raiseHub_gddr (c v : Nat) (l : List Nat) : (s.raiseHub c v l).gddr = s.gddr := by
  unfold State.raiseHub; dsimp only
@[simp] theorem State.raiseHub_gddrErr (c v : Nat) (l : List Nat) : (s.raiseHub c v l).gddrErr = s.gddrErr := by
  unfold State.raiseHub; dsimp only
@[simp] theorem State.raiseHub_found (c v : Nat) (l : List Nat) : (s.raiseHub c v l).found = s.found := by
  unfold State.raiseHub; dsimp only
@[simp] theorem State.raiseHub_frameCode (c v : Nat) (l : List Nat) : (s.raiseHub c v l).frameCode = s.frameCode := by
  unfold State.raiseHub; dsimp only
@[simp] theorem State.raiseHub_flight (c v : Nat) (l : List Nat) : (s.raiseHub c v l).flight = s.flight := by
  unfold State.raiseHub; dsimp only
@[simp] theorem State.raiseHub_awaiting (c v : Nat) (l : List Nat) : (s.raiseHub c v l).awaiting = s.awaiting := by
  unfold State.raiseHub; dsimp only
@[simp] theorem State.raiseHub_log (c v : Nat) (l : List Nat) : (s.raiseHub c v l).log = s.log := by
  unfold State.raiseHub; dsimp only
@[simp] theorem State.raiseHub_logCount (c v : Nat) (l : List Nat) : (s.raiseHub c v l).logCount = s.logCount := by
  unfold State.raiseHub; dsimp only
@[simp] theorem State.raiseHub_ringLostSeen (c v : Nat) (l : List Nat) : (s.raiseHub c v l).ringLostSeen = s.ringLostSeen := by
  unfold State.raiseHub; dsimp only
@[simp] theorem State.raiseHub_queues (c v : Nat) (l : List Nat) : (s.raiseHub c v l).queues = s.queues := by
  unfold State.raiseHub; dsimp only
@[simp] theorem State.raiseHub_sqTurn (c v : Nat) (l : List Nat) : (s.raiseHub c v l).sqTurn = s.sqTurn := by
  unfold State.raiseHub; dsimp only
@[simp] theorem State.raiseHub_longs (c v : Nat) (l : List Nat) : (s.raiseHub c v l).longs = s.longs := by
  unfold State.raiseHub; dsimp only
@[simp] theorem State.raiseHub_hostOut (c v : Nat) (l : List Nat) : (s.raiseHub c v l).hostOut = s.hostOut := by
  unfold State.raiseHub; dsimp only
@[simp] theorem State.raiseHub_cxl (c v : Nat) (l : List Nat) : (s.raiseHub c v l).cxl = s.cxl := by
  unfold State.raiseHub; dsimp only
@[simp] theorem State.raiseHub_chain (c v : Nat) (l : List Nat) : (s.raiseHub c v l).chain = s.chain := by
  unfold State.raiseHub; dsimp only
@[simp] theorem State.raiseHub_doneOd (c v : Nat) (l : List Nat) : (s.raiseHub c v l).doneOd = s.doneOd := by
  unfold State.raiseHub; dsimp only
@[simp] theorem State.raiseHub_holdN (c v : Nat) (l : List Nat) : (s.raiseHub c v l).holdN = s.holdN := by
  unfold State.raiseHub; dsimp only
@[simp] theorem State.raiseHub_trowel (c v : Nat) (l : List Nat) : (s.raiseHub c v l).trowel = s.trowel := by
  unfold State.raiseHub; dsimp only
@[simp] theorem State.raiseHub_mons (c v : Nat) (l : List Nat) : (s.raiseHub c v l).mons = s.mons := by
  unfold State.raiseHub; dsimp only
@[simp] theorem State.raiseHub_service (c v : Nat) (l : List Nat) : (s.raiseHub c v l).service = s.service := by
  unfold State.raiseHub; dsimp only
@[simp] theorem State.raiseHub_powered (c v : Nat) (l : List Nat) : (s.raiseHub c v l).powered = s.powered := by
  unfold State.raiseHub; dsimp only
@[simp] theorem State.raiseHub_pending (c v : Nat) (l : List Nat) : (s.raiseHub c v l).pending = s.pending := by
  unfold State.raiseHub; dsimp only

/-- A raise of a wall changes no register but the wall's count of lost records. -/
theorem State.raiseWall_rd (w c v : Nat) (l : List Nat) {j : Nat} (h : j ≠ R.WEV_LOST_COUNT w) :
    (s.raiseWall w c v l).rd j = s.rd j := by
  unfold State.raiseWall
  dsimp only
  split
  · simp
  · simp [State.bump, State.rd_wr_ne _ h]

/-- A raise touches no other wall. -/
theorem State.raiseWall_wall_ne (w c v : Nat) (l : List Nat) {j : Nat} (h : j ≠ w) :
    (s.raiseWall w c v l).wall j = s.wall j := by
  unfold State.raiseWall
  dsimp only
  split
  · simp [State.wall_setWall_ne _ h]
  · simp [State.wall_setWall_ne _ h]

end Sys2Proof.Machine
end

