-- ==== Sys2Proof/Laws/Outside.lean ====
section
/-!
SUPPORT. Laws/Outside.lean: what the shared operations of tiles, flows, the hod engine, angle bases, compare units and pins
leave alone: everything outside the walls (`State.outside`), one lemma for each operation.
-/
namespace Sys2Proof.Machine
open Sys2Proof

/-- What lies outside the walls: everything but registers, walls, tiles, flows, angle and pin state, wall SRAM, link and
device state, packets and records under way. -/
def State.outside (s : State) : State :=
  { s with fresh := 0, regs := [], walls := [], tiles := [], flows := [], bases := [], acus := [], links := [], pins := [],
           gddrx := [], sram := [], sramErr := [], found := [], frameCode := [], flight := [], awaiting := [], hubSeq := 0, hubWait := [] }

@[simp] theorem State.outside_ite (c : Prop) [Decidable c] (a b : State) :
    (if c then a else b).outside = if c then a.outside else b.outside := apply_ite _ _ _ _

theorem State.outside_foldl {α : Type} (f : State → α → State) (hf : ∀ a x, (f a x).outside = a.outside) :
    ∀ (l : List α) (s : State), (l.foldl f s).outside = s.outside
  | [], _ => rfl
  | x :: l, s => (State.outside_foldl f hf l (f s x)).trans (hf s x)

theorem State.outside_foldl_fst {α β : Type} (f : State × β → α → State × β) (hf : ∀ a x, (f a x).1.outside = a.1.outside) :
    ∀ (l : List α) (s : State × β), (l.foldl f s).1.outside = s.1.outside
  | [], _ => rfl
  | x :: l, s => (State.outside_foldl_fst f hf l (f s x)).trans (hf s x)

theorem State.outside_foldl_of {α : Type} (f : State → α → State) (l : List α) (s r : State) (h : s.outside = r.outside)
    (hf : ∀ a x, (f a x).outside = a.outside) : (l.foldl f s).outside = r.outside :=
  (State.outside_foldl f hf l s).trans h

theorem State.outside_foldN_of (n : Nat) (f : State → Nat → State) (s r : State) (h : s.outside = r.outside)
    (hf : ∀ a x, (f a x).outside = a.outside) : (foldN n s f).outside = r.outside :=
  State.outside_foldl_of f _ s r h hf

@[simp] theorem State.wr_outside (s : State) (a : Nat) (v : Word) :
    (s.wr a v).outside = s.outside := (rfl)

@[simp] theorem State.setFl_outside (s : State) (a : Nat) (f : Fld) (v : Nat) :
    (s.setFl a f v).outside = s.outside := (rfl)

@[simp] theorem State.bump_outside (s : State) (a : Nat) :
    (s.bump a).outside = s.outside := (rfl)

@[simp] theorem State.bumpBy_outside (s : State) (a n : Nat) :
    (s.bumpBy a n).outside = s.outside := (rfl)

@[simp] theorem State.bumpFl_outside (s : State) (a : Nat) (f : Fld) :
    (s.bumpFl a f).outside = s.outside := (rfl)

@[simp] theorem State.wrapFl_outside (s : State) (a : Nat) (f : Fld) :
    (s.wrapFl a f).outside = s.outside := (rfl)

@[simp] theorem State.setWall_outside (s : State) (w : Nat) (x : WallX) :
    (s.setWall w x).outside = s.outside := (rfl)

@[simp] theorem State.setTile_outside (s : State) (w t : Nat) (x : Tile) :
    (s.setTile w t x).outside = s.outside := (rfl)

@[simp] theorem State.setFlow_outside (s : State) (w f : Nat) (x : FlowX) :
    (s.setFlow w f x).outside = s.outside := (rfl)

@[simp] theorem State.setBase_outside (s : State) (w n : Nat) (x : AngBase) :
    (s.setBase w n x).outside = s.outside := (rfl)

@[simp] theorem State.setAcu_outside (s : State) (w u : Nat) (x : Acu) :
    (s.setAcu w u x).outside = s.outside := (rfl)

@[simp] theorem State.setLink_outside (s : State) (w n : Nat) (x : LinkX) :
    (s.setLink w n x).outside = s.outside := (rfl)

@[simp] theorem State.setPin_outside (s : State) (w p : Nat) (x : PinX) :
    (s.setPin w p x).outside = s.outside := (rfl)

@[simp] theorem State.setGdx_outside (s : State) (w d : Nat) (x : GddrX) :
    (s.setGdx w d x).outside = s.outside := (rfl)

@[simp] theorem State.setSram_outside (s : State) (w b off : Nat) (bs : List Byte) :
    (s.setSram w b off bs).outside = s.outside := (rfl)

@[simp] theorem State.setSramWord_outside (s : State) (w b off : Nat) (v : Word) :
    (s.setSramWord w b off v).outside = s.outside := (rfl)

@[simp] theorem State.takeSeq_outside (s : State) (w : Nat) :
    (s.takeSeq w).outside = s.outside := (rfl)

@[simp] theorem State.raiseWall_outside (s : State) (w src var : Nat) (args : List Nat) :
    (s.raiseWall w src var args).outside = s.outside := by
  simp [State.raiseWall]

@[simp] theorem State.raiseHub_outside (s : State) (src var : Nat) (args : List Nat) :
    (s.raiseHub src var args).outside = s.outside := (rfl)

@[simp] theorem State.stickyWall_outside (s : State) (a : Nat) (f : Fld) (w src var : Nat) (args : List Nat) :
    (s.stickyWall a f w src var args).outside = s.outside := by
  simp [State.stickyWall]

@[simp] theorem State.stickyHub_outside (s : State) (a : Nat) (f : Fld) (src var : Nat) (args : List Nat) :
    (s.stickyHub a f src var args).outside = s.outside := by
  simp [State.stickyHub]

@[simp] theorem State.requestPins_outside (s : State) (w t : Nat) :
    (s.requestPins w t).outside = s.outside := by
  unfold State.requestPins; simp only []; repeat' (first | with_reducible rfl | split | (apply State.outside_foldl_of) | (apply State.outside_foldN_of) | (intro _ _) | (simp; done) | simp)

@[simp] theorem State.selectSlot_outside (s : State) (w t : Nat) (slot : BitVec 7) :
    (s.selectSlot w t slot).outside = s.outside := by
  unfold State.selectSlot; simp only []; repeat' (first | with_reducible rfl | split | (apply State.outside_foldl_of) | (apply State.outside_foldN_of) | (intro _ _) | (simp; done) | simp)

@[simp] theorem State.sramUe_outside (s : State) (w addr : Nat) :
    (s.sramUe w addr).outside = s.outside := by
  simp [State.sramUe]

theorem State.sramErr_outside (s : State) (m : Sp Nat) : ({ s with sramErr := m } : State).outside = s.outside := (rfl)

@[simp] theorem State.sramWrite_outside (s : State) (w b off : Nat) (bs : List Byte) :
    (s.sramWrite w b off bs).1.outside = s.outside := by
  unfold State.sramWrite
  simp only []
  split
  · simp only []
    split <;> simp
  · refine (State.setSram_outside ..).trans (State.outside_foldl _ (fun a e => ?_) _ _)
    split
    · exact (State.bump_outside ..).trans (State.sramErr_outside _ _)
    · exact State.sramErr_outside _ _

@[simp] theorem State.sramDeny_outside (s : State) (w b m off : Nat) (write : Bool) :
    (s.sramDeny w b m off write).outside = s.outside := by
  simp [State.sramDeny]

@[simp] theorem State.startWipe_outside (s : State) (w cause : Nat) :
    (s.startWipe w cause).outside = s.outside := by
  simp [State.startWipe]

@[simp] theorem State.zeroBank_outside (s : State) (w b : Nat) :
    (s.zeroBank w b).outside = s.outside := (rfl)

@[simp] theorem State.checkLow_outside (s : State) (w before : Nat) :
    (s.checkLow w before).outside = s.outside := by
  simp [State.checkLow]

@[simp] theorem State.setAreaWords_outside (s : State) (w i off : Nat) (ws : List Word) :
    (s.setAreaWords w i off ws).outside = s.outside := by
  exact State.sramWrite_outside ..

@[simp] theorem State.setAreaWord_outside (s : State) (w i off : Nat) (v : Word) :
    (s.setAreaWord w i off v).outside = s.outside := by
  exact State.setAreaWords_outside ..

@[simp] theorem State.returnArea_outside (s : State) (w i : Nat) :
    (s.returnArea w i).outside = s.outside := by
  simp [State.returnArea]

@[simp] theorem State.writeHeader_outside (s : State) (w i next kind : Nat) (home : Bool) (count flow tile : Nat) (fastb : Bool) :
    (s.writeHeader w i next kind home count flow tile fastb).outside = s.outside := by
  exact State.setAreaWords_outside ..

@[simp] theorem State.onCtx_outside (s : State) (w t : Nat) (b : Bank) (g : Ctx → Ctx) :
    (s.onCtx w t b g).outside = s.outside := (rfl)

@[simp] theorem State.specialRead_outside (s : State) (w t k : Nat) :
    (s.specialRead w t k).outside = s.outside := by
  simp [State.specialRead]

@[simp] theorem State.tellFsw_outside (s : State) (w t f : Nat) (m : FswMsg) :
    (s.tellFsw w t f m).outside = s.outside := by
  unfold State.tellFsw; simp only []; repeat' (first | with_reducible rfl | split | (apply State.outside_foldl_of) | (apply State.outside_foldN_of) | (intro _ _) | (simp; done) | simp)

@[simp] theorem State.tellWrite_outside (s : State) (w t : Nat) (b : Bank) (n : Nat) :
    (s.tellWrite w t b n).outside = s.outside := by
  unfold State.tellWrite; simp only []; repeat' (first | with_reducible rfl | split | (apply State.outside_foldl_of) | (apply State.outside_foldN_of) | (intro _ _) | (simp; done) | simp)

@[simp] theorem State.setSpecial_outside (s : State) (w t : Nat) (b : Bank) (n k : Nat) (v : Word) :
    (s.setSpecial w t b n k v).outside = s.outside := by
  unfold State.setSpecial; repeat' split
  all_goals simp

@[simp] theorem State.setFstate_outside (s : State) (w f v : Nat) :
    (s.setFstate w f v).outside = s.outside := by
  simp [State.setFstate]

@[simp] theorem State.refreshRes_outside (s : State) (w f : Nat) :
    (s.refreshRes w f).outside = s.outside := by
  simp [State.refreshRes]

@[simp] theorem State.withdraw_outside (s : State) (w f : Nat) :
    (s.withdraw w f).outside = s.outside := by
  unfold State.withdraw; repeat' (first | with_reducible rfl | assumption | split | (apply State.outside_foldl_of) | (apply State.outside_foldN_of) | intro _ | (simp; done))

@[simp] theorem State.prestageRefill_outside (s : State) (w f t : Nat) (protect : Bool) :
    (s.prestageRefill w f t protect).outside = s.outside := by
  unfold State.prestageRefill; simp only []; repeat' (first | with_reducible rfl | split | (apply State.outside_foldl_of) | (apply State.outside_foldN_of) | (intro _ _) | (simp; done) | simp)

@[simp] theorem State.requestRestore_outside (s : State) (w f : Nat) :
    (s.requestRestore w f).outside = s.outside := by
  unfold State.requestRestore
  simp only [State.refreshRes_outside]
  refine State.outside_foldl _ (fun a t => ?_) _ _
  simp

@[simp] theorem State.wantRun_outside (s : State) (w f : Nat) :
    (s.wantRun w f).outside = s.outside := by
  unfold State.wantRun
  split
  · rfl
  · exact State.outside_foldl_of _ _ _ _ (by simp) (fun a t => by simp)

@[simp] theorem State.trigger_outside (s : State) (w f : Nat) :
    (s.trigger w f).outside = s.outside := by
  unfold State.trigger
  simp only []
  split
  · simp
  · split
    · simp
    · split
      · split <;> simp
      · rfl

@[simp] theorem State.wakeFlows_outside (s : State) (w kind index : Nat) :
    (s.wakeFlows w kind index).outside = s.outside := by
  unfold State.wakeFlows
  refine State.outside_foldN_of _ _ _ _ rfl (fun a f => ?_)
  simp

@[simp] theorem State.leaveFast_outside (s : State) (w t : Nat) :
    (s.leaveFast w t).outside = s.outside := by
  unfold State.leaveFast; simp only []; repeat' (first | with_reducible rfl | split | (apply State.outside_foldl_of) | (apply State.outside_foldN_of) | (intro _ _) | (simp; done) | simp)

@[simp] theorem State.stopOnTiles_outside (s : State) (w f : Nat) :
    (s.stopOnTiles w f).outside = s.outside := by
  unfold State.stopOnTiles; repeat' (first | with_reducible rfl | assumption | split | (apply State.outside_foldl_of) | (apply State.outside_foldN_of) | intro _ | (simp; done))

theorem State.takeArea_outside (s : State) (w a : Nat) (u : State) (h : s.takeArea w = some (a, u)) :
    u.outside = s.outside := by
  unfold State.takeArea at h
  simp only [] at h
  split at h
  · cases h
  · injection h with h
    injection h with _ h
    subst h
    simp

theorem State.takeAreas_outside (w : Nat) : ∀ (n : Nat) (s : State) (l : List Nat) (u : State),
    s.takeAreas w n = some (l, u) → u.outside = s.outside
  | 0, s, l, u, h => by cases h; rfl
  | n + 1, s, l, u, h => by
    unfold State.takeAreas at h
    split at h
    · cases h
    · rename_i a s1 h1
      split at h
      · cases h
      · rename_i as s2 h2
        cases h
        exact (State.takeAreas_outside w n s1 as _ h2).trans (State.takeArea_outside s w a s1 h1)

@[simp] theorem State.evict_outside (s : State) (w f cls : Nat) (evict : Bool) :
    (s.evict w f cls evict).outside = s.outside := by
  unfold State.evict
  simp only [State.refreshRes_outside]
  refine State.outside_foldl _ (fun a t => ?_) _ _
  split
  · split
    · rfl
    · rename_i h
      simp [State.takeAreas_outside _ _ _ _ _ h]
  · rfl

@[simp] theorem State.eager_outside (s : State) (w t : Nat) :
    (s.eager w t).outside = s.outside := by
  unfold State.eager; repeat' split
  all_goals simp

@[simp] theorem State.eagerAll_outside (s : State) (w f : Nat) :
    (s.eagerAll w f).outside = s.outside := by
  unfold State.eagerAll; repeat' (first | with_reducible rfl | assumption | split | (apply State.outside_foldl_of) | (apply State.outside_foldN_of) | intro _ | (simp; done))

@[simp] theorem State.halt_outside (s : State) (w f : Nat) :
    (s.halt w f).outside = s.outside := by
  simp [State.halt]

@[simp] theorem State.seqFault_outside (s : State) (w t f : Nat) (b : Bank) (pc cause : Nat) :
    (s.seqFault w t f b pc cause).outside = s.outside := by
  simp [State.seqFault]

@[simp] theorem State.contextLost_outside (s : State) (w t f area : Nat) :
    (s.contextLost w t f area).outside = s.outside := by
  simp [State.contextLost]

@[simp] theorem State.freshRun_outside (s : State) (w f t : Nat) :
    (s.freshRun w f t).outside = s.outside := by
  unfold State.freshRun; simp only []; repeat' (first | with_reducible rfl | split | (apply State.outside_foldl_of) | (apply State.outside_foldN_of) | (intro _ _) | (simp; done) | simp)

@[simp] theorem State.settleFsw_outside (s : State) (w f : Nat) :
    (s.settleFsw w f).outside = s.outside := by
  unfold State.settleFsw; simp only []; repeat' (first | with_reducible rfl | split | (apply State.outside_foldl_of) | (apply State.outside_foldN_of) | (intro _ _) | (simp; done) | simp)

@[simp] theorem State.drainBank_outside (s : State) (w t : Nat) (b : Bank) :
    (s.drainBank w t b).outside = s.outside := by
  unfold State.drainBank; repeat' (first | with_reducible rfl | split | (apply State.outside_foldl_of) | (apply State.outside_foldN_of) | (intro _ _) | (simp; done) | simp)

@[simp] theorem State.drainTiles_outside (s : State) (w f : Nat) :
    (s.drainTiles w f).outside = s.outside := by
  unfold State.drainTiles; repeat' (first | with_reducible rfl | split | (apply State.outside_foldl_of) | (apply State.outside_foldN_of) | (intro _ _) | (simp; done) | simp)

@[simp] theorem State.rewind_outside (s : State) (w f : Nat) :
    (s.rewind w f).outside = s.outside := by
  unfold State.rewind; simp only []; repeat' (first | with_reducible rfl | split | (apply State.outside_foldl_of) | (apply State.outside_foldN_of) | (intro _ _) | (simp; done) | simp)

@[simp] theorem State.completionChecks_outside (s : State) (w f : Nat) :
    (s.completionChecks w f).outside = s.outside := by
  unfold State.completionChecks
  simp only []
  refine State.outside_foldl_of _ _ _ _ ?_ (fun a t => ?_)
  · split <;> split <;> simp
  · split <;> simp

@[simp] theorem State.dropFp_outside (s : State) (w f : Nat) :
    (s.dropFp w f).outside = s.outside := by
  unfold State.dropFp; repeat' (first | with_reducible rfl | assumption | split | (apply State.outside_foldl_of) | (apply State.outside_foldN_of) | intro _ | (simp; done))

@[simp] theorem State.clearMarks_outside (s : State) (w f : Nat) :
    (s.clearMarks w f).outside = s.outside := by
  unfold State.clearMarks; simp only []; repeat' (first | with_reducible rfl | split | (apply State.outside_foldl_of) | (apply State.outside_foldN_of) | (intro _ _) | (simp; done) | simp)

@[simp] theorem State.complete_outside (s : State) (w f : Nat) :
    (s.complete w f).outside = s.outside := by
  simp [State.complete]

@[simp] theorem State.endPart_outside (s : State) (w f : Nat) (waits : Bool) :
    (s.endPart w f waits).outside = s.outside := by
  simp [State.endPart]

@[simp] theorem State.markTile_outside (s : State) (w t f : Nat) (m : Mark) :
    (s.markTile w t f m).outside = s.outside := by
  unfold State.markTile
  lift_lets
  repeat' (first | intro _ | split)
  all_goals simp

@[simp] theorem State.takeWay_outside (s : State) (w t k : Nat) :
    (s.takeWay w t k).outside = s.outside := by
  unfold State.takeWay
  simp only []
  split
  · split
    · split <;> simp
    · split <;> simp
  · split <;> simp

@[simp] theorem State.capRelease_outside (s : State) (w : Nat) :
    (s.capRelease w).outside = s.outside := by
  simp [State.capRelease]

@[simp] theorem State.countFill_outside (s : State) (w t m addr : Nat) :
    (s.countFill w t m addr).outside = s.outside := by
  unfold State.countFill; repeat' (first | with_reducible rfl | assumption | split | (apply State.outside_foldl_of) | (apply State.outside_foldN_of) | intro _ | (simp; done))

@[simp] theorem State.spineConflict_outside (s : State) (w t : Nat) (ks : List (Nat × Nat × Nat)) :
    (s.spineConflict w t ks).outside = s.outside := by
  unfold State.spineConflict; repeat' split
  all_goals simp

@[simp] theorem State.driveSide_outside (s : State) (w t n : Nat) (x : Tile) (pat : BitVec 3072) (east : Bool) :
    (s.driveSide w t n x pat east).outside = s.outside := by
  unfold State.driveSide
  by_cases hx : (if east then t % 8 = 7 else t % 8 = 0)
  · rw [if_pos hx]
  · rw [if_neg hx]
    simp only [State.spineConflict_outside]
    exact State.outside_foldl_fst _ (fun a k => by (repeat' split) <;> simp) _ _

@[simp] theorem State.driveStatic_outside (s : State) (w t n : Nat) (x : Tile) :
    (s.driveStatic w t n x).outside = s.outside := by
  unfold State.driveStatic; repeat' (first | with_reducible rfl | assumption | split | (apply State.outside_foldl_of) | (apply State.outside_foldN_of) | intro _ | (simp; done))

@[simp] theorem State.collided_outside (s : State) (w t m addr : Nat) :
    (s.collided w t m addr).outside = s.outside := by
  simp [State.collided]

@[simp] theorem State.readBack_outside (s : State) (w t m addr : Nat) :
    (s.readBack w t m addr).outside = s.outside := by
  unfold State.readBack; simp only []; repeat' (first | with_reducible rfl | split | (apply State.outside_foldl_of) | (apply State.outside_foldN_of) | (intro _ _) | (simp; done) | simp)

@[simp] theorem State.memCycle_outside (s : State) (w t m : Nat) (x : Tile) (c : Ctx) (n : Nat) (pat : BitVec 3072) :
    (s.memCycle w t m x c n pat).outside = s.outside := by
  simp [State.memCycle]

@[simp] theorem State.illegalSeen_outside (s : State) (w t : Nat) (fl : Option Nat) (b : Nat) (slot : BitVec 7) :
    (s.illegalSeen w t fl b slot).outside = s.outside := by
  unfold State.illegalSeen; repeat' split
  all_goals simp

@[simp] theorem State.lookupRead_outside (s : State) (w t : Nat) (x : Tile) (pat : BitVec 3072) (b : Nat) (fl : Flight) :
    (s.lookupRead w t x pat b fl).outside = s.outside := by
  unfold State.lookupRead; repeat' split
  all_goals simp

@[simp] theorem State.spread_outside (s : State) (w t n : Nat) (l : List (Bank × FswChange)) :
    (s.spread w t n l).outside = s.outside := by
  unfold State.spread; repeat' (first | with_reducible rfl | split | (apply State.outside_foldl_of) | (apply State.outside_foldN_of) | (intro _ _) | (simp; done) | simp)

@[simp] theorem State.issueCycle_outside (s : State) (w t n : Nat) (bk : Bank) (way : Nat) :
    (s.issueCycle w t n bk way).outside = s.outside := by
  unfold State.issueCycle; simp only []; repeat' (first | with_reducible rfl | split | (apply State.outside_foldl_of) | (apply State.outside_foldN_of) | (intro _ _) | (simp; done) | simp)

@[simp] theorem State.stallCycle_outside (s : State) (w t n : Nat) :
    (s.stallCycle w t n).outside = s.outside := by
  unfold State.stallCycle; simp only []; repeat' (first | with_reducible rfl | split | (apply State.outside_foldl_of) | (apply State.outside_foldN_of) | (intro _ _) | (simp; done) | simp)

@[simp] theorem State.beginCycle_outside (s : State) (w t n : Nat) :
    (s.beginCycle w t n).outside = s.outside := by
  simp [State.beginCycle]

theorem State.passCycles_outside (w t n : Nat) : ∀ (k : Nat) (s : State), (s.passCycles w t n k).outside = s.outside
  | 0, _ => rfl
  | k + 1, s => by
    unfold State.passCycles
    rw [State.passCycles_outside w t n k]; simp

@[simp] theorem State.enterCycle_outside (s : State) (w t n : Nat) :
    (s.enterCycle w t n).outside = s.outside := by
  simp [State.enterCycle, State.passCycles_outside]

@[simp] theorem State.keepPrev_outside (s : State) (w t n : Nat) :
    (s.keepPrev w t n).outside = s.outside := (rfl)

@[simp] theorem State.passTo_outside (s : State) (w t n : Nat) :
    (s.passTo w t n).outside = s.outside := by
  simp [State.passTo]

@[simp] theorem State.endSelect_outside (s : State) (w t n : Nat) (issued : Bool) :
    (s.endSelect w t n issued).outside = s.outside := by
  unfold State.endSelect; simp only []; repeat' (first | with_reducible rfl | split | (apply State.outside_foldl_of) | (apply State.outside_foldN_of) | (intro _ _) | (simp; done) | simp)

@[simp] theorem State.cycleAt_outside (s : State) (w : Nat) (t : Fin 128) (n : Nat) (force : Option Nat) :
    (s.cycleAt w t n force).outside = s.outside := by
  unfold State.cycleAt
  cases force <;> dsimp only
  all_goals
    repeat' split
    all_goals simp only [State.endSelect_outside, State.bump_outside, State.issueCycle_outside, State.stallCycle_outside,
      State.setTile_outside, State.keepPrev_outside, State.enterCycle_outside, State.bumpBy_outside]

@[simp] theorem State.tileCycle_outside (s : State) (w : Nat) (t : Fin 128) :
    (s.tileCycle w t).outside = s.outside := by
  simp [State.tileCycle]

@[simp] theorem State.runTo_outside (w : Nat) (t : Fin 128) (n0 n code : Nat) : ∀ (k : Nat) (s : State),
    (s.runTo w t n0 n code k).outside = s.outside
  | 0, _ => rfl
  | k + 1, s => by
    unfold State.runTo
    simp only []
    split
    · rfl
    · rw [State.runTo_outside w t n0 n code k]; simp

@[simp] theorem State.holdCycle_outside (s : State) (w t : Nat) (b : Bank) (n : Nat) (f : PatF) :
    (s.holdCycle w t b n f).outside = s.outside := (rfl)

@[simp] theorem State.advance_outside (s : State) (w t : Nat) (b : Bank) :
    (s.advance w t b).outside = s.outside := (rfl)

@[simp] theorem State.branch_outside (s : State) (w t : Nat) (b : Bank) (n : Nat) (target : BitVec 12) (pops : Bool) :
    (s.branch w t b n target pops).outside = s.outside := (rfl)

@[simp] theorem State.faultAt_outside (s : State) (w t : Nat) (b : Bank) (cause : Nat) :
    (s.faultAt w t b cause).outside = s.outside := by
  unfold State.faultAt; simp only []; repeat' (first | with_reducible rfl | split | (apply State.outside_foldl_of) | (apply State.outside_foldN_of) | (intro _ _) | (simp; done) | simp)

@[simp] theorem State.patSelect_outside (s : State) (w t : Nat) (slot : BitVec 7) :
    (s.patSelect w t slot).outside = s.outside := by
  unfold State.patSelect; simp only []; repeat' (first | with_reducible rfl | split | (apply State.outside_foldl_of) | (apply State.outside_foldN_of) | (intro _ _) | (simp; done) | simp)

@[simp] theorem State.endOnTile_outside (s : State) (w t f : Nat) (b : Bank) (m : Mark) :
    (s.endOnTile w t f b m).outside = s.outside := by
  unfold State.endOnTile; simp only []; repeat' (first | with_reducible rfl | split | (apply State.outside_foldl_of) | (apply State.outside_foldN_of) | (intro _ _) | (simp; done) | simp)

@[simp] theorem State.finishOpen_outside (s : State) (w t : Nat) (b : Bank) (n : Nat) (call : Option (BitVec 12)) (grow : Bool) :
    (s.finishOpen w t b n call grow).outside = s.outside := by
  unfold State.finishOpen; repeat' split
  all_goals simp

@[simp] theorem State.finishClose_outside (s : State) (w t : Nat) (b : Bank) (n : Nat) (ret : Bool) (shrink : Bool) :
    (s.finishClose w t b n ret shrink).outside = s.outside := by
  simp [State.finishClose]

@[simp] theorem State.waitHod_outside (s : State) (w t f : Nat) (b : Bank) (kind : HodKind) (p : PendIns) :
    (s.waitHod w t f b kind p).outside = s.outside := (rfl)

@[simp] theorem State.openIns_outside (s : State) (w t : Nat) (b : Bank) (n : Nat) (call : Option (BitVec 12)) :
    (s.openIns w t b n call).outside = s.outside := by
  unfold State.openIns; simp only []; repeat' (first | with_reducible rfl | split | (apply State.outside_foldl_of) | (apply State.outside_foldN_of) | (intro _ _) | (simp; done) | simp)

@[simp] theorem State.closeIns_outside (s : State) (w t : Nat) (b : Bank) (n : Nat) (ret : Bool) :
    (s.closeIns w t b n ret).outside = s.outside := by
  unfold State.closeIns; simp only []; repeat' (first | with_reducible rfl | split | (apply State.outside_foldl_of) | (apply State.outside_foldN_of) | (intro _ _) | (simp; done) | simp)

@[simp] theorem State.blockIns_outside (s : State) (w t : Nat) (b : Bank) (kind : HodKind) :
    (s.blockIns w t b kind).outside = s.outside := by
  unfold State.blockIns; repeat' (first | with_reducible rfl | assumption | split | (apply State.outside_foldl_of) | (apply State.outside_foldN_of) | intro _ | (simp; done))

@[simp] theorem State.fpuRun_outside (s : State) (w t : Nat) (b : Bank) (n op : Nat) (f : FpuF) :
    (s.fpuRun w t b n op f).outside = s.outside := (rfl)

@[simp] theorem State.setFlowIndex_outside (s : State) (w f v k : Nat) :
    (s.setFlowIndex w f v k).outside = s.outside := by
  simp [State.setFlowIndex]

@[simp] theorem State.armFlow_outside (s : State) (w f : Nat) :
    (s.armFlow w f).outside = s.outside := by
  simp [State.armFlow]

@[simp] theorem State.disarmFlow_outside (s : State) (w f : Nat) :
    (s.disarmFlow w f).outside = s.outside := by
  simp [State.disarmFlow]

@[simp] theorem State.matchFlow_outside (s : State) (w f : Nat) (late : Bool) :
    (s.matchFlow w f late).outside = s.outside := by
  simp [State.matchFlow]

@[simp] theorem State.saveFp_outside (s : State) (w t f : Nat) :
    (s.saveFp w t f).outside = s.outside := State.setAreaWords_outside ..

@[simp] theorem State.startOp_outside (s : State) (w t : Nat) (o : HodOp) :
    (s.startOp w t o).outside = s.outside := by
  unfold State.startOp; repeat' split
  all_goals simp

@[simp] theorem State.finishEnable_outside (s : State) (w f : Nat) :
    (s.finishEnable w f).outside = s.outside := by
  unfold State.finishEnable
  simp only []
  split <;> simp

@[simp] theorem State.saveHome_outside (s : State) (w t f : Nat) (b : Bank) (c : Ctx) (fsw : Word) :
    (s.saveHome w t f b c fsw).outside = s.outside := by
  simp [State.saveHome]

@[simp] theorem State.enterHandler_outside (s : State) (w t f : Nat) (b : Bank) (under : Bool) :
    (s.enterHandler w t f b under).outside = s.outside := by
  simp [State.enterHandler]

@[simp] theorem State.newHome_outside (s : State) (w a kind f t : Nat) :
    (s.newHome w a kind f t).outside = s.outside :=
  State.writeHeader_outside ..

@[simp] theorem State.pinFirst_outside (s : State) (w f : Nat) :
    (s.pinFirst w f).outside = s.outside := by
  unfold State.pinFirst; simp only []; repeat' (first | with_reducible rfl | split | (apply State.outside_foldl_of) | (apply State.outside_foldN_of) | (intro _ _) | (simp; done) | simp)

@[simp] theorem State.unpin_outside (s : State) (w f : Nat) :
    (s.unpin w f).outside = s.outside := by
  unfold State.unpin; repeat' (first | with_reducible rfl | assumption | split | (apply State.outside_foldl_of) | (apply State.outside_foldN_of) | intro _ | (simp; done))

@[simp] theorem State.enableFlow_outside (s : State) (w f : Nat) :
    (s.enableFlow w f).outside = s.outside := by
  unfold State.enableFlow; repeat' (first | with_reducible rfl | assumption | split | (apply State.outside_foldl_of) | (apply State.outside_foldN_of) | intro _ | (simp; done))

@[simp] theorem State.disableFlow_outside (s : State) (w f : Nat) :
    (s.disableFlow w f).outside = s.outside := by
  simp [State.disableFlow]

@[simp] theorem State.restartFlow_outside (s : State) (w f : Nat) :
    (s.restartFlow w f).outside = s.outside := by
  simp [State.restartFlow]

@[simp] theorem State.destroyOnTile_outside (s : State) (w f t : Nat) :
    (s.destroyOnTile w f t).outside = s.outside := by
  unfold State.destroyOnTile; repeat' (first | with_reducible rfl | assumption | split | (apply State.outside_foldl_of) | (apply State.outside_foldN_of) | intro _ | (simp; done))

@[simp] theorem State.destroyFlow_outside (s : State) (w f : Nat) :
    (s.destroyFlow w f).outside = s.outside := by
  unfold State.destroyFlow
  simp only [State.setFlow_outside]
  refine State.outside_foldN_of _ _ _ _ ?_ (fun a r => by simp)
  exact State.outside_foldl_of _ _ _ _ (by simp) (fun a t => by simp)

theorem State.createHomes_outside (w f : Nat) : ∀ (l : List Nat) (s : State), (s.createHomes w f l).outside = s.outside
  | [], _ => rfl
  | t :: r, s => by
    unfold State.createHomes
    split
    · rename_i h
      simp [State.createHomes_outside w f r, State.takeAreas_outside _ _ _ _ _ h]
    · rfl

@[simp] theorem State.dispRun_outside (s : State) (w f op : Nat) :
    (s.dispRun w f op).outside = s.outside := by
  unfold State.dispRun
  split
  · simp [State.createHomes_outside]
  all_goals simp

@[simp] theorem State.rebuildFree_outside (s : State) (w : Nat) :
    (s.rebuildFree w).outside = s.outside := by
  simp [State.rebuildFree]

@[simp] theorem State.linkAreas_outside (s : State) (w first last : Nat) :
    (s.linkAreas w first last).outside = s.outside := by
  unfold State.linkAreas
  induction (List.range (last + 1 - first)) with
  | nil => rfl
  | cons k l ih => simp [ih]

@[simp] theorem State.admitNear_outside (s : State) (w f : Nat) :
    (s.admitNear w f).outside = s.outside := by
  simp [State.admitNear]

@[simp] theorem State.preempt_outside (s : State) (w g : Nat) :
    (s.preempt w g).outside = s.outside := by
  simp [State.preempt]

@[simp] theorem State.present_outside (s : State) (w f t : Nat) (fast : Bool) :
    (s.present w f t fast).outside = s.outside := by
  unfold State.present; simp only []; repeat' (first | with_reducible rfl | split | (apply State.outside_foldl_of) | (apply State.outside_foldN_of) | (intro _ _) | (simp; done) | simp)

@[simp] theorem State.startRun_outside (s : State) (w f : Nat) (fast : Bool) :
    (s.startRun w f fast).outside = s.outside := by
  unfold State.startRun
  simp only [State.setFlow_outside]
  refine State.outside_foldl_of _ _ _ _ ?_ (fun a t => by simp)
  refine State.outside_foldl_of _ _ _ _ ?_ (fun a t => by simp)
  simp only [State.setFstate_outside]
  split
  · exact State.outside_foldl_of _ _ _ _ (by simp) (fun a t => by simp)
  · rfl

@[simp] theorem State.recordStart_outside (s : State) (w f n : Nat) :
    (s.recordStart w f n).outside = s.outside := by
  unfold State.recordStart; simp only []; repeat' (first | with_reducible rfl | split | (apply State.outside_foldl_of) | (apply State.outside_foldN_of) | (intro _ _) | (simp; done) | simp)

@[simp] theorem State.seePin_outside (s : State) (w p : Nat) (level : Bool) :
    (s.seePin w p level).outside = s.outside := by
  simp [State.seePin]

@[simp] theorem State.seeLevel_outside (s : State) (w p : Nat) (level : Bool) :
    (s.seeLevel w p level).outside = s.outside := by
  simp [State.seeLevel]

@[simp] theorem State.angBit_outside (s : State) (w n : Nat) (f : Fld) (b : Bool) :
    (s.angBit w n f b).outside = s.outside := by
  simp [State.angBit]

@[simp] theorem State.refreshPred_outside (s : State) (w n : Nat) :
    (s.refreshPred w n).outside = s.outside := by
  simp [State.refreshPred]

@[simp] theorem State.checkOvs_outside (s : State) (w n : Nat) :
    (s.checkOvs w n).outside = s.outside := by
  simp [State.checkOvs]

@[simp] theorem State.setVel_outside (s : State) (w n : Nat) (v : Word) :
    (s.setVel w n v).outside = s.outside := by
  simp [State.setVel]

@[simp] theorem State.unvalid_outside (s : State) (w n : Nat) :
    (s.unvalid w n).outside = s.outside := by
  simp [State.unvalid]

@[simp] theorem State.refSeen_outside (s : State) (w n : Nat) :
    (s.refSeen w n).outside = s.outside := by
  simp [State.refSeen]

@[simp] theorem State.angError_outside (s : State) (w n : Nat) (f : Fld) (report : Bool) :
    (s.angError w n f report).outside = s.outside := by
  simp [State.angError]

@[simp] theorem State.angAdvance_outside (s : State) (w n : Nat) :
    (s.angAdvance w n).outside = s.outside := by
  simp [State.angAdvance]

@[simp] theorem State.applyFeed_outside (s : State) (w n : Nat) (w0 w1 w2 : Nat) :
    (s.applyFeed w n w0 w1 w2).outside = s.outside := by
  simp [State.applyFeed]

@[simp] theorem State.startBase_outside (s : State) (w n : Nat) :
    (s.startBase w n).outside = s.outside := by
  simp [State.startBase]

@[simp] theorem State.stopBase_outside (s : State) (w n : Nat) :
    (s.stopBase w n).outside = s.outside := by
  simp [State.stopBase]

@[simp] theorem State.passTargets_outside (s : State) (w n : Nat) (old new : W64) :
    (s.passTargets w n old new).outside = s.outside := by
  unfold State.passTargets; simp only []; repeat' (first | with_reducible rfl | split | (apply State.outside_foldl_of) | (apply State.outside_foldN_of) | (intro _ _) | (simp; done) | simp)

@[simp] theorem State.acuLate_outside (s : State) (w u n : Nat) :
    (s.acuLate w u n).outside = s.outside := by
  simp [State.acuLate]

@[simp] theorem State.setAcuIndex_outside (s : State) (w u v k : Nat) :
    (s.setAcuIndex w u v k).outside = s.outside := by
  simp [State.setAcuIndex]

@[simp] theorem State.acuArm_outside (s : State) (w u : Nat) :
    (s.acuArm w u).outside = s.outside := by
  simp [State.acuArm]

@[simp] theorem State.acuNext_outside (s : State) (w u : Nat) :
    (s.acuNext w u).outside = s.outside := by
  simp [State.acuNext]

@[simp] theorem State.acuDrive_outside (s : State) (w u : Nat) (level : Bool) :
    (s.acuDrive w u level).outside = s.outside := by
  simp [State.acuDrive]

@[simp] theorem State.setAligned_outside (s : State) (w : Nat) (b : Bool) :
    (s.setAligned w b).outside = s.outside := by
  simp [State.setAligned]

@[simp] theorem State.trip_outside (s : State) (w p src inp : Nat) :
    (s.trip w p src inp).outside = s.outside := by
  simp [State.trip]

@[simp] theorem State.tripAll_outside (s : State) (w q : Nat) (rising : Bool) :
    (s.tripAll w q rising).outside = s.outside := by
  unfold State.tripAll; simp only []; repeat' (first | with_reducible rfl | split | (apply State.outside_foldl_of) | (apply State.outside_foldN_of) | (intro _ _) | (simp; done) | simp)

@[simp] theorem State.wakeEdge_outside (s : State) (w q : Nat) (rising : Bool) :
    (s.wakeEdge w q rising).outside = s.outside := by
  unfold State.wakeEdge; simp only []; repeat' (first | with_reducible rfl | split | (apply State.outside_foldl_of) | (apply State.outside_foldN_of) | (intro _ _) | (simp; done) | simp)


/-! ### Issue, memory accesses and the shapes of rows -/
theorem State.flushHold_outside (w : Nat) (t : Fin 128) (b : Bank) : ∀ (k : Nat) (s : State), (s.flushHold w t b k).outside = s.outside
  | 0, _ => rfl
  | k + 1, s => by
    unfold State.flushHold
    split
    · rfl
    · simp [State.flushHold_outside w t b k]

@[simp] theorem State.issueIns_outside (s : State) (w : Nat) (t : Fin 128) (b : Bank) (stream : Bool) (ready : Nat) :
    (s.issueIns w t b stream ready).1.outside = s.outside := by
  simp [State.issueIns, State.flushHold_outside]

@[simp] theorem State.sramRead_outside (s : State) (w b off n : Nat) : (s.sramRead w b off n).1.outside = s.outside := by
  unfold State.sramRead
  refine State.outside_foldl_fst _ (fun a e => ?_) _ _
  split
  · exact (State.sramErr_outside _ _).trans (State.bump_outside ..)
  · simp

@[simp] theorem State.areaRead_outside (s : State) (w i off n : Nat) : (s.areaRead w i off n).1.outside = s.outside :=
  State.sramRead_outside ..

/-- What a row of a wall answers keeps what its effect keeps. -/
theorem onWall_outside {w : Nat} {s t : State} {f : State → State} (hf : ∀ a, (f a).outside = a.outside)
    (h : onWall w s f = .next t) : t.outside = s.outside := by
  unfold onWall at h
  split at h
  · injection h with h
    subst h
    split
    · exact hf s
    · rfl
  · cases h

/-- An instruction of a tile keeps what lies outside the walls when its effect does. -/
theorem seqRow_outside {x : TileRef} {s t : State} {legal stream : Bool} {ready : Tile → Nat} {run : Bank → Nat → State → State}
    (hf : ∀ b n a, (run b n a).outside = a.outside) (h : seqRow x s legal stream ready run = .next t) :
    t.outside = s.outside := by
  refine onWall_outside (fun a => ?_) h
  split
  · rfl
  · split <;> simp [hf]

/-- The end of a hod operation keeps what lies outside the walls when its effect does. -/
theorem hodDone_outside {x : TileRef} {s t : State} {p : HodKind → Bool} {run : HodOp → State → State}
    (hf : ∀ o a, (run o a).outside = a.outside) (h : hodDone x s p run = .next t) : t.outside = s.outside := by
  refine onWall_outside (fun a => ?_) h
  simp only []
  split
  · split
    · simp [hf]
    · rfl
  · rfl

/-! ### What equal outsides say -/
section
variable {s t : State} (h : s.outside = t.outside)
include h
theorem State.part_of_outside : s.part = t.part :=
  (congrArg State.part h : s.outside.part = t.outside.part)
theorem State.tick_of_outside : s.tick = t.tick :=
  (congrArg State.tick h : s.outside.tick = t.outside.tick)
theorem State.pairs_of_outside : s.pairs = t.pairs :=
  (congrArg State.pairs h : s.outside.pairs = t.outside.pairs)
theorem State.last_of_outside : s.last = t.last :=
  (congrArg State.last h : s.outside.last = t.outside.last)
theorem State.gddr_of_outside : s.gddr = t.gddr :=
  (congrArg State.gddr h : s.outside.gddr = t.outside.gddr)
theorem State.log_of_outside : s.log = t.log :=
  (congrArg State.log h : s.outside.log = t.outside.log)
theorem State.queues_of_outside : s.queues = t.queues :=
  (congrArg State.queues h : s.outside.queues = t.outside.queues)
theorem State.longs_of_outside : s.longs = t.longs :=
  (congrArg State.longs h : s.outside.longs = t.outside.longs)
theorem State.hostOut_of_outside : s.hostOut = t.hostOut :=
  (congrArg State.hostOut h : s.outside.hostOut = t.outside.hostOut)
theorem State.cxl_of_outside : s.cxl = t.cxl :=
  (congrArg State.cxl h : s.outside.cxl = t.outside.cxl)
theorem State.chain_of_outside : s.chain = t.chain :=
  (congrArg State.chain h : s.outside.chain = t.outside.chain)
theorem State.trowel_of_outside : s.trowel = t.trowel :=
  (congrArg State.trowel h : s.outside.trowel = t.outside.trowel)
theorem State.mons_of_outside : s.mons = t.mons :=
  (congrArg State.mons h : s.outside.mons = t.outside.mons)
theorem State.service_of_outside : s.service = t.service :=
  (congrArg State.service h : s.outside.service = t.outside.service)
theorem State.powered_of_outside : s.powered = t.powered :=
  (congrArg State.powered h : s.outside.powered = t.outside.powered)
theorem State.pending_of_outside : s.pending = t.pending :=
  (congrArg State.pending h : s.outside.pending = t.outside.pending)
end

end Sys2Proof.Machine
end

