-- ==== Sys2Proof/Laws/Shapes.lean ====
section
/-!
SUPPORT. Laws/Shapes.lean: what the shared shapes of rows do (an event of a wall, a register write, an instruction of a tile,
the end of a hod operation, a packet at an endpoint), the answer of a register access, and reads and writes of wall SRAM.
-/
namespace Sys2Proof.Machine
open Sys2Proof

variable {s : State}

/-! ### Events of a wall -/
theorem onWall_on {w : Nat} (f : State → State) (hp : s.populated w = true) (hq : s.powered = true) :
    onWall w s f = .next (f s) := by simp [onWall, hp, hq]
theorem onWall_dark {w : Nat} (f : State → State) (hp : s.populated w = true) (hq : s.powered = false) :
    onWall w s f = .next s := by simp [onWall, hp, hq]
theorem onWall_absent {w : Nat} (f : State → State) (hp : s.populated w = false) :
    onWall w s f = .fault .unpopulatedWall := by simp [onWall, hp]
theorem onWall_not_refused {w : Nat} (f : State → State) (r : Refusal) : onWall w s f ≠ .refused r := by
  unfold onWall
  split <;> simp

/-! ### The answer of a register access (R409) -/
theorem State.answer_ok (m : Mid) (a : Nat) (wr : Bool) (v : Word) :
    s.answer m a wr 0 v = { s with last := { mid := m, addr := a, value := v, status := 0 } } := by
  simp [State.answer]
theorem State.answer_last (m : Mid) (a : Nat) (wr : Bool) (st : Nat) (v : Word) :
    (s.answer m a wr st v).last = { mid := m, addr := a, value := (if st = 0 then v else 0), status := st } := by
  by_cases hs : st = 0
  · simp [State.answer, hs]
  · simp only [State.answer, hs, if_false]
    split <;> split <;> simp
/-! ### Register writes -/
section
variable {m : Mid} {a : Nat} {eff : State → State × Nat}
theorem regRow_done {u : State} (hp : s.powered = true) (hc : s.regCheck m.toNat a true = 0) (he : eff s = (u, 0)) :
    regRow s m a eff = .next (u.answer m a true 0 0) := by
  simp [regRow, State.regWrite, hp, hc, he]
theorem regRow_refused {u : State} {st : Nat} (hp : s.powered = true) (hc : s.regCheck m.toNat a true = 0) (he : eff s = (u, st))
    (hs : st ≠ 0) (hd : doorbellQueue a = none) : regRow s m a eff = .next (s.answer m a true st 0) := by
  simp [regRow, State.regWrite, hp, hc, he, hs, hd]
theorem regRow_denied (hp : s.powered = true) (hc : s.regCheck m.toNat a true ≠ 0) :
    regRow s m a eff = .next (s.answer m a true (s.regCheck m.toNat a true) 0) := by
  simp [regRow, State.regWrite, hp, hc]
theorem regRow_dark (hp : s.powered = false) : regRow s m a eff = .next s := by
  simp [regRow, State.regWrite, hp]
end

/-! ### Instructions of a tile -/
section
variable {x : TileRef} {b : Bank} {stream : Bool} {ready : Tile → Nat} {run : Bank → Nat → State → State}
theorem seqRow_runs (hp : s.populated x.w.val = true) (hq : s.powered = true) (hb : s.seqBank x.w.val x.t.val = some b) :
    seqRow x s true stream ready run =
      (let r := s.issueIns x.w.val x.t b stream (ready (s.tile x.w.val x.t.val))
       .next (run b r.2 r.1)) := by
  simp [seqRow, onWall_on _ hp hq, hb]
theorem seqRow_illegal (hp : s.populated x.w.val = true) (hq : s.powered = true) (hb : s.seqBank x.w.val x.t.val = some b) :
    seqRow x s false stream ready run =
      .next ((s.issueIns x.w.val x.t b stream (ready (s.tile x.w.val x.t.val))).1.faultAt x.w.val x.t.val b 1) := by
  simp [seqRow, onWall_on _ hp hq, hb]
theorem seqRow_idle (hp : s.populated x.w.val = true) (hb : s.seqBank x.w.val x.t.val = none) (legal : Bool) :
    seqRow x s legal stream ready run = .next s := by
  simp [seqRow, onWall, hp, hb]
end

/-! ### Ends of hod operations and packets at endpoints -/
theorem hodDone_runs {x : TileRef} {p : HodKind → Bool} {run : HodOp → State → State} {o : HodOp}
    (hp : s.populated x.w.val = true) (hq : s.powered = true) (ho : (s.tile x.w.val x.t.val).chan = some o) (hk : p o.kind = true)
    (hd : o.dead = false) :
    hodDone x s p run = .next (run o (s.setTile x.w.val x.t.val { (s.tile x.w.val x.t.val) with chan := none })) := by
  simp [hodDone, onWall_on _ hp hq, ho, hk, hd]
theorem endpointRow_serves {w r j : Nat} {p : Packet} {run : State → State × Ans} (hp : s.populated w = true) (hq : s.powered = true) :
    endpointRow w r j p s run = .next (s.serve w r j p run) := onWall_on _ hp hq
theorem State.serve_takes {w r j : Nat} {p : Packet} {run : State → State × Ans} {u : State} {e : InFlight} (ha : p.isAnswer = false)
    (ht : s.take (.atPort w r j) p (s.wall w).cycle (fun e => sameStream e.pkt p) = some (u, e)) (hl : e.arriving w = false) :
    s.serve w r j p run = (run u).1.answerAt w r p (run u).2 := by
  simp [State.serve, ha, ht, hl]

/-! ### Contexts of a tile -/
@[simp] theorem Tile.bank_setBank_same (x : Tile) (b : Bank) (c : Ctx) : (x.setBank b c).bank b = c := by cases b <;> rfl
theorem Tile.bank_setBank_ne (x : Tile) {b d : Bank} (h : d ≠ b) (c : Ctx) : (x.setBank b c).bank d = x.bank d := by
  cases b <;> cases d <;> first | rfl | exact absurd rfl h
@[simp] theorem State.ctx_onCtx_same (w t : Nat) (b : Bank) (g : Ctx → Ctx) :
    (s.onCtx w t b g).ctx w t b = g (s.ctx w t b) := by
  simp [State.onCtx, State.ctx]
theorem State.ctx_onCtx_ne (w t : Nat) {b d : Bank} (h : d ≠ b) (g : Ctx → Ctx) : (s.onCtx w t b g).ctx w t d = s.ctx w t d := by
  simp [State.onCtx, State.ctx, Tile.bank_setBank_ne _ h]
theorem Tile.advance_gen (x : Tile) (b d : Bank) : ((x.advance b).bank d).gen = (x.bank d).gen := by
  have h : ∀ c, c.gen = (x.bank b).gen → ((x.setBank b c).bank d).gen = (x.bank d).gen := by
    intro c hc
    by_cases e : d = b
    · subst e
      simp [hc]
    · simp [Tile.bank_setBank_ne _ e]
  unfold Tile.advance
  simp only []
  split
  · exact h _ rfl
  · split
    · split
      · split
        · cases b <;> exact h _ rfl
        · exact h _ rfl
      · split
        · cases b <;> exact h _ rfl
        · exact h _ rfl
    · exact h _ rfl

/-! ### Wall SRAM without error marks (R327 to R330) -/
theorem State.errWords_clean (h : s.sramErr = []) (w b off n : Nat) : s.errWords w b off n = [] := by simp [State.errWords, h]
theorem State.sramRead_clean (h : s.sramErr = []) (w b off n : Nat) : s.sramRead w b off n = (s, false) := by
  simp [State.sramRead, State.errWords_clean h]
theorem State.sramWrite_clean (h : s.sramErr = []) (w b off : Nat) (bs : List Byte) :
    s.sramWrite w b off bs = (s.setSram w b off bs, true) := by
  simp [State.sramWrite, State.errWords_clean h]

end Sys2Proof.Machine
end

