-- ==== Sys2Proof/Tests/Slice0.lean ====
section
/-!
SUPPORT. Tests/Slice0.lean: tests of the model against worked values of the spec, ill-formed commands that the checks refuse,
and for every statement with hypotheses states and operands that meet them together.
-/
namespace Sys2Proof.Tests
open Sys2Proof Sys2Proof.Machine
set_option Elab.async false

/-! ### States for the tests -/

/-- Wall `w` READY: its fabric runs, its pins and VIO are live. -/
def wallUp (s : State) (w : Nat) : State :=
  let s1 := ((s.setPhase w 6).setFl (R.KILN_STATUS w) F.KILN_STATUS_cfg 1).setFl (R.WPWR_CTRL w) F.WPWR_CTRL_state 0
  (s1.setWallState w 0).setWall w { gsr := false, pinsOn := true, tmemWe := true, vioLive := true }

/-- A booted module on a host, with walls 0 and 1 READY. -/
def up : State := { (wallUp (wallUp State.reset 0) 1) with trowel := { running := true, booted := true }, cxl := { up := true, flit256 := true } }

/-- A module after its boot, whose part populates two walls. -/
def small : State := { up with part := { walls := 2, gradeE := false } }

def x0 : TileRef := ⟨0, 5⟩

/-- Flow 7 of wall 0, with tile 5 as its set, is RUNNING: in bank `b` of the tile, with context `c`. -/
def runs (s : State) (b : Bank) (c : Ctx) : State :=
  let s1 := (s.setFl (R.FD_CTRL 0 7) F.FD_CTRL_state 4).setFl (R.FD_BIND 0 7) F.FD_BIND_tiles 32
  s1.setTile 0 5 { ((s1.tile 0 5).setBank b { c with flow := some 7 }) with cur := some b }

/-- A context with a value in each register group. -/
def ctx1 : Ctx := { gen := [(0, 5), (1, 0xFFFFFFFF), (23, 0x123)], p := [(1, 10)], b := [(1, 8)], l := [(1, 4)], m := [(1, 0xFFFF)], pc := 100
                    agcfg := 4 }

/-- Lease 0 of wall 0 lets master 0 use every flow and course of the wall. -/
def leased (s : State) : State :=
  ((s.setFl (R.LS_CTRL 0 0) F.LS_CTRL_valid 1).setFl (R.LS_FLOWS 0 0) F.LS_FLOWS_count 512).setFl (R.LS_COURSES 0 0) F.LS_COURSES_courses 0xFFFF

/-- Flow `f` of wall 0 in state `st`, with tile 5 of course 0 as its set. -/
def flowIn (s : State) (f st : Nat) : State :=
  (s.setFl (R.FD_CTRL 0 f) F.FD_CTRL_state st).setFl (R.FD_BIND 0 f) F.FD_BIND_tiles 32

/-- A best-effort packet of `n` bytes. -/
def pkt (typ : BitVec 3) (dst src : BitVec 16) (mid : Mid) (addr : W64) (n : Nat) (data : Bytes) : Packet :=
  { typ := typ, cls := false, vc := typ = 2, epoch := false, len := 0, la := 0, ack := false, dst := dst, src := src, mid := mid, bytes := BitVec.ofNat 10 (n - 1)
    tag := 3, conn := 0, status := 0, aux := 0, addr := addr, payload := data }

/-- A command of queue 0 for wall `w`, with its argument words. -/
def cc (w : BitVec 3) (args : Words) : CmdCtx := { q := 0, handle := 5, cid := 9, fence := false, wall := w, buf := 0x4000, len := 0x100000, args := args }

/-- The state that an outcome answers. -/
def nextOf (o : Out) : State :=
  match o with
  | .next t => t
  | _ => State.reset

/-! ### Worked examples of the spec -/

/-- R12's examples: the kiln block of WALL.3, the registers of LINK.53. -/
theorem test_addresses_of_blocks : R.KILN_STATUS 3 = 0x01C20000 ∧ R.LK_CTRL 3 5 = 0x01C85000 := by decide +kernel

/-- "Rounding a product" (02_bricks): three products moved with three rounding modes. -/
theorem test_move_rounds_a_product :
    [3, 5, -5].map (fun a : Int => [0, 1, 2].map (fun m => (moveOf (BitVec.ofNat 112 (m * 2 ^ 29)) (a * 0x400000) 0 0 true).r)) =
      [[0x000001, 0x000002, 0x000002], [0x000002, 0x000003, 0x000002], [0xFFFFFD, 0xFFFFFE, 0xFFFFFE]] := by decide +kernel

/-- "Recovering a sum past the guard bits" (02_bricks): 511 products of 1.0 fit, the 512th wraps and the tally takes it. -/
theorem test_sum_past_the_guard_bits :
    let one : Int := 2 ^ 46
    let a := accUpdate { value := BitVec.ofInt 56 (511 * one) } 2 false one
    let f : Acc := accUpdate a 2 false (88 * one)
    a.value = BitVec.ofInt 56 (-512 * one) ∧ a.tally = 1 ∧ a.g = true ∧ f.value = 0x96000000000000 ∧ f.folded = 0x96 * 2 ^ 48 := by
  decide +kernel

/-- "A fractional division" (02_bricks): 23 steps on |A| = 0.25 by |B| = 0.5 leave R = 0 and Q = 0x40_0000. -/
theorem test_fractional_division :
    (List.range 23).foldl (fun v _ => divStep v 0x400000) (0x200000 * 2 ^ 24 : BitVec 56) = 0x400000 := by decide +kernel

/-- The worked example of R166 and R167: a buffer of 64 shortened to 48 by LDL, and by LDLI. -/
def ring64 : Ctx := { p := [(1, 0x138)], b := [(1, 0x100)], l := [(1, 64)] }
theorem test_ldl_wraps_by_the_old_length :
    let c := { ring64 with lsh := [(1, 48)], lpend := 2 }
    let ptrs (n : Nat) : BitVec 16 := ((List.range n).foldl (fun (d : Ctx) _ => d.stepPtr 1 4) c).ptr 1
    (ptrs 1, ptrs 2, ptrs 10, ptrs 13, ptrs 14) = (0x13C, 0x100, 0x120, 0x12C, 0x100) := by decide +kernel
theorem test_ldli_folds_at_once :
    let c := ring64.lengthNow 1 48
    let ptrs (n : Nat) : BitVec 16 := ((List.range n).foldl (fun (d : Ctx) _ => d.stepPtr 1 4) c).ptr 1
    (ptrs 0, ptrs 9, ptrs 10, ptrs 13) = (0x108, 0x12C, 0x100, 0x10C) := by decide +kernel

/-- "FLOW.1269" (05_flows_and_dispatch): its target at k = 1,237, the next one, and its registers' address and words. -/
theorem test_flow_1269_targets :
    schedTarget 76874 343597 2000 1237 = 0x00012C4A9E5B4245 ∧ schedTarget 76874 343597 2000 1238 = 0x00012C4A9E7C06E1 ∧
      nextIndex 76874 2000 1999 = (76875, 0) := by decide +kernel
theorem test_flow_1269_registers :
    R.FD_CTRL 2 245 = 0x01809EA0 ∧ fld 0x00001200 F.FD_CTRL_prio = 4 ∧ fld 0x00001200 F.FD_CTRL_ovr_ev = 1 ∧
      fld 0x0C100207 F.FD_BIND_course = 7 ∧ fld 0x0C100207 F.FD_BIND_tiles = 0x20 ∧ fld 0x0C100207 F.FD_BIND_entry_pc = 0x100 ∧
      fld 0x0C100207 F.FD_BIND_first_slot = 12 ∧ fld 0x0000FA02 F.FD_SCHED_mode = 2 ∧ fld 0x0000FA02 F.FD_SCHED_div = 2000 := by
  decide +kernel

/-- "Slot 53 of LINK.35" (09_links_and_field_pins): the frame's configuration and the slot's destination. -/
theorem test_slot_53_registers :
    R.LK_SF_CFG 2 3 = 0x01883040 ∧ R.LK_RXS_DST 2 3 53 = 0x01883750 ∧
      fld 0x07D0247F F.LK_SF_CFG_slots = 63 ∧ fld 0x07D0247F F.LK_SF_CFG_blocks = 1 ∧ fld 0x07D0247F F.LK_SF_CFG_txmode = 2 ∧
      fld 0x07D0247F F.LK_SF_CFG_skip = 1 ∧ fld 0x07D0247F F.LK_SF_CFG_div = 2000 ∧
      fld 0x00230475 F.LK_RXS_DST_dst = 0x0475 ∧ fld 0x00230475 F.LK_RXS_DST_words = 3 ∧ mkDst 2 7 5 = 0x0475 ∧ mkDst 2 20 3 = 0x0543 := by
  decide +kernel

/-- The check value that is published for CRC-32C (R443): of the nine characters 1 to 9. -/
theorem test_crc32c_check_value : crc32c [0x31, 0x32, 0x33, 0x34, 0x35, 0x36, 0x37, 0x38, 0x39] = 0xE3069283 := by decide +kernel

/-- fp32 (R154), from the binary32 format: 1.5 + 2.25 = 3.75; 3.0 / 2.0 = 1.5; the square root of 2.25 is 1.5. -/
theorem test_fp32 :
    (fpAdd 0x3FC00000 0x40100000).r = 0x40700000 ∧ (fpDiv 0x40400000 0x40000000).r = 0x3FC00000 ∧ (fpSqrt 0x40100000).r = 0x3FC00000 ∧
      (fpMul 0x3FC00000 0xC0000000).r = 0xC0400000 := by decide +kernel

/-! ### One command on a small state -/

/-- Bank 0 of tile 5 of wall 0 after a command. -/
def after (i : Instr) (s : State) : Ctx := ((nextOf (exec i s)).tile 0 5).bank .b0
/-- Tile 5 of wall 0 issues from bank 0, with 5 and −1 in R0 and R1. -/
def alu0 : State := runs up .b0 ctx1

/-- 5 + 0xFFFFFFFF wraps to 4 with a carry; 5 − (−1) = 6 with a borrow (R146). -/
theorem test_alu_add_wraps :
    let c := after (.aluAdd x0 { rd := 2, ra := 0, rb := 1, cond := 0, setf := true }) alu0
    (c.reg .b0 2, c.sz, c.sc, c.pc) = (4, false, true, 101) := by decide +kernel
theorem test_ldi_sign_extends :
    ((after (.ldi x0 { rd := 2, imm := 0x8000, setf := false, cond := 0 }) alu0).reg .b0 2) = 0xFFFF8000 := by decide +kernel
theorem test_ldp_loads_a_pointer :
    ((after (.ldp x0 { k := 1, m := 0, reg := 0, i := true, imm := 20 }) alu0).ptr 1) = 20 := by decide +kernel
theorem test_br_takes_its_target : (after (.br x0 0 0x7FF) alu0).pc = 0x7FF := by decide +kernel
theorem test_create_makes_a_flow_stopped :
    (nextOf (exec (.create 0 0 3) (flowIn (leased up) 3 0))).fstate 0 3 = 1 := by decide +kernel
theorem test_unpopulated_wall_answers_access_denied :
    (nextOf (exec (.registerRead 0 (R.KILN_STATUS 5)) small)).last.status = stAccessDenied := by decide +kernel

/-! ### Ill-formed commands are refused by the checks -/
theorem test_packet_payload_agrees_with_its_head :
    (Instr.gatewayEntry 0 (pkt 0 0 0 0 0 8 [1, 2, 3])).wellFormed = false ∧
      (Instr.gatewayEntry 0 (pkt 0 0 0 0 0 3 [1, 2, 3])).wellFormed = true := by decide +kernel
theorem test_chain_frame_too_long :
    (Instr.image { typ := 3, dst := 0, src := 0, seq := 0, payload := List.replicate 1025 0, crcOk := true }).wellFormed = false := by
  decide +kernel
theorem test_image_header_length :
    (Instr.rcvDone 0 { peger := false, header := [1, 2], payload := [], sigOk := true }).wellFormed = false := by decide +kernel
theorem test_entry_has_eleven_arguments : (Instr.nop (cc 0 (List.replicate 12 0))).wellFormed = false := by decide +kernel
theorem test_record_and_block_lengths :
    (Instr.kilnFrame 0 [1]).wellFormed = false ∧ (Instr.hdmWrite 0 [1] 0).wellFormed = false ∧
      (Instr.xmodemBlock [1]).wellFormed = false ∧ (Instr.commandFetch 0 [1] []).wellFormed = false := by decide +kernel
theorem test_table_indices :
    (Instr.routeTableWrite 0 (.wall 0) false 24 0 0).wellFormed = false ∧ (Instr.routeTableWrite 0 .switch false 11 0 0).wellFormed = false ∧
      (Instr.slotTableWrite 0 (.wall 0) false 0 12 0 0).wellFormed = false ∧ (Instr.slotTableWrite 0 (.wall 0) false 0 0 16 0).wellFormed = false := by
  decide +kernel
theorem test_samples_name_monitors :
    (Instr.voltageCompare [(88, 0)]).wellFormed = false ∧
      (Instr.telemetrySample { vin := 0, iin := 0, mons := [], power := List.replicate 9 0 }).wellFormed = false := by decide +kernel

/-! ### Words of the sequencer written out from R144 to R154 -/

/-- A word of each class: fields from the tables, bit by bit. -/
theorem test_words_decode :
    seqDecode x0 0 0b000_0000011_01_10_00_00000010_0001_1001 =
        some (.pat x0 { slot := 3, ba := 1, bb := 2, bc := 0, step := 2, hold := 1, cond := 9 }) ∧
      seqDecode x0 0 0b001_01111_00000_00001_00010_0011_1_0000 = some (.aluCmp x0 { rd := 0, ra := 1, rb := 2, cond := 3, setf := true }) ∧
      seqDecode x0 0 0b010_001_00101_1000000000000001_0_1010 = some (.lui x0 { rd := 5, imm := 0x8001, setf := false, cond := 10 }) ∧
      seqDecode x0 0 0b011_0110_111_10_01001_1_11111111111110 = some (.stepi x0 { k := 7, m := 2, reg := 9, i := true, imm := 0x3FFE }) ∧
      seqDecode x0 0 0b100_0001_0010_000000000_100000000001 = some (.callw x0 2 0x801) ∧
      seqDecode x0 0 0b101_00111_01100_00000_001001_00000000 = some (.wrs x0 12 9) ∧
      seqDecode x0 0 0b110_00011_0001_0010_0011_0100_00000_000 = some (.fma x0 { fd := 1, fa := 2, fb := 3, fc := 4, reg := 0 }) := by
  decide +kernel
/-- R142: class 0b111, a reserved operation code and a reserved condition spell nothing. -/
theorem test_reserved_words_spell_nothing :
    seqDecode x0 0 0xE0000000 = none ∧ seqDecode x0 0 0b001_10010_000000000000000_0000_00000 = none ∧
      seqDecode x0 0 0b100_0000_1011_000000000_000000000000 = none := by decide +kernel
/-- R150: a REP whose end lies before its body is illegal. -/
theorem test_rep_end_before_its_body : seqDecode x0 8 0x88005008 = none ∧ (seqDecode x0 7 0x88005008).isSome = true := by decide +kernel

/-! ### States and operands that meet the hypotheses of the statements -/

def idle1 : State := { up with pending := [.fetchFail 3, .powerOn] }
/-- Tile 5 of wall 0 issues from bank 0, from bank 1 with a repeat active, and from the fast bank. -/
def sA : State := runs up .b0 ctx1
def sB : State := runs up .b1 { ctx1 with loops := [⟨98, 100, 2, false⟩], p := [(1, 11)] }
def sF : State := runs up .fast { ctx1 with sz := true, loops := [⟨98, 100, 1, false⟩, ⟨90, 105, 3, true⟩] }
def aF : AluF := { rd := 2, ra := 0, rb := 1, cond := 0, setf := true }
def lF : AliF := { rd := 1, imm := 0xFFFF, setf := true, cond := 10 }
def gF : AguF := { k := 1, m := 3, reg := 0, i := false, imm := 0x3FFF }
def gF0 : AguF := { k := 0, m := 0, reg := 1, i := true, imm := 0 }
def gF3 : AguF := { k := 1, m := 0, reg := 1, i := true, imm := 3 }
def rF : RepF := { src := true, count := 0, ra := 0, fin := 101 }
def rF5 : RepF := { src := true, count := 0, ra := 5, fin := 101 }
def rFm : RepF := { src := false, count := 4095, ra := 0, fin := 4095 }
def tF : TpF := { flag := 0, mode := 0, mask := 0xFFFF, cond := 0 }
/-- Flow 7 owns the fp32 registers. -/
def sFp : State := sA.setTile 0 5 { (sA.tile 0 5) with fpown := some 7, f := [(1, 0x3F800000), (2, 0xC0000000)] }
def fF : FpuF := { fd := 3, fa := 1, fb := 2, fc := 1, reg := 4 }
def pF : PatF := { slot := 3, ba := 0, bb := 2, bc := 1, step := 2, hold := 0, cond := 0 }
def pN : PatF := { slot := 3, ba := 1, bb := 1, bc := 1, step := 255, hold := 15, cond := 1 }
/-- Way 0 of the tile holds slot 3. -/
def sW : State := sA.setTile 0 5 { (sA.tile 0 5) with ways := [(0, { slot := 3, valid := true })] }
/-- Tiles 5 and 6 of wall 0 are flow 7's set; tile 6 holds it in bank 1. -/
def sTwo : State := (sA.setFl (R.FD_BIND 0 7) F.FD_BIND_tiles 96).setTile 0 6 { c1 := { flow := some 7 } }
def lastTile1 := (sB.setFl (R.FD_CTRL 0 7) F.FD_CTRL_pending 1)
/-- A window handler of flow 7 has interrupted bank 0. -/
def sH : State := sA.setTile 0 5 { (sA.tile 0 5) with cur := some .fast, handlerOf := some 7, interrupted := some .b0 }
/-- The other tile of the set waits at SYNC. -/
def sSync : State := sTwo.setTile 0 6 { cur := some .b1, c1 := { flow := some 7, mark := .sync } }
/-- Six windows are resident; then seven; then, for a fixed flow, eight. -/
def sWin (n : Nat) : State := runs up .b0 { ctx1 with depth := n, wres := n, wix := BitVec.ofNat 3 n }
def savewAnd1 := (sWin 7).setFl (R.FD_CTRL 0 7) F.FD_CTRL_fixed 1
/-- Four repeats are active. -/
def sRep : State := runs up .b0 { ctx1 with loops := List.replicate 4 ⟨98, 105, 2, false⟩ }
/-- An area with a SAVEL record, and one with a SAVEU record, at the head of the save stack. -/
def sSave (kind : Word) : State := (runs up .b0 { ctx1 with saveDepth := 1, saveHead := 9 }).setAreaWord 0 9 0 (kind <<< 16)
def dF : SendF := { ra := 2, rb := 1, kind := 1, len := 3, gen := true }
/-- V-register 2 names tile 8 of wall 0 as the destination. -/
def sSend : State := runs up .b0 { ctx1 with gen := [(1, 0x100), (2, 0x8)] }
def sendPuts1 := { dF with gen := false, len := 4 }
def sendPuts2 := { dF with gen := false, len := 7 }
/-- A send of flow 7 is outstanding. -/
def sOut : State := sA.setTile 0 5 { (sA.tile 0 5) with outst := [(3, 7)], sendCnt := 4 }
def pairReads1 := { up with pairs := [(R.WTICK_LO 1, some 7)], tick := 0x123456789A }
def pairReads2 := { up with tick := 0x123456789A }
/-- Flow 7 is bound to the fast bank of tile 5 and placed. -/
def sFast : State := (sA.setFl (R.FD_CTRL 0 7) F.FD_CTRL_fastb 1).setFlow 0 7 { placed := true }
/-- A request for slot 3 waits; then its refill is in progress. -/
def rq : RefillReq := { kind := .demand, slot := 3 }
def sReq : State := sA.setTile 0 5 { (sA.tile 0 5) with waitq := [rq] }
def sRefill : State := sA.setTile 0 5 { (sA.tile 0 5) with refill := some { req := rq, way := 7 } }
/-- Master 0 holds wall 0's capture. -/
def sCap (st : Nat) : State := ((up.setFl (claimCap 0) F.CLAIM_held 1).setFl (R.CAP_STATUS 0) F.CAP_STATUS_state st)
def captures1 := { (sCap 1) with tick := 0x100000005 }
/-- Two words wait at tile 5's bond interface. -/
def sBuf : State := up.setTile 0 5 { bbuf := [{ g := false, words := [(1, 4, 9), (1, 5, 10)] }] }
/-- Tile 5's pattern has brick 3 on. -/
def sPat : State := sW.setTile 0 5 { (sW.tile 0 5) with curWay := some 0, ways := [(0, { slot := 3, valid := true, pat := BitVec.ofNat 3072 (2 ^ (2944 + 72 + 3)) })] }
def sL (st : Nat) : State := leased (flowIn up 7 st)
def flowLifecycle1 := (sL 1).setFl (R.FD_CTRL 0 7) F.FD_CTRL_susp 1
def enablePuts1 := (sL 1).setFl (R.FD_CTRL 0 7) F.FD_CTRL_fixed 1
def enablePuts2 := (sL 1).setFl (R.FD_CTRL 0 7) F.FD_CTRL_fastb 1
def triggers1 := (sL 3).setFl (R.FD_CTRL 0 7) F.FD_CTRL_pending 1
/-- Doorbell 31 is flow 7's wake source. -/
def sBell : State := ((sL 2).setFl (R.FD_WAKE 0 7) F.FD_WAKE_kind 4).setFl (R.FD_WAKE 0 7) F.FD_WAKE_index 31
def sSch (st mode : Nat) : State := (sL st).setFl (R.FD_SCHED 0 7) F.FD_SCHED_mode mode
/-- Lease 3 names a flow that lease 0 grants. -/
def sLs : State := (leased up).setFl (R.LS_FLOWS 0 3) F.LS_FLOWS_count 1
/-- Flow `f` is IDLE with a one-shot target 5 on base 0, which stands at 10; it is near-admitted or not. -/
def sDue (f : Nat) (near : Bool) : State :=
  (((flowIn up f 2).setFl (R.FD_SCHED 0 f) F.FD_SCHED_mode 1).setFlow 0 f { armed := some 5, near := near }).setBase 0 0 { v := 10 }
/-- Base 0 predicts, and flow 7's target is 100 units (then 2^40) ahead. -/
def sPre (t : Nat) (pre : Bool) : State :=
  ((((flowIn up 7 2).setFl (R.FD_SCHED 0 7) F.FD_SCHED_mode 1).setFlow 0 7 { armed := some (BitVec.ofNat 64 t), near := pre, prestaged := pre }).setBase 0 0 { vel := 0x10000 }).setFl
    (R.ANG_STATUS 0 0) F.ANG_STATUS_pred 1
/-- Flow 7 is RUNNABLE and resident in bank 0 of tile 5; and in the fast bank. -/
def sRes : State := (flowIn up 7 3).setTile 0 5 { c0 := { flow := some 7 } }
def sResF : State := ((flowIn up 7 3).setFl (R.FD_CTRL 0 7) F.FD_CTRL_fastb 1).setTile 0 5 { cf := { flow := some 7 } }
def hodStarts1 := (sRes.setTile 0 5 { chanq := [{ kind := .areas, flow := 3, cls := 2 }, { kind := .fpSwap, flow := 4, cls := 0 }] })
def sHod (o : HodOp) : State :=
  (runs up .b0 { ctx1 with depth := 7, wres := 7, saveDepth := 1, saveHead := 9, spilled := 1 }).setTile 0 5
    { ((runs up .b0 { ctx1 with depth := 7, wres := 7, saveDepth := 1, saveHead := 9, spilled := 1 }).tile 0 5) with chan := some o }
def op (k : HodKind) : HodOp := { kind := k, flow := 7, ret := [4, 5] }
/-- Base 0 of wall 0 runs from source `src` with 1000 pulses a revolution; its state is `b`. -/
def sAng (src : Nat) (b : AngBase) : State :=
  ((up.setFl (R.ANG_CFG 0 0) F.ANG_CFG_src src).setFl (R.ANG_SCALE 0 0) F.ANG_SCALE_ppr 1000).setBase 0 0 b
def b1 : AngBase := { edge := 0x100000000, v := 0x100000000, vel := 0x10000 }
def reference1 := (sAng 1 { edge := 0x1FFFFFFFF }).setFl (R.ANG_CFG 0 0) F.ANG_CFG_zfix 1
/-- The last two positive crossings came 100 ticks apart; the next at tick 30 is outside the window. -/
def sMains : State := { ((sAng 3 { b1 with posTick := some 0, posPeriod := some 100 }).setFl (R.ANG_LOSS 0 0) F.ANG_LOSS_mwin 8).setFl (R.ANG_STATUS 0 0) F.ANG_STATUS_valid 1
                       with tick := 30 }
def basesAdvance1 := { sAng 4 b1 with tick := 77 }
def basesAdvance2 := { sAng 1 b1 with tick := 77 }
def basesAdvance3 := { sAng 1 b1 with tick := 10000000 }
/-- Base 0 of wall 0 imports base 1 of wall 1. -/
def sAsh : State := (((((sAng 5 {}).setFl (R.ANG_CFG 1 1) F.ANG_CFG_src 4).setBase 1 1 b1).setFl (R.ASH_SRC 0 0) F.ASH_SRC_wall 1).setFl (R.ASH_SRC 0 0) F.ASH_SRC_ang 1).setFl (R.ASH_SRC 0 0) F.ASH_SRC_valid 1
/-- A feed message of 12 bytes for base 0 from master 0, its flags in the third word. -/
def feedPkt (flags : Byte) : Packet :=
  { typ := 3, cls := false, vc := false, epoch := false, len := 1, la := 0, ack := false, dst := 0, src := 0, mid := 0, bytes := 11, tag := 0, conn := 0
    status := 0, aux := 0, addr := 0, payload := [1, 0, 0, 0, 0, 0, 2, 0, 0, flags, 0, 0] }
def sLoss (src act : Nat) : State :=
  { ((sAng src b1).setFl (R.ANG_LOSS 0 0) F.ANG_LOSS_limit 1).setFl (R.ANG_CFG 0 0) F.ANG_CFG_lor_act act with tick := 1024 }
def ashV (w a : Nat) : Word := setFld (setFld (setFld 0 F.ASH_SRC_wall w) F.ASH_SRC_ang a) F.ASH_SRC_valid 1
/-- Master 0 holds compare unit 15 and pin 23 of wall 0, and the pin is a timed output; the unit's register is `v`. -/
def sAcu (v : Word) (a : Acu) (b : AngBase) : State :=
  (((((up.setFl (claimAcu 0 15) F.CLAIM_held 1).setFl (claimPin 0 23) F.CLAIM_held 1).setFl (R.FP_CFG 0 23) F.FP_CFG_func 3).wr (R.ACU_CTRL 0 15) v).setAcu 0 15 a).setBase 0 0 b
def acuV (en act : Nat) : Word := setFld (setFld (setFld 0 F.ACU_CTRL_en en) F.ACU_CTRL_act act) F.ACU_CTRL_pin 23
def sTick (t : Nat) (e : Int) : State := { up.setWall 0 { (up.wall 0) with tickErr := e } with tick := t }
def tickCopies1 := (sTick 1024 3).setFl (R.WTICK_STATUS 0) F.WTICK_STATUS_aligned 0
def tickCopies2 := (sTick 1024 (-1)).setFl (R.WTICK_STATUS 0) F.WTICK_STATUS_aligned 0
def r1 : EvRec := { code := 24, args := [1, 2, 3], stamp := { tick := 5, seq := 0, source := 0, ang := 0, av := false, ap := false, angle := 0 } }
def sEv (size lost : Nat) : State := (up.setWall 0 { (up.wall 0) with raised := [r1], lostPend := lost, lostFlag := true }).setFl (R.WEV_LOG_SIZE 0) F.WEV_LOG_SIZE_bytes size
def wallsReport1 := { up with tick := 4096 }
def theHub1 := { up with hubWait := [r1] }
/-- Both walls have reported tick 6. -/
def sRep6 : State := { ((up.setFl (emOf r1) F.EM_HUB_ring 0).setWall 0 { (up.wall 0) with lastReport := 6 }).setWall 1 { (up.wall 1) with lastReport := 6 } with tick := 6, hubWait := [r1] }
def theHub2 := { up with ringLostSeen := true }
def theHub3 := up.setFl (R.MSIX_PBA 3) ⟨31, 1⟩ 1
/-- A write of four bytes from tile 5 of wall 0 to tile 8 of wall 0, and to tile 8 of wall 1. -/
def pW : Packet := pkt 0 (mkDst 0 1 0) (mkDst 0 0 5) 32 0x40 4 [1, 2, 3, 4]
def pX : Packet := pkt 0 (mkDst 1 1 0) (mkDst 0 0 5) 32 0x40 4 [1, 2, 3, 4]
def injection1 := { pW with dst := mkDst 0 24 0 }
/-- The packet stands at router 0, at the switch, and at wall 1. -/
def sAt (a : At) (p : Packet) : State := { up with flight := [{ at_ := a, pkt := p }], tick := 64 }
def packetsTravel1 := { sAt (.router 0 0) pW with flight := [] }
def packetsTravel2 := { sAt (.router 0 1) pW with flight := [] }
def packetsTravel4 := { (sAt (.router 0 0) pW).wr (R.BOND_ROUTE 0 0 0 1) 0 with flight := [] }
def packetsTravel5 := { sAt (.toSwitch 0) pX with flight := [] }
/-- The switch's input 0 is closed. -/
def sXs : State := (sAt (.toSwitch 0) pX).wr (R.XS_ROUTE 0 0) 0
def packetsTravel6 := { sXs with flight := [] }
def packetsTravel7 := { sAt (.toWall 1) pX with flight := [] }
def pM : Packet := pkt 3 (mkDst 0 0 5) 0 0 0 8 [1, 2, 3, 4, 5, 6, 7, 8]
def answersEnd1 := { up with cxl := {} }
def pA : Packet := { pkt 4 (mkDst 0 0 5) (mkDst 0 1 0) 32 0 4 [] with vc := true }
def epochsFlip1 := up.setFl (R.BOND_EPOCH 0) F.BOND_EPOCH_pending 1
def epochsFlip2 := { up.setFl R.XS_EPOCH F.BOND_EPOCH_pending 1 with tick := 128 }
def sGc : State := up.setFl (R.GC_CTRL 0 63) F.GC_CTRL_valid 1
def ringV (en base len : Nat) : Word := setFld (setFld (setFld 0 F.BI_RING_en en) F.BI_RING_base base) F.BI_RING_len len
def dC : Domain := .course 0 15
/-- Course 15 of wall 0 began to close 12,500 ticks ago. -/
def sDrain : State := { (up.setDom dC 2).setWall 0 { (up.wall 0) with closing := [(15, 0)] } with tick := 12500 }
def domainsDrain1 := up.setWall 0 { (up.wall 0) with realigning := true }
/-- Requests of master `m` from tile 8 of wall 0, at a bank or a device. -/
def rdP (m : Mid) (addr : W64) (n : Nat) : Packet := pkt 1 (mkDst 0 18 0) (mkDst 0 1 0) m addr n []
def wrP (m : Mid) (addr : W64) (l : Bytes) : Packet := pkt 0 (mkDst 0 18 0) (mkDst 0 1 0) m addr l.length l
/-- Wall 0's SRAM holds a byte at the end of bank 3, and lease 0 grants master 0 the regions of banks 4 and 5. -/
def sMem : State := { (((leased up).setFl (R.LS_SRAM 0 0) F.LS_SRAM_regions 0xFFFF).wr (R.SRAM_ACC_A 0 3) 2).wr (R.SRAM_ACC_A 0 5) 2 with sram := [(sramKey 0 3 0x3FFFFF, 9)] }
def sRet : State := up.setFl (R.SRAM_RET 0) F.SRAM_RET_req 0x20
def sWake : State := { ((up.setBankOn 0 3 false).setFl (R.SRAM_STATUS 0) F.SRAM_STATUS_ret 8).setWall 0 { (up.wall 0) with wakeAt := [(3, 0)] } with tick := 2500 }
/-- A wipe is under way while no firmware runs. -/
def sWipe : State := { up.setWall 0 { (up.wall 0) with wipe := some 5, cycle := 65536 } with trowel := {}, sram := [(sramKey 0 3 0, 9), (sramKey 0 7 4, 9)] }
def tamperWipes1 := up.setFl (R.SEC_STATUS 0) F.SEC_STATUS_wiped 1
/-- The devices of wall 0 are ready. -/
def sGd : State := { (((up.setFl (R.GD_STATUS 0 0) F.GD_STATUS_state 1).setFl (R.GD_STATUS 0 1) F.GD_STATUS_state 2).wr (R.GD_ACC_A 0 1 0) 2).setFl (R.GD_CFG 0) F.GD_CFG_ecc 0 with
                     gddr := [(gddrKey 0 1 0x40, 7)] }
def devicesServe1 := { rdP 0 0x3E 4 with dst := mkDst 0 17 0 }
/-- Lines 5 and 6 wait for the host's answer; region 47 changes its mode; a flush has begun. -/
def sBi : State := { (sGd.setGdx 0 0 { pendingBi := [(5, false, 0), (6, true, 0)], filter := [⟨5, true⟩, ⟨6, true⟩], flushing := some 0 }) with tick := 1250000 }
def devicesFollow1 := (sGd.setFl (R.GD_CFG 0) F.GD_CFG_ecc 1).setFl (R.GD_CFG 0) F.GD_CFG_patrol 1
def devicesFollow2 := up.setPhase 0 2
def devicesFollow3 := sGd.setFl (R.GD_REGION 0 0 47) F.GD_REGION_busy 1
def devicesFollow4 := sGd.setFl (R.GD_STATUS 0 1) F.GD_STATUS_stale 1
def devicesFollow5 := sGd.setFl (R.GD_REGION 0 0 0) F.GD_REGION_busy 1
/-- Master 0 holds lane 15 of wall 0, whose control register is `v`, in state `st`, with unit state `x`. -/
def sLk (v : Word) (st : Nat) (x : LinkX) : State :=
  (((up.setFl (claimLink 0 15) F.CLAIM_held 1).wr (R.LK_CTRL 0 15) v).setFl (R.LK_STATUS 0 15) F.LK_STATUS_state st).setLink 0 15 x
def lkV (mode rate en : Nat) : Word := setFld (setFld (setFld 0 F.LK_CTRL_mode mode) F.LK_CTRL_rate rate) F.LK_CTRL_en en
def linksTrain1 := { (sLk (lkV 1 5 1) 3 {}).setFl (R.LK_RX_TIMEOUT 0 15) F.LK_RX_TIMEOUT_limit 1 with tick := 1024 }
/-- A stream link of one slot of one block is up. -/
def sUp (x : LinkX) : State := sLk (lkV 1 5 1) 3 x
/-- A slot of one block with position `p` and `seq` `q`, its CRC good. -/
def slotBits (p q : Nat) : BitVec 512 := BitVec.ofNat 512 (p + q * 64 + crc16 (p + q * 64) 48 * 281474976710656)
def linksReceive1 := (sUp { rx := [{}], rxOpen := true, rxNext := 62 }).setFl (R.LK_SF_CFG 0 15) F.LK_SF_CFG_slots 63
def sLg : State := (sLk (lkV 4 5 1) 3 {}).setFl (R.LK_LG_CFG 0 15) F.LK_LG_CFG_crc 1
def bcast : Bytes := List.replicate 6 (0xFF : Byte) ++ List.replicate 54 (1 : Byte)
/-- Pin 23 of wall 0 has function `f` and is master 0's; pin 0 is a trip output that pin 23 trips on both edges. -/
def sPin (f : Nat) : State :=
  (((((up.setFl (claimPin 0 23) F.CLAIM_held 1).setFl (R.FP_CFG 0 23) F.FP_CFG_func f).setFl (R.FP_CFG 0 0) F.FP_CFG_func 4).setFl (R.FP_CFG 0 0) F.FP_CFG_tedge 3).setFl
    (R.FP_TRIPMASK 0 0) F.FP_TRIPMASK_mask 0x800000)
/-- A module in the middle of a chain of five. -/
def sMid : State := { up with chain := { upPartner := true, downPartner := true, pos := some 2, len := 5 }, tick := 1250000 }
def chainEnumerates1 := { sMid with chain := { sMid.chain with downPartner := false } }
def chainEnumerates2 := { up with chain := { pos := some 0, len := 3, tickSent := some 0 }, tick := 1250000 }
def fr (typ dst src : Byte) (b : Bytes) : ChainFrame := { typ := typ, dst := dst, src := src, seq := 1, payload := b, crcOk := true }
/-- Block 0 of an image of three blocks has come from module 1. -/
def sRx (rec : Bool) : State :=
  { sMid.setFl R.TRW_FWD F.TRW_FWD_accept 1 with
      chain := { sMid.chain with rx := some { src := 1, crc := 0x01020304, count := 3, recovery := rec, blocks := [(0, [9])] } }
      trowel := { running := !rec, recovery := rec, booted := true } }
def blk : ChainFrame := fr 3 2 1 ([4, 3, 2, 1, 2, 0, 0, 0] ++ List.replicate 12 (5 : Byte))
/-- Two blocks have been sent. -/
def sTx : State := { sMid with chain := { sMid.chain with txFrames := [{ fr 3 0xFF 2 [] with seq := 9 }, fr 3 0xFF 2 [1]], lastHealth := some 0 }, tick := 125000000 }
def holdAnd1 := { up with trowel := {} }
def holdAnd2 := { up with holdN := true }
/-- Wall 0 waits for the chain. -/
def sWait : State := { ((up.setWall 0 { (up.wall 0) with kiln := { waitFrom := some 0, chainWait := true, pos := 4 } }).setPhase 0 5).setFl (R.KILN_DONE_TO 0) F.KILN_DONE_TO_ms 1 with
                       tick := 1250001 }
def holdAnd3 := { up with doneOd := true }
def claimsBelong1 := (sPin 0).setFl (claimPin 0 23) F.CLAIM_holder 5
def queuesAre1 := up.setFl (R.CQ_CFG 63) F.CQ_CFG_en 1
/-- Submission queue 0 and completion queue 0 are on, with 16 entries each. -/
def sQ : State := (((up.setFl (R.SQ_CFG 0) F.SQ_CFG_en 1).setFl (R.SQ_CFG 0) F.SQ_CFG_lsize 4).setFl (R.CQ_CFG 0) F.CQ_CFG_en 1).setFl (R.CQ_CFG 0) F.CQ_CFG_lsize 4
def completions1 := sQ.setFl (R.CQ_TAIL 0) F.CQ_TAIL_tail 15 |>.setQueue 0 { chead := 3 }
def completions2 := sQ.setQueue 0 { chead := 1 }
def img0 : Image := { peger := false, header := List.replicate 512 0, payload := [], sigOk := true }
/-- A trial is under way. -/
def sTrial : State := { up with trowel := { up.trowel with slotA := { state := 4 } } }
/-- A LOG_READ of queue 0 is in progress. -/
def sLong (l : LongCmd) : State := { up with longs := [l] }
def lr : LongCmd := { op := 5, ctx := cc 0 [] }
def wallCommands1 := up.setFl (R.WPWR_CTRL 1) F.WPWR_CTRL_state 1
/-- A word list with its CRC-32C behind it; a header, and a record, of an image. -/
def crcd (ws : Words) : Words := ws ++ [BitVec.ofNat 32 (crc32c (bytesOfWords ws))]
def imgHdr (kind n : Nat) : Words := crcd [0x5A3CC3A5, BitVec.ofNat 32 (1 + kind * 256), 1, BitVec.ofNat 32 n, 7, 0, 0]
def imgRec (l : Word) (w : Word) : Words := crcd (l :: w :: List.replicate 95 0)
/-- A pattern image of slot 127 of tile 5. -/
def patImg : Words := imgHdr 2 2 ++ imgRec (frameLoc 0 5 3 127 0) 9 ++ imgRec 0x1F0000 1
def sSlot : State := up.setKiln 0 { slots := [(127, 127, List.replicate 96 5)] }
/-- Slot B holds a staged image. -/
def sStaged : State := { up with trowel := { up.trowel with slotA := { state := 5 }, slotB := { state := 2, version := 7, image := some img0 } } }
/-- Queue 0 has an entry that the hub has not fetched. -/
def sFetch : State := (sQ.setFl (R.CQ_CFG 0) F.CQ_CFG_en 0).setQueue 0 { tail := 1 }
def entriesAre1 := sLong { lr with done := some (0, 1, 2) }
def entriesAre2 := { lr with done := some (0, 1, 2) }
/-- The kiln of wall 0 in a phase. -/
def sK (ph : Nat) (k : KilnX) : State := (up.setPhase 0 ph).setKiln 0 k
def pK : Packet := pkt 0 (mkDst 0 23 0) (mkDst 0 23 1) 0 1 8 [1, 2, 3, 4, 5, 6, 7, 8]
def kOpen : KilnX := { zeroed := true, isLoad := true, open_ := true, header := some (imgHdr 0 3) }
def streamsAre1 := sK 3 { kOpen with open_ := false }
/-- The next record of the stream is `ws`. -/
def sKr (ws : Words) : State := sK 3 { kOpen with got := ws }
def endRec : Words := imgRec 0x1F0000 2
def sEnd (ws : Words) : State := sK 3 { kOpen with got := ws, fin := true, records := 2 }
/-- Wall 0 is due its boot load of store entry 0. -/
def sBoot : State :=
  { sK 1 {} with trowel := { up.trowel with store := [(0, { state := 1, image := some img0 })], settings := [(1, 4)] } }
def startUp1 := ((sK 2 { isLoad := true }).setFl (R.GD_STATUS 0 0) F.GD_STATUS_state 1).setFl (R.GD_STATUS 0 1) F.GD_STATUS_state 1
def startUp2 := { sK 3 {} with sram := [(sramKey 0 1 0x3FFFFF, 1), (sramKey 0 2 0, 1)] }
def startUp3 := (sK 4 {}).setFl (R.KILN_REPLAY 0) F.KILN_REPLAY_frames 1
def sPt (p : PointX) : State := up.setPoint 0 p
/-- Bit 7 of the first FOUNDATION frame is wrong; bits 7 and 9 are. -/
def sFlip (k : Nat) : State := { sPt { active := true, frame := 0 } with found := [(0, BitVec.ofNat 32 k)] }
def pointing1 := (sPt { active := true, frame := 128 * tileFrames }).setFl (R.PT_CFG 0) F.PT_CFG_auto 0
def pointing2 := { (up.setFl (R.PT_CFG 0) F.PT_CFG_en 1) with tick := 100000000000 }
def dark : State := { State.reset with powered := false }
def wallsAnd1 := { small with trowel := { small.trowel with upNext := 7 }, part := { walls := 8, gradeE := false } }
/-- A flow of wall 0 is bound to course 0 and is RUNNING. -/
def sBusyCourse : State := flowIn up 7 4
def wallsAnd2 := { up.setWall 0 { (up.wall 0) with gateWake := [(15, 0)] } with tick := 2500 }
def monitors1 := (up.setFl (R.MON_CFG 0) F.MON_CFG_en 1).setFl (R.MON_CFG 0) F.MON_CFG_deb 0
def monitors2 := ((up.setFl (R.MON_CFG 0) F.MON_CFG_en 1).setFl (R.MON_CFG 0) F.MON_CFG_deb 0).setFl (R.MON_CFG 0) F.MON_CFG_act 3
/-- Wall 0 follows its temperature, 90 °C with a first threshold of 85 °C. -/
def sHot : State :=
  ((((up.setFl (R.WPWR_CLK 0) F.WPWR_CLK_auto 1).setFl (R.WPWR_CLK 0) F.WPWR_CLK_step1 85).setFl (R.WPWR_CLK 0) F.WPWR_CLK_step2 95).setFl (R.WPWR_POWER 0) F.WPWR_POWER_tmax 90)
def clockSteps1 := up.setWall 0 { (up.wall 0) with pendStep := some (2, true) }
def clockSteps2 := { (up.setFl (R.WPWR_CTRL 0) F.WPWR_CTRL_tsb 1).setWall 0 { (up.wall 0) with hotSince := some 0 } with tick := 1250000000 }
/-- An activation of the staged image is pending. -/
def sAct (a : Activation) : State := { sStaged with trowel := { sStaged.trowel with act := some a } }
def act0 : Activation := { slot := true, when_ := 0, target := 0, wall := 0, ang := 0 }
/-- Position 0 of the chain runs a version of another generation. -/
def sMixed : State := (((sAct act0).setFl (R.TRW_CHAIN 0) F.TRW_CHAIN_valid 1).setFl (R.TRW_CHAIN 0) F.TRW_CHAIN_version 0x10000)
def activations1 := sAct { act0 with reached := some 0 }
def activations2 := { act0 with reached := some 0 }
def act1 : Activation := { act0 with reached := some 0, restarted := true, cxlUp := true }
/-- The image of slot B has run its soak time. -/
def sSoak : State :=
  let s1 := sAct act1
  { s1 with trowel := { s1.trowel with trialSince := some 0, runSlot := true, slotB := { s1.trowel.slotB with state := 4 } }, tick := 6250000000 }
def sLate : State :=
  { sAct { act0 with reached := some 0 } with longs := [{ op := 17, ctx := cc 0 [] }], tick := 12500000000 }
def sRom : State := { up with trowel := { up.trowel with running := false, recovery := true } }
/-- A firmware image of no payload, with the header that R485 gives. -/
def imgFwOf (magic len : Nat) : Bytes :=
  let h := leBytes 4 magic ++ [1, 1, 0, 0, 1, 0, 0, 0, 0, 0, 0, 0] ++ leBytes 4 len ++ List.replicate 488 (0 : Byte)
  h ++ leBytes 4 (crc32c h)
def imgFw (magic : Nat) : Bytes := imgFwOf magic 0x10200
def imgGood : Image := { img0 with header := imgFw 0x7C3AA3C7 }
/-- The loader boots slot B, whose image `i` is in state `st`. -/
def sLoader (st : Nat) (i : Image) (t : Nat) : State :=
  { State.reset with trowel := { State.reset.trowel with slotB := { state := st, image := some i } }, tick := t }
def theLoader2 := { imgGood with sigOk := false }
def theLoader3 := up.setFl R.PWR_WDT F.PWR_WDT_count 3
/-- The recovery ROM has taken an image. -/
def sGot (b : Bytes) : State := { sRom with trowel := { sRom.trowel with rcvGot := b } }
def sSendsCommitted : State := { up with trowel := { up.trowel with slotA := { state := 5, image := some img0 } } }
/-- A console session is open, and the module has no host. -/
def sCon : State := { up with service := { up.service with open_ := true }, cxl := {} }
/-- The hub tables let master 1 read and write the block of `a`. -/
def lets (s : State) (a : Nat) : State := s.wr (tableAddr a) 0xA
def consoleSessions1 := up.setFl claimUart F.CLAIM_held 1
def consoleSessions2 := { sCon with tick := 1125000000000 }
def consoleSessions3 := { sCon with part := { walls := 2, gradeE := false } }
def consoleSessions4 := { sRom with service := { up.service with open_ := true } }
def consoleCommands1 := sCon.setFl (claimLink 0 15) F.CLAIM_held 1
def consoleCommands2 := { sCon with trowel := { sCon.trowel with store := [(2, { state := 1, image := some img0 })] } }
def safeMode1 := { sCon with service := { sCon.service with safe := true } }
def safeMode2 := { up with service := { up.service with safe := true } }
def sMeter : State := up.setFl claimMeter F.CLAIM_held 1
def theMeter1 := sMeter.setFl R.SVC_METER_SEL F.SVC_METER_SEL_mode 2
def theMeter2 := (sMeter.setFl R.SVC_METER_SEL F.SVC_METER_SEL_mode 1).setFl R.SVC_METER_SEL F.SVC_METER_SEL_qty 1
/-- A buffer of 64 at 0x100 with a shadow length of 48 pending, the pointer at `p`, the modifier `m`. -/
def sRing (p m : BitVec 16) : State := runs up .b0 { ctx1 with p := [(1, p)], m := [(1, m)], b := [(1, 0x100)], l := [(1, 64)], lsh := [(1, 48)], lpend := 2 }
/-- A run's start slot has not yet issued. -/
def sStarting : State := sA.setTile 0 5 { (sA.tile 0 5) with starting := true }
/-- Flow 7's tile 5 runs it in its fast bank, and tile 6 holds it in its own. -/
def sTwoFast : State := (sF.setFl (R.FD_BIND 0 7) F.FD_BIND_tiles 96).setTile 0 6 { cf := { flow := some 7 } }
/-- The other tile of the set has ended its part. -/
def sMarks (m : Mark) : State := sTwo.setTile 0 6 { c1 := { flow := some 7, mark := m } }
/-- One window is resident of three. -/
def sFill : State := runs up .b0 { ctx1 with depth := 3, wres := 1, wix := 2 }
/-- BUSCFG asks of bus 2 a load that cannot take place. -/
def sLoad : State := runs up .b0 { ctx1 with buscfg := 0xFFFFFF }
/-- Port A of memory 1 writes 7 to word 4 in the wall's present cycle; word 4 is waiting at the bond interface with 9; policy `p`. -/
def sColl (p : Nat) (we : Bool) : State :=
  let s := (sBuf.setTile 0 5 { (sBuf.tile 0 5) with aWrites := [(1, 4, 7, 2)] }).wr (R.TMEM_CFG 0 5) (BitVec.ofNat 32 (p * 2 ^ 14))
  s.setWall 0 { (s.wall 0) with tmemWe := we }
/-- Tile 5's pattern has brick 3 on, with a reserved destination. -/
def sIll : State := sPat.setTile 0 5 { (sPat.tile 0 5) with ways := [(0, { slot := 3, valid := true, pat := BitVec.ofNat 3072 (2 ^ (2944 + 72 + 3) + (2 ^ 112 - 1) * 2 ^ (112 * 3)) })] }
/-- 64 near comparators are taken. -/
def sNearFull : State := { (sPre 40 false) with flows := (sPre 40 false).flows ++ (List.range 64).map (fun i => (((8 + i : Nat), ({ near := true, armed := some 1 } : FlowX)))) }
/-- A restore waits, with a free bank; and without one, behind a make-cold. -/
def sRestore : State := (flowIn up 7 3).setTile 0 5 { chanq := [{ kind := .restore, flow := 7, cls := 1 }] }
def sBlocked : State := (flowIn up 7 3).setTile 0 5
  { c0 := { flow := some 3 }, c1 := { flow := some 4 }, chanq := [{ kind := .restore, flow := 7, cls := 1 }, { kind := .makeCold, flow := 3, cls := 2 }] }
/-- The home area of flow 7 holds a loop stack of depth 5. -/
def sDeep : State := (sHod (op .restore)).setAreaWord 0 0 (0x90 + 37 * 4) 0x50000
/-- The areas that an operation reads have an uncorrectable word each. -/
def sBad (o : HodOp) : State :=
  let s := (sHod o).setTile 0 5 { ((sHod o).tile 0 5) with fpown := none }
  { s with sramErr := [(sramKey 0 2 16 / 8, 2), (sramKey 0 2 0x190 / 8, 2), (sramKey 0 2 0x1200 / 8, 2)] }
/-- A packet that no queue of the model lists arrives from outside. -/
theorem reaches_outside (s : State) (w r j : Nat) (p : Packet) (h : s.flight = []) : Reaches s s w r j p := by
  cases s
  cases h
  exact ⟨_, rfl, rfl⟩
/-- State `s`, with wall 0 in cycle `n`. -/
def later (s : State) (n : Nat) : State := s.setWall 0 { (s.wall 0) with cycle := n }
/-- Compare unit 15, enabled in cycle 0 with action `act`, in cycle 10; and with its pulse on. -/
def sUnit (act : Nat) (x : Acu) : State := later (sAcu (acuV 1 act) x {}) 10
/-- A packet that stands at the head of a queue of the mesh. -/
def sAtNow (a : At) (p : Packet) : State := { up with flight := [{ at_ := a, pkt := p }] }
/-- A march of an algorithm that began in cycle 0 on bank 3, and has run its cycles. -/
def sMarch (x : March) : State := { up.setWall 0 { (up.wall 0) with march := [(3, x)], cycle := 100000000 } with sram := [(sramKey 0 3 0, 9), (sramKey 0 4 0, 7)] }
/-- A guaranteed packet of connection 63, from port 0 of router 0; at its source, its slot open; in its slot at router 0. -/
def pG : Packet := { pW with cls := true, conn := 63, src := mkDst 0 0 0 }
def sGcAt : State := (((sAtNow (.queue 0 0 0) pG).setFl (R.GC_CTRL 0 63) F.GC_CTRL_valid 1).setFl (R.GC_DST 0 63) F.GC_DST_dst (mkDst 0 1 0).toNat)
def sSlots : State := (sAt (.router 0 0) pG).wr (R.BOND_SLOT 0 0 0 2 0) 0x14
/-- Four flits fill the buffer of a local port of router 0, and of the gateway's input of router 22; a packet holds router 0's output. -/
def sFull : List InFlight := [{ at_ := .router 0 0, pkt := pW, got := 4, entI := 4 }]
def sFull22 : List InFlight := [{ at_ := .router 1 22, pkt := pX, got := 4, seg := 1, entR := 22, entI := 4 }]
def sBlock : List InFlight := [{ at_ := .router 0 1, pkt := pW, trail := [{ w := 0, r := 0, out := 2, n := 1 }] }]
/-- A guaranteed flit waits at tile 5's bond interface. -/
def sGFull : State := up.setTile 0 5 { bbuf := [{ g := true, words := [(1, 4, 9)] }] }
/-- The ring of tile 5 is on; and so is its tile-control table closed to wall 1. -/
def sRing5 : State := (up.setFl (R.BI_RING 0 5) F.BI_RING_en 1).setFl (R.BI_RING 0 5) F.BI_RING_len 3
/-- A request of the bank's port is awaited. -/
def sAwait : State := { up with awaiting := [{ pkt := { pA with src := mkDst 0 23 0, dst := mkDst 0 1 0 }, io := false }] }
/-- A frame of link unit 0 awaits the answer to its slot. -/
def sSlotRx : State := up.setLink 0 0 { rx := [{ tags := [3] }] }
/-- A write of 64 bytes of the host's memory by master 0, at the hub. -/
def pHw : Packet := pkt 0 (hubDst 0) (mkDst 0 0 5) 0 4096 4 [1, 2, 3, 4]
def gcV (slot width valid : Nat) : Word := setFld (setFld (setFld 0 F.GC_CTRL_slot slot) F.GC_CTRL_width width) F.GC_CTRL_valid valid
/-- A domain's connections are to be released; connection 63 is valid. -/
def sRel (d : Domain) : State := sGc.setWall 0 { (sGc.wall 0) with release := [(d.key, 0)] }
def marchV (start banks alg : Nat) : Word := setFld (setFld (setFld 0 F.MARCH_CTRL_start start) F.MARCH_CTRL_banks banks) F.MARCH_CTRL_alg alg
/-- The host holds line 0 and line 1 of device 1, modified; packet `p` is at the device. -/
def sGdHeld : State := sGd.setGdx 0 1 { filter := [⟨0, true⟩, ⟨1, true⟩] }
def sGdAt (p : Packet) : State := { sGdHeld with flight := [{ at_ := .atPort 0 17 0, pkt := p }] }
def sGdStale : State := sGd.setFl (R.GD_STATUS 0 1) F.GD_STATUS_stale 1
/-- A host write of line 1 waits behind a back-invalidation of line 2. -/
def sGdQ : State := sGd.setGdx 0 1 { queue := [.write 1 (List.replicate 64 1)], pendingBi := [(2, false, 0)] }
/-- Two blocks of the three of an image have come. -/
def sRx2 : State := { sRx false with chain := { (sRx false).chain with rx := some { src := 1, crc := 0x01020304, count := 3, recovery := false, blocks := [(0, [9]), (1, [8])] } } }
/-- An image is given up after three rounds. -/
def sRx3 : State := { sRx false with chain := { (sRx false).chain with rx := some { src := 1, crc := 0x01020304, count := 3, recovery := false, blocks := [(0, [9])], rounds := 3 } } }
/-- Block 0 of an image of two blocks, with a firmware image's header. -/
def blk0 : ChainFrame := fr 3 2 1 ([4, 3, 2, 1, 0, 0, 0, 0, 2, 0, 0, 0, 0, 0, 0, 0] ++ imgFw 0x7C3AA3C7)
/-- 256 long commands are in progress. -/
def sLongs : State := { up with longs := List.replicate 256 lr }
/-- A fetched entry of queue 0 waits for the earlier commands. -/
def fen : CmdCtx × Nat × Bytes := (cc 0 [], 0, [])
def sFenced : State := sQ.setQueue 0 { fenced := some fen }
/-- The engine is at cache way 0 of tile 0, whose pattern and code are `k` and `c`. -/
def sWayPt (k c : Nat) : State := (sPt { active := true, frame := 47 }).setTile 0 0 { ways := [(0, { slot := 3, valid := true, pat := BitVec.ofNat 3072 k, code := c })], scrubWay := some 0 }
/-- The policy put wall 0 into STANDBY, and it has been cool for 10 s. -/
def sCool : State :=
  { ((up.setFl (R.WPWR_CTRL 0) F.WPWR_CTRL_tsb 1).setFl (R.WPWR_CTRL 0) F.WPWR_CTRL_state 1).setWall 0 { (up.wall 0) with tsbBy := true, coolSince := some 0 } with tick := 12500000000 }
/-- An activation of a chain that another module's trial holds back. -/
def sRoll : State :=
  let s := ((sAct { act0 with when_ := 1 }).setFl (R.TRW_CHAIN 0) F.TRW_CHAIN_valid 1).setFl (R.TRW_CHAIN 0) F.TRW_CHAIN_state 4
  { s with chain := { s.chain with pos := some 1, len := 2 } }
/-- The point has been reached, and position 0 runs a version of another generation. -/
def sMixedRun : State := { sMixed with trowel := { sMixed.trowel with act := some activations2 } }
/-- A packet of `n` bytes at wall 0's register bus. -/
def pB (typ : BitVec 3) (a n : Nat) : Packet := pkt typ (mkDst 0 23 0) 0 0 (BitVec.ofNat 64 a) n [1, 0, 0, 0]
/-- Another master holds link 15 of wall 0. -/
def sConLane : State := (sCon.setFl (claimLink 0 15) F.CLAIM_held 1).setFl (claimLink 0 15) F.CLAIM_holder 3
/-- Another master holds the meter. -/
def sConFull : State := (sCon.setFl claimMeter F.CLAIM_held 1).setFl claimMeter F.CLAIM_holder 3
/-- A long command of the console is in progress. -/
def sConBusy : State := { sCon with longs := [{ op := 17, ctx := cc 0 [], console := true }] }
/-- A console session beside a host. -/
def sConHost : State := { up with service := { up.service with open_ := true } }
/-- The meter's update is due. -/
def meterDue (s : State) : State := { s with tick := 1250000 }
/-- The meter's update is not due. -/
def meterSet : State := { sMeter with service := { sMeter.service with meterAt := some 0 }, tick := 5 }
/-- Link 15 of wall 0 is enabled. -/
def sConOn : State := sCon.setFl (R.LK_CTRL 0 15) F.LK_CTRL_en 1
/-- Wall 0 is closing. -/
def sConShut : State := sCon.setFl (R.WPWR_CTRL 0) F.WPWR_CTRL_state 3

theorem wit_StepRunsTheFrontCommand :
    (let s : State := idle1; let c : Instr := .fetchFail 3; let r : List Instr := [.powerOn];
      (s.pending = c :: r)) ∧
    (let s2 : State := up;
      (s2.pending = [])) := by
  refine ⟨?_, ?_⟩ <;> decide +kernel

theorem wit_EveryStepKeepsTheMemoryForm :
    (let s : State := idle1; let t : State := nextOf (step idle1);
      (MemWf s) ∧ (step s = Host.Outcome.next t)) :=
  ⟨by decide +kernel, rfl⟩

theorem wit_CommandsKeepQueueAndPart :
    (let c : Instr := .fetchFail 3; let s : State := idle1; let t : State := nextOf (exec (.fetchFail 3) idle1);
      (exec c s = Host.Outcome.next t)) :=
  rfl

theorem wit_OnlyUnpopulatedWallsStop :
    (let c : Instr := .patternIssue ⟨7, 5⟩; let s : State := small; let f : Fault := .unpopulatedWall;
      (exec c s = Host.Outcome.fault f)) :=
  rfl

theorem wit_WaitForIssueKeepsScalarState :
    (let s : State := sA; let x : TileRef := x0; let b : Bank := .b0;
      (Issues s x b)) := by decide +kernel

theorem wit_AluDeliversResultAndFlags :
    (let s : State := sA; let x : TileRef := x0; let b : Bank := .b0; let f : AluF := aF; let c := ctxOf s x b;
      (Issues s x b) ∧ (BitVec.toNat f.cond ≤ 10) ∧ (c.condHolds f.cond = true) ∧ (f.setf = true)) ∧
    (let s : State := sA; let x : TileRef := x0; let b : Bank := .b0; let f : AluF := { aF with cond := 1 };
    let c := ctxOf s x b;
      (Issues s x b) ∧ (BitVec.toNat f.cond ≤ 10) ∧ (c.condHolds f.cond = false ∨ f.setf = false) ∧
      (c.condHolds f.cond = false)) ∧
    (let s : State := sA; let x : TileRef := x0; let b : Bank := .b0; let f : AluF := { aF with setf := false, rb := 2 };
    let c := ctxOf s x b;
      (Issues s x b) ∧ (BitVec.toNat f.cond ≤ 10) ∧ (c.condHolds f.cond = true) ∧
      (c.condHolds f.cond = false ∨ f.setf = false)) ∧
    (let s : State := sA; let x : TileRef := x0; let b : Bank := .b0;
    let f : AluF := { aF with cond := 10, ra := 1, rb := 0 }; let c := ctxOf s x b;
      (Issues s x b) ∧ (BitVec.toNat f.cond ≤ 10) ∧ (c.condHolds f.cond = true) ∧ (f.setf = true)) := by
  refine ⟨?_, ?_, ?_, ?_⟩ <;> decide +kernel

theorem wit_AliDeliversResult :
    (let s : State := sA; let x : TileRef := x0; let b : Bank := .b0; let f : AliF := lF; let c := ctxOf s x b;
      (Issues s x b) ∧ (BitVec.toNat f.cond ≤ 10) ∧ (c.condHolds f.cond = true) ∧ (f.setf = true)) ∧
    (let s : State := sA; let x : TileRef := x0; let b : Bank := .b0; let f : AliF := { lF with setf := false, cond := 0 };
    let c := ctxOf s x b;
      (Issues s x b) ∧ (BitVec.toNat f.cond ≤ 10) ∧ (c.condHolds f.cond = true) ∧
      (c.condHolds f.cond = false ∨ f.setf = false)) ∧
    (let s : State := sA; let x : TileRef := x0; let b : Bank := .b0; let f : AliF := { lF with cond := 1 };
    let c := ctxOf s x b;
      (Issues s x b) ∧ (BitVec.toNat f.cond ≤ 10) ∧ (c.condHolds f.cond = false ∨ f.setf = false) ∧
      (c.condHolds f.cond = false)) ∧
    (let s : State := sA; let x : TileRef := x0; let b : Bank := .b0; let f : AliF := { lF with cond := 0, imm := 0x8000 };
    let c := ctxOf s x b;
      (Issues s x b) ∧ (BitVec.toNat f.cond ≤ 10) ∧ (c.condHolds f.cond = true) ∧ (f.setf = true)) := by
  refine ⟨?_, ?_, ?_, ?_⟩ <;> decide +kernel

theorem wit_CompareSetsFlagsOnly :
    (let s : State := sA; let x : TileRef := x0; let b : Bank := .b0; let f : AluF := aF; let c := ctxOf s x b;
    let f2 : AliF := lF;
      (Issues s x b) ∧ (BitVec.toNat f.cond ≤ 10) ∧ (c.condHolds f.cond = true) ∧ (BitVec.toNat f2.cond ≤ 10) ∧
      (c.condHolds f2.cond = true)) ∧
    (let s : State := sA; let x : TileRef := x0; let b : Bank := .b0; let f : AluF := { aF with cond := 1 };
    let c := ctxOf s x b; let f2 : AliF := { lF with cond := 1 };
      (Issues s x b) ∧ (BitVec.toNat f.cond ≤ 10) ∧ (c.condHolds f.cond = false) ∧ (BitVec.toNat f2.cond ≤ 10) ∧
      (c.condHolds f2.cond = false)) := by
  refine ⟨?_, ?_⟩ <;> decide +kernel

theorem wit_AddressUnitMovesValues :
    (let s : State := sA; let x : TileRef := x0; let b : Bank := .b0;
      (Issues s x b)) ∧
    (let s : State := sA; let x : TileRef := x0; let b : Bank := .b0;
      (Issues s x b)) := by
  refine ⟨?_, ?_⟩ <;> decide +kernel

theorem wit_StepsAreCircular :
    (let s : State := sA; let x : TileRef := x0; let b : Bank := .b0; let f : AguF := gF; let u := atIssue s x b;
    let c := ctxOf u x b; let k := f.k.toNat; let len := (c.len k).toNat.cast;
    let o := (c.ptr k).toNat.cast - (c.base k).toNat.cast + (c.modif (c.selOf k)).toInt;
    let o2 := (c.ptr k).toNat.cast - (c.base k).toNat.cast + f.imm.toInt;
      (Issues s x b) ∧ (len ≠ 0) ∧ (c.pendShadow k = false ∨ 0 ≤ o ∧ o < len) ∧
      (c.pendShadow k = false ∨ 0 ≤ o2 ∧ o2 < len)) ∧
    (let s : State := sA; let x : TileRef := x0; let b : Bank := .b0; let f : AguF := gF0; let u := atIssue s x b;
    let c := ctxOf u x b; let k := f.k.toNat; let len := (c.len k).toNat.cast;
      (Issues s x b) ∧ (len = 0) ∧ (c.pendShadow k = false)) ∧
    (let s : State := sRing 0x100 4; let x : TileRef := x0; let b : Bank := .b0; let f : AguF := { gF with imm := 4 };
    let u := atIssue s x b; let c := ctxOf u x b; let k := f.k.toNat; let len := (c.len k).toNat.cast;
    let o := (c.ptr k).toNat.cast - (c.base k).toNat.cast + (c.modif (c.selOf k)).toInt;
    let o2 := (c.ptr k).toNat.cast - (c.base k).toNat.cast + f.imm.toInt;
      (Issues s x b) ∧ (len ≠ 0) ∧ (c.pendShadow k = false ∨ 0 ≤ o ∧ o < len) ∧ (c.pendShadow k = true) ∧
      (c.pendShadow k = false ∨ 0 ≤ o2 ∧ o2 < len)) ∧
    (let s : State := sRing 0x13C 4; let x : TileRef := x0; let b : Bank := .b0; let f : AguF := { gF with imm := 4 };
    let u := atIssue s x b; let c := ctxOf u x b; let k := f.k.toNat; let len := (c.len k).toNat.cast;
    let o := (c.ptr k).toNat.cast - (c.base k).toNat.cast + (c.modif (c.selOf k)).toInt;
    let new := (c.shadow k).toNat.cast; let r := steppedOffset o len;
    let o2 := (c.ptr k).toNat.cast - (c.base k).toNat.cast + f.imm.toInt; let r2 := steppedOffset o2 len;
      (Issues s x b) ∧ (len ≠ 0) ∧ (c.pendShadow k = true) ∧ (¬(0 ≤ o ∧ o < len)) ∧ (new = 0 ∨ r.fst < new) ∧ (new ≠ 0) ∧
      (¬(0 ≤ o2 ∧ o2 < len)) ∧ (new = 0 ∨ r2.fst < new)) ∧
    (let s : State := sRing 0x100 (-4); let x : TileRef := x0; let b : Bank := .b0; let f : AguF := { gF with imm := -4 };
    let u := atIssue s x b; let c := ctxOf u x b; let k := f.k.toNat; let len := (c.len k).toNat.cast;
    let o := (c.ptr k).toNat.cast - (c.base k).toNat.cast + (c.modif (c.selOf k)).toInt;
    let new := (c.shadow k).toNat.cast; let r := steppedOffset o len;
    let o2 := (c.ptr k).toNat.cast - (c.base k).toNat.cast + f.imm.toInt; let r2 := steppedOffset o2 len;
      (Issues s x b) ∧ (len ≠ 0) ∧ (c.pendShadow k = true) ∧ (¬(0 ≤ o ∧ o < len)) ∧ (new ≠ 0) ∧ (new ≤ r.fst) ∧
      (¬(0 ≤ o2 ∧ o2 < len)) ∧ (new ≤ r2.fst)) := by
  refine ⟨?_, ?_, ?_, ?_, ?_⟩ <;> decide +kernel

theorem wit_LdliFoldsThePointer :
    (let s : State := sA; let x : TileRef := x0; let b : Bank := .b0; let f : AguF := gF0; let u := atIssue s x b;
    let c := ctxOf u x b; let v := (if f.i = true then BitVec.zeroExtend 16 f.imm
        else BitVec.setWidth 16 (c.reg b (BitVec.toNat f.reg)));
      (Issues s x b) ∧ (v = 0)) ∧
    (let s : State := sA; let x : TileRef := x0; let b : Bank := .b0; let f : AguF := gF3; let u := atIssue s x b;
    let c := ctxOf u x b; let v := (if f.i = true then BitVec.zeroExtend 16 f.imm
        else BitVec.setWidth 16 (c.reg b (BitVec.toNat f.reg))); let w := x.w.val;
      (Issues s x b) ∧ (v ≠ 0) ∧ ((u.wall w).raised.length < 256)) := by
  refine ⟨?_, ?_⟩ <;> decide +kernel

theorem wit_BranchesSetThePc :
    (let s : State := sB; let x : TileRef := x0; let b : Bank := .b1; let k : Cond4 := 0; let c := ctxOf s x b;
      (Issues s x b) ∧ (BitVec.toNat k ≤ 10) ∧ (c.condHolds k = true)) ∧
    (let s : State := sA; let x : TileRef := x0; let b : Bank := .b0; let k : Cond4 := 1; let c := ctxOf s x b;
      (Issues s x b) ∧ (BitVec.toNat k ≤ 10) ∧ (c.condHolds k = false)) := by
  refine ⟨?_, ?_⟩ <;> decide +kernel

theorem wit_RepStartsARepeat :
    (let s : State := sB; let x : TileRef := x0; let b : Bank := .b1; let f : RepF := rF5; let c := ctxOf s x b;
    let n := (if f.src = true then BitVec.toNat (c.reg b (BitVec.toNat f.ra)) % 65536
        else f.count.toNat + 1);
      (Issues s x b) ∧ (c.pc.toNat + 1 ≤ BitVec.toNat f.fin) ∧ (c.loops.length < 4) ∧ (n = 0)) ∧
    (let s : State := sB; let x : TileRef := x0; let b : Bank := .b1; let f : RepF := rFm; let c := ctxOf s x b;
    let n := (if f.src = true then BitVec.toNat (c.reg b (BitVec.toNat f.ra)) % 65536
        else f.count.toNat + 1);
      (Issues s x b) ∧ (c.pc.toNat + 1 ≤ BitVec.toNat f.fin) ∧ (c.loops.length < 4) ∧ (n ≠ 0)) := by
  refine ⟨?_, ?_⟩ <;> decide +kernel

theorem wit_RepeatBodyRunsCountTimes :
    (let s : State := sB; let x : TileRef := x0; let b : Bank := .b1; let e : LoopEnt := ⟨98, 100, 2, false⟩;
    let r : List LoopEnt := []; let c := ctxOf s x b;
      (Issues s x b) ∧ (c.loops = e :: r) ∧ (e.fin = c.pc) ∧ (1 < e.count)) ∧
    (let s : State := sF; let x : TileRef := x0; let b : Bank := .fast; let e : LoopEnt := ⟨98, 100, 1, false⟩;
    let r : List LoopEnt := [⟨90, 105, 3, true⟩]; let c := ctxOf s x b;
      (Issues s x b) ∧ (c.loops = e :: r) ∧ (e.fin = c.pc) ∧ (e.count ≤ 1)) := by
  refine ⟨?_, ?_⟩ <;> decide +kernel

theorem wit_TpsetTestsTheFlagVector :
    (let s : State := sA; let x : TileRef := x0; let b : Bank := .b0;
    let f : TpF := { tF with flag := 6, mode := 2, mask := 0, cond := 10 };
      (Issues s x b) ∧ (BitVec.toNat f.cond ≤ 10) ∧ (f.flag ≠ 7) ∧ (f.mode ≠ 3) ∧ (f.flag = 6)) ∧
    (let s : State := sA; let x : TileRef := x0; let b : Bank := .b0; let f : TpF := { tF with flag := 5, cond := 1 };
    let c := ctxOf s x b;
      (Issues s x b) ∧ (BitVec.toNat f.cond ≤ 10) ∧ (f.flag ≠ 7) ∧ (f.mode ≠ 3) ∧ (f.flag ≠ 6) ∧
      (c.condHolds f.cond = false)) ∧
    (let s : State := sA; let x : TileRef := x0; let b : Bank := .b0; let f : TpF := tF; let c := ctxOf s x b;
      (Issues s x b) ∧ (BitVec.toNat f.cond ≤ 10) ∧ (f.flag ≠ 7) ∧ (f.mode ≠ 3) ∧ (f.flag ≠ 6) ∧
      (c.condHolds f.cond = true) ∧ (f.mode = 0)) ∧
    (let s : State := sA; let x : TileRef := x0; let b : Bank := .b0; let f : TpF := { tF with mode := 1 };
    let c := ctxOf s x b;
      (Issues s x b) ∧ (BitVec.toNat f.cond ≤ 10) ∧ (f.flag ≠ 7) ∧ (f.mode ≠ 3) ∧ (f.flag ≠ 6) ∧
      (c.condHolds f.cond = true) ∧ (f.mode = 1)) ∧
    (let s : State := sA; let x : TileRef := x0; let b : Bank := .b0;
    let f : TpF := { tF with flag := 4, mode := 2, mask := 1 }; let c := ctxOf s x b;
      (Issues s x b) ∧ (BitVec.toNat f.cond ≤ 10) ∧ (f.flag ≠ 7) ∧ (f.mode ≠ 3) ∧ (f.flag ≠ 6) ∧
      (c.condHolds f.cond = true) ∧ (f.mode = 2)) := by
  refine ⟨?_, ?_, ?_, ?_, ?_⟩ <;> decide +kernel

theorem wit_SpecialRegistersReadAndWrite :
    (let s : State := sA; let x : TileRef := x0; let b : Bank := .b0; let k : BitVec 6 := 0;
    let q := (s.issueIns x.w.val x.t b false
          (if k = 23 then (tileOf s x).fpBusy.getD 16 0
          else 0)); let u := q.fst; let c := ctxOf u x b;
      (Issues s x b) ∧ (k = 0) ∧ (∀ (o i : Nat), c.fswBy = some (o, i) → o < q.snd) ∧
      (∀ (m : FswMsg), m ∈ c.fswRec → m.org ≤ q.snd)) ∧
    (let s : State := sA; let x : TileRef := x0; let b : Bank := .b0; let k : BitVec 6 := 0x0D;
      (Issues s x b) ∧ (k = 13)) ∧
    (let s : State := sA; let x : TileRef := x0; let b : Bank := .b0; let k : BitVec 6 := 0x0E;
      (Issues s x b) ∧ (k = 14)) ∧
    (let s : State := sA; let x : TileRef := x0; let b : Bank := .b0; let k : BitVec 6 := 0x0F;
      (Issues s x b) ∧ (k = 15)) ∧
    (let s : State := sA; let x : TileRef := x0; let b : Bank := .b0; let k : BitVec 6 := 0x10;
      (Issues s x b) ∧ (k = 16)) ∧
    (let s : State := sA; let x : TileRef := x0; let b : Bank := .b0; let k : BitVec 6 := 0x11;
      (Issues s x b) ∧ (k = 17)) ∧
    (let s : State := sA; let x : TileRef := x0; let b : Bank := .b0; let k : BitVec 6 := 0x12;
      (Issues s x b) ∧ (1 ≤ k.toNat ∧ k.toNat ≤ 12 ∨
  k.toNat = 18 ∨
    20 ≤ k.toNat ∧ k.toNat ≤ 22 ∨ 25 ≤ k.toNat)) ∧
    (let s : State := sA; let x : TileRef := x0; let b : Bank := .b0; let k : BitVec 6 := 0x13;
      (Issues s x b) ∧ (k = 19)) ∧
    (let s : State := sA; let x : TileRef := x0; let b : Bank := .b0; let k : BitVec 6 := 0x14;
      (Issues s x b) ∧ (1 ≤ k.toNat ∧ k.toNat ≤ 12 ∨
  k.toNat = 18 ∨
    20 ≤ k.toNat ∧ k.toNat ≤ 22 ∨ 25 ≤ k.toNat)) ∧
    (let s : State := sA; let x : TileRef := x0; let b : Bank := .b0; let k : BitVec 6 := 0x17;
      (Issues s x b) ∧ (k = 23)) ∧
    (let s : State := sA; let x : TileRef := x0; let b : Bank := .b0; let k : BitVec 6 := 0x18;
      (Issues s x b) ∧ (k = 24)) ∧
    (let s : State := sA; let x : TileRef := x0; let b : Bank := .b0; let k : BitVec 6 := 0x19;
      (Issues s x b) ∧ (1 ≤ k.toNat ∧ k.toNat ≤ 12 ∨
  k.toNat = 18 ∨
    20 ≤ k.toNat ∧ k.toNat ≤ 22 ∨ 25 ≤ k.toNat)) ∧
    (let s : State := sA; let x : TileRef := x0; let b : Bank := .b0; let k : BitVec 6 := 0x3F;
      (Issues s x b) ∧ (1 ≤ k.toNat ∧ k.toNat ≤ 12 ∨
  k.toNat = 18 ∨
    20 ≤ k.toNat ∧ k.toNat ≤ 22 ∨ 25 ≤ k.toNat)) :=
  ⟨⟨by decide +kernel, by decide +kernel,
    (fun o i h => absurd ((show _ = none from by decide +kernel).symm.trans h) (by simp)), by decide +kernel⟩,
   by decide +kernel,
   by decide +kernel,
   by decide +kernel,
   by decide +kernel,
   by decide +kernel,
   by decide +kernel,
   by decide +kernel,
   by decide +kernel,
   by decide +kernel,
   by decide +kernel,
   by decide +kernel,
   by decide +kernel⟩

theorem wit_FpInstructionsOfTheOwnerExecute :
    (let x : TileRef := x0; let f : FpuF := fF; let i : Instr := .fmvr x0 fF; let op : Nat := 15; let s : State := sFp;
    let b : Bank := .b0; let k : Nat := 7; let y := tileOf s x;
      (i = Instr.fadd x f ∧ op = 0 ∨
  i = Instr.fsub x f ∧ op = 1 ∨
    i = Instr.fmul x f ∧ op = 2 ∨
      i = Instr.fma x f ∧ op = 3 ∨
        i = Instr.fmin x f ∧ op = 4 ∨
          i = Instr.fmax x f ∧ op = 5 ∨
            i = Instr.fabs x f ∧ op = 6 ∨
              i = Instr.fneg x f ∧ op = 7 ∨
                i = Instr.fcmp x f ∧ op = 8 ∨
                  i = Instr.fdiv x f ∧ op = 9 ∨
                    i = Instr.fsqrt x f ∧ op = 10 ∨
                      i = Instr.ftoq x f ∧ op = 11 ∨
                        i = Instr.qtof x f ∧ op = 12 ∨
                          i = Instr.ftoi x f ∧ op = 13 ∨
                            i = Instr.itof x f ∧ op = 14 ∨
                              i = Instr.fmvr x f ∧ op = 15 ∨
                                i = Instr.fmvf x f ∧ op = 16) ∧ (Issues s x b) ∧ ((tileOf s x).owner b = some k) ∧
      (y.fpown = some k) ∧ (op ∈ [11, 13, 15]) ∧ (op = 15)) ∧
    (let x : TileRef := x0; let f : FpuF := fF; let i : Instr := .fadd x0 fF; let op : Nat := 0; let s : State := sFp;
    let b : Bank := .b0; let k : Nat := 7; let y := tileOf s x; let k2 : Nat := 7;
      (i = Instr.fadd x f ∧ op = 0 ∨
  i = Instr.fsub x f ∧ op = 1 ∨
    i = Instr.fmul x f ∧ op = 2 ∨
      i = Instr.fma x f ∧ op = 3 ∨
        i = Instr.fmin x f ∧ op = 4 ∨
          i = Instr.fmax x f ∧ op = 5 ∨
            i = Instr.fabs x f ∧ op = 6 ∨
              i = Instr.fneg x f ∧ op = 7 ∨
                i = Instr.fcmp x f ∧ op = 8 ∨
                  i = Instr.fdiv x f ∧ op = 9 ∨
                    i = Instr.fsqrt x f ∧ op = 10 ∨
                      i = Instr.ftoq x f ∧ op = 11 ∨
                        i = Instr.qtof x f ∧ op = 12 ∨
                          i = Instr.ftoi x f ∧ op = 13 ∨
                            i = Instr.itof x f ∧ op = 14 ∨
                              i = Instr.fmvr x f ∧ op = 15 ∨
                                i = Instr.fmvf x f ∧ op = 16) ∧ (Issues s x b) ∧ ((tileOf s x).owner b = some k) ∧
      (y.fpown = some k) ∧ (¬op ∈ [8, 11, 13, 15]) ∧ (k2 ≠ f.fd.toNat)) ∧
    (let x : TileRef := x0; let f : FpuF := { fF with fb := 1 }; let i : Instr := .fcmp x0 { fF with fb := 1 };
    let op : Nat := 8; let s : State := sFp; let b : Bank := .b0; let k : Nat := 7; let y := tileOf s x; let t := (nextOf
          (execFcmp x0
            (let __src := fF;
            { fd := __src.fd, fa := __src.fa, fb := 1, fc := __src.fc, reg := __src.reg : FpuF })
            s));
      (i = Instr.fadd x f ∧ op = 0 ∨
  i = Instr.fsub x f ∧ op = 1 ∨
    i = Instr.fmul x f ∧ op = 2 ∨
      i = Instr.fma x f ∧ op = 3 ∨
        i = Instr.fmin x f ∧ op = 4 ∨
          i = Instr.fmax x f ∧ op = 5 ∨
            i = Instr.fabs x f ∧ op = 6 ∨
              i = Instr.fneg x f ∧ op = 7 ∨
                i = Instr.fcmp x f ∧ op = 8 ∨
                  i = Instr.fdiv x f ∧ op = 9 ∨
                    i = Instr.fsqrt x f ∧ op = 10 ∨
                      i = Instr.ftoq x f ∧ op = 11 ∨
                        i = Instr.qtof x f ∧ op = 12 ∨
                          i = Instr.ftoi x f ∧ op = 13 ∨
                            i = Instr.itof x f ∧ op = 14 ∨
                              i = Instr.fmvr x f ∧ op = 15 ∨
                                i = Instr.fmvf x f ∧ op = 16) ∧ (Issues s x b) ∧ ((tileOf s x).owner b = some k) ∧
      (y.fpown = some k) ∧ (op = 8) ∧ ((ctxOf t x b).sz = true)) ∧
    (let x : TileRef := x0; let f : FpuF := fF; let i : Instr := .fmvf x0 fF; let op : Nat := 16; let s : State := sFp;
    let b : Bank := .b0; let k : Nat := 7; let y := tileOf s x; let k2 : Nat := 7;
      (i = Instr.fadd x f ∧ op = 0 ∨
  i = Instr.fsub x f ∧ op = 1 ∨
    i = Instr.fmul x f ∧ op = 2 ∨
      i = Instr.fma x f ∧ op = 3 ∨
        i = Instr.fmin x f ∧ op = 4 ∨
          i = Instr.fmax x f ∧ op = 5 ∨
            i = Instr.fabs x f ∧ op = 6 ∨
              i = Instr.fneg x f ∧ op = 7 ∨
                i = Instr.fcmp x f ∧ op = 8 ∨
                  i = Instr.fdiv x f ∧ op = 9 ∨
                    i = Instr.fsqrt x f ∧ op = 10 ∨
                      i = Instr.ftoq x f ∧ op = 11 ∨
                        i = Instr.qtof x f ∧ op = 12 ∨
                          i = Instr.ftoi x f ∧ op = 13 ∨
                            i = Instr.itof x f ∧ op = 14 ∨
                              i = Instr.fmvr x f ∧ op = 15 ∨
                                i = Instr.fmvf x f ∧ op = 16) ∧ (Issues s x b) ∧ ((tileOf s x).owner b = some k) ∧
      (y.fpown = some k) ∧ (¬op ∈ [8, 11, 13, 15]) ∧ (k2 ≠ f.fd.toNat) ∧ (op = 16)) ∧
    (let x : TileRef := x0; let f : FpuF := fF; let i : Instr := .fabs x0 fF; let op : Nat := 6; let s : State := sFp;
    let b : Bank := .b0; let k : Nat := 7; let y := tileOf s x; let k2 : Nat := 7;
      (i = Instr.fadd x f ∧ op = 0 ∨
  i = Instr.fsub x f ∧ op = 1 ∨
    i = Instr.fmul x f ∧ op = 2 ∨
      i = Instr.fma x f ∧ op = 3 ∨
        i = Instr.fmin x f ∧ op = 4 ∨
          i = Instr.fmax x f ∧ op = 5 ∨
            i = Instr.fabs x f ∧ op = 6 ∨
              i = Instr.fneg x f ∧ op = 7 ∨
                i = Instr.fcmp x f ∧ op = 8 ∨
                  i = Instr.fdiv x f ∧ op = 9 ∨
                    i = Instr.fsqrt x f ∧ op = 10 ∨
                      i = Instr.ftoq x f ∧ op = 11 ∨
                        i = Instr.qtof x f ∧ op = 12 ∨
                          i = Instr.ftoi x f ∧ op = 13 ∨
                            i = Instr.itof x f ∧ op = 14 ∨
                              i = Instr.fmvr x f ∧ op = 15 ∨
                                i = Instr.fmvf x f ∧ op = 16) ∧ (Issues s x b) ∧ ((tileOf s x).owner b = some k) ∧
      (y.fpown = some k) ∧ (¬op ∈ [8, 11, 13, 15]) ∧ (k2 ≠ f.fd.toNat) ∧ (op = 6)) ∧
    (let x : TileRef := x0; let f : FpuF := fF; let i : Instr := .ftoi x0 fF; let op : Nat := 13; let s : State := sFp;
    let b : Bank := .b0; let k : Nat := 7; let y := tileOf s x;
      (i = Instr.fadd x f ∧ op = 0 ∨
  i = Instr.fsub x f ∧ op = 1 ∨
    i = Instr.fmul x f ∧ op = 2 ∨
      i = Instr.fma x f ∧ op = 3 ∨
        i = Instr.fmin x f ∧ op = 4 ∨
          i = Instr.fmax x f ∧ op = 5 ∨
            i = Instr.fabs x f ∧ op = 6 ∨
              i = Instr.fneg x f ∧ op = 7 ∨
                i = Instr.fcmp x f ∧ op = 8 ∨
                  i = Instr.fdiv x f ∧ op = 9 ∨
                    i = Instr.fsqrt x f ∧ op = 10 ∨
                      i = Instr.ftoq x f ∧ op = 11 ∨
                        i = Instr.qtof x f ∧ op = 12 ∨
                          i = Instr.ftoi x f ∧ op = 13 ∨
                            i = Instr.itof x f ∧ op = 14 ∨
                              i = Instr.fmvr x f ∧ op = 15 ∨
                                i = Instr.fmvf x f ∧ op = 16) ∧ (Issues s x b) ∧ ((tileOf s x).owner b = some k) ∧
      (y.fpown = some k) ∧ (op ∈ [11, 13, 15])) ∧
    (let x : TileRef := x0; let f : FpuF := fF; let i : Instr := .fsqrt x0 fF; let op : Nat := 10; let s : State := sA;
    let b : Bank := .b0; let k : Nat := 7; let y := tileOf s x;
      (i = Instr.fadd x f ∧ op = 0 ∨
  i = Instr.fsub x f ∧ op = 1 ∨
    i = Instr.fmul x f ∧ op = 2 ∨
      i = Instr.fma x f ∧ op = 3 ∨
        i = Instr.fmin x f ∧ op = 4 ∨
          i = Instr.fmax x f ∧ op = 5 ∨
            i = Instr.fabs x f ∧ op = 6 ∨
              i = Instr.fneg x f ∧ op = 7 ∨
                i = Instr.fcmp x f ∧ op = 8 ∨
                  i = Instr.fdiv x f ∧ op = 9 ∨
                    i = Instr.fsqrt x f ∧ op = 10 ∨
                      i = Instr.ftoq x f ∧ op = 11 ∨
                        i = Instr.qtof x f ∧ op = 12 ∨
                          i = Instr.ftoi x f ∧ op = 13 ∨
                            i = Instr.itof x f ∧ op = 14 ∨
                              i = Instr.fmvr x f ∧ op = 15 ∨
                                i = Instr.fmvf x f ∧ op = 16) ∧ (Issues s x b) ∧ ((tileOf s x).owner b = some k) ∧
      (y.fpown ≠ some k)) := by
  refine ⟨?_, ?_, ?_, ?_, ?_, ?_, ?_⟩ <;> decide +kernel

theorem wit_PatActsOnBusesAndSelectsItsSlot :
    (let s : State := sA; let x : TileRef := x0; let b : Bank := .b0; let f : PatF := pN; let k : Bank := .b1;
    let u := (s.issueIns x.w.val x.t b (patStream s x.w.val x.t.val f) 0).fst; let c := ctxOf u x b;
      (Issues s x b) ∧ (patLegal f = true) ∧
      (patLoadsLegal (ctxOf s x b) f = true ∨ (ctxOf s x b).condHolds f.cond = false) ∧ (k ≠ b) ∧
      (c.condHolds f.cond = false)) ∧
    (let s : State := sA; let x : TileRef := x0; let b : Bank := .b0; let f : PatF := pF;
    let u := (s.issueIns x.w.val x.t b (patStream s x.w.val x.t.val f) 0).fst; let c := ctxOf u x b;
    let y := tileOf u x;
      (Issues s x b) ∧ (patLegal f = true) ∧
      (patLoadsLegal (ctxOf s x b) f = true ∨ (ctxOf s x b).condHolds f.cond = false) ∧ (c.condHolds f.cond = true) ∧
      (y.starting = false) ∧ (y.findWay f.slot = none) ∧
      (∀ (j : Nat), y.curWay = some j → j < 8 ∧ (y.way j).stale = false)) ∧
    (let s : State := sW; let x : TileRef := x0; let b : Bank := .b0; let f : PatF := pF; let k : Bank := .b1;
    let u := (s.issueIns x.w.val x.t b (patStream s x.w.val x.t.val f) 0).fst; let c := ctxOf u x b; let k2 : Nat := 0;
    let y := tileOf u x; let k4 : Nat := 0;
      (Issues s x b) ∧ (patLegal f = true) ∧
      (patLoadsLegal (ctxOf s x b) f = true ∨ (ctxOf s x b).condHolds f.cond = false) ∧ (k ≠ b) ∧
      (c.condHolds f.cond = true) ∧ (k2 < 8) ∧ (f.step.getLsbD k2 = false) ∧ (y.starting = false) ∧
      (y.findWay f.slot = some k4) ∧ (y.curWay ≠ some k4) ∧ (∀ (j : Nat), y.curWay = some j → (y.way j).stale = false) ∧
      (∀ (j : Nat), y.curWay = some j → (y.way j).slot ≠ f.slot)) ∧
    (let s : State := sPat; let x : TileRef := x0; let b : Bank := .b0; let f : PatF := pF; let k : Bank := .b1;
    let u := (s.issueIns x.w.val x.t b (patStream s x.w.val x.t.val f) 0).fst; let c := ctxOf u x b; let k2 : Nat := 0;
    let y := tileOf u x; let k3 : Nat := 0;
    let holds : BitVec 7 → Nat → Prop := fun slot k => (y.way k).valid = true ∧ (y.way k).stale = false ∧ (y.way k).slot = slot;
    let k4 : Nat := 0;
      (Issues s x b) ∧ (patLegal f = true) ∧
      (patLoadsLegal (ctxOf s x b) f = true ∨ (ctxOf s x b).condHolds f.cond = false) ∧ (k ≠ b) ∧
      (c.condHolds f.cond = true) ∧ (k2 < 8) ∧ (f.step.getLsbD k2 = false) ∧ (y.starting = false) ∧ (y.curWay = some k3) ∧
      (holds f.slot k3) ∧ (y.stall ≠ Stall.pattern) ∧ (y.findWay f.slot = some k4)) ∧
    (let s : State := sStarting; let x : TileRef := x0; let b : Bank := .b0; let f : PatF := pF;
    let u := (s.issueIns x.w.val x.t b (patStream s x.w.val x.t.val f) 0).fst; let c := ctxOf u x b;
    let y := tileOf u x;
      (Issues s x b) ∧ (patLegal f = true) ∧
      (patLoadsLegal (ctxOf s x b) f = true ∨ (ctxOf s x b).condHolds f.cond = false) ∧ (c.condHolds f.cond = true) ∧
      (y.starting = true)) := by
  refine ⟨?_, ?_, ?_, ?_, ?_⟩ <;> decide +kernel

theorem wit_EndOfPartWaitsForTheSet :
    (let s : State := sTwo; let x : TileRef := x0; let b : Bank := .b0; let y := tileOf s x; let f : Nat := 7;
    let j : Nat := 6;
      (Issues s x b) ∧ (b = Bank.fast → y.handlerOf = none) ∧ (y.bankOf f = some b) ∧ (j ∈ s.tileSet x.w.val f) ∧
      (j ≠ x.t.val) ∧ (∃ k, (s.tile x.w.val j).bankOf f = some k ∧ ((s.tile x.w.val j).bank k).mark = Mark.none) ∧
      (b ≠ Bank.fast)) ∧
    (let s : State := sTwoFast; let x : TileRef := x0; let b : Bank := .fast; let y := tileOf s x; let f : Nat := 7;
    let j : Nat := 6;
      (Issues s x b) ∧ (b = Bank.fast → y.handlerOf = none) ∧ (y.bankOf f = some b) ∧ (j ∈ s.tileSet x.w.val f) ∧
      (j ≠ x.t.val) ∧ (∃ k, (s.tile x.w.val j).bankOf f = some k ∧ ((s.tile x.w.val j).bank k).mark = Mark.none) ∧
      (b = Bank.fast)) := by
  refine ⟨?_, ?_⟩ <;> decide +kernel

theorem wit_LastTileEndsTheRun :
    (let s : State := sA; let x : TileRef := x0; let b : Bank := .b0; let y := tileOf s x; let f : Fin 512 := 7;
    let w := x.w.val; let others : (Mark → Prop) → Prop := (fun p =>
          ∀ (j : Nat),
            j ∈ s.tileSet w f.val → j ≠ x.t.val → ∃ k, (s.tile w j).bankOf f.val = some k ∧ p ((s.tile w j).bank k).mark);
      (Issues s x b) ∧ (b = Bank.fast → y.handlerOf = none) ∧ (y.bankOf f.val = some b) ∧ (x.t.val ∈ s.tileSet w f.val) ∧
      (others fun m => m = Mark.yield) ∧ (others fun m => m = Mark.yield ∨ m = Mark.waite) ∧
      (others fun m => m = Mark.done)) ∧
    (let s : State := sMarks .yield; let x : TileRef := x0; let b : Bank := .b0; let y := tileOf s x;
    let f : Fin 512 := 7; let w := x.w.val; let others : (Mark → Prop) → Prop := (fun p =>
          ∀ (j : Nat),
            j ∈ s.tileSet w f.val → j ≠ x.t.val → ∃ k, (s.tile w j).bankOf f.val = some k ∧ p ((s.tile w j).bank k).mark);
      (Issues s x b) ∧ (b = Bank.fast → y.handlerOf = none) ∧ (y.bankOf f.val = some b) ∧ (x.t.val ∈ s.tileSet w f.val) ∧
      (others fun m => m = Mark.yield) ∧ (others fun m => m = Mark.yield ∨ m = Mark.waite)) ∧
    (let s : State := sMarks .waite; let x : TileRef := x0; let b : Bank := .b0; let y := tileOf s x;
    let f : Fin 512 := 7; let w := x.w.val; let others : (Mark → Prop) → Prop := (fun p =>
          ∀ (j : Nat),
            j ∈ s.tileSet w f.val → j ≠ x.t.val → ∃ k, (s.tile w j).bankOf f.val = some k ∧ p ((s.tile w j).bank k).mark);
      (Issues s x b) ∧ (b = Bank.fast → y.handlerOf = none) ∧ (y.bankOf f.val = some b) ∧ (x.t.val ∈ s.tileSet w f.val) ∧
      (others fun m => m = Mark.yield ∨ m = Mark.waite)) ∧
    (let s : State := sMarks .done; let x : TileRef := x0; let b : Bank := .b0; let y := tileOf s x;
    let f : Fin 512 := 7; let w := x.w.val; let others : (Mark → Prop) → Prop := (fun p =>
          ∀ (j : Nat),
            j ∈ s.tileSet w f.val → j ≠ x.t.val → ∃ k, (s.tile w j).bankOf f.val = some k ∧ p ((s.tile w j).bank k).mark);
      (Issues s x b) ∧ (b = Bank.fast → y.handlerOf = none) ∧ (y.bankOf f.val = some b) ∧ (x.t.val ∈ s.tileSet w f.val) ∧
      (others fun m => m = Mark.done)) ∧
    (let s : State := lastTile1; let x : TileRef := x0; let b : Bank := .b1; let y := tileOf s x; let f : Fin 512 := 7;
    let w := x.w.val; let others : (Mark → Prop) → Prop := (fun p =>
          ∀ (j : Nat),
            j ∈ s.tileSet w f.val → j ≠ x.t.val → ∃ k, (s.tile w j).bankOf f.val = some k ∧ p ((s.tile w j).bank k).mark);
      (Issues s x b) ∧ (b = Bank.fast → y.handlerOf = none) ∧ (y.bankOf f.val = some b) ∧ (x.t.val ∈ s.tileSet w f.val) ∧
      (others fun m => m = Mark.yield) ∧ (others fun m => m = Mark.yield ∨ m = Mark.waite) ∧
      (others fun m => m = Mark.done)) := by
  refine ⟨?_, ?_, ?_, ?_, ?_⟩ <;> decide +kernel

theorem wit_RetfReturnsFromTheHandler :
    (let s : State := sH; let x : TileRef := x0; let y := tileOf s x; let g : Nat := 7; let r : Bank := .b0;
      (Issues s x Bank.fast) ∧ (y.handlerOf = some g) ∧ (y.interrupted = some r) ∧ (r ≠ Bank.fast)) ∧
    (let s : State := sF; let x : TileRef := x0; let y := tileOf s x; let g2 : Nat := 7;
      (Issues s x Bank.fast) ∧ (y.handlerOf = none) ∧ (y.cf.flow = some g2)) := by
  refine ⟨?_, ?_⟩ <;> decide +kernel

theorem wit_SyncReleasesTheSetTogether :
    (let s : State := sTwo; let x : TileRef := x0; let b : Bank := .b0; let f : Nat := 7; let w := x.w.val;
    let set := s.tileSet w f;
      (Issues s x b) ∧ ((tileOf s x).owner b = some f) ∧ (b ∈ (tileOf s x).flowBanks f) ∧ (x.t.val ∈ set) ∧
      (∃ j, j ∈ set ∧ j ≠ x.t.val ∧ s.atSync w j f = false)) ∧
    (let s : State := sSync; let x : TileRef := x0; let b : Bank := .b0; let f : Nat := 7; let w := x.w.val;
    let set := s.tileSet w f;
      (Issues s x b) ∧ ((tileOf s x).owner b = some f) ∧ (b ∈ (tileOf s x).flowBanks f) ∧ (x.t.val ∈ set) ∧
      (∀ (j : Nat), j ∈ set → j ≠ x.t.val → s.atSync w j f = true)) := by
  refine ⟨?_, ?_⟩ <;> decide +kernel

theorem wit_SignalRaisesFlowSignal :
    (let s : State := sA; let x : TileRef := x0; let b : Bank := .b0; let f : Nat := 7; let u := atIssue s x b;
    let w := x.w.val;
      (Issues s x b) ∧ ((tileOf s x).owner b = some f) ∧ ((u.wall w).raised.length < 256)) := by decide +kernel

theorem wit_SavewAndCallwOpenAWindow :
    (let s : State := sWin 6; let x : TileRef := x0; let b : Bank := .b0; let f : Nat := 7; let c := ctxOf s x b;
    let k : Cond4 := 0;
      (Issues s x b) ∧ (b ≠ Bank.fast) ∧ (c.flow = some f) ∧
      (if s.fixedFlow x.w.val f = true then c.depth < 8 else c.wres < 7) ∧ (BitVec.toNat k ≤ 10) ∧
      (c.condHolds k = true) ∧ (s.fixedFlow x.w.val f = false)) ∧
    (let s : State := sWin 6; let x : TileRef := x0; let b : Bank := .b0; let f : Nat := 7; let c := ctxOf s x b;
    let k : Cond4 := 1;
      (Issues s x b) ∧ (b ≠ Bank.fast) ∧ (c.flow = some f) ∧
      (if s.fixedFlow x.w.val f = true then c.depth < 8 else c.wres < 7) ∧ (BitVec.toNat k ≤ 10) ∧
      (c.condHolds k = false) ∧ (s.fixedFlow x.w.val f = false)) ∧
    (let s : State := sWin 7; let x : TileRef := x0; let b : Bank := .b0; let f : Nat := 7; let c := ctxOf s x b;
    let k : Cond4 := 10; let target : PC12 := 0; let i : Instr := .savew x0;
      (Issues s x b) ∧ (b ≠ Bank.fast) ∧ (c.flow = some f) ∧ (s.fixedFlow x.w.val f = false) ∧ (7 ≤ c.wres) ∧
      (s.spillTakesArea x.w.val c = false ∨ (s.wall x.w.val).freeHead ≠ none) ∧
      (i = Instr.savew x ∨ i = Instr.callw x k target ∧ BitVec.toNat k ≤ 10 ∧ c.condHolds k = true)) ∧
    (let s : State := savewAnd1; let x : TileRef := x0; let b : Bank := .b0; let f : Nat := 7; let c := ctxOf s x b;
    let k : Cond4 := 10;
      (Issues s x b) ∧ (b ≠ Bank.fast) ∧ (c.flow = some f) ∧
      (if s.fixedFlow x.w.val f = true then c.depth < 8 else c.wres < 7) ∧ (BitVec.toNat k ≤ 10) ∧ (c.condHolds k = true)) := by
  refine ⟨?_, ?_, ?_, ?_⟩ <;> decide +kernel

theorem wit_RestwAndRetwCloseAWindow :
    (let s : State := sWin 2; let x : TileRef := x0; let b : Bank := .b0; let f : Nat := 7; let c := ctxOf s x b;
    let k : Cond4 := 0;
      (Issues s x b) ∧ (b ≠ Bank.fast) ∧ (c.flow = some f) ∧ (1 < c.depth) ∧ (1 < c.wres) ∧ (BitVec.toNat k ≤ 10) ∧
      (c.condHolds k = true)) ∧
    (let s : State := sWin 2; let x : TileRef := x0; let b : Bank := .b0; let f : Nat := 7; let c := ctxOf s x b;
    let k : Cond4 := 1;
      (Issues s x b) ∧ (b ≠ Bank.fast) ∧ (c.flow = some f) ∧ (1 < c.depth) ∧ (1 < c.wres) ∧ (BitVec.toNat k ≤ 10) ∧
      (c.condHolds k = false)) ∧
    (let s : State := sFill; let x : TileRef := x0; let b : Bank := .b0; let f : Nat := 7; let c := ctxOf s x b;
    let k : Cond4 := 10; let i : Instr := .retw x0 10;
      (Issues s x b) ∧ (b ≠ Bank.fast) ∧ (c.flow = some f) ∧ (1 < c.depth) ∧ (c.wres ≤ 1) ∧
      (i = Instr.restw x ∨ i = Instr.retw x k ∧ BitVec.toNat k ≤ 10 ∧ c.condHolds k = true)) := by
  refine ⟨?_, ?_, ?_⟩ <;> decide +kernel

theorem wit_RestwAtDepthOneHaltsTheFlow :
    (let s : State := sWin 1; let x : TileRef := x0; let b : Bank := .b0; let f : Fin 512 := 7; let c := ctxOf s x b;
    let k : Cond4 := 0; let i : Instr := .restw x0; let u := atIssue s x b; let a := R.SEQ_FAULT x.w.val x.t.val;
      (Issues s x b) ∧ (b ≠ Bank.fast) ∧ (c.flow = some f.val) ∧ (c.depth = 1) ∧
      (i = Instr.restw x ∨ i = Instr.retw x k ∧ BitVec.toNat k ≤ 10 ∧ c.condHolds k = true) ∧
      (u.fl a F.SEQ_FAULT_valid = 0)) ∧
    (let s : State := sWin 1; let x : TileRef := x0; let b : Bank := .b0; let f : Fin 512 := 7; let c := ctxOf s x b;
    let k : Cond4 := 10; let i : Instr := .retw x0 10; let u := atIssue s x b; let a := R.SEQ_FAULT x.w.val x.t.val;
      (Issues s x b) ∧ (b ≠ Bank.fast) ∧ (c.flow = some f.val) ∧ (c.depth = 1) ∧
      (i = Instr.restw x ∨ i = Instr.retw x k ∧ BitVec.toNat k ≤ 10 ∧ c.condHolds k = true) ∧
      (u.fl a F.SEQ_FAULT_valid = 0)) := by
  refine ⟨?_, ?_⟩ <;> decide +kernel

theorem wit_SequencerFaultsHaltTheFlow :
    (let s : State := sA; let x : TileRef := x0; let b : Bank := .b0; let f : Fin 512 := 7;
    let i : Instr := .illegalInstruction x0 0xE0000000; let cause : Nat := 1; let c := ctxOf s x b;
    let a := R.SEQ_FAULT x.w.val x.t.val;
      (Issues s x b) ∧ ((tileOf s x).owner b = some f.val) ∧ ((∃ v,
    i = Instr.illegalInstruction x v ∧
      7 ≤ BitVec.toNat v / 536870912 ∧ cause = 1) ∨
  (∃ g, i = Instr.aluAdd x g ∧ 10 < BitVec.toNat g.cond ∧ cause = 1) ∨
    (∃ g, i = Instr.rep x g ∧ BitVec.toNat g.fin ≤ c.pc.toNat ∧ cause = 1) ∨
      (∃ g,
          i = Instr.rep x g ∧
            c.pc.toNat + 1 ≤ BitVec.toNat g.fin ∧
              4 ≤ c.loops.length ∧ cause = 2) ∨
        (∃ g,
            i = Instr.pat x g ∧
              patLegal g = true ∧
                c.condHolds g.cond = true ∧ patLoadsLegal c g = false ∧ cause = 5) ∨
          i = Instr.retf x ∧ b ≠ Bank.fast ∧ cause = 6 ∨
            (i = Instr.savew x ∨
                i = Instr.restw x ∨
                  (i = Instr.done x ∨ i = Instr.yield x ∨ i = Instr.waite x) ∧ (tileOf s x).handlerOf ≠ none) ∧
              b = Bank.fast ∧ cause = 7) ∧ (s.fl a F.SEQ_FAULT_valid = 0)) ∧
    (let s : State := sA; let x : TileRef := x0; let b : Bank := .b0; let f : Fin 512 := 7;
    let i : Instr := .aluAdd x0 { aF with cond := 11 }; let cause : Nat := 1; let c := ctxOf s x b;
    let a := R.SEQ_FAULT x.w.val x.t.val;
      (Issues s x b) ∧ ((tileOf s x).owner b = some f.val) ∧ ((∃ v,
    i = Instr.illegalInstruction x v ∧
      7 ≤ BitVec.toNat v / 536870912 ∧ cause = 1) ∨
  (∃ g, i = Instr.aluAdd x g ∧ 10 < BitVec.toNat g.cond ∧ cause = 1) ∨
    (∃ g, i = Instr.rep x g ∧ BitVec.toNat g.fin ≤ c.pc.toNat ∧ cause = 1) ∨
      (∃ g,
          i = Instr.rep x g ∧
            c.pc.toNat + 1 ≤ BitVec.toNat g.fin ∧
              4 ≤ c.loops.length ∧ cause = 2) ∨
        (∃ g,
            i = Instr.pat x g ∧
              patLegal g = true ∧
                c.condHolds g.cond = true ∧ patLoadsLegal c g = false ∧ cause = 5) ∨
          i = Instr.retf x ∧ b ≠ Bank.fast ∧ cause = 6 ∨
            (i = Instr.savew x ∨
                i = Instr.restw x ∨
                  (i = Instr.done x ∨ i = Instr.yield x ∨ i = Instr.waite x) ∧ (tileOf s x).handlerOf ≠ none) ∧
              b = Bank.fast ∧ cause = 7) ∧ (s.fl a F.SEQ_FAULT_valid = 0)) ∧
    (let s : State := sA; let x : TileRef := x0; let b : Bank := .b0; let f : Fin 512 := 7;
    let i : Instr := .rep x0 { rFm with fin := 100 }; let cause : Nat := 1; let c := ctxOf s x b;
    let a := R.SEQ_FAULT x.w.val x.t.val;
      (Issues s x b) ∧ ((tileOf s x).owner b = some f.val) ∧ ((∃ v,
    i = Instr.illegalInstruction x v ∧
      7 ≤ BitVec.toNat v / 536870912 ∧ cause = 1) ∨
  (∃ g, i = Instr.aluAdd x g ∧ 10 < BitVec.toNat g.cond ∧ cause = 1) ∨
    (∃ g, i = Instr.rep x g ∧ BitVec.toNat g.fin ≤ c.pc.toNat ∧ cause = 1) ∨
      (∃ g,
          i = Instr.rep x g ∧
            c.pc.toNat + 1 ≤ BitVec.toNat g.fin ∧
              4 ≤ c.loops.length ∧ cause = 2) ∨
        (∃ g,
            i = Instr.pat x g ∧
              patLegal g = true ∧
                c.condHolds g.cond = true ∧ patLoadsLegal c g = false ∧ cause = 5) ∨
          i = Instr.retf x ∧ b ≠ Bank.fast ∧ cause = 6 ∨
            (i = Instr.savew x ∨
                i = Instr.restw x ∨
                  (i = Instr.done x ∨ i = Instr.yield x ∨ i = Instr.waite x) ∧ (tileOf s x).handlerOf ≠ none) ∧
              b = Bank.fast ∧ cause = 7) ∧ (s.fl a F.SEQ_FAULT_valid = 0)) ∧
    (let s : State := sRep; let x : TileRef := x0; let b : Bank := .b0; let f : Fin 512 := 7;
    let i : Instr := .rep x0 rF; let cause : Nat := 2; let c := ctxOf s x b; let a := R.SEQ_FAULT x.w.val x.t.val;
      (Issues s x b) ∧ ((tileOf s x).owner b = some f.val) ∧ ((∃ v,
    i = Instr.illegalInstruction x v ∧
      7 ≤ BitVec.toNat v / 536870912 ∧ cause = 1) ∨
  (∃ g, i = Instr.aluAdd x g ∧ 10 < BitVec.toNat g.cond ∧ cause = 1) ∨
    (∃ g, i = Instr.rep x g ∧ BitVec.toNat g.fin ≤ c.pc.toNat ∧ cause = 1) ∨
      (∃ g,
          i = Instr.rep x g ∧
            c.pc.toNat + 1 ≤ BitVec.toNat g.fin ∧
              4 ≤ c.loops.length ∧ cause = 2) ∨
        (∃ g,
            i = Instr.pat x g ∧
              patLegal g = true ∧
                c.condHolds g.cond = true ∧ patLoadsLegal c g = false ∧ cause = 5) ∨
          i = Instr.retf x ∧ b ≠ Bank.fast ∧ cause = 6 ∨
            (i = Instr.savew x ∨
                i = Instr.restw x ∨
                  (i = Instr.done x ∨ i = Instr.yield x ∨ i = Instr.waite x) ∧ (tileOf s x).handlerOf ≠ none) ∧
              b = Bank.fast ∧ cause = 7) ∧ (s.fl a F.SEQ_FAULT_valid = 0)) ∧
    (let s : State := sLoad; let x : TileRef := x0; let b : Bank := .b0; let f : Fin 512 := 7;
    let i : Instr := .pat x0 pF; let cause : Nat := 5; let c := ctxOf s x b; let a := R.SEQ_FAULT x.w.val x.t.val;
      (Issues s x b) ∧ ((tileOf s x).owner b = some f.val) ∧ ((∃ v,
    i = Instr.illegalInstruction x v ∧
      7 ≤ BitVec.toNat v / 536870912 ∧ cause = 1) ∨
  (∃ g, i = Instr.aluAdd x g ∧ 10 < BitVec.toNat g.cond ∧ cause = 1) ∨
    (∃ g, i = Instr.rep x g ∧ BitVec.toNat g.fin ≤ c.pc.toNat ∧ cause = 1) ∨
      (∃ g,
          i = Instr.rep x g ∧
            c.pc.toNat + 1 ≤ BitVec.toNat g.fin ∧
              4 ≤ c.loops.length ∧ cause = 2) ∨
        (∃ g,
            i = Instr.pat x g ∧
              patLegal g = true ∧
                c.condHolds g.cond = true ∧ patLoadsLegal c g = false ∧ cause = 5) ∨
          i = Instr.retf x ∧ b ≠ Bank.fast ∧ cause = 6 ∨
            (i = Instr.savew x ∨
                i = Instr.restw x ∨
                  (i = Instr.done x ∨ i = Instr.yield x ∨ i = Instr.waite x) ∧ (tileOf s x).handlerOf ≠ none) ∧
              b = Bank.fast ∧ cause = 7) ∧ (s.fl a F.SEQ_FAULT_valid = 0)) ∧
    (let s : State := sA; let x : TileRef := x0; let b : Bank := .b0; let f : Fin 512 := 7; let i : Instr := .retf x0;
    let cause : Nat := 6; let c := ctxOf s x b; let a := R.SEQ_FAULT x.w.val x.t.val;
      (Issues s x b) ∧ ((tileOf s x).owner b = some f.val) ∧ ((∃ v,
    i = Instr.illegalInstruction x v ∧
      7 ≤ BitVec.toNat v / 536870912 ∧ cause = 1) ∨
  (∃ g, i = Instr.aluAdd x g ∧ 10 < BitVec.toNat g.cond ∧ cause = 1) ∨
    (∃ g, i = Instr.rep x g ∧ BitVec.toNat g.fin ≤ c.pc.toNat ∧ cause = 1) ∨
      (∃ g,
          i = Instr.rep x g ∧
            c.pc.toNat + 1 ≤ BitVec.toNat g.fin ∧
              4 ≤ c.loops.length ∧ cause = 2) ∨
        (∃ g,
            i = Instr.pat x g ∧
              patLegal g = true ∧
                c.condHolds g.cond = true ∧ patLoadsLegal c g = false ∧ cause = 5) ∨
          i = Instr.retf x ∧ b ≠ Bank.fast ∧ cause = 6 ∨
            (i = Instr.savew x ∨
                i = Instr.restw x ∨
                  (i = Instr.done x ∨ i = Instr.yield x ∨ i = Instr.waite x) ∧ (tileOf s x).handlerOf ≠ none) ∧
              b = Bank.fast ∧ cause = 7) ∧ (s.fl a F.SEQ_FAULT_valid = 0)) ∧
    (let s : State := sF; let x : TileRef := x0; let b : Bank := .fast; let f : Fin 512 := 7; let i : Instr := .restw x0;
    let cause : Nat := 7; let c := ctxOf s x b; let a := R.SEQ_FAULT x.w.val x.t.val;
      (Issues s x b) ∧ ((tileOf s x).owner b = some f.val) ∧ ((∃ v,
    i = Instr.illegalInstruction x v ∧
      7 ≤ BitVec.toNat v / 536870912 ∧ cause = 1) ∨
  (∃ g, i = Instr.aluAdd x g ∧ 10 < BitVec.toNat g.cond ∧ cause = 1) ∨
    (∃ g, i = Instr.rep x g ∧ BitVec.toNat g.fin ≤ c.pc.toNat ∧ cause = 1) ∨
      (∃ g,
          i = Instr.rep x g ∧
            c.pc.toNat + 1 ≤ BitVec.toNat g.fin ∧
              4 ≤ c.loops.length ∧ cause = 2) ∨
        (∃ g,
            i = Instr.pat x g ∧
              patLegal g = true ∧
                c.condHolds g.cond = true ∧ patLoadsLegal c g = false ∧ cause = 5) ∨
          i = Instr.retf x ∧ b ≠ Bank.fast ∧ cause = 6 ∨
            (i = Instr.savew x ∨
                i = Instr.restw x ∨
                  (i = Instr.done x ∨ i = Instr.yield x ∨ i = Instr.waite x) ∧ (tileOf s x).handlerOf ≠ none) ∧
              b = Bank.fast ∧ cause = 7) ∧ (s.fl a F.SEQ_FAULT_valid = 0)) ∧
    (let s : State := sH; let x : TileRef := x0; let b : Bank := .fast; let f : Fin 512 := 7; let i : Instr := .done x0;
    let cause : Nat := 7; let c := ctxOf s x b; let a := R.SEQ_FAULT x.w.val x.t.val;
      (Issues s x b) ∧ ((tileOf s x).owner b = some f.val) ∧ ((∃ v,
    i = Instr.illegalInstruction x v ∧
      7 ≤ BitVec.toNat v / 536870912 ∧ cause = 1) ∨
  (∃ g, i = Instr.aluAdd x g ∧ 10 < BitVec.toNat g.cond ∧ cause = 1) ∨
    (∃ g, i = Instr.rep x g ∧ BitVec.toNat g.fin ≤ c.pc.toNat ∧ cause = 1) ∨
      (∃ g,
          i = Instr.rep x g ∧
            c.pc.toNat + 1 ≤ BitVec.toNat g.fin ∧
              4 ≤ c.loops.length ∧ cause = 2) ∨
        (∃ g,
            i = Instr.pat x g ∧
              patLegal g = true ∧
                c.condHolds g.cond = true ∧ patLoadsLegal c g = false ∧ cause = 5) ∨
          i = Instr.retf x ∧ b ≠ Bank.fast ∧ cause = 6 ∨
            (i = Instr.savew x ∨
                i = Instr.restw x ∨
                  (i = Instr.done x ∨ i = Instr.yield x ∨ i = Instr.waite x) ∧ (tileOf s x).handlerOf ≠ none) ∧
              b = Bank.fast ∧ cause = 7) ∧ (s.fl a F.SEQ_FAULT_valid = 0)) :=
  ⟨⟨by decide +kernel, by decide +kernel, (.inl ⟨_, rfl, by decide, rfl⟩), by decide +kernel⟩,
   ⟨by decide +kernel, by decide +kernel, (.inr (.inl ⟨_, rfl, by decide, rfl⟩)), by decide +kernel⟩,
   ⟨by decide +kernel, by decide +kernel, (.inr (.inr (.inl ⟨_, rfl, by decide +kernel, rfl⟩))), by decide +kernel⟩,
   ⟨by decide +kernel, by decide +kernel, (.inr (.inr (.inr (.inl ⟨_, rfl, by decide +kernel, by decide +kernel, rfl⟩)))),
    by decide +kernel⟩,
   ⟨by decide +kernel, by decide +kernel,
    (.inr (.inr (.inr (.inr (.inl ⟨_, rfl, by decide +kernel, by decide +kernel, by decide +kernel, rfl⟩))))),
    by decide +kernel⟩,
   ⟨by decide +kernel, by decide +kernel, (.inr (.inr (.inr (.inr (.inr (.inl ⟨rfl, by decide, rfl⟩)))))),
    by decide +kernel⟩,
   ⟨by decide +kernel, by decide +kernel, (.inr (.inr (.inr (.inr (.inr (.inr ⟨.inr (.inl rfl), rfl, rfl⟩)))))),
    by decide +kernel⟩,
   ⟨by decide +kernel, by decide +kernel,
    (.inr (.inr (.inr (.inr (.inr (.inr ⟨.inr (.inr ⟨.inl rfl, by decide +kernel⟩), rfl, rfl⟩)))))), by decide +kernel⟩⟩

theorem wit_BlockInstructionsRequestTheHod :
    (let s : State := sA; let x : TileRef := x0; let b : Bank := .b0; let f : Nat := 7; let w := x.w.val;
      (Issues s x b) ∧ ((tileOf s x).owner b = some f) ∧ ((s.wall w).freeHead ≠ none)) ∧
    (let s : State := sSave 1; let x : TileRef := x0; let b : Bank := .b0; let f : Nat := 7; let w := x.w.val;
    let c := ctxOf s x b; let head := (nbits (BitVec.toNat (s.areaWord w c.saveHead.toNat 0)) 16
          4);
      (Issues s x b) ∧ ((tileOf s x).owner b = some f) ∧ ((s.wall w).freeHead ≠ none) ∧ (c.saveDepth ≠ 0) ∧ (head = 1)) ∧
    (let s : State := sSave 2; let x : TileRef := x0; let b : Bank := .b0; let f : Nat := 7; let w := x.w.val;
    let c := ctxOf s x b; let head := (nbits (BitVec.toNat (s.areaWord w c.saveHead.toNat 0)) 16
          4);
      (Issues s x b) ∧ ((tileOf s x).owner b = some f) ∧ ((s.wall w).freeHead ≠ none) ∧ (c.saveDepth ≠ 0) ∧ (head = 2)) := by
  refine ⟨?_, ?_, ?_⟩ <;> decide +kernel

theorem wit_SendPutsAPacketOnTheBond :
    (let s : State := sA; let x : TileRef := x0; let b : Bank := .b0; let f : SendF := sendPuts1; let u := atIssue s x b;
    let c := ctxOf u x b; let ra := c.reg b (BitVec.toNat f.ra); let st := u.sendCheck x.w.val x.t.val ra f;
      (Issues s x b) ∧ (f.kind.toNat < 2) ∧ (f.gen = false) ∧ (4 ≤ f.len.toNat) ∧ (st ≠ 0)) ∧
    (let s : State := sA; let x : TileRef := x0; let b : Bank := .b0; let f : SendF := sendPuts2; let u := atIssue s x b;
    let c := ctxOf u x b; let ra := c.reg b (BitVec.toNat f.ra); let st := u.sendCheck x.w.val x.t.val ra f;
      (Issues s x b) ∧ (f.kind.toNat < 2) ∧ (f.gen = false) ∧ (4 ≤ f.len.toNat) ∧ (st ≠ 0)) ∧
    (let s : State := sSend; let x : TileRef := x0; let b : Bank := .b0; let f : SendF := dF; let u := atIssue s x b;
    let c := ctxOf u x b; let ra := c.reg b (BitVec.toNat f.ra); let st := u.sendCheck x.w.val x.t.val ra f;
      (Issues s x b) ∧ (f.kind.toNat < 2) ∧ (st = 0)) := by
  refine ⟨?_, ?_, ?_⟩ <;> decide +kernel

theorem wit_FenceWaitsForTheSends :
    (let s : State := sA; let x : TileRef := x0; let b : Bank := .b0; let u := atIssue s x b;
      (Issues s x b) ∧ ((tileOf u x).sending b = false)) ∧
    (let s : State := sOut; let x : TileRef := x0; let b : Bank := .b0; let u := atIssue s x b;
      (Issues s x b) ∧ ((tileOf u x).sending b = true)) := by
  refine ⟨?_, ?_⟩ <;> decide +kernel

theorem wit_RegisterWriteStoresTheValue :
    (let a : Nat := R.FW_RANGE 1 63; let s : State := up; let m : Mid := 0;
      (PlainRegister a) ∧ (Allowed s m a true)) ∧
    (let a : Nat := R.SEQ_FAULT 0 127; let s : State := up; let m : Mid := 0;
      (PlainRegister a) ∧ (Allowed s m a true)) ∧
    (let a : Nat := R.MSIX_DATA 127; let s : State := up; let m : Mid := 0;
      (PlainRegister a) ∧ (Allowed s m a true)) ∧
    (let a : Nat := R.WPWR_CTRL 0; let s : State := up; let m : Mid := 0;
      (PlainRegister a) ∧ (Allowed s m a true)) :=
  ⟨⟨(.inr (.inl ⟨1, 63, by decide⟩)), by decide +kernel⟩,
   ⟨(.inr (.inr (.inl ⟨0, 127, by decide⟩))), by decide +kernel⟩,
   ⟨(.inr (.inr (.inr (.inr (.inr (.inr (.inr (.inr (.inr (.inl ⟨127, by decide⟩)))))))))), by decide +kernel⟩,
   ⟨(.inr (.inr (.inr (.inr (.inr (.inr (.inr (.inr (.inr (.inr ⟨0, rfl⟩)))))))))), by decide +kernel⟩⟩

theorem wit_RegisterWriteCompletes :
    (let s : State := up; let m : Mid := 0; let a : Nat := R.DISP_CFG 1 + 2048;
      (Allowed s m a true) ∧ (regDef a = none)) ∧
    (let s : State := up; let m : Mid := 0; let a : Nat := R.HOD_CFG 0;
      (Allowed s m a true)) ∧
    (let s : State := up; let m : Mid := 0; let a : Nat := R.ACU_CTRL 0 0; let v : Word := 1;
      (Allowed s m a true) ∧ ((s.writeEffect (BitVec.toNat m) a v).snd ≠ 0) ∧ (doorbellQueue a = none)) ∧
    (let s : State := up; let m : Mid := 0; let a : Nat := 0x01000FFC;
      (Allowed s m a true) ∧ (regDef a = none)) := by
  refine ⟨?_, ?_, ?_, ?_⟩ <;> decide +kernel

theorem wit_RefusedAccessChangesNothing :
    (let m : Mid := 5; let a : Nat := R.FW_RANGE 0 3; let v : Word := 1; let wr : Bool := true;
    let i : Instr := .registerWrite 5 (R.FW_RANGE 0 3) 1; let s : State := up;
      (i = Instr.registerWrite m a v ∧ wr = true ∨
  (i = Instr.registerRead m a ∨ i = Instr.pairLoRead m a ∨ i = Instr.pairHiRead m a) ∧ wr = false) ∧
      (s.powered = true) ∧ (s.regCheck (BitVec.toNat m) a wr ≠ 0) ∧ (s.regCheck (BitVec.toNat m) a wr = stAccessDenied) ∧
      (BitVec.toNat m < 32) ∧ (s.fl (R.REG_STAT (BitVec.toNat m)) F.REG_STAT_valid = 0)) ∧
    (let m : Mid := 31; let a : Nat := R.FW_RANGE 0 3 + 2; let v : Word := 1; let wr : Bool := false;
    let i : Instr := .registerRead 31 (R.FW_RANGE 0 3 + 2); let s : State := up;
      (i = Instr.registerWrite m a v ∧ wr = true ∨
  (i = Instr.registerRead m a ∨ i = Instr.pairLoRead m a ∨ i = Instr.pairHiRead m a) ∧ wr = false) ∧
      (s.powered = true) ∧ (s.regCheck (BitVec.toNat m) a wr ≠ 0) ∧ (BitVec.toNat m < 32) ∧
      (s.fl (R.REG_STAT (BitVec.toNat m)) F.REG_STAT_valid = 0)) ∧
    (let m : Mid := 0; let a : Nat := R.WTICK_LO 7; let v : Word := 1; let wr : Bool := false;
    let i : Instr := .pairLoRead 0 (R.WTICK_LO 7); let s : State := small;
      (i = Instr.registerWrite m a v ∧ wr = true ∨
  (i = Instr.registerRead m a ∨ i = Instr.pairLoRead m a ∨ i = Instr.pairHiRead m a) ∧ wr = false) ∧
      (s.powered = true) ∧ (s.regCheck (BitVec.toNat m) a wr ≠ 0) ∧ (s.regCheck (BitVec.toNat m) a wr = stAccessDenied) ∧
      (BitVec.toNat m < 32) ∧ (s.fl (R.REG_STAT (BitVec.toNat m)) F.REG_STAT_valid = 0)) ∧
    (let m : Mid := 0; let a : Nat := R.WTICK_LO 7 + 4; let v : Word := 1; let wr : Bool := false;
    let i : Instr := .pairHiRead 0 (R.WTICK_LO 7 + 4); let s : State := small;
      (i = Instr.registerWrite m a v ∧ wr = true ∨
  (i = Instr.registerRead m a ∨ i = Instr.pairLoRead m a ∨ i = Instr.pairHiRead m a) ∧ wr = false) ∧
      (s.powered = true) ∧ (s.regCheck (BitVec.toNat m) a wr ≠ 0) ∧ (s.regCheck (BitVec.toNat m) a wr = stAccessDenied) ∧
      (BitVec.toNat m < 32) ∧ (s.fl (R.REG_STAT (BitVec.toNat m)) F.REG_STAT_valid = 0)) := by
  refine ⟨?_, ?_, ?_, ?_⟩ <;> decide +kernel

theorem wit_PairReadsAreCoherent :
    (let w : Option Wall := some 1; let a : Nat := R.WTICK_LO 1; let s : State := pairReads1; let m : Mid := 0;
    let off : Prop := ∃ v, w = some v ∧ s.wallOff v.val = true;
      (PairLo w a) ∧ (Allowed s m a false) ∧ (¬off) ∧ (Allowed s m (a + 4) false)) ∧
    (let w : Option Wall := none; let a : Nat := R.MT_TICK_LO; let s : State := pairReads2; let m : Mid := 0;
    let off : Prop := ∃ v, w = some v ∧ s.wallOff v.val = true;
      (PairLo w a) ∧ (Allowed s m a false) ∧ (¬off) ∧ (Allowed s m (a + 4) false)) ∧
    (let w : Option Wall := some 7; let a : Nat := R.ANG_SET_LO 7 3; let s : State := up; let m : Mid := 0;
    let off : Prop := ∃ v, w = some v ∧ s.wallOff v.val = true;
      (PairLo w a) ∧ (Allowed s m a false) ∧ (off) ∧ (Allowed s m (a + 4) false)) :=
  ⟨⟨(.inl (by decide)), by decide +kernel, by decide +kernel, by decide +kernel⟩,
   ⟨(.inl (by decide)), by decide +kernel, by decide +kernel, by decide +kernel⟩,
   ⟨(.inr (.inl ⟨3, by decide⟩)), by decide +kernel, by decide +kernel, by decide +kernel⟩⟩

theorem wit_RegisterReadReturnsTheWord :
    (let s : State := up; let m : Mid := 0; let a : Nat := R.MT_TICK_LO; let w2 : Nat := 7; let n : Nat := 63;
      (Allowed s m a false) ∧ (∀ (w o : Nat), wallOfAddr a = some (w, o) → s.wallOff w = false) ∧ (w2 < 8) ∧ (n < 64) ∧
      (a = R.MT_TICK_LO)) ∧
    (let s : State := up; let m : Mid := 0; let a : Nat := R.FW_RANGE 1 63; let w2 : Nat := 1; let n : Nat := 63;
      (Allowed s m a false) ∧ (∀ (w o : Nat), wallOfAddr a = some (w, o) → s.wallOff w = false) ∧ (w2 < 8) ∧ (n < 64) ∧
      (a = R.FW_RANGE w2 n ∨ a = R.HOD_LOW w2)) ∧
    (let s : State := up; let m : Mid := 0; let a : Nat := R.HOD_LOW 7; let w : Nat := 7; let o : Nat := 65544;
      (Allowed s m a false) ∧ (wallOfAddr a = some (w, o)) ∧ (s.wallOff w = true)) :=
  ⟨⟨by decide +kernel, (by intro w o h; cases (show (none : Option (Nat × Nat)) = some (w, o) from h)), by decide +kernel,
    by decide +kernel, by decide +kernel⟩,
   ⟨by decide +kernel, (by intro w o h; cases h; decide +kernel), by decide +kernel, by decide +kernel, by decide +kernel⟩,
   by decide +kernel⟩

theorem wit_PcInvalInvalidatesFreeWays :
    (let s : State := sPat; let m : Mid := 0; let x : TileRef := x0; let k2 : Nat := 7;
      (Allowed s m (R.PC_INVAL x.w.val x.t.val) true) ∧ (k2 < 8)) := by decide +kernel

theorem wit_PinWriteRequestsPinnedSlots :
    (let s : State := up; let m : Mid := 0; let x : TileRef := x0; let b : Bool := false;
    let a := if b = true then R.PC_PIN_B x.w.val x.t.val else R.PC_PIN_A x.w.val x.t.val;
      (Allowed s m a true) ∧ ((tileOf s x).pinA = none) ∧ ((tileOf s x).pinB = none) ∧ ((tileOf s x).refill = none) ∧
      (b = false)) ∧
    (let s : State := up; let m : Mid := 0; let x : TileRef := x0; let b : Bool := true;
    let a := if b = true then R.PC_PIN_B x.w.val x.t.val else R.PC_PIN_A x.w.val x.t.val;
      (Allowed s m a true) ∧ ((tileOf s x).pinA = none) ∧ ((tileOf s x).pinB = none) ∧ ((tileOf s x).refill = none) ∧
      (b = true)) := by
  refine ⟨?_, ?_⟩ <;> decide +kernel

theorem wit_WindowHandlersExcludeFastFlows :
    (let s : State := sFast; let m : Mid := 0; let x : TileRef := x0; let a := R.WHAND_CTRL x.w.val x.t.val;
    let bound : Prop := (∃ f,
          f < 512 ∧
            s.fstate x.w.val f ≠ fFree ∧
              (s.flow x.w.val f).placed = true ∧ s.fastFlow x.w.val f = true ∧ x.t.val ∈ s.tileSet x.w.val f);
    let v : Word := 2;
      (Allowed s m a true) ∧ (bound) ∧ (BitVec.getLsbD v 0 = true ∨ BitVec.getLsbD v 1 = true)) ∧
    (let s : State := sA; let m : Mid := 0; let x : TileRef := x0; let a := R.WHAND_CTRL x.w.val x.t.val;
    let bound : Prop := (∃ f,
          f < 512 ∧
            s.fstate x.w.val f ≠ fFree ∧
              (s.flow x.w.val f).placed = true ∧ s.fastFlow x.w.val f = true ∧ x.t.val ∈ s.tileSet x.w.val f);
      (Allowed s m a true) ∧ (¬bound)) := by
  refine ⟨?_, ?_⟩ <;> decide +kernel

theorem wit_RefillsFillAWay :
    (let s : State := sReq; let x : TileRef := x0; let y := tileOf s x; let w := x.w.val; let r : RefillReq := rq;
    let k : Nat := 0;
      (OnWall s x.w) ∧ (y.refill = none) ∧ ((s.wall w).gsr = false) ∧ (s.inTest w (x.t.val * 65536 / 4194304) = false) ∧
      (s.nextRefill w x.t.val = some r) ∧ (s.wayFor w x.t.val r = some k)) ∧
    (let s : State := sRefill; let x : TileRef := x0; let y := tileOf s x; let r2 : Refill := { req := rq, way := 7 };
    let w := x.w.val;
      (OnWall s x.w) ∧ (y.refill = some r2) ∧ (s.errWords w 0 (libOffset x.t.val r2.req.slot.toNat) 386 = [])) := by
  refine ⟨?_, ?_⟩ <;> decide +kernel

theorem wit_CapturesHoldTheTilesAtTheEdge :
    (let s : State := sCap 1; let m : Mid := 0; let w : Wall := 0; let a := R.CAP_CTRL w.val; let v : Word := 1;
    let st := R.CAP_STATUS w.val;
      (Allowed s m a true) ∧ (s.holds (claimCap w.val) (BitVec.toNat m) = true) ∧ (s.isReady w.val = true) ∧
      (fld v F.CAP_CTRL_arm = 1) ∧ (fld v F.CAP_CTRL_trig ≠ 3) ∧ (fld v F.CAP_CTRL_discard = 0) ∧
      (s.fl st F.CAP_STATUS_state ≤ 1) ∧ (s.fl a F.CAP_CTRL_arm = 0) ∧ (s.fl st F.CAP_STATUS_state ≠ 0) ∧ (OnWall s w) ∧
      (s.fl st F.CAP_STATUS_state = 1) ∧ (s.capDue w.val = true)) ∧
    (let s : State := sCap 2; let m : Mid := 0; let w : Wall := 0; let a := R.CAP_CTRL w.val; let v : Word := 0x7;
    let st := R.CAP_STATUS w.val;
      (Allowed s m a true) ∧ (s.holds (claimCap w.val) (BitVec.toNat m) = true) ∧ (s.isReady w.val = true) ∧
      (fld v F.CAP_CTRL_arm = 1) ∧ (fld v F.CAP_CTRL_trig = 3) ∧ (fld v F.CAP_CTRL_discard = 0) ∧
      (s.fl a F.CAP_CTRL_arm = 0) ∧ (s.fl st F.CAP_STATUS_state ≠ 0) ∧ (OnWall s w)) ∧
    (let s : State := captures1; let m : Mid := 0; let w : Wall := 0; let a := R.CAP_CTRL w.val; let v : Word := 5;
    let st := R.CAP_STATUS w.val;
      (Allowed s m a true) ∧ (s.holds (claimCap w.val) (BitVec.toNat m) = true) ∧ (s.isReady w.val = true) ∧
      (fld v F.CAP_CTRL_arm = 1) ∧ (fld v F.CAP_CTRL_trig ≠ 3) ∧ (fld v F.CAP_CTRL_discard = 0) ∧
      (s.fl st F.CAP_STATUS_state ≤ 1) ∧ (s.fl a F.CAP_CTRL_arm = 0) ∧ (s.fl st F.CAP_STATUS_state ≠ 0) ∧ (OnWall s w) ∧
      (s.fl st F.CAP_STATUS_state = 1) ∧ (s.capDue w.val = true)) := by
  refine ⟨?_, ?_, ?_⟩ <;> decide +kernel

theorem wit_BondInterfaceWritesTheOldestWord :
    (let s : State := sBuf; let x : TileRef := x0; let m : Nat := 1; let addr : Nat := 4; let d : W48 := 9;
    let rest : List BondFlit := [{ g := false, words := [(1, 5, 10)] }]; let w := x.w.val;
    let u := s.passTo w x.t.val (s.wall w).cycle; let y := tileOf u x; let asp := s.aspect w x.t.val m;
    let meets : Nat × Nat × W48 × W48 → Prop := fun e => e.fst = m ∧ e.snd.fst = addr ∧ dataBits asp e.snd.snd.fst ≠ dataBits asp d;
      (OnWall s x.w) ∧ (takeBondWord (tileOf s x).bbuf = some ((m, addr, d), rest)) ∧ (y.portBFree m = true) ∧
      ((s.wall w).tmemWe = true) ∧ (∀ (e : Nat × Nat × W48 × W48), e ∈ y.aWrites → ¬meets e)) ∧
    (let s : State := sColl 0 true; let x : TileRef := x0; let m : Nat := 1; let addr : Nat := 4; let d : W48 := 9;
    let rest : List BondFlit := [{ g := false, words := [(1, 5, 10)] }]; let w := x.w.val;
    let u := s.passTo w x.t.val (s.wall w).cycle; let y := tileOf u x; let e : Nat × Nat × W48 × W48 := (1, 4, 7, 2);
    let l : List (Nat × Nat × W48 × W48) := []; let r : List (Nat × Nat × W48 × W48) := [];
    let asp := s.aspect w x.t.val m;
    let meets : Nat × Nat × W48 × W48 → Prop := fun e => e.fst = m ∧ e.snd.fst = addr ∧ dataBits asp e.snd.snd.fst ≠ dataBits asp d;
      (OnWall s x.w) ∧ (takeBondWord (tileOf s x).bbuf = some ((m, addr, d), rest)) ∧ (y.portBFree m = true) ∧
      ((s.wall w).tmemWe = true) ∧ (y.aWrites = l ++ e :: r) ∧ (∀ (e' : Nat × Nat × W48 × W48), e' ∈ l → ¬meets e') ∧
      (meets e) ∧ (s.collPolicy w x.t.val m = 0)) ∧
    (let s : State := sColl 1 true; let x : TileRef := x0; let m : Nat := 1; let addr : Nat := 4; let d : W48 := 9;
    let rest : List BondFlit := [{ g := false, words := [(1, 5, 10)] }]; let w := x.w.val;
    let u := s.passTo w x.t.val (s.wall w).cycle; let y := tileOf u x; let e : Nat × Nat × W48 × W48 := (1, 4, 7, 2);
    let l : List (Nat × Nat × W48 × W48) := []; let r : List (Nat × Nat × W48 × W48) := [];
    let asp := s.aspect w x.t.val m;
    let meets : Nat × Nat × W48 × W48 → Prop := fun e => e.fst = m ∧ e.snd.fst = addr ∧ dataBits asp e.snd.snd.fst ≠ dataBits asp d;
      (OnWall s x.w) ∧ (takeBondWord (tileOf s x).bbuf = some ((m, addr, d), rest)) ∧ (y.portBFree m = true) ∧
      ((s.wall w).tmemWe = true) ∧ (y.aWrites = l ++ e :: r) ∧ (∀ (e' : Nat × Nat × W48 × W48), e' ∈ l → ¬meets e') ∧
      (meets e) ∧ (s.collPolicy w x.t.val m = 1)) ∧
    (let s : State := sColl 2 true; let x : TileRef := x0; let m : Nat := 1; let addr : Nat := 4; let d : W48 := 9;
    let rest : List BondFlit := [{ g := false, words := [(1, 5, 10)] }]; let w := x.w.val;
    let u := s.passTo w x.t.val (s.wall w).cycle; let y := tileOf u x; let e : Nat × Nat × W48 × W48 := (1, 4, 7, 2);
    let l : List (Nat × Nat × W48 × W48) := []; let r : List (Nat × Nat × W48 × W48) := [];
    let asp := s.aspect w x.t.val m;
    let meets : Nat × Nat × W48 × W48 → Prop := fun e => e.fst = m ∧ e.snd.fst = addr ∧ dataBits asp e.snd.snd.fst ≠ dataBits asp d;
      (OnWall s x.w) ∧ (takeBondWord (tileOf s x).bbuf = some ((m, addr, d), rest)) ∧ (y.portBFree m = true) ∧
      ((s.wall w).tmemWe = true) ∧ (y.aWrites = l ++ e :: r) ∧ (∀ (e' : Nat × Nat × W48 × W48), e' ∈ l → ¬meets e') ∧
      (meets e) ∧ (s.collPolicy w x.t.val m = 2)) ∧
    (let s : State := sColl 0 false; let x : TileRef := x0; let m : Nat := 1; let addr : Nat := 4; let d : W48 := 9;
    let rest : List BondFlit := [{ g := false, words := [(1, 5, 10)] }]; let w := x.w.val;
    let u := s.passTo w x.t.val (s.wall w).cycle; let y := tileOf u x;
      (OnWall s x.w) ∧ (takeBondWord (tileOf s x).bbuf = some ((m, addr, d), rest)) ∧ (y.portBFree m = true) ∧
      ((s.wall w).tmemWe = false)) := by
  refine ⟨?_, ?_, ?_, ?_, ?_⟩ <;> decide +kernel

theorem wit_PatternIssueIsOneCycle :
    (let s : State := sPat; let x : TileRef := x0; let w := x.w.val; let n := (tileOf s x).cyc + 1;
    let e := (s.enterCycle w x.t.val n).keepPrev w x.t.val n; let bk : Bank := .b0; let way : Nat := 0; let k : Nat := 3;
    let r := e.issueBrick w x.t.val (tileOf e x) bk n ((tileOf e x).way way).pat ((tileOf e x).way way).slot k;
      (OnWall s x.w) ∧ ((s.wall x.w.val).cycle ≤ (tileOf s x).cyc + 1) ∧ ((tileOf e x).cur = some bk) ∧
      ((tileOf e x).curWay = some way) ∧ (e.issues w (tileOf e x) n = true) ∧ (e.seqWaits w x.t n = 0) ∧ (k < 16) ∧
      (brickOn ((tileOf e x).way way).pat k = true) ∧ (r.snd.fst = true)) ∧
    (let s : State := up; let x : TileRef := x0; let w := x.w.val; let n := (tileOf s x).cyc + 1;
    let e := (s.enterCycle w x.t.val n).keepPrev w x.t.val n;
      (OnWall s x.w) ∧ ((s.wall x.w.val).cycle ≤ (tileOf s x).cyc + 1) ∧
      (e.issues w (tileOf e x) n = false ∨ e.seqWaits w x.t n ≠ 0)) ∧
    (let s : State := sIll; let x : TileRef := x0; let w := x.w.val; let n := (tileOf s x).cyc + 1;
    let e := (s.enterCycle w x.t.val n).keepPrev w x.t.val n; let bk : Bank := .b0; let way : Nat := 0; let k : Nat := 3;
    let r := e.issueBrick w x.t.val (tileOf e x) bk n ((tileOf e x).way way).pat ((tileOf e x).way way).slot k;
      (OnWall s x.w) ∧ ((s.wall x.w.val).cycle ≤ (tileOf s x).cyc + 1) ∧ ((tileOf e x).cur = some bk) ∧
      ((tileOf e x).curWay = some way) ∧ (e.issues w (tileOf e x) n = true) ∧ (e.seqWaits w x.t n = 0) ∧ (k < 16) ∧
      (brickOn ((tileOf e x).way way).pat k = true) ∧ (r.snd.fst = false)) := by
  refine ⟨?_, ?_, ?_⟩ <;> decide +kernel

theorem wit_FlowLifecycle :
    (let s : State := sL 0; let m : Mid := 0; let w : Wall := 0; let f : FlowIx := 7;
      (DispReady s m w) ∧ (s.dispCheck (BitVec.toNat m) w.val f.val 0 = 0) ∧
      (s.flowLease w.val (BitVec.toNat m) f.val = true)) ∧
    (let s : State := sL 1; let m : Mid := 0; let w : Wall := 0; let f : FlowIx := 7; let st := s.fstate w.val f.val;
      (DispReady s m w) ∧ (s.flowLease w.val (BitVec.toNat m) f.val = true) ∧ (st = fStopped)) ∧
    (let s : State := flowLifecycle1; let m : Mid := 0; let w : Wall := 0; let f : FlowIx := 7;
    let st := s.fstate w.val f.val; let susp : State → Nat := fun t => t.fl (R.FD_CTRL w.val f.val) F.FD_CTRL_susp;
      (DispReady s m w) ∧ (s.flowLease w.val (BitVec.toNat m) f.val = true) ∧ (st = fStopped) ∧ (susp s = 1)) ∧
    (let s : State := sL 2; let m : Mid := 0; let w : Wall := 0; let f : FlowIx := 7; let st := s.fstate w.val f.val;
      (DispReady s m w) ∧ (s.flowLease w.val (BitVec.toNat m) f.val = true) ∧ (2 ≤ st) ∧ (st ≤ 5)) ∧
    (let s : State := sL 5; let m : Mid := 0; let w : Wall := 0; let f : FlowIx := 7; let st := s.fstate w.val f.val;
      (DispReady s m w) ∧ (s.flowLease w.val (BitVec.toNat m) f.val = true) ∧ (2 ≤ st) ∧ (st ≤ 5)) ∧
    (let s : State := sL 6; let m : Mid := 0; let w : Wall := 0; let f : FlowIx := 7; let st := s.fstate w.val f.val;
      (DispReady s m w) ∧ (s.flowLease w.val (BitVec.toNat m) f.val = true) ∧ (2 ≤ st) ∧ (st = fHalted)) ∧
    (let s : State := up; let m : Mid := 0; let w : Wall := 0; let f : FlowIx := 511;
    let op : Nat × Instr := (4, .destroy 0 0 511);
      (DispReady s m w) ∧ (op ∈
  [(0, Instr.create m w f), (1, Instr.enable m w f),
    (2, Instr.disable m w f), (3, Instr.restart m w f),
    (4, Instr.destroy m w f), (5, Instr.wake m w f)]) ∧ (s.dispCheck (BitVec.toNat m) w.val f.val op.fst ≠ 0)) := by
  refine ⟨?_, ?_, ?_, ?_, ?_, ?_, ?_⟩ <;> decide +kernel

theorem wit_EnablePutsAFlowInPlace :
    (let s : State := sL 1; let m : Mid := 0; let w : Wall := 0; let f : FlowIx := 7;
    let placed : Prop := s.fixedFlow w.val f.val = true ∨ s.fastFlow w.val f.val = true;
      (DispReady s m w) ∧ (s.dispCheck (BitVec.toNat m) w.val f.val 1 = 0) ∧
      (¬placed ∨ s.residentAll w.val f.val = true)) ∧
    (let s : State := flowLifecycle1; let m : Mid := 0; let w : Wall := 0; let f : FlowIx := 7;
    let placed : Prop := s.fixedFlow w.val f.val = true ∨ s.fastFlow w.val f.val = true;
      (DispReady s m w) ∧ (s.dispCheck (BitVec.toNat m) w.val f.val 1 = 0) ∧
      (¬placed ∨ s.residentAll w.val f.val = true)) ∧
    (let s : State := enablePuts1; let m : Mid := 0; let w : Wall := 0; let f : FlowIx := 7;
    let placed : Prop := s.fixedFlow w.val f.val = true ∨ s.fastFlow w.val f.val = true;
      (DispReady s m w) ∧ (s.dispCheck (BitVec.toNat m) w.val f.val 1 = 0) ∧ (placed) ∧
      (s.residentAll w.val f.val = false)) ∧
    (let s : State := enablePuts2; let m : Mid := 0; let w : Wall := 0; let f : FlowIx := 7;
    let placed : Prop := s.fixedFlow w.val f.val = true ∨ s.fastFlow w.val f.val = true;
      (DispReady s m w) ∧ (s.dispCheck (BitVec.toNat m) w.val f.val 1 = 0) ∧ (placed) ∧
      (s.residentAll w.val f.val = false)) ∧
    (let s : State := enablePuts1.setTile 0 5 { c0 := { flow := some 7 } }; let m : Mid := 0; let w : Wall := 0;
    let f : FlowIx := 7; let placed : Prop := s.fixedFlow w.val f.val = true ∨ s.fastFlow w.val f.val = true;
      (DispReady s m w) ∧ (s.dispCheck (BitVec.toNat m) w.val f.val 1 = 0) ∧
      (¬placed ∨ s.residentAll w.val f.val = true) ∧ (placed)) := by
  refine ⟨?_, ?_, ?_, ?_, ?_⟩ <;> decide +kernel

theorem wit_TriggersActByFlowState :
    (let s : State := sL 2; let m : Mid := 0; let w : Wall := 0; let f : FlowIx := 7; let v : Word := 0;
    let f2 : FlowIx := 7; let rung : Prop := (s.fl (R.FD_WAKE w.val f2.val) F.FD_WAKE_kind = 4 ∧
          s.fl (R.FD_WAKE w.val f2.val) F.FD_WAKE_index < 32 ∧
            BitVec.getLsbD v (s.fl (R.FD_WAKE w.val f2.val) F.FD_WAKE_index) = true);
      (DispReady s m w) ∧ (s.flowLease w.val (BitVec.toNat m) f.val = true) ∧ (Allowed s m (R.DISP_DOORBELL w.val) true) ∧
      (¬rung)) ∧
    (let s : State := triggers1; let m : Mid := 0; let w : Wall := 0; let f : FlowIx := 7;
    let pend : State → FlowIx → Nat := fun u f => u.fl (R.FD_CTRL w.val f.val) F.FD_CTRL_pending; let v : Word := 0;
    let f2 : FlowIx := 7; let rung : Prop := (s.fl (R.FD_WAKE w.val f2.val) F.FD_WAKE_kind = 4 ∧
          s.fl (R.FD_WAKE w.val f2.val) F.FD_WAKE_index < 32 ∧
            BitVec.getLsbD v (s.fl (R.FD_WAKE w.val f2.val) F.FD_WAKE_index) = true);
      (DispReady s m w) ∧ (s.flowLease w.val (BitVec.toNat m) f.val = true) ∧
      (s.fstate w.val f.val = fRunnable ∨ s.fstate w.val f.val = fRunning) ∧ (pend s f = 1) ∧
      (Allowed s m (R.DISP_DOORBELL w.val) true) ∧ (¬rung)) ∧
    (let s : State := sL 6; let m : Mid := 0; let w : Wall := 0; let f : FlowIx := 7; let v : Word := 0;
    let f2 : FlowIx := 7; let rung : Prop := (s.fl (R.FD_WAKE w.val f2.val) F.FD_WAKE_kind = 4 ∧
          s.fl (R.FD_WAKE w.val f2.val) F.FD_WAKE_index < 32 ∧
            BitVec.getLsbD v (s.fl (R.FD_WAKE w.val f2.val) F.FD_WAKE_index) = true);
      (DispReady s m w) ∧ (s.flowLease w.val (BitVec.toNat m) f.val = true) ∧ (Allowed s m (R.DISP_DOORBELL w.val) true) ∧
      (¬rung)) ∧
    (let s : State := sBell; let m : Mid := 0; let w : Wall := 0; let f : FlowIx := 7; let v : Word := 0x80000000;
    let f2 : FlowIx := 7; let rung : Prop := (s.fl (R.FD_WAKE w.val f2.val) F.FD_WAKE_kind = 4 ∧
          s.fl (R.FD_WAKE w.val f2.val) F.FD_WAKE_index < 32 ∧
            BitVec.getLsbD v (s.fl (R.FD_WAKE w.val f2.val) F.FD_WAKE_index) = true);
      (DispReady s m w) ∧ (s.flowLease w.val (BitVec.toNat m) f.val = true) ∧ (Allowed s m (R.DISP_DOORBELL w.val) true) ∧
      (rung)) ∧
    (let s : State := sBell; let m : Mid := 0; let w : Wall := 0; let f : FlowIx := 7; let v : Word := 0x7FFFFFFF;
    let f2 : FlowIx := 7; let rung : Prop := (s.fl (R.FD_WAKE w.val f2.val) F.FD_WAKE_kind = 4 ∧
          s.fl (R.FD_WAKE w.val f2.val) F.FD_WAKE_index < 32 ∧
            BitVec.getLsbD v (s.fl (R.FD_WAKE w.val f2.val) F.FD_WAKE_index) = true);
      (DispReady s m w) ∧ (s.flowLease w.val (BitVec.toNat m) f.val = true) ∧ (Allowed s m (R.DISP_DOORBELL w.val) true) ∧
      (¬rung)) := by
  refine ⟨?_, ?_, ?_, ?_, ?_⟩ <;> decide +kernel

theorem wit_TargetWritesNeedADisarmedSchedule :
    (let s : State := sSch 2 1; let m : Mid := 0; let w : Wall := 0; let f : FlowIx := 7; let r : Fin 8 := 4;
    let a := R.FD_CTRL w.val f.val + 4 * r.val; let lease : Prop := s.flowLease w.val (BitVec.toNat m) f.val = true;
    let st := s.fstate w.val f.val; let v : Word := 5; let keeps : Fld → Prop := fun x => fld v x = s.fl a x;
    let free : Prop := ((r.val = 0 → st = fStopped ∨ keeps F.FD_CTRL_fixed ∧ keeps F.FD_CTRL_fastb) ∧
          (r.val = 1 →
              st = fFree ∨ keeps F.FD_BIND_course ∧ keeps F.FD_BIND_tiles ∧ (st = fStopped ∨ keeps F.FD_BIND_first_slot)) ∧
            (4 ≤ r.val →
              r.val ≤ 6 →
                s.fl (R.FD_SCHED w.val f.val) F.FD_SCHED_mode = 0 ∨ st = fStopped));
      (Allowed s m a true) ∧ (r.val ≠ 2) ∧ (lease) ∧ (st ≠ fFree ∨ r.val = 1) ∧ (¬free)) ∧
    (let s : State := sSch 1 1; let m : Mid := 0; let w : Wall := 0; let f : FlowIx := 7; let r : Fin 8 := 6;
    let a := R.FD_CTRL w.val f.val + 4 * r.val; let lease : Prop := s.flowLease w.val (BitVec.toNat m) f.val = true;
    let st := s.fstate w.val f.val; let v : Word := 5; let keeps : Fld → Prop := fun x => fld v x = s.fl a x;
    let free : Prop := ((r.val = 0 → st = fStopped ∨ keeps F.FD_CTRL_fixed ∧ keeps F.FD_CTRL_fastb) ∧
          (r.val = 1 →
              st = fFree ∨ keeps F.FD_BIND_course ∧ keeps F.FD_BIND_tiles ∧ (st = fStopped ∨ keeps F.FD_BIND_first_slot)) ∧
            (4 ≤ r.val →
              r.val ≤ 6 →
                s.fl (R.FD_SCHED w.val f.val) F.FD_SCHED_mode = 0 ∨ st = fStopped));
      (Allowed s m a true) ∧ (r.val ≠ 2) ∧ (lease) ∧ (st ≠ fFree ∨ r.val = 1) ∧ (free)) ∧
    (let s : State := sSch 2 0; let m : Mid := 0; let w : Wall := 0; let f : FlowIx := 7; let r : Fin 8 := 2;
    let a := R.FD_CTRL w.val f.val + 4 * r.val;
      (Allowed s m a true) ∧ (r.val = 2)) ∧
    (let s : State := sL 0; let m : Mid := 0; let w : Wall := 0; let f : FlowIx := 7; let r : Fin 8 := 1;
    let a := R.FD_CTRL w.val f.val + 4 * r.val; let lease : Prop := s.flowLease w.val (BitVec.toNat m) f.val = true;
    let st := s.fstate w.val f.val; let v : Word := 0xFFFFFFFF; let keeps : Fld → Prop := fun x => fld v x = s.fl a x;
    let free : Prop := ((r.val = 0 → st = fStopped ∨ keeps F.FD_CTRL_fixed ∧ keeps F.FD_CTRL_fastb) ∧
          (r.val = 1 →
              st = fFree ∨ keeps F.FD_BIND_course ∧ keeps F.FD_BIND_tiles ∧ (st = fStopped ∨ keeps F.FD_BIND_first_slot)) ∧
            (4 ≤ r.val →
              r.val ≤ 6 →
                s.fl (R.FD_SCHED w.val f.val) F.FD_SCHED_mode = 0 ∨ st = fStopped));
      (Allowed s m a true) ∧ (r.val ≠ 2) ∧ (lease) ∧ (st ≠ fFree ∨ r.val = 1) ∧ (free) ∧ (st = fFree)) ∧
    (let s : State := sL 0; let m : Mid := 0; let w : Wall := 0; let f : FlowIx := 7; let r : Fin 8 := 7;
    let a := R.FD_CTRL w.val f.val + 4 * r.val; let lease : Prop := s.flowLease w.val (BitVec.toNat m) f.val = true;
    let st := s.fstate w.val f.val;
      (Allowed s m a true) ∧ (r.val ≠ 2) ∧ (lease) ∧ (st = fFree) ∧ (r.val ≠ 1)) ∧
    (let s : State := sL 3; let m : Mid := 0; let w : Wall := 0; let f : FlowIx := 7; let r : Fin 8 := 1;
    let a := R.FD_CTRL w.val f.val + 4 * r.val; let lease : Prop := s.flowLease w.val (BitVec.toNat m) f.val = true;
    let st := s.fstate w.val f.val; let v : Word := 0xFFFFFFFF; let keeps : Fld → Prop := fun x => fld v x = s.fl a x;
    let free : Prop := ((r.val = 0 → st = fStopped ∨ keeps F.FD_CTRL_fixed ∧ keeps F.FD_CTRL_fastb) ∧
          (r.val = 1 →
              st = fFree ∨ keeps F.FD_BIND_course ∧ keeps F.FD_BIND_tiles ∧ (st = fStopped ∨ keeps F.FD_BIND_first_slot)) ∧
            (4 ≤ r.val →
              r.val ≤ 6 →
                s.fl (R.FD_SCHED w.val f.val) F.FD_SCHED_mode = 0 ∨ st = fStopped));
      (Allowed s m a true) ∧ (r.val ≠ 2) ∧ (lease) ∧ (st ≠ fFree ∨ r.val = 1) ∧ (¬free)) ∧
    (let s : State := sL 1; let m : Mid := 0; let w : Wall := 0; let f : FlowIx := 7; let r : Fin 8 := 0;
    let a := R.FD_CTRL w.val f.val + 4 * r.val; let lease : Prop := s.flowLease w.val (BitVec.toNat m) f.val = true;
    let st := s.fstate w.val f.val; let v : Word := 0xFFFFFFFF; let keeps : Fld → Prop := fun x => fld v x = s.fl a x;
    let free : Prop := ((r.val = 0 → st = fStopped ∨ keeps F.FD_CTRL_fixed ∧ keeps F.FD_CTRL_fastb) ∧
          (r.val = 1 →
              st = fFree ∨ keeps F.FD_BIND_course ∧ keeps F.FD_BIND_tiles ∧ (st = fStopped ∨ keeps F.FD_BIND_first_slot)) ∧
            (4 ≤ r.val →
              r.val ≤ 6 →
                s.fl (R.FD_SCHED w.val f.val) F.FD_SCHED_mode = 0 ∨ st = fStopped));
      (Allowed s m a true) ∧ (r.val ≠ 2) ∧ (lease) ∧ (st ≠ fFree ∨ r.val = 1) ∧ (free)) ∧
    (let s : State := flowIn up 7 2; let m : Mid := 0; let w : Wall := 0; let f : FlowIx := 7; let r : Fin 8 := 0;
    let a := R.FD_CTRL w.val f.val + 4 * r.val; let lease : Prop := s.flowLease w.val (BitVec.toNat m) f.val = true;
      (Allowed s m a true) ∧ (r.val ≠ 2) ∧ (¬lease)) := by
  refine ⟨?_, ?_, ?_, ?_, ?_, ?_, ?_, ?_⟩ <;> decide +kernel

theorem wit_SchedWriteArmsTheTarget :
    (let s : State := sL 2; let m : Mid := 0; let w : Wall := 0; let f : FlowIx := 7; let a := R.FD_SCHED w.val f.val;
    let v : Word := 3; let mode := fld v F.FD_SCHED_mode;
      (Allowed s m a true) ∧ (s.flowLease w.val (BitVec.toNat m) f.val = true) ∧ (s.fstate w.val f.val ≠ fFree) ∧
      (mode = 3 ∨ mode = 2 ∧ fld v F.FD_SCHED_div = 0)) ∧
    (let s : State := sL 2; let m : Mid := 0; let w : Wall := 0; let f : FlowIx := 7; let a := R.FD_SCHED w.val f.val;
    let v : Word := 0; let mode := fld v F.FD_SCHED_mode;
      (Allowed s m a true) ∧ (s.flowLease w.val (BitVec.toNat m) f.val = true) ∧ (s.fstate w.val f.val ≠ fFree) ∧
      (mode = 0)) ∧
    (let s : State := sL 2; let m : Mid := 0; let w : Wall := 0; let f : FlowIx := 7; let a := R.FD_SCHED w.val f.val;
    let v : Word := 1; let mode := fld v F.FD_SCHED_mode;
      (Allowed s m a true) ∧ (s.flowLease w.val (BitVec.toNat m) f.val = true) ∧ (s.fstate w.val f.val ≠ fFree) ∧
      (mode = 1)) ∧
    (let s : State := sL 2; let m : Mid := 0; let w : Wall := 0; let f : FlowIx := 7; let a := R.FD_SCHED w.val f.val;
    let v : Word := setFld 2 F.FD_SCHED_div 3; let mode := fld v F.FD_SCHED_mode;
      (Allowed s m a true) ∧ (s.flowLease w.val (BitVec.toNat m) f.val = true) ∧ (s.fstate w.val f.val ≠ fFree) ∧
      (mode = 2) ∧ (fld v F.FD_SCHED_div ≠ 0) ∧ (fld v F.FD_SCHED_skip = 0)) ∧
    (let s : State := sL 2; let m : Mid := 0; let w : Wall := 0; let f : FlowIx := 7; let a := R.FD_SCHED w.val f.val;
    let v : Word := setFld (setFld 2 F.FD_SCHED_div 3) F.FD_SCHED_skip 1; let mode := fld v F.FD_SCHED_mode;
      (Allowed s m a true) ∧ (s.flowLease w.val (BitVec.toNat m) f.val = true) ∧ (s.fstate w.val f.val ≠ fFree) ∧
      (mode = 2) ∧ (fld v F.FD_SCHED_div ≠ 0)) := by
  refine ⟨?_, ?_, ?_, ?_, ?_⟩ <;> decide +kernel

theorem wit_HodCfgWriteNeedsFreeFlows :
    (let s : State := flowIn up 511 2; let m : Mid := 0; let w : Wall := 0; let a := R.HOD_CFG w.val;
      (Allowed s m a true) ∧ (∃ f, f < 512 ∧ s.fstate w.val f ≠ fFree)) ∧
    (let s : State := up; let m : Mid := 0; let w : Wall := 0; let a := R.HOD_CFG w.val;
      (Allowed s m a true) ∧ (∀ (f : Nat), f < 512 → s.fstate w.val f = fFree)) := by
  refine ⟨?_, ?_⟩ <;> decide +kernel

theorem wit_WindowsAndLeases :
    (let s : State := up; let m : Mid := 0; let w : Wall := 0; let n : Fin 64 := 63; let l : Fin 16 := 0;
    let a := R.LS_CTRL w.val l.val; let v : Word := 1; let sets : Prop := fld v F.LS_CTRL_valid = 1;
    let valid : State → Nat := fun u => u.fl a F.LS_CTRL_valid; let clash : Prop := (∃ k,
          k < 16 ∧
            k ≠ l.val ∧ s.fl (R.LS_CTRL w.val k) F.LS_CTRL_valid = 1 ∧ s.leaseOverlap w.val l.val k = true);
      (Allowed s m (R.FW_CTRL w.val n.val) true) ∧ (Allowed s m a true) ∧ (sets) ∧ (valid s = 0) ∧ (¬clash)) ∧
    (let s : State := sLs; let m : Mid := 0; let w : Wall := 0; let n : Fin 64 := 0; let l : Fin 16 := 3;
    let a := R.LS_CTRL w.val l.val; let v : Word := 1; let sets : Prop := fld v F.LS_CTRL_valid = 1;
    let valid : State → Nat := fun u => u.fl a F.LS_CTRL_valid; let clash : Prop := (∃ k,
          k < 16 ∧
            k ≠ l.val ∧ s.fl (R.LS_CTRL w.val k) F.LS_CTRL_valid = 1 ∧ s.leaseOverlap w.val l.val k = true);
      (Allowed s m (R.FW_CTRL w.val n.val) true) ∧ (Allowed s m a true) ∧ (sets) ∧ (valid s = 0) ∧ (clash)) ∧
    (let s : State := sLs; let m : Mid := 0; let w : Wall := 0; let n : Fin 64 := 0; let l : Fin 16 := 0;
    let a := R.LS_CTRL w.val l.val; let v : Word := 0x0; let sets : Prop := fld v F.LS_CTRL_valid = 1;
    let valid : State → Nat := fun u => u.fl a F.LS_CTRL_valid;
    let holder : State → Nat := fun u => u.fl a F.LS_CTRL_holder; let r := s.rd (R.LS_FLOWS w.val l.val);
    let used : Prop := ((∃ f,
            f < 512 ∧
              fld r F.LS_FLOWS_first ≤ f ∧ f < fld r F.LS_FLOWS_first + fld r F.LS_FLOWS_count ∧ s.fstate w.val f ≠ fFree) ∨
          s.fl (R.CAP_STATUS w.val) F.CAP_STATUS_state = 3 ∧
            BitVec.toNat (s.wall w.val).cap.owner = holder s);
      (Allowed s m (R.FW_CTRL w.val n.val) true) ∧ (Allowed s m a true) ∧ (¬sets) ∧ (valid s = 1) ∧ (¬used)) ∧
    (let s : State := flowIn sLs 511 2; let m : Mid := 0; let w : Wall := 0; let n : Fin 64 := 0; let l : Fin 16 := 0;
    let a := R.LS_CTRL w.val l.val; let v : Word := 0x0; let sets : Prop := fld v F.LS_CTRL_valid = 1;
    let valid : State → Nat := fun u => u.fl a F.LS_CTRL_valid;
    let holder : State → Nat := fun u => u.fl a F.LS_CTRL_holder; let r := s.rd (R.LS_FLOWS w.val l.val);
    let used : Prop := ((∃ f,
            f < 512 ∧
              fld r F.LS_FLOWS_first ≤ f ∧ f < fld r F.LS_FLOWS_first + fld r F.LS_FLOWS_count ∧ s.fstate w.val f ≠ fFree) ∨
          s.fl (R.CAP_STATUS w.val) F.CAP_STATUS_state = 3 ∧
            BitVec.toNat (s.wall w.val).cap.owner = holder s);
      (Allowed s m (R.FW_CTRL w.val n.val) true) ∧ (Allowed s m a true) ∧ (¬sets) ∧ (valid s = 1) ∧ (used)) ∧
    (let s : State := sLs; let m : Mid := 0; let w : Wall := 0; let n : Fin 64 := 0; let l : Fin 16 := 0;
    let a := R.LS_CTRL w.val l.val; let v : Word := 1; let sets : Prop := fld v F.LS_CTRL_valid = 1;
    let valid : State → Nat := fun u => u.fl a F.LS_CTRL_valid;
      (Allowed s m (R.FW_CTRL w.val n.val) true) ∧ (Allowed s m a true) ∧ (sets) ∧ (valid s = 1)) ∧
    (let s : State := sLs; let m : Mid := 0; let w : Wall := 0; let n : Fin 64 := 0; let l : Fin 16 := 15;
    let a := R.LS_CTRL w.val l.val; let v : Word := 0; let sets : Prop := fld v F.LS_CTRL_valid = 1;
    let valid : State → Nat := fun u => u.fl a F.LS_CTRL_valid;
      (Allowed s m (R.FW_CTRL w.val n.val) true) ∧ (Allowed s m a true) ∧ (¬sets) ∧ (valid s = 0)) := by
  refine ⟨?_, ?_, ?_, ?_, ?_, ?_⟩ <;> decide +kernel

theorem wit_TargetsMatchOnce :
    (let s : State := sDue 7 true; let w : Wall := 0; let f : FlowIx := 7;
    let mode : State → Nat := fun u => u.fl (R.FD_SCHED w.val f.val) F.FD_SCHED_mode;
      (OnWall s w) ∧ ((s.wall w.val).gsr = false) ∧ (s.schedDue w.val f.val = true) ∧
      ((s.flow w.val f.val).near = true ∨ (s.flow w.val f.val).passed = true) ∧ (mode s ≠ 2)) ∧
    (let s : State := sDue 7 false; let w : Wall := 0; let f : FlowIx := 7;
    let mode : State → Nat := fun u => u.fl (R.FD_SCHED w.val f.val) F.FD_SCHED_mode;
      (OnWall s w) ∧ ((s.wall w.val).gsr = false) ∧ (s.schedDue w.val f.val = true) ∧
      ((s.flow w.val f.val).near = false) ∧ (f.val / 8 = (s.wall w.val).sweepPos) ∧ (mode s ≠ 2)) ∧
    (let s : State := (sDue 7 false).setFl (R.FD_SCHED 0 7) F.FD_SCHED_mode 2 |>.setFl (R.FD_SCHED 0 7) F.FD_SCHED_div 4;
    let w : Wall := 0; let f : FlowIx := 7;
    let mode : State → Nat := fun u => u.fl (R.FD_SCHED w.val f.val) F.FD_SCHED_mode;
      (OnWall s w) ∧ ((s.wall w.val).gsr = false) ∧ (s.schedDue w.val f.val = true) ∧
      ((s.flow w.val f.val).near = false) ∧ (f.val / 8 = (s.wall w.val).sweepPos) ∧ (mode s = 2) ∧
      (s.fl (R.FD_SCHED w.val f.val) F.FD_SCHED_skip = 0)) ∧
    (let s : State := (sDue 7 true).setFl (R.FD_SCHED 0 7) F.FD_SCHED_mode 2 |>.setFl (R.FD_SCHED 0 7) F.FD_SCHED_div 1;
    let w : Wall := 0; let f : FlowIx := 7;
    let mode : State → Nat := fun u => u.fl (R.FD_SCHED w.val f.val) F.FD_SCHED_mode;
      (OnWall s w) ∧ ((s.wall w.val).gsr = false) ∧ (s.schedDue w.val f.val = true) ∧
      ((s.flow w.val f.val).near = true ∨ (s.flow w.val f.val).passed = true) ∧ (mode s = 2) ∧
      (s.fl (R.FD_SCHED w.val f.val) F.FD_SCHED_skip = 0)) := by
  refine ⟨?_, ?_, ?_, ?_⟩ <;> decide +kernel

theorem wit_PrestageAdmitsAndWithdraws :
    (let s : State := sPre 40 false; let w : Wall := 0; let f : FlowIx := 7; let x := s.flow w.val f.val;
    let turn : Prop := ((s.wall w.val).gsr = false ∧
          x.armed ≠ none ∧
            2 ≤ s.fstate w.val f.val ∧
              s.fstate w.val f.val ≤ 5 ∧ (x.near = false → s.admittedBefore w.val f.val = false));
    let pred := s.basePred w.val (s.schedAng w.val f.val);
      (OnWall s w) ∧ (turn) ∧ (x.near = true ∨ s.nearCount w.val < 64) ∧ (pred = true) ∧ (s.due w.val f.val = true) ∧
      (s.tested w.val f.val = true) ∧ (x.near = true → x.prestaged = false) ∧ (x.near = false) ∧ (s.nearCount w.val < 64)) ∧
    (let s : State := sPre 1099511627776 true; let w : Wall := 0; let f : FlowIx := 7; let x := s.flow w.val f.val;
    let turn : Prop := ((s.wall w.val).gsr = false ∧
          x.armed ≠ none ∧
            2 ≤ s.fstate w.val f.val ∧
              s.fstate w.val f.val ≤ 5 ∧ (x.near = false → s.admittedBefore w.val f.val = false));
    let pred := s.basePred w.val (s.schedAng w.val f.val);
    let n : Nat := ((sPre 1099511627776 true).predicted 0 7).getD 0;
      (OnWall s w) ∧ (turn) ∧ (x.near = true ∨ s.nearCount w.val < 64) ∧ (pred = true) ∧ (x.prestaged = true) ∧
      (s.predicted w.val f.val = some n) ∧ (4 * s.lead w.val < n)) ∧
    (let s : State := (sPre 40 false).setFl (R.ANG_STATUS 0 0) F.ANG_STATUS_pred 0; let w : Wall := 0; let f : FlowIx := 7;
    let x := s.flow w.val f.val; let turn : Prop := ((s.wall w.val).gsr = false ∧
          x.armed ≠ none ∧
            2 ≤ s.fstate w.val f.val ∧
              s.fstate w.val f.val ≤ 5 ∧ (x.near = false → s.admittedBefore w.val f.val = false));
    let pred := s.basePred w.val (s.schedAng w.val f.val);
      (OnWall s w) ∧ (turn) ∧ (x.near = true ∨ s.nearCount w.val < 64) ∧ (x.near = false) ∧ (s.nearCount w.val < 64) ∧
      (pred = false)) ∧
    (let s : State := sNearFull; let w : Wall := 0; let f : FlowIx := 7; let x := s.flow w.val f.val;
    let turn : Prop := ((s.wall w.val).gsr = false ∧
          x.armed ≠ none ∧
            2 ≤ s.fstate w.val f.val ∧
              s.fstate w.val f.val ≤ 5 ∧ (x.near = false → s.admittedBefore w.val f.val = false));
    let pred := s.basePred w.val (s.schedAng w.val f.val);
      (OnWall s w) ∧ (turn) ∧ (x.near = false) ∧ (64 ≤ s.nearCount w.val) ∧
      (pred = true → s.due w.val f.val = true ∧ s.tested w.val f.val = true)) := by
  refine ⟨?_, ?_, ?_, ?_⟩ <;> decide +kernel

theorem wit_StartsGrantTheTiles :
    (let s : State := sRes; let w : Wall := 0; let f : FlowIx := 7; let ts := s.tileSet w.val f.val;
      (OnWall s w) ∧ ((s.wall w.val).gsr = false) ∧ (s.fstate w.val f.val = fRunnable) ∧
      (s.residentAll w.val f.val = true) ∧ (s.fastFlow w.val f.val = false) ∧
      (∀ (t : Nat), t ∈ ts → s.tileGrants w.val f.val t = true)) ∧
    (let s : State := sResF; let w : Wall := 0; let f : FlowIx := 7; let ts := s.tileSet w.val f.val;
      (OnWall s w) ∧ ((s.wall w.val).gsr = false) ∧ (s.fstate w.val f.val = fRunnable) ∧
      (s.residentAll w.val f.val = true) ∧ (s.fastFlow w.val f.val = true) ∧
      (∀ (i : Nat), i ∈ ts → (s.tile w.val i).cur ≠ some Bank.fast ∧ s.startFree w.val i = true)) := by
  refine ⟨?_, ?_⟩ <;> decide +kernel

theorem wit_HodStartsByClass :
    (let s : State := hodStarts1; let x : TileRef := x0; let w := x.w.val; let q := (tileOf s x).chanq;
    let blocked : Prop := ∃ p, p ∈ q ∧ p.kind = HodKind.restore ∧ s.fastFlow w p.flow = false ∧ s.freeBank w x.t.val p.flow = none;
      (OnWall s x.w) ∧ ((tileOf s x).chan = none) ∧ (s.inTest x.w.val 2 = false) ∧ (¬blocked) ∧
      (∃ p, p ∈ q ∧ s.canStart w x.t.val p = true)) ∧
    (let s : State := sRestore; let x : TileRef := x0; let w := x.w.val; let q := (tileOf s x).chanq;
    let blocked : Prop := ∃ p, p ∈ q ∧ p.kind = HodKind.restore ∧ s.fastFlow w p.flow = false ∧ s.freeBank w x.t.val p.flow = none;
      (OnWall s x.w) ∧ ((tileOf s x).chan = none) ∧ (s.inTest x.w.val 2 = false) ∧ (¬blocked) ∧
      (∃ p, p ∈ q ∧ s.canStart w x.t.val p = true)) ∧
    (let s : State := sBlocked; let x : TileRef := x0; let w := x.w.val; let q := (tileOf s x).chanq;
    let blocked : Prop := ∃ p, p ∈ q ∧ p.kind = HodKind.restore ∧ s.fastFlow w p.flow = false ∧ s.freeBank w x.t.val p.flow = none;
      (OnWall s x.w) ∧ ((tileOf s x).chan = none) ∧ (s.inTest x.w.val 2 = false) ∧ (blocked) ∧
      ((∃ p, p ∈ q ∧ p.kind = HodKind.makeCold) ∨ ∃ v, s.victim w x.t.val = some v ∧ x.t.val ∈ s.tileSet w v)) := by
  refine ⟨?_, ?_, ?_⟩ <;> decide +kernel

theorem wit_RestoreAndMakeColdComplete :
    (let s : State := sHod (op .restore); let x : TileRef := x0; let o : HodOp := op .restore; let w := x.w.val;
    let deep : Prop := (4 <
          controlDepth (s.areaWords w (s.homeLower w o.flow x.t.val) 144 48));
      (HodRuns s x o) ∧ (o.kind = HodKind.restore) ∧ (s.sramErr = []) ∧ (¬deep)) ∧
    (let s : State := sDeep; let x : TileRef := x0; let o : HodOp := op .restore; let w := x.w.val; let deep : Prop := (4 <
          controlDepth (s.areaWords w (s.homeLower w o.flow x.t.val) 144 48));
      (HodRuns s x o) ∧ (o.kind = HodKind.restore) ∧ (s.sramErr = []) ∧ (deep)) ∧
    (let s : State := sHod (op .makeCold); let x : TileRef := x0; let o : HodOp := op .makeCold;
      (HodRuns s x o) ∧ (o.kind = HodKind.makeCold)) ∧
    (let s : State := sHod (op .areas); let x : TileRef := x0; let o : HodOp := op .areas;
      (HodRuns s x o) ∧ (o.kind = HodKind.areas) ∧ (s.sramErr = [])) := by
  refine ⟨?_, ?_, ?_, ?_⟩ <;> decide +kernel

theorem wit_WindowAndBlockOperationsComplete :
    (let s : State := sHod (op .spill); let x : TileRef := x0; let o : HodOp := op .spill; let w := x.w.val;
    let c := ctxOf s x o.bank;
      (HodRuns s x o) ∧ (o.kind = HodKind.spill) ∧ (o.bank ≠ Bank.fast) ∧
      (s.spillCount w c < 7 ∨ (s.wall w).freeHead ≠ none) ∧ (s.sramErr = [])) ∧
    (let s : State := sHod (op .fill); let x : TileRef := x0; let o : HodOp := op .fill;
      (HodRuns s x o) ∧ (o.kind = HodKind.fill) ∧ (o.bank ≠ Bank.fast) ∧ (s.sramErr = [])) ∧
    (let s : State := sHod (op .savel); let x : TileRef := x0; let o : HodOp := op .savel; let w := x.w.val;
    let a : Nat := ((sHod (op .savel)).wall 0).freeHead.getD 0;
      (HodRuns s x o) ∧ (o.kind = HodKind.savel ∨ o.kind = HodKind.saveu) ∧ ((s.wall w).freeHead = some a) ∧
      (s.sramErr = [])) ∧
    (let s : State := sHod (op .saveu); let x : TileRef := x0; let o : HodOp := op .saveu; let w := x.w.val;
    let a : Nat := ((sHod (op .saveu)).wall 0).freeHead.getD 0;
      (HodRuns s x o) ∧ (o.kind = HodKind.savel ∨ o.kind = HodKind.saveu) ∧ ((s.wall w).freeHead = some a) ∧
      (s.sramErr = [])) ∧
    (let s : State := sHod (op .loadl); let x : TileRef := x0; let o : HodOp := op .loadl; let w := x.w.val;
    let c := ctxOf s x o.bank;
      (HodRuns s x o) ∧ (s.sramErr = []) ∧ (o.kind = HodKind.loadu ∨
  o.kind = HodKind.loadl ∧
    controlDepth
        (List.drop 32
          (s.areaWords w c.saveHead.toNat 16 96)) ≤
      4)) ∧
    (let s : State := sHod (op .loadu); let x : TileRef := x0; let o : HodOp := op .loadu; let w := x.w.val;
    let c := ctxOf s x o.bank;
      (HodRuns s x o) ∧ (s.sramErr = []) ∧ (o.kind = HodKind.loadu ∨
  o.kind = HodKind.loadl ∧
    controlDepth
        (List.drop 32
          (s.areaWords w c.saveHead.toNat 16 96)) ≤
      4) ∧ (o.kind = HodKind.loadu)) ∧
    (let s : State := sHod (op .fpSwap); let x : TileRef := x0; let o : HodOp := op .fpSwap;
      (HodRuns s x o) ∧ (s.sramErr = []) ∧ (o.kind = HodKind.fpSwap)) := by
  refine ⟨?_, ?_, ?_, ?_, ?_, ?_, ?_⟩ <;> decide +kernel

theorem wit_UncorrectableAreasLoseTheContext :
    (let s : State := sBad (op .restore); let x : TileRef := x0; let o : HodOp := op .restore; let w := x.w.val;
    let bad : Nat → Nat → Nat → Prop := fun i off n => (s.areaRead w i off n).snd = true;
      (HodRuns s x o) ∧ (o.kind = HodKind.restore) ∧ (bad (s.homeLower w o.flow x.t.val) 0 336)) ∧
    (let s : State := sBad (op .fill); let x : TileRef := x0; let o : HodOp := op .fill; let w := x.w.val;
    let c := ctxOf s x o.bank; let bad : Nat → Nat → Nat → Prop := fun i off n => (s.areaRead w i off n).snd = true;
      (HodRuns s x o) ∧ (o.kind = HodKind.fill) ∧ (bad c.spillHead.toNat
  (16 +
    64 *
      (nbits (BitVec.toNat (s.areaWord w c.spillHead.toNat 0)) 24
          8 -
        1))
  64)) ∧
    (let s : State := sBad (op .loadl); let x : TileRef := x0; let o : HodOp := op .loadl; let w := x.w.val;
    let c := ctxOf s x o.bank; let bad : Nat → Nat → Nat → Prop := fun i off n => (s.areaRead w i off n).snd = true;
      (HodRuns s x o) ∧ (o.kind = HodKind.loadl) ∧ (bad c.saveHead.toNat 0 336)) ∧
    (let s : State := sBad (op .loadu); let x : TileRef := x0; let o : HodOp := op .loadu; let w := x.w.val;
    let c := ctxOf s x o.bank; let bad : Nat → Nat → Nat → Prop := fun i off n => (s.areaRead w i off n).snd = true;
      (HodRuns s x o) ∧ (o.kind = HodKind.loadu) ∧ (bad c.saveHead.toNat 0 496)) ∧
    (let s : State := sBad (op .fpSwap); let x : TileRef := x0; let o : HodOp := op .fpSwap; let w := x.w.val;
    let bad : Nat → Nat → Nat → Prop := fun i off n => (s.areaRead w i off n).snd = true;
      (HodRuns s x o) ∧ (o.kind = HodKind.fpSwap) ∧ ((tileOf s x).fpown = none) ∧
      (bad (s.homeUpper w o.flow x.t.val) 400 68)) := by
  refine ⟨?_, ?_, ?_, ?_, ?_⟩ <;> decide +kernel

theorem wit_ReferenceEdgesMoveTheEdgeAngle :
    (let s : State := sAng 1 b1; let w : Wall := 0; let n : Fin 4 := 0; let x := s.base w.val n.val;
    let a : Bool := true; let b : Bool := false; let d := (if s.fl (R.ANG_CFG w.val n.val) F.ANG_CFG_dir = 1 then
          (quadPhase b a + 4 - quadPhase x.bLast x.aLast) % 4
        else (quadPhase a b + 4 - quadPhase x.aLast x.bLast) % 4);
    let on : Prop := (s.angIs w.val n.val F.ANG_STATUS_rev = true ∨
          BitVec.toNat x.edge % 4294967296 = 0);
      (BaseRuns s w n 1) ∧ (d = 1) ∧ (on)) ∧
    (let s : State := sAng 1 b1; let w : Wall := 0; let n : Fin 4 := 0; let x := s.base w.val n.val;
    let a : Bool := false; let b : Bool := true; let d := (if s.fl (R.ANG_CFG w.val n.val) F.ANG_CFG_dir = 1 then
          (quadPhase b a + 4 - quadPhase x.bLast x.aLast) % 4
        else (quadPhase a b + 4 - quadPhase x.aLast x.bLast) % 4);
    let on : Prop := (s.angIs w.val n.val F.ANG_STATUS_rev = true ∨
          BitVec.toNat x.edge % 4294967296 = 0);
      (BaseRuns s w n 1) ∧ (d = 3) ∧ (on)) ∧
    (let s : State := sAng 1 b1; let w : Wall := 0; let n : Fin 4 := 0; let x := s.base w.val n.val;
    let a : Bool := true; let b : Bool := true; let d := (if s.fl (R.ANG_CFG w.val n.val) F.ANG_CFG_dir = 1 then
          (quadPhase b a + 4 - quadPhase x.bLast x.aLast) % 4
        else (quadPhase a b + 4 - quadPhase x.aLast x.bLast) % 4);
    let on : Prop := (s.angIs w.val n.val F.ANG_STATUS_rev = true ∨
          BitVec.toNat x.edge % 4294967296 = 0);
      (BaseRuns s w n 1) ∧ (d = 2) ∧ (on)) ∧
    (let s : State := reference1; let w : Wall := 0; let n : Fin 4 := 0; let x := s.base w.val n.val;
    let a : Bool := false; let b : Bool := false; let d := (if s.fl (R.ANG_CFG w.val n.val) F.ANG_CFG_dir = 1 then
          (quadPhase b a + 4 - quadPhase x.bLast x.aLast) % 4
        else (quadPhase a b + 4 - quadPhase x.aLast x.bLast) % 4);
    let on : Prop := (s.angIs w.val n.val F.ANG_STATUS_rev = true ∨
          BitVec.toNat x.edge % 4294967296 = 0);
      (BaseRuns s w n 1) ∧ (d = 0) ∧ (¬on)) ∧
    (let s : State := sAng 2 b1; let w : Wall := 0; let n : Fin 4 := 0;
      (BaseRuns s w n 2)) ∧
    (let s : State := sAng 3 b1; let w : Wall := 0; let n : Fin 4 := 0; let neg : Bool := false;
    let used : Prop := neg = false ∨ s.fl (R.ANG_CFG w.val n.val) F.ANG_CFG_both = 1;
      (BaseRuns s w n 3) ∧ (used) ∧ (s.inMainsWindow w.val n.val neg = true)) ∧
    (let s : State := sAng 3 b1; let w : Wall := 0; let n : Fin 4 := 0; let neg : Bool := true;
    let used : Prop := neg = false ∨ s.fl (R.ANG_CFG w.val n.val) F.ANG_CFG_both = 1;
      (BaseRuns s w n 3) ∧ (¬used)) ∧
    (let s : State := sMains; let w : Wall := 0; let n : Fin 4 := 0; let neg : Bool := false;
    let used : Prop := neg = false ∨ s.fl (R.ANG_CFG w.val n.val) F.ANG_CFG_both = 1;
      (BaseRuns s w n 3) ∧ (used) ∧ (s.inMainsWindow w.val n.val neg = false)) := by
  refine ⟨?_, ?_, ?_, ?_, ?_, ?_, ?_, ?_⟩ <;> decide +kernel

theorem wit_BasesAdvanceByTheirVelocity :
    (let s : State := basesAdvance1; let w : Wall := 0; let n : Fin 4 := 0; let x := s.base w.val n.val;
    let now := s.wtick w.val; let mono : Prop := s.fl (R.ANG_CFG w.val n.val) F.ANG_CFG_mono = 1;
    let moved := (x.pos - BitVec.ofNat 80 x.short +
          BitVec.ofInt 80 (BitVec.toInt x.vel * (now - x.lastTick).cast)); let part := (match x.slew with
        | some (d, k, i) => slewPart d k i
        | none => 0); let target := moved + BitVec.ofInt 80 (part * 65536); let holds : Prop := (mono ∧
          (0 < BitVec.toInt x.vel ∨ s.angIs w.val n.val F.ANG_STATUS_lor = true) ∧
            (target - x.pos).msb = true);
      (OnWall s w) ∧ ((s.wall w.val).gsr = false) ∧ (s.angSrc w.val n.val = 4) ∧ (¬holds) ∧ (1 ≤ s.angSrc w.val n.val)) ∧
    (let s : State := basesAdvance2; let w : Wall := 0; let n : Fin 4 := 0;
    let mono : Prop := s.fl (R.ANG_CFG w.val n.val) F.ANG_CFG_mono = 1; let x := s.base w.val n.val;
      (OnWall s w) ∧ ((s.wall w.val).gsr = false) ∧ (1 ≤ s.angSrc w.val n.val) ∧ (s.angSrc w.val n.val ≤ 3) ∧ (¬mono) ∧
      (x.slew = none) ∧ (s.angIs w.val n.val F.ANG_STATUS_lor = false)) ∧
    (let s : State := basesAdvance3; let w : Wall := 0; let n : Fin 4 := 0;
    let mono : Prop := s.fl (R.ANG_CFG w.val n.val) F.ANG_CFG_mono = 1; let x := s.base w.val n.val;
      (OnWall s w) ∧ ((s.wall w.val).gsr = false) ∧ (1 ≤ s.angSrc w.val n.val) ∧ (s.angSrc w.val n.val ≤ 3) ∧ (¬mono) ∧
      (x.slew = none) ∧ (s.angIs w.val n.val F.ANG_STATUS_lor = false)) ∧
    (let s : State := sAsh; let w : Wall := 0; let n : Fin 4 := 0;
    let mono : Prop := s.fl (R.ANG_CFG w.val n.val) F.ANG_CFG_mono = 1; let e := s.rd (R.ASH_SRC w.val n.val);
    let u := fld e F.ASH_SRC_wall; let m := fld e F.ASH_SRC_ang;
      (OnWall s w) ∧ ((s.wall w.val).gsr = false) ∧ (1 ≤ s.angSrc w.val n.val) ∧ (s.angSrc w.val n.val = 5) ∧ (¬mono) ∧
      (fld e F.ASH_SRC_valid = 1) ∧ (s.isReady u = true) ∧ (s.angSrc u m ≠ 0)) ∧
    (let s : State := { sAsh with tick := 50 }; let w : Wall := 0; let n : Fin 4 := 0;
    let mono : Prop := s.fl (R.ANG_CFG w.val n.val) F.ANG_CFG_mono = 1; let e := s.rd (R.ASH_SRC w.val n.val);
    let u := fld e F.ASH_SRC_wall; let m := fld e F.ASH_SRC_ang;
      (OnWall s w) ∧ ((s.wall w.val).gsr = false) ∧ (1 ≤ s.angSrc w.val n.val) ∧ (s.angSrc w.val n.val = 5) ∧ (¬mono) ∧
      (fld e F.ASH_SRC_valid = 1) ∧ (s.isReady u = true) ∧ (s.angSrc u m ≠ 0)) ∧
    (let s : State := { ((sAng 4 { b1 with slew := some (-0x100000, 0, 0) }).setFl (R.ANG_CFG 0 0) F.ANG_CFG_mono 1) with tick := 1 };
    let w : Wall := 0; let n : Fin 4 := 0; let x := s.base w.val n.val; let now := s.wtick w.val;
    let mono : Prop := s.fl (R.ANG_CFG w.val n.val) F.ANG_CFG_mono = 1; let moved := (x.pos - BitVec.ofNat 80 x.short +
          BitVec.ofInt 80 (BitVec.toInt x.vel * (now - x.lastTick).cast)); let part := (match x.slew with
        | some (d, k, i) => slewPart d k i
        | none => 0); let target := moved + BitVec.ofInt 80 (part * 65536); let holds : Prop := (mono ∧
          (0 < BitVec.toInt x.vel ∨ s.angIs w.val n.val F.ANG_STATUS_lor = true) ∧
            (target - x.pos).msb = true);
      (OnWall s w) ∧ ((s.wall w.val).gsr = false) ∧ (s.angSrc w.val n.val = 4) ∧ (holds) ∧ (1 ≤ s.angSrc w.val n.val)) := by
  refine ⟨?_, ?_, ?_, ?_, ?_, ?_⟩ <;> decide +kernel

theorem wit_FeedsSetTheVelocity :
    (let s : State := sAng 4 b1; let w : Wall := 0; let p : Packet := feedPkt 0x10; let s1 : State := sAng 4 b1;
    let n := bvf p.addr 0 2; let allowed : Prop := s.tableAllows (BitVec.toNat p.mid) (R.ANG_CFG w.val n) true = true;
    let w2 := BitVec.toNat ((wordsOfBytes p.payload).getD 2 0);
      (OnWall s w) ∧ (p.isAnswer = false) ∧ (Reaches s s1 w.val 23 2 p) ∧ (p.typ = 3) ∧ (p.count = 12) ∧ (allowed) ∧
      (s.angSrc w.val n = 4) ∧ (nbit w2 12 = true) ∧ (nbit w2 13 = false)) ∧
    (let s : State := sAng 4 b1; let w : Wall := 0; let p : Packet := feedPkt 0x20; let s1 : State := sAng 4 b1;
    let n := bvf p.addr 0 2; let allowed : Prop := s.tableAllows (BitVec.toNat p.mid) (R.ANG_CFG w.val n) true = true;
    let w2 := BitVec.toNat ((wordsOfBytes p.payload).getD 2 0);
      (OnWall s w) ∧ (p.isAnswer = false) ∧ (Reaches s s1 w.val 23 2 p) ∧ (p.typ = 3) ∧ (p.count = 12) ∧ (allowed) ∧
      (s.angSrc w.val n = 4) ∧ (nbit w2 12 = false) ∧ (nbit w2 13 = true)) ∧
    (let s : State := sAng 1 b1; let w : Wall := 0; let p : Packet := feedPkt 0x30; let s1 : State := sAng 1 b1;
    let n := bvf p.addr 0 2; let allowed : Prop := s.tableAllows (BitVec.toNat p.mid) (R.ANG_CFG w.val n) true = true;
      (OnWall s w) ∧ (p.isAnswer = false) ∧ (Reaches s s1 w.val 23 2 p) ∧ (p.typ = 3) ∧ (p.count = 12) ∧ (allowed) ∧
      (s.angSrc w.val n ≠ 4)) ∧
    (let s : State := sAng 4 b1; let w : Wall := 0; let p : Packet := { feedPkt 0x30 with bytes := 3 };
    let s1 : State := sAng 4 b1; let n := bvf p.addr 0 2;
    let allowed : Prop := s.tableAllows (BitVec.toNat p.mid) (R.ANG_CFG w.val n) true = true;
      (OnWall s w) ∧ (p.isAnswer = false) ∧ (Reaches s s1 w.val 23 2 p) ∧ (p.typ = 3) ∧
      (p.typ ≠ 3 ∨ p.count ≠ 12 ∨ ¬allowed)) :=
  ⟨⟨by decide +kernel, by decide +kernel, (reaches_outside _ _ _ _ _ rfl), by decide +kernel, by decide +kernel,
    by decide +kernel, by decide +kernel, by decide +kernel, by decide +kernel⟩,
   ⟨by decide +kernel, by decide +kernel, (reaches_outside _ _ _ _ _ rfl), by decide +kernel, by decide +kernel,
    by decide +kernel, by decide +kernel, by decide +kernel, by decide +kernel⟩,
   ⟨by decide +kernel, by decide +kernel, (reaches_outside _ _ _ _ _ rfl), by decide +kernel, by decide +kernel,
    by decide +kernel, by decide +kernel⟩,
   ⟨by decide +kernel, by decide +kernel, (reaches_outside _ _ _ _ _ rfl), by decide +kernel, by decide +kernel⟩⟩

theorem wit_LossHoldsOrCoasts :
    (let s : State := sLoss 4 0; let w : Wall := 0; let n : Fin 4 := 0;
      (OnWall s w) ∧ ((s.wall w.val).gsr = false) ∧ (s.lossDue w.val n.val = true) ∧ (2 ≤ s.angSrc w.val n.val) ∧
      (s.angIs w.val n.val F.ANG_STATUS_lor = false) ∧ (s.fl (R.ANG_CFG w.val n.val) F.ANG_CFG_lor_act = 0)) ∧
    (let s : State := sLoss 2 1; let w : Wall := 0; let n : Fin 4 := 0;
      (OnWall s w) ∧ ((s.wall w.val).gsr = false) ∧ (s.lossDue w.val n.val = true) ∧ (2 ≤ s.angSrc w.val n.val) ∧
      (s.angIs w.val n.val F.ANG_STATUS_lor = false) ∧ (s.fl (R.ANG_CFG w.val n.val) F.ANG_CFG_lor_act = 1)) ∧
    (let s : State := sLoss 1 0; let w : Wall := 0; let n : Fin 4 := 0;
      (OnWall s w) ∧ ((s.wall w.val).gsr = false) ∧ (s.lossDue w.val n.val = true) ∧ (s.angSrc w.val n.val = 1) ∧
      (s.angIs w.val n.val F.ANG_STATUS_still = false)) := by
  refine ⟨?_, ?_, ?_⟩ <;> decide +kernel

theorem wit_AngleRegistersConfigure :
    (let s : State := up; let m : Mid := 0; let w : Wall := 0; let n : Fin 4 := 0; let cfg := R.ANG_CFG w.val n.val;
    let v : Word := 6; let nsrc := fld v F.ANG_CFG_src; let src := s.angSrc w.val n.val; let a := R.ASH_SRC w.val n.val;
    let v2 : Word := 6; let ok : Prop := (fld v2 F.ASH_SRC_valid = 0 ∨
          fld v2 F.ASH_SRC_wall ≠ w.val ∧
            s.populated (fld v2 F.ASH_SRC_wall) = true ∧
              s.angSrc (fld v2 F.ASH_SRC_wall) (fld v2 F.ASH_SRC_ang) ≠ 5);
      (Allowed s m cfg true) ∧ (6 ≤ nsrc) ∧ (src = 0) ∧ (1 ≤ nsrc) ∧ (Allowed s m (R.ANG_CMD w.val n.val) true) ∧
      (Allowed s m a true) ∧ (ok)) ∧
    (let s : State := up; let m : Mid := 0; let w : Wall := 0; let n : Fin 4 := 3; let cfg := R.ANG_CFG w.val n.val;
    let src := s.angSrc w.val n.val; let v : Word := 0x700; let nsrc := fld v F.ANG_CFG_src; let a := R.ASH_SRC w.val n.val;
    let v2 : Word := 0x700; let ok : Prop := (fld v2 F.ASH_SRC_valid = 0 ∨
          fld v2 F.ASH_SRC_wall ≠ w.val ∧
            s.populated (fld v2 F.ASH_SRC_wall) = true ∧
              s.angSrc (fld v2 F.ASH_SRC_wall) (fld v2 F.ASH_SRC_ang) ≠ 5);
      (Allowed s m cfg true) ∧ (src = 0) ∧ (nsrc = 0) ∧ (Allowed s m (R.ANG_CMD w.val n.val) true) ∧ (Allowed s m a true) ∧
      (ok)) ∧
    (let s : State := up; let m : Mid := 0; let w : Wall := 0; let n : Fin 4 := 3; let cfg := R.ANG_CFG w.val n.val;
    let src := s.angSrc w.val n.val; let v : Word := 4; let nsrc := fld v F.ANG_CFG_src;
    let pins := List.map (s.refPin w.val (BitVec.toNat m)) (s.refPins w.val n.val nsrc);
    let scaled : Prop := s.fl (R.ANG_SCALE w.val n.val) F.ANG_SCALE_ppr ≠ 0; let a := R.ASH_SRC w.val n.val;
    let v2 : Word := 4; let ok : Prop := (fld v2 F.ASH_SRC_valid = 0 ∨
          fld v2 F.ASH_SRC_wall ≠ w.val ∧
            s.populated (fld v2 F.ASH_SRC_wall) = true ∧
              s.angSrc (fld v2 F.ASH_SRC_wall) (fld v2 F.ASH_SRC_ang) ≠ 5);
      (Allowed s m cfg true) ∧ (src = 0) ∧ (nsrc = 4 ∨
  nsrc = 5 ∨
    1 ≤ nsrc ∧
      nsrc ≤ 3 ∧ scaled ∧ ∀ (p : Nat), p ∈ pins → p = 0) ∧ (1 ≤ nsrc) ∧ (Allowed s m (R.ANG_CMD w.val n.val) true) ∧
      (Allowed s m a true) ∧ (ok)) ∧
    (let s : State := up; let m : Mid := 0; let w : Wall := 0; let n : Fin 4 := 3; let cfg := R.ANG_CFG w.val n.val;
    let src := s.angSrc w.val n.val; let v : Word := 1; let nsrc := fld v F.ANG_CFG_src;
    let pins := List.map (s.refPin w.val (BitVec.toNat m)) (s.refPins w.val n.val nsrc);
    let scaled : Prop := s.fl (R.ANG_SCALE w.val n.val) F.ANG_SCALE_ppr ≠ 0; let a := R.ASH_SRC w.val n.val;
    let v2 : Word := 1; let ok : Prop := (fld v2 F.ASH_SRC_valid = 0 ∨
          fld v2 F.ASH_SRC_wall ≠ w.val ∧
            s.populated (fld v2 F.ASH_SRC_wall) = true ∧
              s.angSrc (fld v2 F.ASH_SRC_wall) (fld v2 F.ASH_SRC_ang) ≠ 5);
      (Allowed s m cfg true) ∧ (src = 0) ∧ (1 ≤ nsrc) ∧ (nsrc ≤ 3) ∧ (¬scaled ∨ stBadArg ∈ pins) ∧
      (Allowed s m (R.ANG_CMD w.val n.val) true) ∧ (Allowed s m a true) ∧ (¬ok)) ∧
    (let s : State := sAng 4 b1; let m : Mid := 0; let w : Wall := 0; let n : Fin 4 := 0;
    let cfg := R.ANG_CFG w.val n.val; let src := s.angSrc w.val n.val; let v : Word := 4; let nsrc := fld v F.ANG_CFG_src;
    let fields : Word → Nat := fun v => fld v { lo := 0, wd := 11 : Fld };
    let same : Prop := fields v = fields (s.rd cfg); let a := R.ASH_SRC w.val n.val;
      (Allowed s m cfg true) ∧ (src ≠ 0) ∧ (nsrc < 6) ∧ (same) ∧ (Allowed s m (R.ANG_CMD w.val n.val) true) ∧
      (Allowed s m a true)) ∧
    (let s : State := sAng 4 b1; let m : Mid := 0; let w : Wall := 0; let n : Fin 4 := 0;
    let cfg := R.ANG_CFG w.val n.val; let src := s.angSrc w.val n.val; let v : Word := 0; let nsrc := fld v F.ANG_CFG_src;
    let fields : Word → Nat := fun v => fld v { lo := 0, wd := 11 : Fld };
    let same : Prop := fields v = fields (s.rd cfg);
    let off : Prop := fields v = fields (setFld (s.rd cfg) F.ANG_CFG_src 0); let a := R.ASH_SRC w.val n.val;
      (Allowed s m cfg true) ∧ (src ≠ 0) ∧ (nsrc < 6) ∧ (¬same) ∧ (off) ∧ (Allowed s m (R.ANG_CMD w.val n.val) true) ∧
      (Allowed s m a true)) ∧
    (let s : State := sAng 4 b1; let m : Mid := 0; let w : Wall := 0; let n : Fin 4 := 0;
    let cfg := R.ANG_CFG w.val n.val; let src := s.angSrc w.val n.val; let v : Word := 5; let nsrc := fld v F.ANG_CFG_src;
    let fields : Word → Nat := fun v => fld v { lo := 0, wd := 11 : Fld };
    let same : Prop := fields v = fields (s.rd cfg);
    let off : Prop := fields v = fields (setFld (s.rd cfg) F.ANG_CFG_src 0); let a := R.ASH_SRC w.val n.val;
      (Allowed s m cfg true) ∧ (src ≠ 0) ∧ (nsrc < 6) ∧ (¬same) ∧ (¬off) ∧ (Allowed s m (R.ANG_CMD w.val n.val) true) ∧
      (Allowed s m a true)) ∧
    (let s : State := up; let m : Mid := 0; let w : Wall := 0; let n : Fin 4 := 0; let cfg := R.ANG_CFG w.val n.val;
    let src := s.angSrc w.val n.val; let v : Word := ashV 1 3; let nsrc := fld v F.ANG_CFG_src;
    let pins := List.map (s.refPin w.val (BitVec.toNat m)) (s.refPins w.val n.val nsrc);
    let scaled : Prop := s.fl (R.ANG_SCALE w.val n.val) F.ANG_SCALE_ppr ≠ 0; let a := R.ASH_SRC w.val n.val;
    let v2 : Word := ashV 1 3; let ok : Prop := (fld v2 F.ASH_SRC_valid = 0 ∨
          fld v2 F.ASH_SRC_wall ≠ w.val ∧
            s.populated (fld v2 F.ASH_SRC_wall) = true ∧
              s.angSrc (fld v2 F.ASH_SRC_wall) (fld v2 F.ASH_SRC_ang) ≠ 5);
      (Allowed s m cfg true) ∧ (src = 0) ∧ (1 ≤ nsrc) ∧ (nsrc ≤ 3) ∧ (¬scaled ∨ stBadArg ∈ pins) ∧
      (Allowed s m (R.ANG_CMD w.val n.val) true) ∧ (Allowed s m a true) ∧ (ok)) ∧
    (let s : State := up; let m : Mid := 0; let w : Wall := 0; let n : Fin 4 := 0; let cfg := R.ANG_CFG w.val n.val;
    let src := s.angSrc w.val n.val; let v : Word := ashV 0 3; let nsrc := fld v F.ANG_CFG_src;
    let pins := List.map (s.refPin w.val (BitVec.toNat m)) (s.refPins w.val n.val nsrc);
    let scaled : Prop := s.fl (R.ANG_SCALE w.val n.val) F.ANG_SCALE_ppr ≠ 0; let a := R.ASH_SRC w.val n.val;
    let v2 : Word := ashV 0 3; let ok : Prop := (fld v2 F.ASH_SRC_valid = 0 ∨
          fld v2 F.ASH_SRC_wall ≠ w.val ∧
            s.populated (fld v2 F.ASH_SRC_wall) = true ∧
              s.angSrc (fld v2 F.ASH_SRC_wall) (fld v2 F.ASH_SRC_ang) ≠ 5);
      (Allowed s m cfg true) ∧ (src = 0) ∧ (1 ≤ nsrc) ∧ (nsrc ≤ 3) ∧ (¬scaled ∨ stBadArg ∈ pins) ∧
      (Allowed s m (R.ANG_CMD w.val n.val) true) ∧ (Allowed s m a true) ∧ (¬ok)) := by
  refine ⟨?_, ?_, ?_, ?_, ?_, ?_, ?_, ?_, ?_⟩ <;> decide +kernel

theorem wit_CompareUnitsDriveTheirPin :
    (let s : State := up; let w : Wall := 0; let u : Fin 16 := 15; let a := R.ACU_CTRL w.val u.val; let m : Mid := 0;
    let holds : Prop := s.holds (claimAcu w.val u.val) (BitVec.toNat m) = true;
      (Allowed s m a true) ∧ (¬holds) ∧ (OnWall s w) ∧ ((s.wall w.val).gsr = false)) ∧
    (let s : State := sAcu (acuV 1 0) {} {}; let w : Wall := 0; let u : Fin 16 := 15; let a := R.ACU_CTRL w.val u.val;
    let m : Mid := 0; let holds : Prop := s.holds (claimAcu w.val u.val) (BitVec.toNat m) = true;
    let en : State → Nat := fun t => t.fl a F.ACU_CTRL_en; let v : Word := acuV 1 0; let x := s.acu w.val u.val;
      (Allowed s m a true) ∧ (holds) ∧ (en s = 1) ∧ (fld v F.ACU_CTRL_en = 1) ∧ (OnWall s w) ∧
      ((s.wall w.val).gsr = false) ∧ (x.waitB = false) ∧ (x.pulseEnd = none)) ∧
    (let s : State := sAcu (acuV 1 0) {} {}; let w : Wall := 0; let u : Fin 16 := 15; let a := R.ACU_CTRL w.val u.val;
    let m : Mid := 0; let holds : Prop := s.holds (claimAcu w.val u.val) (BitVec.toNat m) = true;
    let en : State → Nat := fun t => t.fl a F.ACU_CTRL_en; let v : Word := acuV 0 0;
    let noDiv : Prop := fld v F.ACU_CTRL_mode = 1 ∧ fld v F.ACU_CTRL_div = 0; let x := s.acu w.val u.val;
      (Allowed s m a true) ∧ (holds) ∧ (en s = 1) ∧ (¬(en s = 1 ∧ fld v F.ACU_CTRL_en = 1)) ∧ (fld v F.ACU_CTRL_en = 0) ∧
      (¬noDiv) ∧ (OnWall s w) ∧ ((s.wall w.val).gsr = false) ∧ (x.waitB = false) ∧ (x.pulseEnd = none)) ∧
    (let s : State := sAcu 0 {} {}; let w : Wall := 0; let u : Fin 16 := 15; let a := R.ACU_CTRL w.val u.val;
    let m : Mid := 0; let holds : Prop := s.holds (claimAcu w.val u.val) (BitVec.toNat m) = true;
    let en : State → Nat := fun t => t.fl a F.ACU_CTRL_en; let v : Word := acuV 1 4;
      (Allowed s m a true) ∧ (holds) ∧ (¬(en s = 1 ∧ fld v F.ACU_CTRL_en = 1)) ∧ (en s = 0) ∧ (fld v F.ACU_CTRL_en = 1) ∧
      (s.acuEnable (BitVec.toNat m) w.val u.val v = 0) ∧ (OnWall s w) ∧ ((s.wall w.val).gsr = false)) ∧
    (let s : State := sAcu 0 {} {}; let w : Wall := 0; let u : Fin 16 := 15; let a := R.ACU_CTRL w.val u.val;
    let m : Mid := 0; let holds : Prop := s.holds (claimAcu w.val u.val) (BitVec.toNat m) = true;
    let en : State → Nat := fun t => t.fl a F.ACU_CTRL_en; let v : Word := acuV 1 7;
    let noDiv : Prop := fld v F.ACU_CTRL_mode = 1 ∧ fld v F.ACU_CTRL_div = 0;
      (Allowed s m a true) ∧ (holds) ∧ (¬(en s = 1 ∧ fld v F.ACU_CTRL_en = 1)) ∧ (en s = 0) ∧ (fld v F.ACU_CTRL_en = 1) ∧
      (s.acuEnable (BitVec.toNat m) w.val u.val v ≠ 0) ∧ (¬noDiv) ∧ (OnWall s w) ∧ ((s.wall w.val).gsr = false)) ∧
    (let s : State := sAcu 0 {} {}; let w : Wall := 0; let u : Fin 16 := 15; let a := R.ACU_CTRL w.val u.val;
    let m : Mid := 0; let holds : Prop := s.holds (claimAcu w.val u.val) (BitVec.toNat m) = true;
    let en : State → Nat := fun t => t.fl a F.ACU_CTRL_en; let v : Word := setFld (acuV 1 0) F.ACU_CTRL_mode 1;
    let noDiv : Prop := fld v F.ACU_CTRL_mode = 1 ∧ fld v F.ACU_CTRL_div = 0;
      (Allowed s m a true) ∧ (holds) ∧ (¬(en s = 1 ∧ fld v F.ACU_CTRL_en = 1)) ∧ (noDiv) ∧ (en s = 0) ∧
      (fld v F.ACU_CTRL_en = 1) ∧ (s.acuEnable (BitVec.toNat m) w.val u.val v ≠ 0) ∧ (OnWall s w) ∧
      ((s.wall w.val).gsr = false)) ∧
    (let s : State := sUnit 0 {}; let w : Wall := 0; let u : Fin 16 := 15; let a := R.ACU_CTRL w.val u.val;
    let m : Mid := 0; let holds : Prop := s.holds (claimAcu w.val u.val) (BitVec.toNat m) = true;
    let en : State → Nat := fun t => t.fl a F.ACU_CTRL_en; let v : Word := 0;
    let noDiv : Prop := fld v F.ACU_CTRL_mode = 1 ∧ fld v F.ACU_CTRL_div = 0; let x := s.acu w.val u.val;
    let act := s.fl a F.ACU_CTRL_act;
      (Allowed s m a true) ∧ (holds) ∧ (en s = 1) ∧ (¬(en s = 1 ∧ fld v F.ACU_CTRL_en = 1)) ∧ (fld v F.ACU_CTRL_en = 0) ∧
      (¬noDiv) ∧ (OnWall s w) ∧ ((s.wall w.val).gsr = false) ∧ (x.waitB = false) ∧ (x.pulseEnd = none) ∧
      (x.at_ < (s.wall w.val).cycle) ∧ (reached (s.acuV w.val u.val) (s.acuTarget w.val u.val) = true) ∧ (act = 0)) ∧
    (let s : State := sUnit 1 {}; let w : Wall := 0; let u : Fin 16 := 15; let a := R.ACU_CTRL w.val u.val;
    let m : Mid := 0; let holds : Prop := s.holds (claimAcu w.val u.val) (BitVec.toNat m) = true;
    let en : State → Nat := fun t => t.fl a F.ACU_CTRL_en; let v : Word := 0;
    let noDiv : Prop := fld v F.ACU_CTRL_mode = 1 ∧ fld v F.ACU_CTRL_div = 0; let x := s.acu w.val u.val;
    let act := s.fl a F.ACU_CTRL_act;
      (Allowed s m a true) ∧ (holds) ∧ (en s = 1) ∧ (¬(en s = 1 ∧ fld v F.ACU_CTRL_en = 1)) ∧ (fld v F.ACU_CTRL_en = 0) ∧
      (¬noDiv) ∧ (OnWall s w) ∧ ((s.wall w.val).gsr = false) ∧ (x.waitB = false) ∧ (x.pulseEnd = none) ∧
      (x.at_ < (s.wall w.val).cycle) ∧ (reached (s.acuV w.val u.val) (s.acuTarget w.val u.val) = true) ∧ (act = 1)) ∧
    (let s : State := sUnit 2 {}; let w : Wall := 0; let u : Fin 16 := 15; let a := R.ACU_CTRL w.val u.val;
    let m : Mid := 0; let holds : Prop := s.holds (claimAcu w.val u.val) (BitVec.toNat m) = true;
    let en : State → Nat := fun t => t.fl a F.ACU_CTRL_en; let v : Word := 0;
    let noDiv : Prop := fld v F.ACU_CTRL_mode = 1 ∧ fld v F.ACU_CTRL_div = 0; let x := s.acu w.val u.val;
    let act := s.fl a F.ACU_CTRL_act;
      (Allowed s m a true) ∧ (holds) ∧ (en s = 1) ∧ (¬(en s = 1 ∧ fld v F.ACU_CTRL_en = 1)) ∧ (fld v F.ACU_CTRL_en = 0) ∧
      (¬noDiv) ∧ (OnWall s w) ∧ ((s.wall w.val).gsr = false) ∧ (x.waitB = false) ∧ (x.pulseEnd = none) ∧
      (x.at_ < (s.wall w.val).cycle) ∧ (reached (s.acuV w.val u.val) (s.acuTarget w.val u.val) = true) ∧ (act = 2)) ∧
    (let s : State := sUnit 3 {}; let w : Wall := 0; let u : Fin 16 := 15; let a := R.ACU_CTRL w.val u.val;
    let m : Mid := 0; let holds : Prop := s.holds (claimAcu w.val u.val) (BitVec.toNat m) = true;
    let en : State → Nat := fun t => t.fl a F.ACU_CTRL_en; let v : Word := 0;
    let noDiv : Prop := fld v F.ACU_CTRL_mode = 1 ∧ fld v F.ACU_CTRL_div = 0; let x := s.acu w.val u.val;
    let act := s.fl a F.ACU_CTRL_act;
      (Allowed s m a true) ∧ (holds) ∧ (en s = 1) ∧ (¬(en s = 1 ∧ fld v F.ACU_CTRL_en = 1)) ∧ (fld v F.ACU_CTRL_en = 0) ∧
      (¬noDiv) ∧ (OnWall s w) ∧ ((s.wall w.val).gsr = false) ∧ (x.waitB = false) ∧ (x.pulseEnd = none) ∧
      (x.at_ < (s.wall w.val).cycle) ∧ (reached (s.acuV w.val u.val) (s.acuTarget w.val u.val) = true) ∧ (act = 3)) ∧
    (let s : State := sUnit 4 {}; let w : Wall := 0; let u : Fin 16 := 15; let a := R.ACU_CTRL w.val u.val;
    let m : Mid := 0; let holds : Prop := s.holds (claimAcu w.val u.val) (BitVec.toNat m) = true;
    let en : State → Nat := fun t => t.fl a F.ACU_CTRL_en; let v : Word := 0;
    let noDiv : Prop := fld v F.ACU_CTRL_mode = 1 ∧ fld v F.ACU_CTRL_div = 0; let x := s.acu w.val u.val;
    let act := s.fl a F.ACU_CTRL_act;
      (Allowed s m a true) ∧ (holds) ∧ (en s = 1) ∧ (¬(en s = 1 ∧ fld v F.ACU_CTRL_en = 1)) ∧ (fld v F.ACU_CTRL_en = 0) ∧
      (¬noDiv) ∧ (OnWall s w) ∧ ((s.wall w.val).gsr = false) ∧ (x.waitB = false) ∧ (x.pulseEnd = none) ∧
      (x.at_ < (s.wall w.val).cycle) ∧ (reached (s.acuV w.val u.val) (s.acuTarget w.val u.val) = true) ∧ (act = 4)) ∧
    (let s : State := sUnit 3 { waitB := true }; let w : Wall := 0; let u : Fin 16 := 15;
    let a := R.ACU_CTRL w.val u.val; let m : Mid := 0;
    let holds : Prop := s.holds (claimAcu w.val u.val) (BitVec.toNat m) = true;
    let en : State → Nat := fun t => t.fl a F.ACU_CTRL_en; let v : Word := 0;
    let noDiv : Prop := fld v F.ACU_CTRL_mode = 1 ∧ fld v F.ACU_CTRL_div = 0; let x := s.acu w.val u.val;
      (Allowed s m a true) ∧ (holds) ∧ (en s = 1) ∧ (¬(en s = 1 ∧ fld v F.ACU_CTRL_en = 1)) ∧ (fld v F.ACU_CTRL_en = 0) ∧
      (¬noDiv) ∧ (OnWall s w) ∧ ((s.wall w.val).gsr = false) ∧ (x.waitB = true) ∧ (x.at_ < (s.wall w.val).cycle) ∧
      (reached (s.acuV w.val u.val) x.bAt = true)) ∧
    (let s : State := sUnit 4 { pulseEnd := some 10 }; let w : Wall := 0; let u : Fin 16 := 15;
    let a := R.ACU_CTRL w.val u.val; let m : Mid := 0;
    let holds : Prop := s.holds (claimAcu w.val u.val) (BitVec.toNat m) = true;
    let en : State → Nat := fun t => t.fl a F.ACU_CTRL_en; let v : Word := 0;
    let noDiv : Prop := fld v F.ACU_CTRL_mode = 1 ∧ fld v F.ACU_CTRL_div = 0; let x := s.acu w.val u.val;
    let e : Nat := 10;
      (Allowed s m a true) ∧ (holds) ∧ (en s = 1) ∧ (¬(en s = 1 ∧ fld v F.ACU_CTRL_en = 1)) ∧ (fld v F.ACU_CTRL_en = 0) ∧
      (¬noDiv) ∧ (OnWall s w) ∧ ((s.wall w.val).gsr = false) ∧ (x.waitB = false) ∧ (x.pulseEnd = some e) ∧
      (e ≤ (s.wall w.val).cycle)) := by
  refine ⟨?_, ?_, ?_, ?_, ?_, ?_, ?_, ?_, ?_, ?_, ?_, ?_, ?_⟩ <;> decide +kernel

theorem wit_TickCopiesAreCorrected :
    (let s : State := sTick 65536 2; let w : Wall := 0; let e := (s.wall w.val).tickErr;
    let al : State → Nat := fun t => t.fl (R.WTICK_STATUS w.val) F.WTICK_STATUS_aligned; let t3 := s.wallTick w;
      (OnWall s w) ∧ (s.tick % 65536 = 0) ∧ (1 < e.natAbs) ∧ (al s = 0) ∧ (s.tick % 1024 = 0) ∧ (3 ≤ s.phase w.val) ∧
      (s.wallOff w.val = false) ∧ (t3.wallOff w.val = false)) ∧
    (let s : State := tickCopies1; let w : Wall := 0;
    let al : State → Nat := fun t => t.fl (R.WTICK_STATUS w.val) F.WTICK_STATUS_aligned; let e := (s.wall w.val).tickErr;
    let t2 := s.wallTick w;
      (OnWall s w) ∧ (al s = 0) ∧ (s.tick % 1024 = 0) ∧ (3 ≤ s.phase w.val) ∧ (1 < e.natAbs) ∧ (s.wallOff w.val = false) ∧
      (t2.wallOff w.val = false)) ∧
    (let s : State := tickCopies2; let w : Wall := 0;
    let al : State → Nat := fun t => t.fl (R.WTICK_STATUS w.val) F.WTICK_STATUS_aligned; let e := (s.wall w.val).tickErr;
    let t2 := s.wallTick w;
      (OnWall s w) ∧ (al s = 0) ∧ (s.tick % 1024 = 0) ∧ (3 ≤ s.phase w.val) ∧ (e.natAbs ≤ 1) ∧ (s.wallOff w.val = false) ∧
      (t2.wallOff w.val = false)) ∧
    (let s : State := (sTick 1024 (-5)).setFl (R.WTICK_STATUS 0) F.WTICK_STATUS_aligned 0; let w : Wall := 0;
    let al : State → Nat := fun t => t.fl (R.WTICK_STATUS w.val) F.WTICK_STATUS_aligned; let e := (s.wall w.val).tickErr;
    let t2 := s.wallTick w;
      (OnWall s w) ∧ (al s = 0) ∧ (s.tick % 1024 = 0) ∧ (3 ≤ s.phase w.val) ∧ (1 < e.natAbs) ∧ (s.wallOff w.val = false) ∧
      (t2.wallOff w.val = false)) := by
  refine ⟨?_, ?_, ?_, ?_⟩ <;> decide +kernel

theorem wit_WallsReportTheirRecords :
    (let s : State := sEv 0 0; let w : Wall := 0; let x := s.wall w.val; let r : EvRec := r1; let rest : List EvRec := [];
    let size := s.fl (R.WEV_LOG_SIZE w.val) F.WEV_LOG_SIZE_bytes;
      (OnWall s w) ∧ (x.raised = r :: rest) ∧ (s.inTest w.val 6 = false) ∧ (s.sramErr = []) ∧ (x.silent = false) ∧
      (size = 0) ∧ (s.isReady w.val = true) ∧ (s.live w.val = true)) ∧
    (let s : State := sEv 128 3; let w : Wall := 0; let x := s.wall w.val; let r : EvRec := r1;
    let rest : List EvRec := []; let size := s.fl (R.WEV_LOG_SIZE w.val) F.WEV_LOG_SIZE_bytes;
    let r1 := { code := r.code, args := r.args, stamp := r.stamp, lost := x.lostFlag, late := x.silent : EvRec };
      (OnWall s w) ∧ (x.raised = r :: rest) ∧ (s.inTest w.val 6 = false) ∧ (s.sramErr = []) ∧ (x.silent = false) ∧
      (size ≠ 0) ∧ (s.bankOn w.val 6 = true) ∧ (List.length r1.bytes = 64) ∧ (x.lostPend ≠ 0) ∧
      (x.raised.length < 256) ∧ (s.isReady w.val = true) ∧ (s.live w.val = true)) ∧
    (let s : State := (sEv 0 0).setWall 0 { ((sEv 0 0).wall 0) with silent := true }; let w : Wall := 0;
    let x := s.wall w.val; let r : EvRec := r1; let rest : List EvRec := [];
    let size := s.fl (R.WEV_LOG_SIZE w.val) F.WEV_LOG_SIZE_bytes;
      (OnWall s w) ∧ (x.raised = r :: rest) ∧ (s.inTest w.val 6 = false) ∧ (s.sramErr = []) ∧ (x.silent = true) ∧
      (size = 0) ∧ (s.isReady w.val = true)) ∧
    (let s : State := wallsReport1; let w : Wall := 0; let x := s.wall w.val;
      (OnWall s w) ∧ (s.isReady w.val = true) ∧ (x.raised = []) ∧ (s.live w.val = true) ∧ (x.lastReport + 4096 ≤ s.tick)) := by
  refine ⟨?_, ?_, ?_, ?_⟩ <;> decide +kernel

theorem wit_TheHubKeepsTheLog :
    (let s : State := theHub1; let r : EvRec := r1; let m : Mid := 0; let m2 : Mid := 0; let m3 : Mid := 0;
    let n : Fin 128 := 127;
      (s.powered = true) ∧ (firstRec s.hubWait = some r) ∧ (s.allPast r.stamp.tick = false) ∧
      (Allowed s m R.EV_RAISE true) ∧ (Allowed s m2 R.EVR_RD true) ∧ (Allowed s m3 (R.MSIX_CTRL n.val) true)) ∧
    (let s : State := sRep6; let r : EvRec := r1; let m : Mid := 0; let m2 : Mid := 0; let m3 : Mid := 0;
    let n : Fin 128 := 0;
      (s.powered = true) ∧ (firstRec s.hubWait = some r) ∧ (s.allPast r.stamp.tick = true) ∧ (s.logCount < 196608) ∧
      (s.fl (emOf r) F.EM_HUB_ring = 0) ∧ (Allowed s m R.EV_RAISE true) ∧ (Allowed s m2 R.EVR_RD true) ∧
      (Allowed s m3 (R.MSIX_CTRL n.val) true)) ∧
    (let s : State := theHub2; let m : Mid := 0; let m2 : Mid := 0; let m3 : Mid := 0; let n : Fin 128 := 0;
      (s.powered = true) ∧ (Allowed s m R.EV_RAISE true) ∧ (Allowed s m2 R.EVR_RD true) ∧
      (Allowed s m3 (R.MSIX_CTRL n.val) true)) ∧
    (let s : State := theHub3; let m : Mid := 0; let m2 : Mid := 0; let m3 : Mid := 0; let n : Fin 128 := 127;
      (s.powered = true) ∧ (Allowed s m R.EV_RAISE true) ∧ (Allowed s m2 R.EVR_RD true) ∧
      (Allowed s m3 (R.MSIX_CTRL n.val) true)) := by
  refine ⟨?_, ?_, ?_, ?_⟩ <;> decide +kernel

theorem wit_InjectionEntersTheMesh :
    (let s : State := sAtNow (.queue 0 0 0) pW; let w : Wall := 0; let r : Fin 24 := 0; let j : Fin 8 := 0;
    let p : Packet := pW; let s1 : State := up; let e : InFlight := { at_ := .queue 0 0 0, pkt := pW };
    let q := ({ typ := p.typ, cls := p.cls, vc := p.isAnswer, epoch := p.epoch, len := p.len, la := p.la, ack := p.ack, dst := p.dst, src := mkDst w.val r.val j.val, mid := ifaceMid w.val r.val p.mid, bytes := p.bytes, tag := p.tag, conn := p.conn, status := p.status, aux := p.aux, addr := p.addr, payload := p.payload : Packet });
    let refused : Prop := s.injectCheck w.val r.val j.val q ≠ 0;
    let room : Prop := s1.entryFree w.val r.val (4 + j.val) q = true;
      (OnWall s w) ∧ (j.val < localPorts r.val) ∧ (s.slotOpen w.val p = true) ∧
      ((s.take (At.queue w.val r.val j.val) p (s.wall w.val).cycle fun e => sameQueue e.pkt p || sameStream e.pkt p) =
  some (s1, e)) ∧ (¬refused) ∧ (room)) ∧
    (let s : State := sAtNow (.queue 0 0 0) { pW with cls := true, conn := 63 }; let w : Wall := 0; let r : Fin 24 := 0;
    let j : Fin 8 := 0; let p : Packet := { pW with cls := true, conn := 63 }; let s1 : State := up;
    let e : InFlight := { at_ := .queue 0 0 0, pkt := { pW with cls := true, conn := 63 } };
    let q := ({ typ := p.typ, cls := p.cls, vc := p.isAnswer, epoch := p.epoch, len := p.len, la := p.la, ack := p.ack, dst := p.dst, src := mkDst w.val r.val j.val, mid := ifaceMid w.val r.val p.mid, bytes := p.bytes, tag := p.tag, conn := p.conn, status := p.status, aux := p.aux, addr := p.addr, payload := p.payload : Packet });
    let refused : Prop := s.injectCheck w.val r.val j.val q ≠ 0;
      (OnWall s w) ∧ (j.val < localPorts r.val) ∧ (s.slotOpen w.val p = true) ∧
      ((s.take (At.queue w.val r.val j.val) p (s.wall w.val).cycle fun e => sameQueue e.pkt p || sameStream e.pkt p) =
  some (s1, e)) ∧ (refused) ∧ (p.isAnswer = false)) ∧
    (let s : State := sAtNow (.queue 0 0 0) injection1; let w : Wall := 0; let r : Fin 24 := 0; let j : Fin 8 := 0;
    let p : Packet := injection1; let s1 : State := up; let e : InFlight := { at_ := .queue 0 0 0, pkt := injection1 };
    let q := ({ typ := p.typ, cls := p.cls, vc := p.isAnswer, epoch := p.epoch, len := p.len, la := p.la, ack := p.ack, dst := p.dst, src := mkDst w.val r.val j.val, mid := ifaceMid w.val r.val p.mid, bytes := p.bytes, tag := p.tag, conn := p.conn, status := p.status, aux := p.aux, addr := p.addr, payload := p.payload : Packet });
    let refused : Prop := s.injectCheck w.val r.val j.val q ≠ 0;
      (OnWall s w) ∧ (j.val < localPorts r.val) ∧ (s.slotOpen w.val p = true) ∧
      ((s.take (At.queue w.val r.val j.val) p (s.wall w.val).cycle fun e => sameQueue e.pkt p || sameStream e.pkt p) =
  some (s1, e)) ∧ (refused) ∧ (p.isAnswer = false)) ∧
    (let s : State := { up with flight := sFull ++ [{ at_ := .queue 0 0 0, pkt := pW }] }; let w : Wall := 0;
    let r : Fin 24 := 0; let j : Fin 8 := 0; let p : Packet := pW; let s1 : State := { up with flight := sFull };
    let e : InFlight := { at_ := .queue 0 0 0, pkt := pW };
    let q := ({ typ := p.typ, cls := p.cls, vc := p.isAnswer, epoch := p.epoch, len := p.len, la := p.la, ack := p.ack, dst := p.dst, src := mkDst w.val r.val j.val, mid := ifaceMid w.val r.val p.mid, bytes := p.bytes, tag := p.tag, conn := p.conn, status := p.status, aux := p.aux, addr := p.addr, payload := p.payload : Packet });
    let refused : Prop := s.injectCheck w.val r.val j.val q ≠ 0;
    let room : Prop := s1.entryFree w.val r.val (4 + j.val) q = true;
      (OnWall s w) ∧ (j.val < localPorts r.val) ∧ (s.slotOpen w.val p = true) ∧
      ((s.take (At.queue w.val r.val j.val) p (s.wall w.val).cycle fun e => sameQueue e.pkt p || sameStream e.pkt p) =
  some (s1, e)) ∧ (¬refused) ∧ (¬room)) ∧
    (let s : State := sAtNow (.queue 0 0 0) { pA with dst := mkDst 0 24 0 }; let w : Wall := 0; let r : Fin 24 := 0;
    let j : Fin 8 := 0; let p : Packet := { pA with dst := mkDst 0 24 0 }; let s1 : State := up;
    let e : InFlight := { at_ := .queue 0 0 0, pkt := { pA with dst := mkDst 0 24 0 } };
    let q := ({ typ := p.typ, cls := p.cls, vc := p.isAnswer, epoch := p.epoch, len := p.len, la := p.la, ack := p.ack, dst := p.dst, src := mkDst w.val r.val j.val, mid := ifaceMid w.val r.val p.mid, bytes := p.bytes, tag := p.tag, conn := p.conn, status := p.status, aux := p.aux, addr := p.addr, payload := p.payload : Packet });
    let refused : Prop := s.injectCheck w.val r.val j.val q ≠ 0;
      (OnWall s w) ∧ (j.val < localPorts r.val) ∧ (s.slotOpen w.val p = true) ∧
      ((s.take (At.queue w.val r.val j.val) p (s.wall w.val).cycle fun e => sameQueue e.pkt p || sameStream e.pkt p) =
  some (s1, e)) ∧ (refused) ∧ (p.isAnswer = true)) ∧
    (let s : State := sGcAt; let w : Wall := 0; let r : Fin 24 := 0; let j : Fin 8 := 0; let p : Packet := pG;
    let s1 : State := { sGcAt with flight := [] }; let e : InFlight := { at_ := .queue 0 0 0, pkt := pG };
    let q := ({ typ := p.typ, cls := p.cls, vc := p.isAnswer, epoch := p.epoch, len := p.len, la := p.la, ack := p.ack, dst := p.dst, src := mkDst w.val r.val j.val, mid := ifaceMid w.val r.val p.mid, bytes := p.bytes, tag := p.tag, conn := p.conn, status := p.status, aux := p.aux, addr := p.addr, payload := p.payload : Packet });
    let refused : Prop := s.injectCheck w.val r.val j.val q ≠ 0;
    let room : Prop := s1.entryFree w.val r.val (4 + j.val) q = true;
      (OnWall s w) ∧ (j.val < localPorts r.val) ∧ (s.slotOpen w.val p = true) ∧
      ((s.take (At.queue w.val r.val j.val) p (s.wall w.val).cycle fun e => sameQueue e.pkt p || sameStream e.pkt p) =
  some (s1, e)) ∧ (¬refused) ∧ (room)) := by
  refine ⟨?_, ?_, ?_, ?_, ?_, ?_⟩ <;> decide +kernel

theorem wit_PacketsTravelToTheirTarget :
    (let s : State := sAt (.router 0 0) pW; let w : Wall := 0; let s1 : State := packetsTravel1; let p : Packet := pW;
    let e : InFlight := { at_ := .router 0 0, pkt := pW }; let r : Fin 24 := 0;
    let open_ : Prop := s.routeOpen w.val r.val p = true; let tg := targetOf w.val p;
    let unserved : Prop := r.val = tg.fst ∧ noServer r.val tg.snd = true ∧ p.isAnswer = false;
    let c := (s.wall w.val).cycle; let w2 : Wall := 0;
      (OnWall s w) ∧ ((s.take (At.router w.val r.val) p (s.wall w.val).cycle fun e =>
    sameQueue e.pkt p && decide (e.input r.val = inputOf w.val r.val p)) =
  some (s1, e)) ∧ (open_) ∧ (¬unserved) ∧ (p.cls = false) ∧ (s1.canPass w.val r.val e c = true) ∧ (OnWall s w2)) ∧
    (let s : State := sAt (.router 0 1) pW; let w : Wall := 0; let s1 : State := packetsTravel2; let p : Packet := pW;
    let e : InFlight := { at_ := .router 0 1, pkt := pW }; let r : Fin 24 := 1;
    let open_ : Prop := s.routeOpen w.val r.val p = true; let tg := targetOf w.val p;
    let unserved : Prop := r.val = tg.fst ∧ noServer r.val tg.snd = true ∧ p.isAnswer = false;
    let c := (s.wall w.val).cycle; let w2 : Wall := 0;
      (OnWall s w) ∧ ((s.take (At.router w.val r.val) p (s.wall w.val).cycle fun e =>
    sameQueue e.pkt p && decide (e.input r.val = inputOf w.val r.val p)) =
  some (s1, e)) ∧ (open_) ∧ (¬unserved) ∧ (p.cls = false) ∧ (s1.canPass w.val r.val e c = true) ∧ (OnWall s w2)) ∧
    (let s : State := { sAt (.router 0 0) pW with flight := { at_ := .router 0 0, pkt := pW } :: sBlock };
    let w : Wall := 0; let s1 : State := { up with flight := sBlock, tick := 64 }; let p : Packet := pW;
    let e : InFlight := { at_ := .router 0 0, pkt := pW }; let r : Fin 24 := 0;
    let open_ : Prop := s.routeOpen w.val r.val p = true; let tg := targetOf w.val p;
    let unserved : Prop := r.val = tg.fst ∧ noServer r.val tg.snd = true ∧ p.isAnswer = false;
    let c := (s.wall w.val).cycle; let w2 : Wall := 0;
      (OnWall s w) ∧ ((s.take (At.router w.val r.val) p (s.wall w.val).cycle fun e =>
    sameQueue e.pkt p && decide (e.input r.val = inputOf w.val r.val p)) =
  some (s1, e)) ∧ (open_) ∧ (¬unserved) ∧ (p.cls = false) ∧ (s1.canPass w.val r.val e c = false) ∧ (OnWall s w2)) ∧
    (let s : State := sAt (.router 0 0) pG; let w : Wall := 0; let s1 : State := packetsTravel1; let p : Packet := pG;
    let e : InFlight := { at_ := .router 0 0, pkt := pG }; let r : Fin 24 := 0;
    let open_ : Prop := s.routeOpen w.val r.val p = true; let tg := targetOf w.val p;
    let unserved : Prop := r.val = tg.fst ∧ noServer r.val tg.snd = true ∧ p.isAnswer = false;
    let o := outputOf w.val r.val p;
    let inSlots : Prop := s.slotsOk w.val r.val o ((e.due + (s.wall w.val).frameOfs) % 64) p = true; let w2 : Wall := 0;
      (OnWall s w) ∧ ((s.take (At.router w.val r.val) p (s.wall w.val).cycle fun e =>
    sameQueue e.pkt p && decide (e.input r.val = inputOf w.val r.val p)) =
  some (s1, e)) ∧ (open_) ∧ (¬unserved) ∧ (p.cls = true) ∧ (¬inSlots) ∧ (OnWall s w2)) ∧
    (let s : State := sSlots; let w : Wall := 0; let s1 : State := { sSlots with flight := [] }; let p : Packet := pG;
    let e : InFlight := { at_ := .router 0 0, pkt := pG }; let r : Fin 24 := 0;
    let open_ : Prop := s.routeOpen w.val r.val p = true; let tg := targetOf w.val p;
    let unserved : Prop := r.val = tg.fst ∧ noServer r.val tg.snd = true ∧ p.isAnswer = false;
    let o := outputOf w.val r.val p;
    let inSlots : Prop := s.slotsOk w.val r.val o ((e.due + (s.wall w.val).frameOfs) % 64) p = true; let w2 : Wall := 0;
      (OnWall s w) ∧ ((s.take (At.router w.val r.val) p (s.wall w.val).cycle fun e =>
    sameQueue e.pkt p && decide (e.input r.val = inputOf w.val r.val p)) =
  some (s1, e)) ∧ (open_) ∧ (¬unserved) ∧ (p.cls = true) ∧ (inSlots) ∧ (OnWall s w2)) ∧
    (let s : State := sAt (.router 0 23) { pW with dst := mkDst 0 23 3 }; let w : Wall := 0;
    let s1 : State := packetsTravel1; let p : Packet := { pW with dst := mkDst 0 23 3 };
    let e : InFlight := { at_ := .router 0 23, pkt := { pW with dst := mkDst 0 23 3 } }; let r : Fin 24 := 23;
    let open_ : Prop := s.routeOpen w.val r.val p = true; let tg := targetOf w.val p;
    let unserved : Prop := r.val = tg.fst ∧ noServer r.val tg.snd = true ∧ p.isAnswer = false; let w2 : Wall := 0;
      (OnWall s w) ∧ ((s.take (At.router w.val r.val) p (s.wall w.val).cycle fun e =>
    sameQueue e.pkt p && decide (e.input r.val = inputOf w.val r.val p)) =
  some (s1, e)) ∧ (open_) ∧ (unserved) ∧ (OnWall s w2)) ∧
    (let s : State := (sAt (.router 0 0) pW).wr (R.BOND_ROUTE 0 0 0 1) 0; let w : Wall := 0;
    let s1 : State := packetsTravel4; let p : Packet := pW; let e : InFlight := { at_ := .router 0 0, pkt := pW };
    let r : Fin 24 := 0; let open_ : Prop := s.routeOpen w.val r.val p = true; let w2 : Wall := 0;
      (OnWall s w) ∧ ((s.take (At.router w.val r.val) p (s.wall w.val).cycle fun e =>
    sameQueue e.pkt p && decide (e.input r.val = inputOf w.val r.val p)) =
  some (s1, e)) ∧ (¬open_) ∧ (p.isAnswer = false) ∧ (OnWall s w2)) ∧
    (let s : State := sAt (.toSwitch 0) pX; let i : Fin 11 := 0; let p : Packet := pX; let s1 : State := packetsTravel5;
    let e : InFlight := { at_ := .toSwitch 0, pkt := pX }; let q := (if 8 ≤ i.val then
          { typ := p.typ, cls := p.cls, vc := p.vc, epoch := p.epoch, len := p.len, la := p.la, ack := p.ack, dst := p.dst, src := hubDst (i.val - 8), mid := p.mid, bytes := p.bytes, tag := p.tag, conn := p.conn, status := p.status, aux := p.aux, addr := p.addr, payload := p.payload : Packet }
        else p); let passes : Prop := s.switchCheck i.val q = 0; let slot := (s.tick - (s.tick - e.due)) % 64;
    let carried : Prop := p.cls = false ∨ s.switchSlotOk i.val slot p = true;
      (s.powered = true) ∧ (i.val < 8 → s.populated i.val = true) ∧ (p.isAnswer = false) ∧
      ((s.take (if i.val < 8 then At.toSwitch i.val else At.hub i.val) p s.tick fun e =>
    sameQueue e.pkt p || sameStream e.pkt p) =
  some (s1, e)) ∧ (passes) ∧ (dHub p.dst = false) ∧ (carried)) ∧
    (let s : State := sAt (.toSwitch 0) { pX with cls := true }; let i : Fin 11 := 0;
    let p : Packet := { pX with cls := true }; let s1 : State := packetsTravel5;
    let e : InFlight := { at_ := .toSwitch 0, pkt := { pX with cls := true } }; let q := (if 8 ≤ i.val then
          { typ := p.typ, cls := p.cls, vc := p.vc, epoch := p.epoch, len := p.len, la := p.la, ack := p.ack, dst := p.dst, src := hubDst (i.val - 8), mid := p.mid, bytes := p.bytes, tag := p.tag, conn := p.conn, status := p.status, aux := p.aux, addr := p.addr, payload := p.payload : Packet }
        else p); let passes : Prop := s.switchCheck i.val q = 0; let slot := (s.tick - (s.tick - e.due)) % 64;
    let carried : Prop := p.cls = false ∨ s.switchSlotOk i.val slot p = true;
      (s.powered = true) ∧ (i.val < 8 → s.populated i.val = true) ∧ (p.isAnswer = false) ∧
      ((s.take (if i.val < 8 then At.toSwitch i.val else At.hub i.val) p s.tick fun e =>
    sameQueue e.pkt p || sameStream e.pkt p) =
  some (s1, e)) ∧ (passes) ∧ (dHub p.dst = false) ∧ (¬carried)) ∧
    (let s : State := sAt (.toSwitch 0) { pX with dst := hubDst 0, mid := 0 }; let i : Fin 11 := 0;
    let p : Packet := { pX with dst := hubDst 0, mid := 0 }; let s1 : State := packetsTravel5;
    let e : InFlight := { at_ := .toSwitch 0, pkt := { pX with dst := hubDst 0, mid := 0 } }; let q := (if 8 ≤ i.val then
          { typ := p.typ, cls := p.cls, vc := p.vc, epoch := p.epoch, len := p.len, la := p.la, ack := p.ack, dst := p.dst, src := hubDst (i.val - 8), mid := p.mid, bytes := p.bytes, tag := p.tag, conn := p.conn, status := p.status, aux := p.aux, addr := p.addr, payload := p.payload : Packet }
        else p); let passes : Prop := s.switchCheck i.val q = 0; let slot := (s.tick - (s.tick - e.due)) % 64;
    let carried : Prop := p.cls = false ∨ s.switchSlotOk i.val slot p = true;
      (s.powered = true) ∧ (i.val < 8 → s.populated i.val = true) ∧ (p.isAnswer = false) ∧
      ((s.take (if i.val < 8 then At.toSwitch i.val else At.hub i.val) p s.tick fun e =>
    sameQueue e.pkt p || sameStream e.pkt p) =
  some (s1, e)) ∧ (passes) ∧ (dHub p.dst = true) ∧ (dPort p.dst = 0) ∧ (carried)) ∧
    (let s : State := sXs; let i : Fin 11 := 0; let p : Packet := pX; let s1 : State := packetsTravel6;
    let e : InFlight := { at_ := .toSwitch 0, pkt := pX }; let q := (if 8 ≤ i.val then
          { typ := p.typ, cls := p.cls, vc := p.vc, epoch := p.epoch, len := p.len, la := p.la, ack := p.ack, dst := p.dst, src := hubDst (i.val - 8), mid := p.mid, bytes := p.bytes, tag := p.tag, conn := p.conn, status := p.status, aux := p.aux, addr := p.addr, payload := p.payload : Packet }
        else p); let passes : Prop := s.switchCheck i.val q = 0;
      (s.powered = true) ∧ (i.val < 8 → s.populated i.val = true) ∧ (p.isAnswer = false) ∧
      ((s.take (if i.val < 8 then At.toSwitch i.val else At.hub i.val) p s.tick fun e =>
    sameQueue e.pkt p || sameStream e.pkt p) =
  some (s1, e)) ∧ (¬passes)) ∧
    (let s : State := sAt (.toWall 1) pX; let w2 : Wall := 1; let s1 : State := packetsTravel7; let p : Packet := pX;
    let e : InFlight := { at_ := .toWall 1, pkt := pX }; let ok : Prop := (isEndpoint (dRtr p.dst) (dPort p.dst) = true ∧
          s.courseShut w2.val (dRtr p.dst) = false ∧ s.testShuts w2.val (dRtr p.dst) (dPort p.dst) = false);
      (OnWall s w2) ∧
      ((s.take (At.toWall w2.val) p s.tick fun e => sameQueue e.pkt p || sameStream e.pkt p) = some (s1, e)) ∧ (ok) ∧
      (s1.entryFree w2.val 22 4 p = true)) ∧
    (let s : State := { up with flight := { at_ := .toWall 1, pkt := pX } :: sFull22, tick := 64 }; let w2 : Wall := 1;
    let s1 : State := { up with flight := sFull22, tick := 64 }; let p : Packet := pX;
    let e : InFlight := { at_ := .toWall 1, pkt := pX }; let ok : Prop := (isEndpoint (dRtr p.dst) (dPort p.dst) = true ∧
          s.courseShut w2.val (dRtr p.dst) = false ∧ s.testShuts w2.val (dRtr p.dst) (dPort p.dst) = false);
      (OnWall s w2) ∧
      ((s.take (At.toWall w2.val) p s.tick fun e => sameQueue e.pkt p || sameStream e.pkt p) = some (s1, e)) ∧ (ok) ∧
      (s1.entryFree w2.val 22 4 p = false)) ∧
    (let s : State := sAt (.toWall 1) { pX with dst := mkDst 1 24 0 }; let w2 : Wall := 1;
    let s1 : State := packetsTravel7; let p : Packet := { pX with dst := mkDst 1 24 0 };
    let e : InFlight := { at_ := .toWall 1, pkt := { pX with dst := mkDst 1 24 0 } };
    let ok : Prop := (isEndpoint (dRtr p.dst) (dPort p.dst) = true ∧
          s.courseShut w2.val (dRtr p.dst) = false ∧ s.testShuts w2.val (dRtr p.dst) (dPort p.dst) = false);
      (OnWall s w2) ∧
      ((s.take (At.toWall w2.val) p s.tick fun e => sameQueue e.pkt p || sameStream e.pkt p) = some (s1, e)) ∧ (¬ok) ∧
      (p.isAnswer = false)) := by
  refine ⟨?_, ?_, ?_, ?_, ?_, ?_, ?_, ?_, ?_, ?_, ?_, ?_, ?_, ?_⟩ <;> decide +kernel

theorem wit_TileInterfacesBufferPackets :
    (let s : State := up; let x : TileRef := x0; let p : Packet := pW; let s1 : State := up; let w := x.w.val;
    let i := x.t.val; let full : Prop := ∃ e, e ∈ (tileOf s x).bbuf ∧ e.g = true;
    let takes : Prop := if p.cls = true then ¬full else s.bufferFree w i = true;
    let denied : Prop := s.crossDenied w (R.BI_RING w i) p = true; let m := bvf p.addr 12 2;
    let asp := s.aspect w i m; let ws := (List.map
          (fun e => (m, (bvf p.addr 0 12 + e.snd) % aspectDepth asp, e.fst))
          (tileWords asp p.payload).zipIdx);
      (OnWall s x.w) ∧ (p.isAnswer = false) ∧ (Reaches s s1 x.w.val (x.t.val / 8) (x.t.val % 8) p) ∧ (p.typ = 0) ∧
      (takes) ∧ (¬denied) ∧ (tileSizeOk asp p = true) ∧ (ws.length ≤ if asp = 3 then 125 else 250)) ∧
    (let s : State := up; let x : TileRef := x0; let p : Packet := { pW with bytes := 2, payload := [1, 2, 3] };
    let s1 : State := up; let w := x.w.val; let i := x.t.val; let full : Prop := ∃ e, e ∈ (tileOf s x).bbuf ∧ e.g = true;
    let takes : Prop := if p.cls = true then ¬full else s.bufferFree w i = true;
    let denied : Prop := s.crossDenied w (R.BI_RING w i) p = true; let m := bvf p.addr 12 2;
    let asp := s.aspect w i m;
      (OnWall s x.w) ∧ (p.isAnswer = false) ∧ (Reaches s s1 x.w.val (x.t.val / 8) (x.t.val % 8) p) ∧ (p.typ = 0) ∧
      (takes) ∧ (¬denied) ∧ (p.typ = 1 ∨ p.typ = 0 ∧ (denied ∨ tileSizeOk asp p = false))) ∧
    (let s : State := up; let x : TileRef := x0; let p : Packet := { pW with typ := 1, payload := [] };
    let s1 : State := up; let w := x.w.val; let i := x.t.val;
    let denied : Prop := s.crossDenied w (R.BI_RING w i) p = true; let m := bvf p.addr 12 2;
    let asp := s.aspect w i m; let full : Prop := ∃ e, e ∈ (tileOf s x).bbuf ∧ e.g = true;
    let takes : Prop := if p.cls = true then ¬full else s.bufferFree w i = true;
      (OnWall s x.w) ∧ (p.isAnswer = false) ∧ (Reaches s s1 x.w.val (x.t.val / 8) (x.t.val % 8) p) ∧
      (p.typ = 1 ∨ p.typ = 0 ∧ (denied ∨ tileSizeOk asp p = false)) ∧ (takes)) ∧
    (let s : State := up; let x : TileRef := x0; let p : Packet := { pW with src := mkDst 1 0 0, mid := 33 };
    let s1 : State := up; let w := x.w.val; let i := x.t.val; let full : Prop := ∃ e, e ∈ (tileOf s x).bbuf ∧ e.g = true;
    let takes : Prop := if p.cls = true then ¬full else s.bufferFree w i = true;
    let denied : Prop := s.crossDenied w (R.BI_RING w i) p = true; let m := bvf p.addr 12 2;
    let asp := s.aspect w i m;
      (OnWall s x.w) ∧ (p.isAnswer = false) ∧ (Reaches s s1 x.w.val (x.t.val / 8) (x.t.val % 8) p) ∧ (p.typ = 0) ∧
      (takes) ∧ (p.typ = 1 ∨ p.typ = 0 ∧ (denied ∨ tileSizeOk asp p = false))) ∧
    (let s : State := sGFull; let x : TileRef := x0; let p : Packet := { pW with cls := true }; let s1 : State := sGFull;
    let full : Prop := ∃ e, e ∈ (tileOf s x).bbuf ∧ e.g = true;
      (OnWall s x.w) ∧ (p.isAnswer = false) ∧ (Reaches s s1 x.w.val (x.t.val / 8) (x.t.val % 8) p) ∧ (p.typ = 0) ∧
      (p.cls = true) ∧ (full)) ∧
    (let s : State := up; let x : TileRef := x0; let p : Packet := pM; let s1 : State := up; let w := x.w.val;
    let i := x.t.val; let full : Prop := ∃ e, e ∈ (tileOf s x).bbuf ∧ e.g = true;
    let takes : Prop := if p.cls = true then ¬full else s.bufferFree w i = true;
    let denied : Prop := s.crossDenied w (R.BI_RING w i) p = true; let ring := s.rd (R.BI_RING w i);
      (OnWall s x.w) ∧ (p.isAnswer = false) ∧ (Reaches s s1 x.w.val (x.t.val / 8) (x.t.val % 8) p) ∧ (p.typ = 3) ∧
      (takes) ∧ (¬denied) ∧ (fld ring F.BI_RING_en = 0)) ∧
    (let s : State := sRing5; let x : TileRef := x0; let p : Packet := pM; let s1 : State := sRing5; let w := x.w.val;
    let i := x.t.val; let full : Prop := ∃ e, e ∈ (tileOf s x).bbuf ∧ e.g = true;
    let takes : Prop := if p.cls = true then ¬full else s.bufferFree w i = true;
    let denied : Prop := s.crossDenied w (R.BI_RING w i) p = true; let ring := s.rd (R.BI_RING w i);
    let m2 := fld ring F.BI_RING_tmem; let asp2 := s.aspect w i m2; let o := s.fl (R.BI_WPTR w i) F.BI_WPTR_wptr;
    let n := fld ring F.BI_RING_len;
    let ws2 := List.map (fun e => (m2, fld ring F.BI_RING_base + (o + e.snd) % n, e.fst)) (tileWords asp2 p.payload).zipIdx;
      (OnWall s x.w) ∧ (p.isAnswer = false) ∧ (Reaches s s1 x.w.val (x.t.val / 8) (x.t.val % 8) p) ∧ (p.typ = 3) ∧
      (takes) ∧ (¬denied) ∧ (fld ring F.BI_RING_en = 1) ∧ (tileSizeOk asp2 p = true) ∧
      (ws2.length ≤ if asp2 = 3 then 125 else 250) ∧ (0 < n)) ∧
    (let s : State := sRing5; let x : TileRef := x0;
    let p : Packet := { pM with bytes := 6, payload := [1, 2, 3, 4, 5, 6, 7] }; let s1 : State := sRing5;
    let w := x.w.val; let i := x.t.val; let full : Prop := ∃ e, e ∈ (tileOf s x).bbuf ∧ e.g = true;
    let takes : Prop := if p.cls = true then ¬full else s.bufferFree w i = true;
    let denied : Prop := s.crossDenied w (R.BI_RING w i) p = true; let ring := s.rd (R.BI_RING w i);
    let m2 := fld ring F.BI_RING_tmem; let asp2 := s.aspect w i m2;
      (OnWall s x.w) ∧ (p.isAnswer = false) ∧ (Reaches s s1 x.w.val (x.t.val / 8) (x.t.val % 8) p) ∧ (p.typ = 3) ∧
      (takes) ∧ (¬denied) ∧ (fld ring F.BI_RING_en = 1) ∧
      (denied ∨ fld ring F.BI_RING_en = 1 ∧ tileSizeOk asp2 p = false)) ∧
    (let s : State := sGFull; let x : TileRef := x0; let p : Packet := { pM with cls := true }; let s1 : State := sGFull;
    let full : Prop := ∃ e, e ∈ (tileOf s x).bbuf ∧ e.g = true;
      (OnWall s x.w) ∧ (p.isAnswer = false) ∧ (Reaches s s1 x.w.val (x.t.val / 8) (x.t.val % 8) p) ∧ (p.typ = 3) ∧
      (p.cls = true) ∧ (full)) :=
  ⟨⟨by decide +kernel, by decide +kernel, (reaches_outside _ _ _ _ _ rfl), by decide +kernel, by decide +kernel,
    by decide +kernel, by decide +kernel, by decide +kernel⟩,
   ⟨by decide +kernel, by decide +kernel, (reaches_outside _ _ _ _ _ rfl), by decide +kernel, by decide +kernel,
    by decide +kernel, by decide +kernel⟩,
   ⟨by decide +kernel, by decide +kernel, (reaches_outside _ _ _ _ _ rfl), by decide +kernel, by decide +kernel⟩,
   ⟨by decide +kernel, by decide +kernel, (reaches_outside _ _ _ _ _ rfl), by decide +kernel, by decide +kernel,
    by decide +kernel⟩,
   ⟨by decide +kernel, by decide +kernel, (reaches_outside _ _ _ _ _ rfl), by decide +kernel, by decide +kernel,
    by decide +kernel⟩,
   ⟨by decide +kernel, by decide +kernel, (reaches_outside _ _ _ _ _ rfl), by decide +kernel, by decide +kernel,
    by decide +kernel, by decide +kernel⟩,
   ⟨by decide +kernel, by decide +kernel, (reaches_outside _ _ _ _ _ rfl), by decide +kernel, by decide +kernel,
    by decide +kernel, by decide +kernel, by decide +kernel, by decide +kernel, by decide +kernel⟩,
   ⟨by decide +kernel, by decide +kernel, (reaches_outside _ _ _ _ _ rfl), by decide +kernel, by decide +kernel,
    by decide +kernel, by decide +kernel, by decide +kernel⟩,
   ⟨by decide +kernel, by decide +kernel, (reaches_outside _ _ _ _ _ rfl), by decide +kernel, by decide +kernel,
    by decide +kernel⟩⟩

theorem wit_AnswersEndWhatTheyAnswer :
    (let s : State := { sAtNow (.hub 0) pHw with tick := 1 }; let p : Packet := pHw;
    let s1 : State := { up with tick := 1 }; let e : InFlight := { at_ := .hub 0, pkt := pHw };
    let a := (if BitVec.toNat p.mid < 32 then BitVec.toNat p.addr
        else ((s.window (BitVec.toNat p.mid)).snd + BitVec.toNat p.addr) % 18446744073709551616);
    let out := s.windowIssue a p; let clash : Prop := (p.typ ≠ 1 ∧
          ∃ f,
            f ∈ s.awaiting ∧
              dHub f.pkt.src = false ∧
                f.pkt.mid = p.mid ∧
                  f.pkt.typ ≠ 1 ∧ f.io ≠ decide (issuePath out = 1));
      (s.powered = true) ∧ (p.isAnswer = false) ∧
      ((s.take (At.hub 0) p s.tick fun e => sameStream e.pkt p) = some (s1, e)) ∧ (s.cxl.up = true) ∧ (¬clash)) ∧
    (let s : State := { sAtNow (.hub 0) pHw with awaiting := [{ pkt := { pHw with tag := 1 }, io := false }] };
    let p : Packet := pHw; let s1 : State := { up with awaiting := [{ pkt := { pHw with tag := 1 }, io := false }] };
    let e : InFlight := { at_ := .hub 0, pkt := pHw }; let a := (if BitVec.toNat p.mid < 32 then BitVec.toNat p.addr
        else ((s.window (BitVec.toNat p.mid)).snd + BitVec.toNat p.addr) % 18446744073709551616);
    let out := s.windowIssue a p; let clash : Prop := (p.typ ≠ 1 ∧
          ∃ f,
            f ∈ s.awaiting ∧
              dHub f.pkt.src = false ∧
                f.pkt.mid = p.mid ∧
                  f.pkt.typ ≠ 1 ∧ f.io ≠ decide (issuePath out = 1));
      (s.powered = true) ∧ (p.isAnswer = false) ∧
      ((s.take (At.hub 0) p s.tick fun e => sameStream e.pkt p) = some (s1, e)) ∧ (s.cxl.up = true) ∧ (clash)) ∧
    (let s : State := { answersEnd1 with flight := [{ at_ := .hub 0, pkt := pHw }] }; let p : Packet := pHw;
    let s1 : State := answersEnd1; let e : InFlight := { at_ := .hub 0, pkt := pHw };
      (s.powered = true) ∧ (p.isAnswer = false) ∧
      ((s.take (At.hub 0) p s.tick fun e => sameStream e.pkt p) = some (s1, e)) ∧ (s.cxl.up = false)) ∧
    (let s : State := sOut; let w : Wall := 0; let p : Packet := pA; let r : Fin 24 := 0; let j : Fin 8 := 5;
    let s1 : State := sOut; let x := ({ w := w, t := (⟨(8 * r.val + j.val) % 128, Nat.mod_lt _ (by decide)⟩ : Fin 128) : TileRef }); let sent := List.find? (fun e => decide (e.fst = p.tag)) (tileOf s x).outst;
    let e : BitVec 8 × Nat := (3, 7);
      (OnWall s w) ∧ (p.isAnswer = true) ∧ (j.val < localPorts r.val) ∧ (Reaches s s1 w.val r.val j.val p) ∧
      (r.val < 16) ∧ (p.typ ≠ 2) ∧ (sent = some e) ∧ (p.status = 0)) ∧
    (let s : State := up; let w : Wall := 0; let p : Packet := pA; let r : Fin 24 := 15; let j : Fin 8 := 7;
    let s1 : State := up; let x := ({ w := w, t := (⟨(8 * r.val + j.val) % 128, Nat.mod_lt _ (by decide)⟩ : Fin 128) : TileRef }); let sent := List.find? (fun e => decide (e.fst = p.tag)) (tileOf s x).outst;
      (OnWall s w) ∧ (p.isAnswer = true) ∧ (j.val < localPorts r.val) ∧ (Reaches s s1 w.val r.val j.val p) ∧
      (r.val < 16) ∧ (p.typ = 2 ∨ sent = none)) ∧
    (let s : State := sAwait; let w : Wall := 0; let p : Packet := pA; let r : Fin 24 := 23; let j : Fin 8 := 0;
    let s1 : State := sAwait;
    let q : Await := { pkt := { pA with src := mkDst 0 23 0, dst := mkDst 0 1 0 }, io := false };
      (OnWall s w) ∧ (p.isAnswer = true) ∧ (j.val < localPorts r.val) ∧ (Reaches s s1 w.val r.val j.val p) ∧
      (16 ≤ r.val) ∧ (r.val ≠ 20) ∧ (r.val ≠ 21) ∧ (s.awaits (mkDst w.val r.val j.val) p.tag = some q)) ∧
    (let s : State := up; let w : Wall := 0; let p : Packet := pA; let r : Fin 24 := 23; let j : Fin 8 := 0;
    let s1 : State := up;
      (OnWall s w) ∧ (p.isAnswer = true) ∧ (j.val < localPorts r.val) ∧ (Reaches s s1 w.val r.val j.val p) ∧
      (16 ≤ r.val) ∧ (r.val ≠ 20) ∧ (r.val ≠ 21) ∧ (s.awaits (mkDst w.val r.val j.val) p.tag = none)) ∧
    (let s : State := sSlotRx; let w : Wall := 0; let p : Packet := { pA with dst := mkDst 0 20 0 };
    let r : Fin 24 := 20; let j : Fin 8 := 0; let s1 : State := sSlotRx;
    let unit := s.link w.val (8 * (r.val - 20) + j.val); let slot : Prop := ((r.val = 20 ∨ r.val = 21) ∧
          p.typ ≠ 2 ∧ ∃ f, f ∈ unit.rx ∧ p.tag ∈ f.tags);
      (OnWall s w) ∧ (p.isAnswer = true) ∧ (j.val < localPorts r.val) ∧ (Reaches s s1 w.val r.val j.val p) ∧ (slot) ∧
      (p.status = 0) ∧ (r.val = 20 ∨ r.val = 21) ∧ (16 ≤ r.val)) ∧
    (let s : State := sSlotRx; let w : Wall := 0; let p : Packet := { pA with dst := mkDst 0 20 0, typ := 5, status := 1 };
    let r : Fin 24 := 20; let j : Fin 8 := 0; let s1 : State := sSlotRx;
    let unit := s.link w.val (8 * (r.val - 20) + j.val); let slot : Prop := ((r.val = 20 ∨ r.val = 21) ∧
          p.typ ≠ 2 ∧ ∃ f, f ∈ unit.rx ∧ p.tag ∈ f.tags);
      (OnWall s w) ∧ (p.isAnswer = true) ∧ (j.val < localPorts r.val) ∧ (Reaches s s1 w.val r.val j.val p) ∧ (slot) ∧
      (p.status ≠ 0) ∧ (r.val = 20 ∨ r.val = 21) ∧ (16 ≤ r.val)) ∧
    (let s : State := up; let w : Wall := 0; let p : Packet := { pA with dst := mkDst 0 21 7 }; let r : Fin 24 := 21;
    let j : Fin 8 := 7; let s1 : State := up; let unit := s.link w.val (8 * (r.val - 20) + j.val);
    let slot : Prop := ((r.val = 20 ∨ r.val = 21) ∧
          p.typ ≠ 2 ∧ ∃ f, f ∈ unit.rx ∧ p.tag ∈ f.tags);
      (OnWall s w) ∧ (p.isAnswer = true) ∧ (j.val < localPorts r.val) ∧ (Reaches s s1 w.val r.val j.val p) ∧
      (r.val = 20 ∨ r.val = 21) ∧ (¬slot) ∧ (16 ≤ r.val) ∧ (r.val ≠ 20)) :=
  ⟨by decide +kernel,
   by decide +kernel,
   by decide +kernel,
   ⟨by decide +kernel, by decide +kernel, by decide +kernel, (reaches_outside _ _ _ _ _ rfl), by decide +kernel,
    by decide +kernel, by decide +kernel, by decide +kernel⟩,
   ⟨by decide +kernel, by decide +kernel, by decide +kernel, (reaches_outside _ _ _ _ _ rfl), by decide +kernel,
    by decide +kernel⟩,
   ⟨by decide +kernel, by decide +kernel, by decide +kernel, (reaches_outside _ _ _ _ _ rfl), by decide +kernel,
    by decide +kernel, by decide +kernel, by decide +kernel⟩,
   ⟨by decide +kernel, by decide +kernel, by decide +kernel, (reaches_outside _ _ _ _ _ rfl), by decide +kernel,
    by decide +kernel, by decide +kernel, by decide +kernel⟩,
   ⟨by decide +kernel, by decide +kernel, by decide +kernel, (reaches_outside _ _ _ _ _ rfl), by decide +kernel,
    by decide +kernel, by decide +kernel, by decide +kernel⟩,
   ⟨by decide +kernel, by decide +kernel, by decide +kernel, (reaches_outside _ _ _ _ _ rfl), by decide +kernel,
    by decide +kernel, by decide +kernel, by decide +kernel⟩,
   ⟨by decide +kernel, by decide +kernel, by decide +kernel, (reaches_outside _ _ _ _ _ rfl), by decide +kernel,
    by decide +kernel, by decide +kernel, by decide +kernel⟩⟩

theorem wit_EpochsFlipAtTheFrameBoundary :
    (let s : State := up; let seg : Segment := .wall 0; let a := s.epochReg seg; let m : Mid := 0;
    let pend : State → Nat := fun t => t.fl a F.BOND_EPOCH_pending;
    let drained : State → Nat := fun t => t.fl a F.BOND_EPOCH_drained; let r : Nat := 23; let d : Nat := 0;
    let m2 : Mid := 0; let b : Bool := true; let e := (match seg with
        | Segment.wall w => R.BOND_ROUTE w.val (b2n b) r d
        | Segment.switch => R.XS_ROUTE (b2n b) r); let cur : State → Nat := fun t => t.fl a F.BOND_EPOCH_cur;
    let r2 : Nat := 23; let o : Nat := 4; let j : Nat := 15; let m3 : Mid := 0; let b2 : Bool := true;
    let e2 := slotAddr seg (b2n b2) r2 o j; let v2 : Word := 5;
    let check : Nat → Nat := fun k => s.slotEntryCheck seg (b2n b2) r2 o j k v2;
      (Allowed s m a true) ∧ (pend s = 0 ∧ drained s = 1) ∧ (s.powered = true) ∧ (routeExists seg r d = true) ∧
      (Allowed s m2 e true) ∧ (drained s = 1 ∧ cur s ≠ b2n b) ∧ (match seg with
| Segment.wall w => r2 < 24 ∧ o < 12
| Segment.switch => o < 11) ∧ (j < 16) ∧ (Allowed s m3 e2 true) ∧ (drained s = 1 ∧ cur s ≠ b2n b2) ∧
      (∀ (k : Nat), k < 4 → check k = 0)) ∧
    (let s : State := up; let seg : Segment := .switch; let a := s.epochReg seg; let m : Mid := 0;
    let pend : State → Nat := fun t => t.fl a F.BOND_EPOCH_pending;
    let drained : State → Nat := fun t => t.fl a F.BOND_EPOCH_drained; let r : Nat := 10; let d : Nat := 0;
    let m2 : Mid := 0; let b : Bool := true; let e := (match seg with
        | Segment.wall w => R.BOND_ROUTE w.val (b2n b) r d
        | Segment.switch => R.XS_ROUTE (b2n b) r); let cur : State → Nat := fun t => t.fl a F.BOND_EPOCH_cur;
    let r2 : Nat := 10; let o : Nat := 10; let j : Nat := 15; let m3 : Mid := 0; let b2 : Bool := true;
    let e2 := slotAddr seg (b2n b2) r2 o j; let v2 : Word := 5;
    let check : Nat → Nat := fun k => s.slotEntryCheck seg (b2n b2) r2 o j k v2;
      (Allowed s m a true) ∧ (pend s = 0 ∧ drained s = 1) ∧ (s.powered = true) ∧ (routeExists seg r d = true) ∧
      (Allowed s m2 e true) ∧ (drained s = 1 ∧ cur s ≠ b2n b) ∧ (match seg with
| Segment.wall w => r2 < 24 ∧ o < 12
| Segment.switch => o < 11) ∧ (j < 16) ∧ (Allowed s m3 e2 true) ∧ (drained s = 1 ∧ cur s ≠ b2n b2) ∧
      (∀ (k : Nat), k < 4 → check k = 0)) ∧
    (let s : State := up; let seg : Segment := .wall 0; let a := s.epochReg seg; let m : Mid := 0;
    let pend : State → Nat := fun t => t.fl a F.BOND_EPOCH_pending;
    let drained : State → Nat := fun t => t.fl a F.BOND_EPOCH_drained; let r : Nat := 23; let d : Nat := 0;
    let m2 : Mid := 0; let b : Bool := true; let e := (match seg with
        | Segment.wall w => R.BOND_ROUTE w.val (b2n b) r d
        | Segment.switch => R.XS_ROUTE (b2n b) r); let cur : State → Nat := fun t => t.fl a F.BOND_EPOCH_cur;
    let r2 : Nat := 23; let o : Nat := 4; let j : Nat := 15; let m3 : Mid := 0; let b2 : Bool := true;
    let e2 := slotAddr seg (b2n b2) r2 o j; let v2 : Word := 0x14;
    let check : Nat → Nat := fun k => s.slotEntryCheck seg (b2n b2) r2 o j k v2;
      (Allowed s m a true) ∧ (pend s = 0 ∧ drained s = 1) ∧ (s.powered = true) ∧ (routeExists seg r d = true) ∧
      (Allowed s m2 e true) ∧ (drained s = 1 ∧ cur s ≠ b2n b) ∧ (match seg with
| Segment.wall w => r2 < 24 ∧ o < 12
| Segment.switch => o < 11) ∧ (j < 16) ∧ (Allowed s m3 e2 true) ∧ (drained s = 1 ∧ cur s ≠ b2n b2) ∧
      (∀ (k : Nat), k < 4 → check k = 0)) ∧
    (let s : State := up; let seg : Segment := .wall 0; let a := s.epochReg seg; let m : Mid := 0;
    let pend : State → Nat := fun t => t.fl a F.BOND_EPOCH_pending;
    let drained : State → Nat := fun t => t.fl a F.BOND_EPOCH_drained; let r : Nat := 0; let d : Nat := 0;
    let m2 : Mid := 0; let b : Bool := true; let e := (match seg with
        | Segment.wall w => R.BOND_ROUTE w.val (b2n b) r d
        | Segment.switch => R.XS_ROUTE (b2n b) r); let cur : State → Nat := fun t => t.fl a F.BOND_EPOCH_cur;
    let r2 : Nat := 0; let o : Nat := 0; let j : Nat := 0; let m3 : Mid := 0; let b2 : Bool := true;
    let e2 := slotAddr seg (b2n b2) r2 o j; let k : Nat := 0; let v2 : Word := 0x1F;
    let check : Nat → Nat := fun k => s.slotEntryCheck seg (b2n b2) r2 o j k v2;
      (Allowed s m a true) ∧ (pend s = 0 ∧ drained s = 1) ∧ (s.powered = true) ∧ (routeExists seg r d = true) ∧
      (Allowed s m2 e true) ∧ (drained s = 1 ∧ cur s ≠ b2n b) ∧ (match seg with
| Segment.wall w => r2 < 24 ∧ o < 12
| Segment.switch => o < 11) ∧ (j < 16) ∧ (Allowed s m3 e2 true) ∧ (drained s = 1 ∧ cur s ≠ b2n b2) ∧ (k < 4) ∧
      (check k ≠ 0) ∧ (∀ (i : Nat), i < k → check i = 0)) ∧
    (let s : State := up; let seg : Segment := .wall 0; let a := s.epochReg seg; let m : Mid := 0;
    let pend : State → Nat := fun t => t.fl a F.BOND_EPOCH_pending;
    let drained : State → Nat := fun t => t.fl a F.BOND_EPOCH_drained; let r : Nat := 0; let d : Nat := 0;
    let m2 : Mid := 0; let b : Bool := false; let e := (match seg with
        | Segment.wall w => R.BOND_ROUTE w.val (b2n b) r d
        | Segment.switch => R.XS_ROUTE (b2n b) r); let cur : State → Nat := fun t => t.fl a F.BOND_EPOCH_cur;
    let r2 : Nat := 0; let o : Nat := 0; let j : Nat := 0; let m3 : Mid := 0; let b2 : Bool := false;
    let e2 := slotAddr seg (b2n b2) r2 o j;
      (Allowed s m a true) ∧ (pend s = 0 ∧ drained s = 1) ∧ (s.powered = true) ∧ (routeExists seg r d = true) ∧
      (Allowed s m2 e true) ∧ (¬(drained s = 1 ∧ cur s ≠ b2n b)) ∧ (match seg with
| Segment.wall w => r2 < 24 ∧ o < 12
| Segment.switch => o < 11) ∧ (j < 16) ∧ (Allowed s m3 e2 true) ∧ (¬(drained s = 1 ∧ cur s ≠ b2n b2))) ∧
    (let s : State := epochsFlip1; let seg : Segment := .wall 0; let a := s.epochReg seg; let m : Mid := 0;
    let pend : State → Nat := fun t => t.fl a F.BOND_EPOCH_pending;
    let drained : State → Nat := fun t => t.fl a F.BOND_EPOCH_drained; let r : Nat := 0; let d : Nat := 0;
    let m2 : Mid := 0; let b : Bool := true; let e := (match seg with
        | Segment.wall w => R.BOND_ROUTE w.val (b2n b) r d
        | Segment.switch => R.XS_ROUTE (b2n b) r); let cur : State → Nat := fun t => t.fl a F.BOND_EPOCH_cur;
    let r2 : Nat := 0; let o : Nat := 0; let j : Nat := 0; let m3 : Mid := 0; let b2 : Bool := true;
    let e2 := slotAddr seg (b2n b2) r2 o j;
      (Allowed s m a true) ∧ (¬(pend s = 0 ∧ drained s = 1)) ∧ (s.powered = true) ∧ (pend s = 1) ∧ (match seg with
| Segment.wall w => s.populated w.val = true ∧ s.slotNow w.val = 0
| Segment.switch => s.tick % 64 = 0) ∧ (routeExists seg r d = true) ∧ (Allowed s m2 e true) ∧
      (drained s = 1 ∧ cur s ≠ b2n b) ∧ (match seg with
| Segment.wall w => r2 < 24 ∧ o < 12
| Segment.switch => o < 11) ∧ (j < 16) ∧ (Allowed s m3 e2 true) ∧ (drained s = 1 ∧ cur s ≠ b2n b2)) ∧
    (let s : State := epochsFlip2; let seg : Segment := .switch; let a := s.epochReg seg; let m : Mid := 0;
    let pend : State → Nat := fun t => t.fl a F.BOND_EPOCH_pending;
    let drained : State → Nat := fun t => t.fl a F.BOND_EPOCH_drained; let r : Nat := 0; let d : Nat := 0;
    let m2 : Mid := 0; let b : Bool := true; let e := (match seg with
        | Segment.wall w => R.BOND_ROUTE w.val (b2n b) r d
        | Segment.switch => R.XS_ROUTE (b2n b) r); let cur : State → Nat := fun t => t.fl a F.BOND_EPOCH_cur;
    let r2 : Nat := 0; let o : Nat := 0; let j : Nat := 0; let m3 : Mid := 0; let b2 : Bool := true;
    let e2 := slotAddr seg (b2n b2) r2 o j;
      (Allowed s m a true) ∧ (¬(pend s = 0 ∧ drained s = 1)) ∧ (s.powered = true) ∧ (pend s = 1) ∧ (match seg with
| Segment.wall w => s.populated w.val = true ∧ s.slotNow w.val = 0
| Segment.switch => s.tick % 64 = 0) ∧ (routeExists seg r d = true) ∧ (Allowed s m2 e true) ∧
      (drained s = 1 ∧ cur s ≠ b2n b) ∧ (match seg with
| Segment.wall w => r2 < 24 ∧ o < 12
| Segment.switch => o < 11) ∧ (j < 16) ∧ (Allowed s m3 e2 true) ∧ (drained s = 1 ∧ cur s ≠ b2n b2)) := by
  refine ⟨?_, ?_, ?_, ?_, ?_, ?_, ?_⟩ <;> decide +kernel

theorem wit_ConnectionsAndRingsAreChecked :
    (let s : State := sGc; let m : Mid := 0; let w : Wall := 0; let c : Fin 64 := 63; let a := R.GC_CTRL w.val c.val;
    let valid : Prop := s.gcValid w.val c.val = true; let v : Word := gcV 0 0 1; let x : TileRef := x0;
    let a2 := R.BI_RING x.w.val x.t.val; let sets : Prop := fld v F.BI_RING_en = 1;
    let on : Prop := s.fl a2 F.BI_RING_en = 1;
      (Allowed s m a true) ∧ (valid) ∧ (fld v F.GC_CTRL_valid = 1) ∧ (Allowed s m a2 true) ∧ (¬sets) ∧ (¬on)) ∧
    (let s : State := sGc; let m : Mid := 0; let w : Wall := 0; let c : Fin 64 := 63; let a := R.GC_CTRL w.val c.val;
    let valid : Prop := s.gcValid w.val c.val = true; let v : Word := 0; let x : TileRef := x0;
    let a2 := R.BI_RING x.w.val x.t.val; let sets : Prop := fld v F.BI_RING_en = 1;
    let on : Prop := s.fl a2 F.BI_RING_en = 1;
      (Allowed s m a true) ∧ (valid) ∧ (fld v F.GC_CTRL_valid = 0) ∧ (Allowed s m a2 true) ∧ (¬sets) ∧ (¬on)) ∧
    (let s : State := up; let m : Mid := 0; let w : Wall := 0; let c : Fin 64 := 0; let a := R.GC_CTRL w.val c.val;
    let valid : Prop := s.gcValid w.val c.val = true; let v : Word := gcV 3 2 1;
    let wide : Prop := (1 < fld v F.GC_CTRL_width ∧
          dHub (s.gcDst w.val c.val) = false ∧ dRtr (s.gcDst w.val c.val) < 16); let x : TileRef := x0;
    let a2 := R.BI_RING x.w.val x.t.val; let sets : Prop := fld v F.BI_RING_en = 1;
    let on : Prop := s.fl a2 F.BI_RING_en = 1;
      (Allowed s m a true) ∧ (¬valid) ∧ (fld v F.GC_CTRL_valid = 1) ∧ (wide) ∧ (Allowed s m a2 true) ∧ (¬sets) ∧ (¬on)) ∧
    (let s : State := up.setFl (R.GC_DST 0 0) F.GC_DST_dst (mkDst 0 16 0).toNat; let m : Mid := 0; let w : Wall := 0;
    let c : Fin 64 := 0; let a := R.GC_CTRL w.val c.val; let valid : Prop := s.gcValid w.val c.val = true;
    let v : Word := gcV 3 2 1; let wide : Prop := (1 < fld v F.GC_CTRL_width ∧
          dHub (s.gcDst w.val c.val) = false ∧ dRtr (s.gcDst w.val c.val) < 16); let x : TileRef := x0;
    let a2 := R.BI_RING x.w.val x.t.val; let sets : Prop := fld v F.BI_RING_en = 1;
    let on : Prop := s.fl a2 F.BI_RING_en = 1;
      (Allowed s m a true) ∧ (¬valid) ∧ (fld v F.GC_CTRL_valid = 1) ∧ (¬wide) ∧ (Allowed s m a2 true) ∧ (¬sets) ∧ (¬on)) ∧
    (let s : State := up; let m : Mid := 0; let w : Wall := 0; let c : Fin 64 := 0; let a := R.GC_CTRL w.val c.val;
    let v : Word := ringV 1 0 1024; let valid : Prop := s.gcValid w.val c.val = true; let x : TileRef := x0;
    let a2 := R.BI_RING x.w.val x.t.val; let on : Prop := s.fl a2 F.BI_RING_en = 1;
    let sets : Prop := fld v F.BI_RING_en = 1; let fits : Prop := (fld v F.BI_RING_len ≠ 0 ∧
          fld v F.BI_RING_base + fld v F.BI_RING_len ≤ aspectDepth (s.aspect x.w.val x.t.val (fld v F.BI_RING_tmem)));
      (Allowed s m a true) ∧ (fld v F.GC_CTRL_valid = 0) ∧ (¬valid) ∧ (Allowed s m a2 true) ∧ (¬on) ∧ (sets) ∧ (fits)) ∧
    (let s : State := up; let m : Mid := 0; let w : Wall := 0; let c : Fin 64 := 0; let a := R.GC_CTRL w.val c.val;
    let v : Word := ringV 1 4095 2; let valid : Prop := s.gcValid w.val c.val = true; let x : TileRef := x0;
    let a2 := R.BI_RING x.w.val x.t.val; let on : Prop := s.fl a2 F.BI_RING_en = 1;
    let sets : Prop := fld v F.BI_RING_en = 1; let fits : Prop := (fld v F.BI_RING_len ≠ 0 ∧
          fld v F.BI_RING_base + fld v F.BI_RING_len ≤ aspectDepth (s.aspect x.w.val x.t.val (fld v F.BI_RING_tmem)));
      (Allowed s m a true) ∧ (fld v F.GC_CTRL_valid = 0) ∧ (¬valid) ∧ (Allowed s m a2 true) ∧ (¬on) ∧ (sets) ∧ (¬fits)) ∧
    (let s : State := sRing5; let m : Mid := 0; let w : Wall := 0; let c : Fin 64 := 0; let a := R.GC_CTRL w.val c.val;
    let v : Word := ringV 1 0 3; let valid : Prop := s.gcValid w.val c.val = true; let x : TileRef := x0;
    let a2 := R.BI_RING x.w.val x.t.val; let on : Prop := s.fl a2 F.BI_RING_en = 1;
    let sets : Prop := fld v F.BI_RING_en = 1; let same : Prop := (fld v { lo := 0, wd := 26 : Fld } =
          fld (s.rd a2) { lo := 0, wd := 26 : Fld });
      (Allowed s m a true) ∧ (fld v F.GC_CTRL_valid = 0) ∧ (¬valid) ∧ (Allowed s m a2 true) ∧ (on) ∧ (sets) ∧ (same)) ∧
    (let s : State := sRing5; let m : Mid := 0; let w : Wall := 0; let c : Fin 64 := 0; let a := R.GC_CTRL w.val c.val;
    let v : Word := ringV 1 0 4; let valid : Prop := s.gcValid w.val c.val = true; let x : TileRef := x0;
    let a2 := R.BI_RING x.w.val x.t.val; let on : Prop := s.fl a2 F.BI_RING_en = 1;
    let sets : Prop := fld v F.BI_RING_en = 1; let same : Prop := (fld v { lo := 0, wd := 26 : Fld } =
          fld (s.rd a2) { lo := 0, wd := 26 : Fld });
      (Allowed s m a true) ∧ (fld v F.GC_CTRL_valid = 0) ∧ (¬valid) ∧ (Allowed s m a2 true) ∧ (on) ∧ (sets) ∧ (¬same)) ∧
    (let s : State := sRing5; let m : Mid := 0; let w : Wall := 0; let c : Fin 64 := 0; let a := R.GC_CTRL w.val c.val;
    let v : Word := ringV 0 0 3; let valid : Prop := s.gcValid w.val c.val = true; let x : TileRef := x0;
    let a2 := R.BI_RING x.w.val x.t.val; let sets : Prop := fld v F.BI_RING_en = 1;
    let on : Prop := s.fl a2 F.BI_RING_en = 1;
      (Allowed s m a true) ∧ (fld v F.GC_CTRL_valid = 0) ∧ (¬valid) ∧ (Allowed s m a2 true) ∧ (¬sets) ∧ (on)) := by
  refine ⟨?_, ?_, ?_, ?_, ?_, ?_, ?_, ?_, ?_⟩ <;> decide +kernel

theorem wit_DomainsDrainAndRelease :
    (let s : State := sDrain; let w : Wall := 0; let d : Domain := dC; let d2 : Domain := dC;
      (OnWall s w) ∧ (d.wallNo = w.val) ∧ (s.domState d = 2) ∧
      ((s.wall w.val).closing.getD d.key s.tick + 12500 ≤ s.tick) ∧ (d2.wallNo = w.val)) ∧
    (let s : State := sRel dC; let w : Wall := 0; let d : Domain := dC; let d2 : Domain := dC;
      (OnWall s w) ∧ (d.wallNo = w.val) ∧ (d2.wallNo = w.val) ∧ (∃ e, e ∈ (s.wall w.val).release ∧ e.fst = d2.key) ∧
      (s.boundary w.val = true)) ∧
    (let s : State := sRel (.wall 0); let w : Wall := 0; let d : Domain := .wall 0; let d2 : Domain := .wall 0;
    let c : Nat := 63; let starts : Nat → Prop := (fun c =>
          match d2 with
          | Domain.wall w => True
          | Domain.course w_1 k => s.fl (R.GC_CTRL w.val c) F.GC_CTRL_router = k.val);
      (OnWall s w) ∧ (d.wallNo = w.val) ∧ (d2.wallNo = w.val) ∧ (∃ e, e ∈ (s.wall w.val).release ∧ e.fst = d2.key) ∧
      (s.boundary w.val = true) ∧ (c < 64) ∧ (s.gcValid w.val c = true) ∧ (starts c)) ∧
    (let s : State := domainsDrain1; let w : Wall := 0; let d : Domain := dC; let d2 : Domain := dC;
      (OnWall s w) ∧ (d.wallNo = w.val) ∧ (d2.wallNo = w.val) ∧ ((s.wall w.val).realigning = true) ∧
      (s.clockStep w.val = 0) ∧ (s.wtick w.val % 64 = 0)) := by
  refine ⟨?_, ?_, ?_, ?_⟩ <;> decide +kernel

theorem wit_BanksServeReadsAndWrites :
    (let s : State := sMem; let w : Wall := 0; let p : Packet := rdP 0 0x3FFFFF 1; let s1 : State := sMem;
    let b : Fin 8 := 3; let off := bvf p.addr 0 22;
    let fits : Prop := s.bankOn w.val b.val = true ∧ off + p.count ≤ 4194304;
    let allowed : Bool → Prop := fun write => s.sramAllows w.val b.val (BitVec.toNat p.mid) write = true;
      (OnWall s w) ∧ (p.isAnswer = false) ∧ (Reaches s s1 w.val (18 + b.val / 4) (b.val % 4) p) ∧ (p.typ = 1) ∧ (fits) ∧
      (allowed false) ∧ ((s.sramRead w.val b.val off p.count).snd = false) ∧ (s.injectCheck w.val (18 + b.val / 4) 0
    (answerTo p 2 0 0
      (s.sramBytes w.val b.val off p.count)) =
  0) ∧ (s.bankOn w.val b.val = true)) ∧
    (let s : State := { sMem with sramErr := [(sramKey 0 3 0x3FFFF8 / 8, 2)] }; let w : Wall := 0;
    let p : Packet := rdP 0 0x3FFFFF 1; let s1 : State := { sMem with sramErr := [(sramKey 0 3 0x3FFFF8 / 8, 2)] };
    let b : Fin 8 := 3; let off := bvf p.addr 0 22;
    let fits : Prop := s.bankOn w.val b.val = true ∧ off + p.count ≤ 4194304;
    let allowed : Bool → Prop := fun write => s.sramAllows w.val b.val (BitVec.toNat p.mid) write = true;
      (OnWall s w) ∧ (p.isAnswer = false) ∧ (Reaches s s1 w.val (18 + b.val / 4) (b.val % 4) p) ∧ (p.typ = 1) ∧ (fits) ∧
      (allowed false) ∧ ((s.sramRead w.val b.val off p.count).snd = true) ∧ (s.injectCheck w.val (18 + b.val / 4) 0
    (answerTo p 4 stDataError 0 []) =
  0) ∧ (s.bankOn w.val b.val = true)) ∧
    (let s : State := sMem; let w : Wall := 0; let p : Packet := rdP 33 0 1; let s1 : State := sMem; let b : Fin 8 := 3;
    let off := bvf p.addr 0 22; let fits : Prop := s.bankOn w.val b.val = true ∧ off + p.count ≤ 4194304;
    let allowed : Bool → Prop := fun write => s.sramAllows w.val b.val (BitVec.toNat p.mid) write = true;
      (OnWall s w) ∧ (p.isAnswer = false) ∧ (Reaches s s1 w.val (18 + b.val / 4) (b.val % 4) p) ∧ (p.typ = 1) ∧ (fits) ∧
      (s.bankOn w.val b.val = true) ∧ (¬allowed false)) ∧
    (let s : State := sMem; let w : Wall := 0; let p : Packet := rdP 0 0x3FFFFF 2; let s1 : State := sMem;
    let b : Fin 8 := 3; let off := bvf p.addr 0 22;
    let fits : Prop := s.bankOn w.val b.val = true ∧ off + p.count ≤ 4194304;
      (OnWall s w) ∧ (p.isAnswer = false) ∧ (Reaches s s1 w.val (18 + b.val / 4) (b.val % 4) p) ∧ (p.typ = 1) ∧
      (s.bankOn w.val b.val = true) ∧ (¬fits)) ∧
    (let s : State := sMem; let w : Wall := 0; let p : Packet := wrP 0 0x3FFFFE [5, 6]; let s1 : State := sMem;
    let b : Fin 8 := 3; let off := bvf p.addr 0 22;
    let fits : Prop := s.bankOn w.val b.val = true ∧ off + p.count ≤ 4194304;
    let allowed : Bool → Prop := fun write => s.sramAllows w.val b.val (BitVec.toNat p.mid) write = true;
    let leased : Prop := (b.val = 4 ∨ b.val = 5 →
          s.regionLease w.val b.val (BitVec.toNat p.mid) off p.count = true);
      (OnWall s w) ∧ (p.isAnswer = false) ∧ (Reaches s s1 w.val (18 + b.val / 4) (b.val % 4) p) ∧ (p.typ = 0) ∧
      (List.length p.payload = p.count) ∧ (fits) ∧ (allowed true) ∧ (leased) ∧
      ((s.sramWrite w.val b.val off p.payload).snd = true) ∧ (s.bankOn w.val b.val = true)) ∧
    (let s : State := sMem; let w : Wall := 0; let p : Packet := wrP 0 0 [5]; let s1 : State := sMem; let b : Fin 8 := 5;
    let off := bvf p.addr 0 22; let fits : Prop := s.bankOn w.val b.val = true ∧ off + p.count ≤ 4194304;
    let allowed : Bool → Prop := fun write => s.sramAllows w.val b.val (BitVec.toNat p.mid) write = true;
    let leased : Prop := (b.val = 4 ∨ b.val = 5 →
          s.regionLease w.val b.val (BitVec.toNat p.mid) off p.count = true);
      (OnWall s w) ∧ (p.isAnswer = false) ∧ (Reaches s s1 w.val (18 + b.val / 4) (b.val % 4) p) ∧ (p.typ = 0) ∧
      (List.length p.payload = p.count) ∧ (fits) ∧ (allowed true) ∧ (leased) ∧
      ((s.sramWrite w.val b.val off p.payload).snd = true) ∧ (s.bankOn w.val b.val = true)) ∧
    (let s : State := { sMem with sramErr := [(sramKey 0 3 0x3FFFF8 / 8, 2)] }; let w : Wall := 0;
    let p : Packet := wrP 0 0x3FFFFE [5, 6]; let s1 : State := { sMem with sramErr := [(sramKey 0 3 0x3FFFF8 / 8, 2)] };
    let b : Fin 8 := 3; let off := bvf p.addr 0 22;
    let fits : Prop := s.bankOn w.val b.val = true ∧ off + p.count ≤ 4194304;
    let allowed : Bool → Prop := fun write => s.sramAllows w.val b.val (BitVec.toNat p.mid) write = true;
    let leased : Prop := (b.val = 4 ∨ b.val = 5 →
          s.regionLease w.val b.val (BitVec.toNat p.mid) off p.count = true);
      (OnWall s w) ∧ (p.isAnswer = false) ∧ (Reaches s s1 w.val (18 + b.val / 4) (b.val % 4) p) ∧ (p.typ = 0) ∧
      (List.length p.payload = p.count) ∧ (fits) ∧ (allowed true) ∧ (leased) ∧
      ((s.sramWrite w.val b.val off p.payload).snd = false) ∧ (s.bankOn w.val b.val = true)) ∧
    (let s : State := sMem; let w : Wall := 0; let p : Packet := wrP 33 0 [5]; let s1 : State := sMem;
    let b : Fin 8 := 3; let off := bvf p.addr 0 22;
    let fits : Prop := s.bankOn w.val b.val = true ∧ off + p.count ≤ 4194304;
    let allowed : Bool → Prop := fun write => s.sramAllows w.val b.val (BitVec.toNat p.mid) write = true;
      (OnWall s w) ∧ (p.isAnswer = false) ∧ (Reaches s s1 w.val (18 + b.val / 4) (b.val % 4) p) ∧ (p.typ = 0) ∧
      (List.length p.payload = p.count) ∧ (fits) ∧ (s.bankOn w.val b.val = true) ∧ (¬allowed true)) ∧
    (let s : State := sMem.setFl (R.LS_SRAM 0 0) F.LS_SRAM_regions 0; let w : Wall := 0; let p : Packet := wrP 0 0 [5];
    let s1 : State := sMem.setFl (R.LS_SRAM 0 0) F.LS_SRAM_regions 0; let b : Fin 8 := 5;
    let off := bvf p.addr 0 22; let fits : Prop := s.bankOn w.val b.val = true ∧ off + p.count ≤ 4194304;
    let allowed : Bool → Prop := fun write => s.sramAllows w.val b.val (BitVec.toNat p.mid) write = true;
    let leased : Prop := (b.val = 4 ∨ b.val = 5 →
          s.regionLease w.val b.val (BitVec.toNat p.mid) off p.count = true);
      (OnWall s w) ∧ (p.isAnswer = false) ∧ (Reaches s s1 w.val (18 + b.val / 4) (b.val % 4) p) ∧ (p.typ = 0) ∧
      (List.length p.payload = p.count) ∧ (fits) ∧ (allowed true) ∧ (s.bankOn w.val b.val = true) ∧ (¬leased)) ∧
    (let s : State := sMem; let w : Wall := 0; let p : Packet := wrP 0 0x3FFFFF [5, 6]; let s1 : State := sMem;
    let b : Fin 8 := 3; let off := bvf p.addr 0 22;
    let fits : Prop := s.bankOn w.val b.val = true ∧ off + p.count ≤ 4194304;
      (OnWall s w) ∧ (p.isAnswer = false) ∧ (Reaches s s1 w.val (18 + b.val / 4) (b.val % 4) p) ∧ (p.typ = 0) ∧
      (List.length p.payload = p.count) ∧ (s.bankOn w.val b.val = true) ∧ (¬fits)) ∧
    (let s : State := sMem; let w : Wall := 0; let p : Packet := { wrP 0 0 [5] with typ := 3 }; let s1 : State := sMem;
    let b : Fin 8 := 3;
      (OnWall s w) ∧ (p.isAnswer = false) ∧ (Reaches s s1 w.val (18 + b.val / 4) (b.val % 4) p) ∧ (p.typ = 3)) :=
  ⟨⟨by decide +kernel, by decide +kernel, (reaches_outside _ _ _ _ _ rfl), by decide +kernel, by decide +kernel,
    by decide +kernel, by decide +kernel, by decide +kernel, by decide +kernel⟩,
   ⟨by decide +kernel, by decide +kernel, (reaches_outside _ _ _ _ _ rfl), by decide +kernel, by decide +kernel,
    by decide +kernel, by decide +kernel, by decide +kernel, by decide +kernel⟩,
   ⟨by decide +kernel, by decide +kernel, (reaches_outside _ _ _ _ _ rfl), by decide +kernel, by decide +kernel,
    by decide +kernel, by decide +kernel⟩,
   ⟨by decide +kernel, by decide +kernel, (reaches_outside _ _ _ _ _ rfl), by decide +kernel, by decide +kernel,
    by decide +kernel⟩,
   ⟨by decide +kernel, by decide +kernel, (reaches_outside _ _ _ _ _ rfl), by decide +kernel, by decide +kernel,
    by decide +kernel, by decide +kernel, by decide +kernel, by decide +kernel, by decide +kernel⟩,
   ⟨by decide +kernel, by decide +kernel, (reaches_outside _ _ _ _ _ rfl), by decide +kernel, by decide +kernel,
    by decide +kernel, by decide +kernel, by decide +kernel, by decide +kernel, by decide +kernel⟩,
   ⟨by decide +kernel, by decide +kernel, (reaches_outside _ _ _ _ _ rfl), by decide +kernel, by decide +kernel,
    by decide +kernel, by decide +kernel, by decide +kernel, by decide +kernel, by decide +kernel⟩,
   ⟨by decide +kernel, by decide +kernel, (reaches_outside _ _ _ _ _ rfl), by decide +kernel, by decide +kernel,
    by decide +kernel, by decide +kernel, by decide +kernel⟩,
   ⟨by decide +kernel, by decide +kernel, (reaches_outside _ _ _ _ _ rfl), by decide +kernel, by decide +kernel,
    by decide +kernel, by decide +kernel, by decide +kernel, by decide +kernel⟩,
   ⟨by decide +kernel, by decide +kernel, (reaches_outside _ _ _ _ _ rfl), by decide +kernel, by decide +kernel,
    by decide +kernel, by decide +kernel⟩,
   ⟨by decide +kernel, by decide +kernel, (reaches_outside _ _ _ _ _ rfl), by decide +kernel⟩⟩

theorem wit_PatrolAndRetentionKeepTheBanks :
    (let s : State := up; let w : Wall := 0; let b : Fin 8 := 7; let ret := R.SRAM_RET w.val; let m : Mid := 0;
    let v : Word := 0x38;
      (OnWall s w) ∧ (s.fl (R.SRAM_PATROL w.val) F.SRAM_PATROL_interval ≠ 0) ∧ (s.inRet w.val b.val = false) ∧
      (s.inTest w.val b.val = false) ∧ (b.val = 7 → s.secureOpen w.val = true) ∧ (s.patrolDue w.val b.val = true) ∧
      (Allowed s m ret true) ∧ (∀ (k : Nat),
  k ∈
      [0, 1, 2, 6,
        7] →
    nbit (fld v F.SRAM_RET_req) k = false)) ∧
    (let s : State := up; let w : Wall := 0; let b : Fin 8 := 3; let ret := R.SRAM_RET w.val; let m : Mid := 0;
    let v : Word := 0x01;
      (OnWall s w) ∧ (s.fl (R.SRAM_PATROL w.val) F.SRAM_PATROL_interval ≠ 0) ∧ (s.inRet w.val b.val = false) ∧
      (s.inTest w.val b.val = false) ∧ (b.val = 7 → s.secureOpen w.val = true) ∧ (s.patrolDue w.val b.val = true) ∧
      (Allowed s m ret true) ∧ (∃ k,
  k ∈
      [0, 1, 2, 6,
        7] ∧
    nbit (fld v F.SRAM_RET_req) k = true)) ∧
    (let s : State := sRet; let w : Wall := 0; let b : Fin 8 := 5; let ret := R.SRAM_RET w.val; let m : Mid := 0;
    let v : Word := 0x01;
      (OnWall s w) ∧ (s.fl (R.SRAM_PATROL w.val) F.SRAM_PATROL_interval ≠ 0) ∧ (s.inRet w.val b.val = false) ∧
      (s.inTest w.val b.val = false) ∧ (b.val = 7 → s.secureOpen w.val = true) ∧ (s.patrolDue w.val b.val = true) ∧
      (nbit (s.fl ret F.SRAM_RET_req) b.val = true) ∧ (Allowed s m ret true) ∧ (∃ k,
  k ∈
      [0, 1, 2, 6,
        7] ∧
    nbit (fld v F.SRAM_RET_req) k = true)) ∧
    (let s : State := sWake; let w : Wall := 0; let b : Fin 8 := 3; let ret := R.SRAM_RET w.val; let m : Mid := 0;
    let v : Word := 0x01;
      (OnWall s w) ∧ (s.fl (R.SRAM_PATROL w.val) F.SRAM_PATROL_interval ≠ 0) ∧
      (∃ e, e ∈ (s.wall w.val).wakeAt ∧ e.fst = b.val) ∧ ((s.wall w.val).wakeAt.getD b.val 0 + 2500 ≤ s.tick) ∧
      (Allowed s m ret true) ∧ (∃ k,
  k ∈
      [0, 1, 2, 6,
        7] ∧
    nbit (fld v F.SRAM_RET_req) k = true)) := by
  refine ⟨?_, ?_, ?_, ?_⟩ <;> decide +kernel

theorem wit_MarchesTestBanks :
    (let s : State := up; let m : Mid := 0; let w : Wall := 0; let a := R.MARCH_CTRL w.val;
    let v : Word := marchV 1 0x20 0; let starts : Prop := fld v F.MARCH_CTRL_start = 1;
    let u := if fld v F.MARCH_CTRL_abort = 1 then s.marchStop w.val else s; let banks := fld v F.MARCH_CTRL_banks;
    let check : Nat → Nat := fun b => u.marchCheck w.val b (fld v F.MARCH_CTRL_alg) (BitVec.toNat m);
      (Allowed s m a true) ∧ (starts) ∧ (fld v F.MARCH_CTRL_alg ≠ 3) ∧
      (∀ (b : Nat), b < 8 → nbit banks b = true → check b = 0) ∧ (fld (s.rd a) F.MARCH_CTRL_start = 0)) ∧
    (let s : State := up; let m : Mid := 0; let w : Wall := 0; let a := R.MARCH_CTRL w.val;
    let v : Word := marchV 1 0x20 3; let starts : Prop := fld v F.MARCH_CTRL_start = 1;
      (Allowed s m a true) ∧ (starts) ∧ (fld v F.MARCH_CTRL_alg = 3) ∧ (fld (s.rd a) F.MARCH_CTRL_start = 0)) ∧
    (let s : State := up.setBankOn 0 5 false; let m : Mid := 0; let w : Wall := 0; let a := R.MARCH_CTRL w.val;
    let v : Word := marchV 1 0x20 0; let starts : Prop := fld v F.MARCH_CTRL_start = 1; let b : Nat := 5;
    let banks := fld v F.MARCH_CTRL_banks; let u := if fld v F.MARCH_CTRL_abort = 1 then s.marchStop w.val else s;
    let check : Nat → Nat := fun b => u.marchCheck w.val b (fld v F.MARCH_CTRL_alg) (BitVec.toNat m);
      (Allowed s m a true) ∧ (starts) ∧ (fld v F.MARCH_CTRL_alg ≠ 3) ∧ (b < 8) ∧ (nbit banks b = true) ∧ (check b ≠ 0) ∧
      (fld (s.rd a) F.MARCH_CTRL_start = 0)) ∧
    (let s : State := up; let m : Mid := 0; let w : Wall := 0; let a := R.MARCH_CTRL w.val;
    let v : Word := setFld 0 F.MARCH_CTRL_abort 1; let starts : Prop := fld v F.MARCH_CTRL_start = 1;
      (Allowed s m a true) ∧ (¬starts) ∧ (fld v F.MARCH_CTRL_abort = 1) ∧ (fld (s.rd a) F.MARCH_CTRL_start = 0)) ∧
    (let s : State := sMarch { alg := 0, bg := 0 }; let m : Mid := 0; let w : Wall := 0; let a := R.MARCH_CTRL w.val;
    let v : Word := 0; let starts : Prop := fld v F.MARCH_CTRL_start = 1; let b : Fin 8 := 3;
    let e : Nat × March := (3, { alg := 0, bg := 0 }); let r : MarchResult := { fail := false, addr := 0, count := 0 };
      (Allowed s m a true) ∧ (¬starts) ∧ (fld (s.rd a) F.MARCH_CTRL_start = 0) ∧ (OnWall s w) ∧
      (List.find? (fun e => decide (e.fst = b.val)) (s.wall w.val).march = some e) ∧
      (e.snd.start + e.snd.cycles ≤ (s.wall w.val).cycle) ∧ (r.fail = true → e.snd.canFail r.addr = true) ∧
      (e.snd.destroys = true)) ∧
    (let s : State := sMarch { alg := 2, bg := 0 }; let m : Mid := 0; let w : Wall := 0; let a := R.MARCH_CTRL w.val;
    let v : Word := 0; let starts : Prop := fld v F.MARCH_CTRL_start = 1; let b : Fin 8 := 3;
    let e : Nat × March := (3, { alg := 2, bg := 0 });
    let r : MarchResult := { fail := true, addr := 0x00010000, count := 1 };
      (Allowed s m a true) ∧ (¬starts) ∧ (fld (s.rd a) F.MARCH_CTRL_start = 0) ∧ (OnWall s w) ∧
      (List.find? (fun e => decide (e.fst = b.val)) (s.wall w.val).march = some e) ∧
      (e.snd.start + e.snd.cycles ≤ (s.wall w.val).cycle) ∧ (r.fail = true → e.snd.canFail r.addr = true) ∧
      (r.fail = true) ∧ (e.snd.destroys = false)) := by
  refine ⟨?_, ?_, ?_, ?_, ?_, ?_⟩ <;> decide +kernel

theorem wit_TamperWipesTheSecureBank :
    (let s : State := up; let w : Wall := 0; let a := R.SEC_STATUS w.val; let m : Mid := 0;
      (OnWall s w) ∧ (s.isReady w.val = true) ∧ ((s.wall w.val).wipe = none) ∧ (Allowed s m a true)) ∧
    (let s : State := sWipe; let w : Wall := 0; let c : Nat := 5; let a := R.SEC_STATUS w.val; let m : Mid := 0;
      (OnWall s w) ∧ (s.isReady w.val = true) ∧ ((s.wall w.val).wipe ≠ none) ∧ ((s.wall w.val).wipe = some c) ∧
      ((s.wall w.val).wipeAt + 65536 ≤ (s.wall w.val).cycle) ∧ (s.trowel.running = false ∨ s.wallOff w.val = true) ∧
      (Allowed s m a true)) ∧
    (let s : State := sWipe; let w : Wall := 0; let c : Nat := 5; let a := R.SEC_STATUS w.val; let m : Mid := 0;
      (OnWall s w) ∧ (s.isReady w.val = true) ∧ ((s.wall w.val).wipe ≠ none) ∧ ((s.wall w.val).wipe = some c) ∧
      ((s.wall w.val).wipeAt + 65536 ≤ (s.wall w.val).cycle) ∧ (s.trowel.running = false ∨ s.wallOff w.val = true) ∧
      (Allowed s m a true)) ∧
    (let s : State := { sWipe with trowel := { running := true } }; let w : Wall := 0; let c : Nat := 5;
    let a := R.SEC_STATUS w.val; let m : Mid := 0;
      (OnWall s w) ∧ (s.isReady w.val = true) ∧ ((s.wall w.val).wipe ≠ none) ∧ ((s.wall w.val).wipe = some c) ∧
      ((s.wall w.val).wipeAt + 65536 ≤ (s.wall w.val).cycle) ∧ (Allowed s m a true)) ∧
    (let s : State := tamperWipes1; let w : Wall := 0; let a := R.SEC_STATUS w.val; let m : Mid := 0;
      (OnWall s w) ∧ (s.isReady w.val = true) ∧ ((s.wall w.val).wipe = none) ∧ (Allowed s m a true)) := by
  refine ⟨?_, ?_, ?_, ?_, ?_⟩ <;> decide +kernel

theorem wit_DevicesServeWallsAndHost :
    (let s : State := sGd; let w : Wall := 0; let p : Packet := devicesServe1; let d : Fin 2 := 1; let s1 : State := sGd;
    let off := bvf p.addr 0 32; let lines : Bool → List Nat := fun write => s.waitLines w.val d.val off p.count write;
    let waits : Bool → Prop := fun write => lines write ≠ [] ∨ s.queuedBefore w.val d.val (GdReq.wall p) = true;
    let crc : Nat := 0; let dpa : Nat := sGd.gdSize 0 + 71; let o : Nat := 71; let off2 := o / 64 * 64;
    let reads : Prop := (s.gdAllows w.val d.val 0 off2 64 false = true ∧
          s.poisons w.val d.val = false ∧ s.hdmShut w.val = false); let excl : Bool := true; let line := off2 / 64;
    let x := s.gdx w.val d.val; let room : Prop := (x.holds line).isSome = true ∨ x.filter.length < 131072;
    let data : Bytes := List.replicate 64 3;
      (OnWall s w) ∧ (p.isAnswer = false) ∧ (Reaches s s1 w.val (16 + d.val) 0 p) ∧ (p.typ = 1) ∧
      (s.gdCheck w.val d.val p false = 0) ∧ (¬waits false) ∧
      ((s.gdTransfer w.val d.val off p.count crc fun x => false).snd = false) ∧ (s.injectCheck w.val (16 + d.val) 0
    (answerTo p 2 0 0
      (s.gdBytes w.val d.val off p.count)) =
  0) ∧ (s.hdmPlace dpa = some (w.val, d.val, o)) ∧ (s.cxl.flit256 = true) ∧ (reads) ∧
      (HostReadWaits s w.val d.val line excl = false) ∧ (room) ∧ (s.gdAllows w.val d.val 0 off2 64 true = true) ∧
      (s.hostWrites w.val d.val line = true) ∧ (List.length data = 64) ∧
      (x.waits line = true ∨ s.queuedBefore w.val d.val (GdReq.write line data) = false) ∧ (crc ≤ 4) ∧
      (x.waits line = false)) ∧
    (let s : State := sGd; let w : Wall := 0; let p : Packet := devicesServe1; let d : Fin 2 := 1; let s1 : State := sGd;
    let off := bvf p.addr 0 32; let lines : Bool → List Nat := fun write => s.waitLines w.val d.val off p.count write;
    let waits : Bool → Prop := fun write => lines write ≠ [] ∨ s.queuedBefore w.val d.val (GdReq.wall p) = true;
    let crc : Nat := 5; let dpa : Nat := sGd.gdSize 0 + 71; let o : Nat := 71; let off2 := o / 64 * 64;
    let reads : Prop := (s.gdAllows w.val d.val 0 off2 64 false = true ∧
          s.poisons w.val d.val = false ∧ s.hdmShut w.val = false); let excl : Bool := true; let line := off2 / 64;
    let x := s.gdx w.val d.val; let room : Prop := (x.holds line).isSome = true ∨ x.filter.length < 131072;
      (OnWall s w) ∧ (p.isAnswer = false) ∧ (Reaches s s1 w.val (16 + d.val) 0 p) ∧ (p.typ = 1) ∧
      (s.gdCheck w.val d.val p false = 0) ∧ (¬waits false) ∧
      ((s.gdTransfer w.val d.val off p.count crc fun x => false).snd = true) ∧ (s.injectCheck w.val (16 + d.val) 0
    (answerTo p 4 stDataError 0 []) =
  0) ∧ (s.hdmPlace dpa = some (w.val, d.val, o)) ∧ (s.cxl.flit256 = true) ∧ (reads) ∧
      (HostReadWaits s w.val d.val line excl = false) ∧ (room) ∧ (s.gdAllows w.val d.val 0 off2 64 true = true) ∧
      (s.hostWrites w.val d.val line = true)) ∧
    (let s : State := sGd; let w : Wall := 0; let p : Packet := { devicesServe1 with mid := 33 }; let d : Fin 2 := 1;
    let s1 : State := sGd; let dpa : Nat := sGd.gdSize 0 + 71; let o : Nat := 71; let off2 := o / 64 * 64;
    let reads : Prop := (s.gdAllows w.val d.val 0 off2 64 false = true ∧
          s.poisons w.val d.val = false ∧ s.hdmShut w.val = false); let excl : Bool := true; let line := off2 / 64;
    let x := s.gdx w.val d.val; let room : Prop := (x.holds line).isSome = true ∨ x.filter.length < 131072;
      (OnWall s w) ∧ (p.isAnswer = false) ∧ (Reaches s s1 w.val (16 + d.val) 0 p) ∧ (p.typ = 1) ∧
      (s.gdCheck w.val d.val p false ≠ 0) ∧ (s.queuedBefore w.val d.val (GdReq.wall p) = false) ∧
      (s.hdmPlace dpa = some (w.val, d.val, o)) ∧ (s.cxl.flit256 = true) ∧ (reads) ∧
      (HostReadWaits s w.val d.val line excl = false) ∧ (room) ∧ (s.gdAllows w.val d.val 0 off2 64 true = true) ∧
      (s.hostWrites w.val d.val line = true)) ∧
    (let s : State := sGdAt devicesServe1; let w : Wall := 0; let p : Packet := devicesServe1; let d : Fin 2 := 1;
    let s1 : State := { sGdAt devicesServe1 with flight := [] }; let off := bvf p.addr 0 32;
    let lines : Bool → List Nat := fun write => s.waitLines w.val d.val off p.count write;
    let waits : Bool → Prop := fun write => lines write ≠ [] ∨ s.queuedBefore w.val d.val (GdReq.wall p) = true;
    let dpa : Nat := sGd.gdSize 0 + 71; let o : Nat := 71; let off2 := o / 64 * 64;
    let reads : Prop := (s.gdAllows w.val d.val 0 off2 64 false = true ∧
          s.poisons w.val d.val = false ∧ s.hdmShut w.val = false); let excl : Bool := true; let line := off2 / 64;
    let x := s.gdx w.val d.val; let room : Prop := (x.holds line).isSome = true ∨ x.filter.length < 131072;
    let data : Bytes := List.replicate 64 3; let crc : Nat := 0;
      (OnWall s w) ∧ (p.isAnswer = false) ∧ (Reaches s s1 w.val (16 + d.val) 0 p) ∧ (p.typ = 1) ∧
      (s.gdCheck w.val d.val p false = 0) ∧ (waits false) ∧ (s.hdmPlace dpa = some (w.val, d.val, o)) ∧
      (s.cxl.flit256 = true) ∧ (reads) ∧ (HostReadWaits s w.val d.val line excl = false) ∧ (room) ∧
      (s.gdAllows w.val d.val 0 off2 64 true = true) ∧ (s.hostWrites w.val d.val line = true) ∧
      (List.length data = 64) ∧ (x.waits line = true ∨ s.queuedBefore w.val d.val (GdReq.write line data) = false) ∧
      (crc ≤ 4) ∧ (x.waits line = false)) ∧
    (let s : State := sGd; let w : Wall := 0; let p : Packet := wrP 0 62 [1, 2, 3]; let d : Fin 2 := 1;
    let s1 : State := sGd; let off := bvf p.addr 0 32;
    let lines : Bool → List Nat := fun write => s.waitLines w.val d.val off p.count write;
    let waits : Bool → Prop := fun write => lines write ≠ [] ∨ s.queuedBefore w.val d.val (GdReq.wall p) = true;
    let crc : Nat := 0; let whole : Nat → Bool := (fun b =>
          decide (off ≤ b * 32) &&
            decide (b * 32 + 32 ≤ off + p.count));
      (OnWall s w) ∧ (p.isAnswer = false) ∧ (Reaches s s1 w.val (16 + d.val) 0 p) ∧ (p.typ = 0) ∧
      (List.length p.payload = p.count) ∧ (s.gdCheck w.val d.val p true = 0) ∧ (¬waits true) ∧
      ((s.gdTransfer w.val d.val off p.count crc whole).snd = false)) ∧
    (let s : State := sGd; let w : Wall := 0; let p : Packet := wrP 0 62 [1, 2, 3]; let d : Fin 2 := 1;
    let s1 : State := sGd; let off := bvf p.addr 0 32;
    let lines : Bool → List Nat := fun write => s.waitLines w.val d.val off p.count write;
    let waits : Bool → Prop := fun write => lines write ≠ [] ∨ s.queuedBefore w.val d.val (GdReq.wall p) = true;
    let crc : Nat := 5; let whole : Nat → Bool := (fun b =>
          decide (off ≤ b * 32) &&
            decide (b * 32 + 32 ≤ off + p.count));
      (OnWall s w) ∧ (p.isAnswer = false) ∧ (Reaches s s1 w.val (16 + d.val) 0 p) ∧ (p.typ = 0) ∧
      (List.length p.payload = p.count) ∧ (s.gdCheck w.val d.val p true = 0) ∧ (¬waits true) ∧
      ((s.gdTransfer w.val d.val off p.count crc whole).snd = true)) ∧
    (let s : State := sGd; let w : Wall := 0; let p : Packet := wrP 33 62 [1, 2, 3]; let d : Fin 2 := 1;
    let s1 : State := sGd;
      (OnWall s w) ∧ (p.isAnswer = false) ∧ (Reaches s s1 w.val (16 + d.val) 0 p) ∧ (p.typ = 0) ∧
      (List.length p.payload = p.count) ∧ (s.gdCheck w.val d.val p true ≠ 0) ∧
      (s.queuedBefore w.val d.val (GdReq.wall p) = false)) ∧
    (let s : State := sGdAt (wrP 0 62 [1, 2, 3]); let w : Wall := 0; let p : Packet := wrP 0 62 [1, 2, 3];
    let d : Fin 2 := 1; let s1 : State := { sGdAt (wrP 0 62 [1, 2, 3]) with flight := [] };
    let off := bvf p.addr 0 32; let lines : Bool → List Nat := fun write => s.waitLines w.val d.val off p.count write;
    let waits : Bool → Prop := fun write => lines write ≠ [] ∨ s.queuedBefore w.val d.val (GdReq.wall p) = true;
      (OnWall s w) ∧ (p.isAnswer = false) ∧ (Reaches s s1 w.val (16 + d.val) 0 p) ∧ (p.typ = 0) ∧
      (List.length p.payload = p.count) ∧ (s.gdCheck w.val d.val p true = 0) ∧ (waits true)) ∧
    (let s : State := sGdStale; let w : Wall := 0; let p : Packet := devicesServe1; let d : Fin 2 := 1;
    let s1 : State := sGdStale; let off := bvf p.addr 0 32;
    let lines : Bool → List Nat := fun write => s.waitLines w.val d.val off p.count write;
    let waits : Bool → Prop := fun write => lines write ≠ [] ∨ s.queuedBefore w.val d.val (GdReq.wall p) = true;
    let crc : Nat := 0; let dpa : Nat := sGd.gdSize 0 + 71; let o : Nat := 71; let off2 := o / 64 * 64;
    let reads : Prop := (s.gdAllows w.val d.val 0 off2 64 false = true ∧
          s.poisons w.val d.val = false ∧ s.hdmShut w.val = false); let line := off2 / 64;
      (OnWall s w) ∧ (p.isAnswer = false) ∧ (Reaches s s1 w.val (16 + d.val) 0 p) ∧ (p.typ = 1) ∧
      (s.gdCheck w.val d.val p false = 0) ∧ (¬waits false) ∧
      ((s.gdTransfer w.val d.val off p.count crc fun x => false).snd = false) ∧ (s.injectCheck w.val (16 + d.val) 0
    (answerTo p 2 0 0
      (s.gdBytes w.val d.val off p.count)) =
  0) ∧ (s.hdmPlace dpa = some (w.val, d.val, o)) ∧ (s.cxl.flit256 = true) ∧ (¬reads) ∧
      (s.gdAllows w.val d.val 0 off2 64 true = true) ∧ (s.hostWrites w.val d.val line = true)) ∧
    (let s : State := sGdQ; let w : Wall := 0; let p : Packet := devicesServe1; let d : Fin 2 := 1;
    let s1 : State := sGdQ; let off := bvf p.addr 0 32;
    let lines : Bool → List Nat := fun write => s.waitLines w.val d.val off p.count write;
    let waits : Bool → Prop := fun write => lines write ≠ [] ∨ s.queuedBefore w.val d.val (GdReq.wall p) = true;
    let dpa : Nat := sGd.gdSize 0 + 71; let o : Nat := 71; let off2 := o / 64 * 64;
    let reads : Prop := (s.gdAllows w.val d.val 0 off2 64 false = true ∧
          s.poisons w.val d.val = false ∧ s.hdmShut w.val = false); let excl : Bool := true; let line := off2 / 64;
    let data : Bytes := List.replicate 64 3; let x := s.gdx w.val d.val;
      (OnWall s w) ∧ (p.isAnswer = false) ∧ (Reaches s s1 w.val (16 + d.val) 0 p) ∧ (p.typ = 1) ∧
      (s.gdCheck w.val d.val p false = 0) ∧ (waits false) ∧ (s.hdmPlace dpa = some (w.val, d.val, o)) ∧
      (s.cxl.flit256 = true) ∧ (reads) ∧ (HostReadWaits s w.val d.val line excl = true) ∧
      (s.gdAllows w.val d.val 0 off2 64 true = true) ∧ (s.hostWrites w.val d.val line = true) ∧
      (List.length data = 64) ∧ (x.waits line = false) ∧ (s.queuedBefore w.val d.val (GdReq.write line data) = true)) :=
  ⟨⟨by decide +kernel, by decide +kernel, (reaches_outside _ _ _ _ _ rfl), by decide +kernel, by decide +kernel,
    by decide +kernel, by decide +kernel, by decide +kernel, by decide +kernel, by decide +kernel, by decide +kernel,
    by decide +kernel, by decide +kernel, by decide +kernel, by decide +kernel, by decide +kernel, by decide +kernel,
    by decide +kernel, by decide +kernel⟩,
   ⟨by decide +kernel, by decide +kernel, (reaches_outside _ _ _ _ _ rfl), by decide +kernel, by decide +kernel,
    by decide +kernel, by decide +kernel, by decide +kernel, by decide +kernel, by decide +kernel, by decide +kernel,
    by decide +kernel, by decide +kernel, by decide +kernel, by decide +kernel⟩,
   ⟨by decide +kernel, by decide +kernel, (reaches_outside _ _ _ _ _ rfl), by decide +kernel, by decide +kernel,
    by decide +kernel, by decide +kernel, by decide +kernel, by decide +kernel, by decide +kernel, by decide +kernel,
    by decide +kernel, by decide +kernel⟩,
   ⟨by decide +kernel, by decide +kernel, (⟨_, rfl, rfl⟩), by decide +kernel, by decide +kernel, by decide +kernel,
    by decide +kernel, by decide +kernel, by decide +kernel, by decide +kernel, by decide +kernel, by decide +kernel,
    by decide +kernel, by decide +kernel, by decide +kernel, by decide +kernel, by decide +kernel⟩,
   ⟨by decide +kernel, by decide +kernel, (reaches_outside _ _ _ _ _ rfl), by decide +kernel, by decide +kernel,
    by decide +kernel, by decide +kernel, by decide +kernel⟩,
   ⟨by decide +kernel, by decide +kernel, (reaches_outside _ _ _ _ _ rfl), by decide +kernel, by decide +kernel,
    by decide +kernel, by decide +kernel, by decide +kernel⟩,
   ⟨by decide +kernel, by decide +kernel, (reaches_outside _ _ _ _ _ rfl), by decide +kernel, by decide +kernel,
    by decide +kernel, by decide +kernel⟩,
   ⟨by decide +kernel, by decide +kernel, (⟨_, rfl, rfl⟩), by decide +kernel, by decide +kernel, by decide +kernel,
    by decide +kernel⟩,
   ⟨by decide +kernel, by decide +kernel, (reaches_outside _ _ _ _ _ rfl), by decide +kernel, by decide +kernel,
    by decide +kernel, by decide +kernel, by decide +kernel, by decide +kernel, by decide +kernel, by decide +kernel,
    by decide +kernel, by decide +kernel⟩,
   ⟨by decide +kernel, by decide +kernel, (reaches_outside _ _ _ _ _ rfl), by decide +kernel, by decide +kernel,
    by decide +kernel, by decide +kernel, by decide +kernel, by decide +kernel, by decide +kernel, by decide +kernel,
    by decide +kernel, by decide +kernel, by decide +kernel, by decide +kernel⟩⟩

theorem wit_HotDevicesAreReported :
    (let s : State := sGd; let w : Wall := 0; let temp : BitVec 8 := 86; let d : Fin 2 := 1;
    let a := R.GD_STATUS w.val d.val;
      (OnWall s w) ∧ (85 < temp.toInt) ∧ (s.fl a F.GD_STATUS_hot = 0)) ∧
    (let s : State := sGd.setFl (R.GD_STATUS 0 1) F.GD_STATUS_hot 1; let w : Wall := 0; let temp : BitVec 8 := 127;
    let d : Fin 2 := 1; let a := R.GD_STATUS w.val d.val;
      (OnWall s w) ∧ (85 < temp.toInt) ∧ (s.fl a F.GD_STATUS_hot = 1)) ∧
    (let s : State := sGd; let w : Wall := 0; let temp : BitVec 8 := 85;
      (OnWall s w) ∧ (temp.toInt ≤ 85)) := by
  refine ⟨?_, ?_, ?_⟩ <;> decide +kernel

theorem wit_DevicesFollowTheHost :
    (let s : State := sBi; let w : Wall := 0; let d : Fin 2 := 0; let x := s.gdx w.val d.val; let line : Nat := 5;
    let e : Nat × Bool × Nat := (5, false, 0); let t0 : Nat := 0; let m : Mid := 0; let m2 : Mid := 0;
    let r2 : Fin 48 := 0; let a := R.GD_REGION w.val d.val r2.val;
    let inside : Prop := r2.val * 67108864 < s.gdSize w.val; let v : Word := 1;
      (OnWall s w) ∧ (List.find? (fun q => decide (q.fst = line)) x.pendingBi = some e) ∧ (e.snd.fst = false) ∧
      (x.flushing = some t0) ∧ (t0 + 1250000 ≤ s.tick) ∧ (x.pendingBi ≠ []) ∧ (Allowed s m (R.GD_CMD w.val d.val) true) ∧
      (Allowed s m2 a true) ∧ (inside) ∧ (fld v F.GD_REGION_mode < 2) ∧ (s.fl a F.GD_REGION_busy = 0)) ∧
    (let s : State := { devicesFollow1 with tick := 4096 }; let w : Wall := 0; let d : Fin 2 := 0;
    let x := s.gdx w.val d.val; let m : Mid := 0; let m2 : Mid := 0; let r2 : Fin 48 := 47;
    let a := R.GD_REGION w.val d.val r2.val; let inside : Prop := r2.val * 67108864 < s.gdSize w.val;
      (OnWall s w) ∧ (s.fl (R.GD_CFG w.val) F.GD_CFG_ecc = 1) ∧ (s.fl (R.GD_CFG w.val) F.GD_CFG_patrol = 1) ∧
      (s.gdServes w.val d.val = true) ∧ (x.patrolAt + 4096 ≤ s.tick) ∧ (Allowed s m (R.GD_CMD w.val d.val) true) ∧
      (Allowed s m2 a true) ∧ (¬inside)) ∧
    (let s : State := devicesFollow2; let w : Wall := 0; let d : Fin 2 := 0;
      (OnWall s w) ∧ (s.gdServes w.val d.val = false) ∧ (s.phase w.val = 2 ∨
  ∃ l,
    l ∈ s.longs ∧
      l.op = 25 ∧
        l.done = none ∧ l.onWall w.val = true ∧ cmdArg l.ctx 0 % 2 = d.val)) ∧
    (let s : State := devicesFollow3; let w : Wall := 0; let d : Fin 2 := 0; let r : Fin 48 := 47;
    let x := s.gdx w.val d.val; let m : Mid := 0; let m2 : Mid := 0; let r2 : Fin 48 := 47;
    let a := R.GD_REGION w.val d.val r2.val; let inside : Prop := r2.val * 67108864 < s.gdSize w.val;
    let v : Word := setFld 0 F.GD_REGION_mode 2;
      (OnWall s w) ∧ (s.fl (R.GD_REGION w.val d.val r.val) F.GD_REGION_busy = 1) ∧
      (∀ (e : Nat × Bool × Nat), e ∈ x.pendingBi → e.fst / 1048576 ≠ r.val) ∧
      (∀ (h : HostLine), h ∈ x.filter → h.line / 1048576 ≠ r.val) ∧ (Allowed s m (R.GD_CMD w.val d.val) true) ∧
      (Allowed s m2 a true) ∧ (inside) ∧ (2 ≤ fld v F.GD_REGION_mode)) ∧
    (let s : State := devicesFollow3.setGdx 0 0 { filter := [⟨47 * 0x100000, true⟩] }; let w : Wall := 0;
    let d : Fin 2 := 0; let r : Fin 48 := 47; let x := s.gdx w.val d.val; let h : HostLine := ⟨47 * 0x100000, true⟩;
    let m : Mid := 0; let m2 : Mid := 0; let r2 : Fin 48 := 47; let a := R.GD_REGION w.val d.val r2.val;
    let inside : Prop := r2.val * 67108864 < s.gdSize w.val; let v : Word := 1;
      (OnWall s w) ∧ (s.fl (R.GD_REGION w.val d.val r.val) F.GD_REGION_busy = 1) ∧
      (∀ (e : Nat × Bool × Nat), e ∈ x.pendingBi → e.fst / 1048576 ≠ r.val) ∧ (h ∈ x.filter) ∧
      (h.line / 1048576 = r.val) ∧ (Allowed s m (R.GD_CMD w.val d.val) true) ∧ (Allowed s m2 a true) ∧ (inside) ∧
      (fld v F.GD_REGION_mode < 2) ∧ (s.fl a F.GD_REGION_busy = 1)) ∧
    (let s : State := devicesFollow4; let w : Wall := 0; let d : Fin 2 := 1; let m : Mid := 0; let m2 : Mid := 0;
    let r2 : Fin 48 := 0; let a := R.GD_REGION w.val d.val r2.val;
    let inside : Prop := r2.val * 67108864 < s.gdSize w.val; let v : Word := 1;
      (OnWall s w) ∧ (Allowed s m (R.GD_CMD w.val d.val) true) ∧ (Allowed s m2 a true) ∧ (inside) ∧
      (fld v F.GD_REGION_mode < 2) ∧ (s.fl a F.GD_REGION_busy = 0)) ∧
    (let s : State := devicesFollow5; let w : Wall := 0; let d : Fin 2 := 0; let r : Fin 48 := 0;
    let x := s.gdx w.val d.val; let m : Mid := 0; let m2 : Mid := 0; let r2 : Fin 48 := 0;
    let a := R.GD_REGION w.val d.val r2.val; let inside : Prop := r2.val * 67108864 < s.gdSize w.val; let v : Word := 1;
      (OnWall s w) ∧ (s.fl (R.GD_REGION w.val d.val r.val) F.GD_REGION_busy = 1) ∧
      (∀ (e : Nat × Bool × Nat), e ∈ x.pendingBi → e.fst / 1048576 ≠ r.val) ∧
      (∀ (h : HostLine), h ∈ x.filter → h.line / 1048576 ≠ r.val) ∧ (Allowed s m (R.GD_CMD w.val d.val) true) ∧
      (Allowed s m2 a true) ∧ (inside) ∧ (fld v F.GD_REGION_mode < 2) ∧ (s.fl a F.GD_REGION_busy = 1)) ∧
    (let s : State := { sGd with longs := [{ op := 25, ctx := cc 0 [1] }] } |>.setFl (R.GD_STATUS 0 1) F.GD_STATUS_state 3;
    let w : Wall := 0; let d : Fin 2 := 1; let m : Mid := 0; let m2 : Mid := 0; let r2 : Fin 48 := 0;
    let a := R.GD_REGION w.val d.val r2.val; let inside : Prop := r2.val * 67108864 < s.gdSize w.val; let v : Word := 1;
      (OnWall s w) ∧ (s.gdServes w.val d.val = false) ∧ (s.phase w.val = 2 ∨
  ∃ l,
    l ∈ s.longs ∧
      l.op = 25 ∧
        l.done = none ∧ l.onWall w.val = true ∧ cmdArg l.ctx 0 % 2 = d.val) ∧
      (Allowed s m (R.GD_CMD w.val d.val) true) ∧ (Allowed s m2 a true) ∧ (inside) ∧ (fld v F.GD_REGION_mode < 2) ∧
      (s.fl a F.GD_REGION_busy = 0)) := by
  refine ⟨?_, ?_, ?_, ?_, ?_, ?_, ?_, ?_⟩ <;> decide +kernel

theorem wit_LinksTrainAndLoseLock :
    (let s : State := up; let w : Wall := 0; let n : Fin 16 := 15; let a := R.LK_CTRL w.val n.val; let m : Mid := 0;
    let mine : Prop := s.holds (claimLink w.val n.val) (BitVec.toNat m) = true;
    let st : State → Nat := fun t => t.lkState w.val n.val; let due : Prop := (st s = 3 ∧
          (s.lkMode w.val n.val = 1 ∨ s.lkMode w.val n.val = 4) ∧
            s.fl (R.LK_RX_TIMEOUT w.val n.val) F.LK_RX_TIMEOUT_limit ≠ 0 ∧
              (s.link w.val n.val).lastRx +
                  s.fl (R.LK_RX_TIMEOUT w.val n.val) F.LK_RX_TIMEOUT_limit * 1024 ≤
                s.tick);
      (Allowed s m a true) ∧ (¬mine) ∧ (OnWall s w) ∧ (st s ≠ 1) ∧ (st s ≠ 2) ∧ (st s ≠ 3) ∧ (¬due)) ∧
    (let s : State := sLk 0 0 {}; let w : Wall := 0; let n : Fin 16 := 15; let a := R.LK_CTRL w.val n.val;
    let m : Mid := 0; let mine : Prop := s.holds (claimLink w.val n.val) (BitVec.toNat m) = true;
    let v : Word := lkV 5 0 1;
    let legal : Prop := (rateAllowed (fld v F.LK_CTRL_mode) (fld v F.LK_CTRL_rate) (s.fl (R.LK_RATE w.val n.val) F.LK_RATE_mbps) = true ∧
          fld v F.LK_CTRL_lpbk ≠ 3); let st : State → Nat := fun t => t.lkState w.val n.val;
    let due : Prop := (st s = 3 ∧
          (s.lkMode w.val n.val = 1 ∨ s.lkMode w.val n.val = 4) ∧
            s.fl (R.LK_RX_TIMEOUT w.val n.val) F.LK_RX_TIMEOUT_limit ≠ 0 ∧
              (s.link w.val n.val).lastRx +
                  s.fl (R.LK_RX_TIMEOUT w.val n.val) F.LK_RX_TIMEOUT_limit * 1024 ≤
                s.tick);
      (Allowed s m a true) ∧ (mine) ∧ (¬legal) ∧ (OnWall s w) ∧ (st s ≠ 1) ∧ (st s ≠ 2) ∧ (st s ≠ 3) ∧ (¬due)) ∧
    (let s : State := sLk (lkV 1 5 0) 0 {}; let w : Wall := 0; let n : Fin 16 := 15; let a := R.LK_CTRL w.val n.val;
    let m : Mid := 0; let mine : Prop := s.holds (claimLink w.val n.val) (BitVec.toNat m) = true;
    let v : Word := lkV 1 5 1;
    let legal : Prop := (rateAllowed (fld v F.LK_CTRL_mode) (fld v F.LK_CTRL_rate) (s.fl (R.LK_RATE w.val n.val) F.LK_RATE_mbps) = true ∧
          fld v F.LK_CTRL_lpbk ≠ 3); let open_ : Prop := s.fl a F.LK_CTRL_en = 0 ∨ v &&& 7935 = s.rd a &&& 7935;
    let on : Prop := fld v F.LK_CTRL_mode ≠ 0 ∧ (s.wall w.val).pinsOn = true;
    let st : State → Nat := fun t => t.lkState w.val n.val; let due : Prop := (st s = 3 ∧
          (s.lkMode w.val n.val = 1 ∨ s.lkMode w.val n.val = 4) ∧
            s.fl (R.LK_RX_TIMEOUT w.val n.val) F.LK_RX_TIMEOUT_limit ≠ 0 ∧
              (s.link w.val n.val).lastRx +
                  s.fl (R.LK_RX_TIMEOUT w.val n.val) F.LK_RX_TIMEOUT_limit * 1024 ≤
                s.tick);
      (Allowed s m a true) ∧ (mine) ∧ (legal) ∧ (open_) ∧ (s.fl a F.LK_CTRL_en = 0) ∧ (fld v F.LK_CTRL_en = 1) ∧ (on) ∧
      (fld v F.LK_CTRL_lpbk = 0) ∧ (OnWall s w) ∧ (st s ≠ 1) ∧ (st s ≠ 2) ∧ (st s ≠ 3) ∧ (¬due)) ∧
    (let s : State := sLk (lkV 1 5 0) 0 {}; let w : Wall := 0; let n : Fin 16 := 15; let a := R.LK_CTRL w.val n.val;
    let m : Mid := 0; let mine : Prop := s.holds (claimLink w.val n.val) (BitVec.toNat m) = true;
    let v : Word := setFld (lkV 1 5 1) F.LK_CTRL_lpbk 1;
    let legal : Prop := (rateAllowed (fld v F.LK_CTRL_mode) (fld v F.LK_CTRL_rate) (s.fl (R.LK_RATE w.val n.val) F.LK_RATE_mbps) = true ∧
          fld v F.LK_CTRL_lpbk ≠ 3); let open_ : Prop := s.fl a F.LK_CTRL_en = 0 ∨ v &&& 7935 = s.rd a &&& 7935;
    let on : Prop := fld v F.LK_CTRL_mode ≠ 0 ∧ (s.wall w.val).pinsOn = true;
    let st : State → Nat := fun t => t.lkState w.val n.val; let due : Prop := (st s = 3 ∧
          (s.lkMode w.val n.val = 1 ∨ s.lkMode w.val n.val = 4) ∧
            s.fl (R.LK_RX_TIMEOUT w.val n.val) F.LK_RX_TIMEOUT_limit ≠ 0 ∧
              (s.link w.val n.val).lastRx +
                  s.fl (R.LK_RX_TIMEOUT w.val n.val) F.LK_RX_TIMEOUT_limit * 1024 ≤
                s.tick);
      (Allowed s m a true) ∧ (mine) ∧ (legal) ∧ (open_) ∧ (s.fl a F.LK_CTRL_en = 0) ∧ (fld v F.LK_CTRL_en = 1) ∧ (on) ∧
      (fld v F.LK_CTRL_lpbk ≠ 0) ∧ (OnWall s w) ∧ (st s ≠ 1) ∧ (st s ≠ 2) ∧ (st s ≠ 3) ∧ (¬due)) ∧
    (let s : State := sLk (lkV 0 0 0) 0 {}; let w : Wall := 0; let n : Fin 16 := 15; let a := R.LK_CTRL w.val n.val;
    let m : Mid := 0; let mine : Prop := s.holds (claimLink w.val n.val) (BitVec.toNat m) = true;
    let v : Word := lkV 0 0 1;
    let legal : Prop := (rateAllowed (fld v F.LK_CTRL_mode) (fld v F.LK_CTRL_rate) (s.fl (R.LK_RATE w.val n.val) F.LK_RATE_mbps) = true ∧
          fld v F.LK_CTRL_lpbk ≠ 3); let open_ : Prop := s.fl a F.LK_CTRL_en = 0 ∨ v &&& 7935 = s.rd a &&& 7935;
    let on : Prop := fld v F.LK_CTRL_mode ≠ 0 ∧ (s.wall w.val).pinsOn = true;
    let st : State → Nat := fun t => t.lkState w.val n.val; let due : Prop := (st s = 3 ∧
          (s.lkMode w.val n.val = 1 ∨ s.lkMode w.val n.val = 4) ∧
            s.fl (R.LK_RX_TIMEOUT w.val n.val) F.LK_RX_TIMEOUT_limit ≠ 0 ∧
              (s.link w.val n.val).lastRx +
                  s.fl (R.LK_RX_TIMEOUT w.val n.val) F.LK_RX_TIMEOUT_limit * 1024 ≤
                s.tick);
      (Allowed s m a true) ∧ (mine) ∧ (legal) ∧ (open_) ∧ (s.fl a F.LK_CTRL_en = 0) ∧ (fld v F.LK_CTRL_en = 1) ∧ (¬on) ∧
      (OnWall s w) ∧ (st s ≠ 1) ∧ (st s ≠ 2) ∧ (st s ≠ 3) ∧ (¬due)) ∧
    (let s : State := sLk (lkV 1 5 1) 3 {}; let w : Wall := 0; let n : Fin 16 := 15; let a := R.LK_CTRL w.val n.val;
    let m : Mid := 0; let mine : Prop := s.holds (claimLink w.val n.val) (BitVec.toNat m) = true;
    let v : Word := lkV 1 5 0;
    let legal : Prop := (rateAllowed (fld v F.LK_CTRL_mode) (fld v F.LK_CTRL_rate) (s.fl (R.LK_RATE w.val n.val) F.LK_RATE_mbps) = true ∧
          fld v F.LK_CTRL_lpbk ≠ 3); let open_ : Prop := s.fl a F.LK_CTRL_en = 0 ∨ v &&& 7935 = s.rd a &&& 7935;
    let st : State → Nat := fun t => t.lkState w.val n.val; let due : Prop := (st s = 3 ∧
          (s.lkMode w.val n.val = 1 ∨ s.lkMode w.val n.val = 4) ∧
            s.fl (R.LK_RX_TIMEOUT w.val n.val) F.LK_RX_TIMEOUT_limit ≠ 0 ∧
              (s.link w.val n.val).lastRx +
                  s.fl (R.LK_RX_TIMEOUT w.val n.val) F.LK_RX_TIMEOUT_limit * 1024 ≤
                s.tick);
      (Allowed s m a true) ∧ (mine) ∧ (legal) ∧ (open_) ∧ (s.fl a F.LK_CTRL_en = 1) ∧ (fld v F.LK_CTRL_en = 0) ∧
      (OnWall s w) ∧ (st s = 3) ∧ (st s ≠ 1) ∧ (st s ≠ 2) ∧ (¬due)) ∧
    (let s : State := sLk (lkV 1 5 1) 3 {}; let w : Wall := 0; let n : Fin 16 := 15; let a := R.LK_CTRL w.val n.val;
    let m : Mid := 0; let mine : Prop := s.holds (claimLink w.val n.val) (BitVec.toNat m) = true;
    let v : Word := lkV 1 4 1;
    let legal : Prop := (rateAllowed (fld v F.LK_CTRL_mode) (fld v F.LK_CTRL_rate) (s.fl (R.LK_RATE w.val n.val) F.LK_RATE_mbps) = true ∧
          fld v F.LK_CTRL_lpbk ≠ 3); let open_ : Prop := s.fl a F.LK_CTRL_en = 0 ∨ v &&& 7935 = s.rd a &&& 7935;
    let st : State → Nat := fun t => t.lkState w.val n.val; let due : Prop := (st s = 3 ∧
          (s.lkMode w.val n.val = 1 ∨ s.lkMode w.val n.val = 4) ∧
            s.fl (R.LK_RX_TIMEOUT w.val n.val) F.LK_RX_TIMEOUT_limit ≠ 0 ∧
              (s.link w.val n.val).lastRx +
                  s.fl (R.LK_RX_TIMEOUT w.val n.val) F.LK_RX_TIMEOUT_limit * 1024 ≤
                s.tick);
      (Allowed s m a true) ∧ (mine) ∧ (legal) ∧ (¬open_) ∧ (OnWall s w) ∧ (st s = 3) ∧ (st s ≠ 1) ∧ (st s ≠ 2) ∧ (¬due)) ∧
    (let s : State := sLk (lkV 1 5 1) 1 {}; let w : Wall := 0; let n : Fin 16 := 15; let a := R.LK_CTRL w.val n.val;
    let m : Mid := 0; let mine : Prop := s.holds (claimLink w.val n.val) (BitVec.toNat m) = true;
    let v : Word := lkV 1 5 1;
    let legal : Prop := (rateAllowed (fld v F.LK_CTRL_mode) (fld v F.LK_CTRL_rate) (s.fl (R.LK_RATE w.val n.val) F.LK_RATE_mbps) = true ∧
          fld v F.LK_CTRL_lpbk ≠ 3); let open_ : Prop := s.fl a F.LK_CTRL_en = 0 ∨ v &&& 7935 = s.rd a &&& 7935;
    let st : State → Nat := fun t => t.lkState w.val n.val; let due : Prop := (st s = 3 ∧
          (s.lkMode w.val n.val = 1 ∨ s.lkMode w.val n.val = 4) ∧
            s.fl (R.LK_RX_TIMEOUT w.val n.val) F.LK_RX_TIMEOUT_limit ≠ 0 ∧
              (s.link w.val n.val).lastRx +
                  s.fl (R.LK_RX_TIMEOUT w.val n.val) F.LK_RX_TIMEOUT_limit * 1024 ≤
                s.tick);
      (Allowed s m a true) ∧ (mine) ∧ (legal) ∧ (open_) ∧ (fld v F.LK_CTRL_en = s.fl a F.LK_CTRL_en) ∧
      (s.fl a F.LK_CTRL_en = 1) ∧ (OnWall s w) ∧ (st s = 1) ∧ (st s ≠ 2) ∧ (st s ≠ 3) ∧ (¬due)) ∧
    (let s : State := sLk (lkV 1 5 1) 2 {}; let w : Wall := 0; let n : Fin 16 := 15; let a := R.LK_CTRL w.val n.val;
    let m : Mid := 0; let mine : Prop := s.holds (claimLink w.val n.val) (BitVec.toNat m) = true;
    let v : Word := lkV 1 5 1;
    let legal : Prop := (rateAllowed (fld v F.LK_CTRL_mode) (fld v F.LK_CTRL_rate) (s.fl (R.LK_RATE w.val n.val) F.LK_RATE_mbps) = true ∧
          fld v F.LK_CTRL_lpbk ≠ 3); let open_ : Prop := s.fl a F.LK_CTRL_en = 0 ∨ v &&& 7935 = s.rd a &&& 7935;
    let st : State → Nat := fun t => t.lkState w.val n.val; let due : Prop := (st s = 3 ∧
          (s.lkMode w.val n.val = 1 ∨ s.lkMode w.val n.val = 4) ∧
            s.fl (R.LK_RX_TIMEOUT w.val n.val) F.LK_RX_TIMEOUT_limit ≠ 0 ∧
              (s.link w.val n.val).lastRx +
                  s.fl (R.LK_RX_TIMEOUT w.val n.val) F.LK_RX_TIMEOUT_limit * 1024 ≤
                s.tick);
      (Allowed s m a true) ∧ (mine) ∧ (legal) ∧ (open_) ∧ (fld v F.LK_CTRL_en = s.fl a F.LK_CTRL_en) ∧
      (s.fl a F.LK_CTRL_en = 1) ∧ (OnWall s w) ∧ (st s = 2) ∧ (st s ≠ 1) ∧ (st s ≠ 3) ∧ (¬due)) ∧
    (let s : State := linksTrain1; let w : Wall := 0; let n : Fin 16 := 15; let a := R.LK_CTRL w.val n.val;
    let m : Mid := 0; let mine : Prop := s.holds (claimLink w.val n.val) (BitVec.toNat m) = true;
    let v : Word := lkV 1 5 1;
    let legal : Prop := (rateAllowed (fld v F.LK_CTRL_mode) (fld v F.LK_CTRL_rate) (s.fl (R.LK_RATE w.val n.val) F.LK_RATE_mbps) = true ∧
          fld v F.LK_CTRL_lpbk ≠ 3); let open_ : Prop := s.fl a F.LK_CTRL_en = 0 ∨ v &&& 7935 = s.rd a &&& 7935;
    let st : State → Nat := fun t => t.lkState w.val n.val; let due : Prop := (st s = 3 ∧
          (s.lkMode w.val n.val = 1 ∨ s.lkMode w.val n.val = 4) ∧
            s.fl (R.LK_RX_TIMEOUT w.val n.val) F.LK_RX_TIMEOUT_limit ≠ 0 ∧
              (s.link w.val n.val).lastRx +
                  s.fl (R.LK_RX_TIMEOUT w.val n.val) F.LK_RX_TIMEOUT_limit * 1024 ≤
                s.tick);
      (Allowed s m a true) ∧ (mine) ∧ (legal) ∧ (open_) ∧ (fld v F.LK_CTRL_en = s.fl a F.LK_CTRL_en) ∧
      (s.fl a F.LK_CTRL_en = 1) ∧ (OnWall s w) ∧ (st s = 3) ∧ (due) ∧ (st s ≠ 1) ∧ (st s ≠ 2)) := by
  refine ⟨?_, ?_, ?_, ?_, ?_, ?_, ?_, ?_, ?_, ?_⟩ <;> decide +kernel

theorem wit_LinksReceiveFrames :
    (let s : State := sUp {}; let w : Wall := 0; let n : Fin 16 := 15;
    let stream : Prop := s.lkState w.val n.val = 3 ∧ s.lkMode w.val n.val = 1; let b : BitVec 64 := 195;
    let fits : Prop := (bvf b 16 6 + 1 = s.sfSlots w.val n.val ∧
          bvf b 22 3 + 1 = s.sfBlocks w.val n.val); let x := s.link w.val n.val; let pos : Fin 64 := 0;
    let turn : Prop := stream ∧ x.rxOpen = true ∧ x.rxNext = pos.val;
    let legacy : Prop := s.lkState w.val n.val = 3 ∧ s.lkMode w.val n.val = 4; let data : Bytes := [];
    let whole : Prop := 0 < List.length data ∧ List.length data ≤ 60;
      (OnWall s w) ∧ (stream) ∧ (bvf b 0 8 = 195) ∧ (fits) ∧ (¬turn) ∧
      (List.find? (fun f => f.closed && !f.dead && f.tags.isEmpty) x.rx = none) ∧ (¬legacy ∨ ¬whole)) ∧
    (let s : State := sUp {}; let w : Wall := 0; let n : Fin 16 := 15;
    let stream : Prop := s.lkState w.val n.val = 3 ∧ s.lkMode w.val n.val = 1; let b : BitVec 64 := 65731;
    let fits : Prop := (bvf b 16 6 + 1 = s.sfSlots w.val n.val ∧
          bvf b 22 3 + 1 = s.sfBlocks w.val n.val); let x := s.link w.val n.val; let pos : Fin 64 := 0;
    let turn : Prop := stream ∧ x.rxOpen = true ∧ x.rxNext = pos.val;
    let legacy : Prop := s.lkState w.val n.val = 3 ∧ s.lkMode w.val n.val = 4; let data : Bytes := [];
    let whole : Prop := 0 < List.length data ∧ List.length data ≤ 60;
      (OnWall s w) ∧ (stream) ∧ (bvf b 0 8 = 195) ∧ (¬fits) ∧ (¬turn) ∧
      (List.find? (fun f => f.closed && !f.dead && f.tags.isEmpty) x.rx = none) ∧ (¬legacy ∨ ¬whole)) ∧
    (let s : State := sUp { rx := [{}], rxOpen := true }; let w : Wall := 0; let n : Fin 16 := 15;
    let stream : Prop := s.lkState w.val n.val = 3 ∧ s.lkMode w.val n.val = 1; let b : BitVec 64 := 0;
    let x := s.link w.val n.val; let pos : Fin 64 := 0;
    let turn : Prop := stream ∧ x.rxOpen = true ∧ x.rxNext = pos.val;
    let last : Prop := pos.val + 1 = s.sfSlots w.val n.val; let bits : BitVec 512 := slotBits 0 0x5A;
    let k := 64 * s.sfBlocks w.val n.val; let good : Prop := (bvf bits 0 6 = pos.val ∧
          bvf bits (k - 16) 16 = crc16 bits.toNat (k - 16)); let entry := s.rd (R.LK_RXS_DST w.val n.val pos.val);
    let writes : Prop := fld entry F.LK_RXS_DST_en = 1 ∧ x.rxDrop = false;
    let legacy : Prop := s.lkState w.val n.val = 3 ∧ s.lkMode w.val n.val = 4; let data : Bytes := [];
    let whole : Prop := 0 < List.length data ∧ List.length data ≤ 60;
      (OnWall s w) ∧ (stream) ∧ (¬stream ∨ bvf b 0 8 ≠ 195) ∧ (turn) ∧ (last) ∧ (good) ∧ (¬writes) ∧
      (List.find? (fun f => f.closed && !f.dead && f.tags.isEmpty) x.rx = none) ∧ (¬legacy ∨ ¬whole)) ∧
    (let s : State := (sUp { rx := [{}], rxOpen := true }).setFl (R.LK_RXS_DST 0 15 0) F.LK_RXS_DST_en 1;
    let w : Wall := 0; let n : Fin 16 := 15; let stream : Prop := s.lkState w.val n.val = 3 ∧ s.lkMode w.val n.val = 1;
    let b : BitVec 64 := 0; let x := s.link w.val n.val; let pos : Fin 64 := 0;
    let turn : Prop := stream ∧ x.rxOpen = true ∧ x.rxNext = pos.val;
    let last : Prop := pos.val + 1 = s.sfSlots w.val n.val; let bits : BitVec 512 := slotBits 0 0x5A;
    let k := 64 * s.sfBlocks w.val n.val; let good : Prop := (bvf bits 0 6 = pos.val ∧
          bvf bits (k - 16) 16 = crc16 bits.toNat (k - 16)); let entry := s.rd (R.LK_RXS_DST w.val n.val pos.val);
    let writes : Prop := fld entry F.LK_RXS_DST_en = 1 ∧ x.rxDrop = false;
    let legacy : Prop := s.lkState w.val n.val = 3 ∧ s.lkMode w.val n.val = 4; let data : Bytes := [];
    let whole : Prop := 0 < List.length data ∧ List.length data ≤ 60;
      (OnWall s w) ∧ (stream) ∧ (¬stream ∨ bvf b 0 8 ≠ 195) ∧ (turn) ∧ (last) ∧ (good) ∧ (writes) ∧
      (List.find? (fun f => f.closed && !f.dead && f.tags.isEmpty) x.rx = none) ∧ (¬legacy ∨ ¬whole)) ∧
    (let s : State := sUp { rx := [{}], rxOpen := true }; let w : Wall := 0; let n : Fin 16 := 15;
    let stream : Prop := s.lkState w.val n.val = 3 ∧ s.lkMode w.val n.val = 1; let b : BitVec 64 := 0;
    let x := s.link w.val n.val; let pos : Fin 64 := 0;
    let turn : Prop := stream ∧ x.rxOpen = true ∧ x.rxNext = pos.val;
    let last : Prop := pos.val + 1 = s.sfSlots w.val n.val; let bits : BitVec 512 := slotBits 1 0x5A;
    let k := 64 * s.sfBlocks w.val n.val; let good : Prop := (bvf bits 0 6 = pos.val ∧
          bvf bits (k - 16) 16 = crc16 bits.toNat (k - 16));
    let legacy : Prop := s.lkState w.val n.val = 3 ∧ s.lkMode w.val n.val = 4; let data : Bytes := [];
    let whole : Prop := 0 < List.length data ∧ List.length data ≤ 60;
      (OnWall s w) ∧ (stream) ∧ (¬stream ∨ bvf b 0 8 ≠ 195) ∧ (turn) ∧ (last) ∧ (¬good) ∧
      (List.find? (fun f => f.closed && !f.dead && f.tags.isEmpty) x.rx = none) ∧ (¬legacy ∨ ¬whole)) ∧
    (let s : State := linksReceive1; let w : Wall := 0; let n : Fin 16 := 15;
    let stream : Prop := s.lkState w.val n.val = 3 ∧ s.lkMode w.val n.val = 1; let b : BitVec 64 := 0;
    let x := s.link w.val n.val; let pos : Fin 64 := 62;
    let turn : Prop := stream ∧ x.rxOpen = true ∧ x.rxNext = pos.val;
    let last : Prop := pos.val + 1 = s.sfSlots w.val n.val; let bits : BitVec 512 := slotBits 62 0x5A;
    let k := 64 * s.sfBlocks w.val n.val; let good : Prop := (bvf bits 0 6 = pos.val ∧
          bvf bits (k - 16) 16 = crc16 bits.toNat (k - 16)); let entry := s.rd (R.LK_RXS_DST w.val n.val pos.val);
    let writes : Prop := fld entry F.LK_RXS_DST_en = 1 ∧ x.rxDrop = false;
    let legacy : Prop := s.lkState w.val n.val = 3 ∧ s.lkMode w.val n.val = 4; let data : Bytes := [];
    let whole : Prop := 0 < List.length data ∧ List.length data ≤ 60;
      (OnWall s w) ∧ (stream) ∧ (¬stream ∨ bvf b 0 8 ≠ 195) ∧ (turn) ∧ (¬last) ∧ (good) ∧ (¬writes) ∧
      (List.find? (fun f => f.closed && !f.dead && f.tags.isEmpty) x.rx = none) ∧ (¬legacy ∨ ¬whole)) ∧
    (let s : State := sUp { rx := [{ tags := [3] }, { closed := true }] }; let w : Wall := 0; let n : Fin 16 := 15;
    let stream : Prop := s.lkState w.val n.val = 3 ∧ s.lkMode w.val n.val = 1; let b : BitVec 64 := 0;
    let x := s.link w.val n.val; let pos : Fin 64 := 62;
    let turn : Prop := stream ∧ x.rxOpen = true ∧ x.rxNext = pos.val; let f : RxFrame := { closed := true };
    let legacy : Prop := s.lkState w.val n.val = 3 ∧ s.lkMode w.val n.val = 4; let data : Bytes := [];
    let whole : Prop := 0 < List.length data ∧ List.length data ≤ 60;
      (OnWall s w) ∧ (stream) ∧ (¬stream ∨ bvf b 0 8 ≠ 195) ∧ (¬turn) ∧
      (List.find? (fun f => f.closed && !f.dead && f.tags.isEmpty) x.rx = some f) ∧ (¬legacy ∨ ¬whole)) ∧
    (let s : State := sLg; let w : Wall := 0; let n : Fin 16 := 15;
    let stream : Prop := s.lkState w.val n.val = 3 ∧ s.lkMode w.val n.val = 1; let b : BitVec 64 := 0;
    let x := s.link w.val n.val; let pos : Fin 64 := 0;
    let turn : Prop := stream ∧ x.rxOpen = true ∧ x.rxNext = pos.val;
    let legacy : Prop := s.lkState w.val n.val = 3 ∧ s.lkMode w.val n.val = 4; let data : Bytes := List.replicate 60 7;
    let whole : Prop := 0 < List.length data ∧ List.length data ≤ 60; let ok : Bool := false;
    let bad : Prop := s.fl (R.LK_LG_CFG w.val n.val) F.LK_LG_CFG_crc = 1 ∧ ok = false;
      (OnWall s w) ∧ (¬stream ∨ bvf b 0 8 ≠ 195) ∧ (¬turn) ∧
      (List.find? (fun f => f.closed && !f.dead && f.tags.isEmpty) x.rx = none) ∧ (legacy) ∧ (whole) ∧ (bad)) ∧
    (let s : State := sLg; let w : Wall := 0; let n : Fin 16 := 15;
    let stream : Prop := s.lkState w.val n.val = 3 ∧ s.lkMode w.val n.val = 1; let b : BitVec 64 := 0;
    let x := s.link w.val n.val; let pos : Fin 64 := 0;
    let turn : Prop := stream ∧ x.rxOpen = true ∧ x.rxNext = pos.val;
    let legacy : Prop := s.lkState w.val n.val = 3 ∧ s.lkMode w.val n.val = 4; let data : Bytes := [7];
    let whole : Prop := 0 < List.length data ∧ List.length data ≤ 60; let ok : Bool := true;
    let bad : Prop := s.fl (R.LK_LG_CFG w.val n.val) F.LK_LG_CFG_crc = 1 ∧ ok = false;
      (OnWall s w) ∧ (¬stream ∨ bvf b 0 8 ≠ 195) ∧ (¬turn) ∧
      (List.find? (fun f => f.closed && !f.dead && f.tags.isEmpty) x.rx = none) ∧ (legacy) ∧ (whole) ∧ (¬bad)) := by
  refine ⟨?_, ?_, ?_, ?_, ?_, ?_, ?_, ?_, ?_⟩ <;> decide +kernel

theorem wit_TriggersWhileSendingAreCounted :
    (let s : State := sUp { sendingUntil := 1 }; let w : Wall := 0; let n : Fin 16 := 15; let m : Mid := 0;
      (s.lkSends w.val n.val = true) ∧ (s.lkMode w.val n.val = 1 ∨ s.lkMode w.val n.val = 4) ∧
      (s.tick < (s.link w.val n.val).sendingUntil) ∧ (Allowed s m (R.LK_SF_GO w.val n.val) true) ∧
      (s.holds (claimLink w.val n.val) (BitVec.toNat m) = true) ∧
      (s.fl (R.LK_SF_CFG w.val n.val) F.LK_SF_CFG_txmode = 0) ∧ (OnWall s w)) ∧
    (let s : State := sUp { sendingUntil := 1, armed := some 0 }; let w : Wall := 0; let n : Fin 16 := 15;
    let m : Mid := 0; let target : W64 := 0;
      (s.lkSends w.val n.val = true) ∧ (s.lkMode w.val n.val = 1 ∨ s.lkMode w.val n.val = 4) ∧
      (s.tick < (s.link w.val n.val).sendingUntil) ∧ (Allowed s m (R.LK_SF_GO w.val n.val) true) ∧
      (s.holds (claimLink w.val n.val) (BitVec.toNat m) = true) ∧
      (s.fl (R.LK_SF_CFG w.val n.val) F.LK_SF_CFG_txmode = 0) ∧ (OnWall s w) ∧
      ((s.link w.val n.val).armed = some target) ∧ (reached (s.lkPos w.val n.val) target = true)) := by
  refine ⟨?_, ?_⟩ <;> decide +kernel

theorem wit_ChainEnumeratesAndTicks :
    (let s : State := up; let c := s.chain; let up : Bool := true; let present : Bool := true;
    let head : Prop := s.fl R.CHN_CFG F.CHN_CFG_head = 1 ∨ if up = true then present = false else c.upPartner = false;
    let due : Prop := s.isHead = true ∧ Option.all (fun t0 => decide (t0 + 1250000 ≤ s.tick)) c.tickSent = true;
    let fr : ChainFrame := fr 7 0 0 []; let listed : Prop := 1 ≤ BitVec.toNat fr.typ ∧ BitVec.toNat fr.typ ≤ 6;
      (s.powered = true) ∧ (¬head) ∧ (s.isHead = true) ∧ (due) ∧ (¬listed)) ∧
    (let s : State := sMid; let c := s.chain; let up : Bool := true; let present : Bool := true;
    let head : Prop := s.fl R.CHN_CFG F.CHN_CFG_head = 1 ∨ if up = true then present = false else c.upPartner = false;
    let pos : BitVec 8 := 64;
    let due : Prop := s.isHead = true ∧ Option.all (fun t0 => decide (t0 + 1250000 ≤ s.tick)) c.tickSent = true;
    let fr : ChainFrame := fr 6 0 0 []; let listed : Prop := 1 ≤ BitVec.toNat fr.typ ∧ BitVec.toNat fr.typ ≤ 6;
      (s.powered = true) ∧ (¬head) ∧ (s.isHead = false) ∧ (64 ≤ pos.toNat) ∧ (¬due) ∧ (c.downPartner = true) ∧ (listed)) ∧
    (let s : State := sMid; let c := s.chain; let up : Bool := false; let present : Bool := false;
    let head : Prop := s.fl R.CHN_CFG F.CHN_CFG_head = 1 ∨ if up = true then present = false else c.upPartner = false;
    let pos : BitVec 8 := 63;
    let due : Prop := s.isHead = true ∧ Option.all (fun t0 => decide (t0 + 1250000 ≤ s.tick)) c.tickSent = true;
    let fr : ChainFrame := fr 0 0 0 []; let listed : Prop := 1 ≤ BitVec.toNat fr.typ ∧ BitVec.toNat fr.typ ≤ 6;
      (s.powered = true) ∧ (¬head) ∧ (s.isHead = false) ∧ (pos.toNat < 64) ∧ (c.downPartner = true) ∧ (¬due) ∧ (¬listed)) ∧
    (let s : State := chainEnumerates1; let c := s.chain; let up : Bool := true; let present : Bool := false;
    let head : Prop := s.fl R.CHN_CFG F.CHN_CFG_head = 1 ∨ if up = true then present = false else c.upPartner = false;
    let pos : BitVec 8 := 63;
    let due : Prop := s.isHead = true ∧ Option.all (fun t0 => decide (t0 + 1250000 ≤ s.tick)) c.tickSent = true;
    let fr : ChainFrame := fr 1 0 0 []; let listed : Prop := 1 ≤ BitVec.toNat fr.typ ∧ BitVec.toNat fr.typ ≤ 6;
      (s.powered = true) ∧ (head) ∧ (s.isHead = false) ∧ (pos.toNat < 64) ∧ (c.downPartner = false) ∧ (¬due) ∧ (listed)) ∧
    (let s : State := chainEnumerates2; let c := s.chain; let up : Bool := true; let present : Bool := false;
    let head : Prop := s.fl R.CHN_CFG F.CHN_CFG_head = 1 ∨ if up = true then present = false else c.upPartner = false;
    let due : Prop := s.isHead = true ∧ Option.all (fun t0 => decide (t0 + 1250000 ≤ s.tick)) c.tickSent = true;
    let fr : ChainFrame := fr 1 0 0 []; let listed : Prop := 1 ≤ BitVec.toNat fr.typ ∧ BitVec.toNat fr.typ ≤ 6;
      (s.powered = true) ∧ (head) ∧ (s.isHead = true) ∧ (due) ∧ (listed)) := by
  refine ⟨?_, ?_, ?_, ?_, ?_⟩ <;> decide +kernel

theorem wit_ChainCarriesImagesAndHealth :
    (let s : State := sRx false; let c := s.chain; let fr : ChainFrame := blk;
    let mine : Prop := fr.crcOk = true ∧ (fr.dst = 255 ∨ c.pos = some (BitVec.toNat fr.dst)); let acts : Prop := (mine ∧
          s.trowel.running = true ∧
            s.fl R.TRW_FWD F.TRW_FWD_accept = 1 ∧ 16 ≤ List.length fr.payload);
    let acts2 : Prop := mine ∧ s.trowel.recovery = true ∧ fr.dst ≠ 255 ∧ 16 ≤ List.length fr.payload;
    let acts3 : Prop := mine ∧ hdr fr.payload 0 2 = 0; let acts4 : Prop := mine ∧ hdr fr.payload 0 1 < 64;
    let a := R.TRW_CHAIN (hdr fr.payload 0 1);
    let r : ChainRx := (sRx false).chain.rx.getD { src := 0, crc := 0, count := 0, recovery := false };
    let r2 : ChainRx := (sRx false).chain.rx.getD { src := 0, crc := 0, count := 0, recovery := false };
      (s.powered = true) ∧ (acts) ∧ (¬acts2) ∧ (¬acts3) ∧ (acts4) ∧ (s.trowel.act = none) ∧
      (s.fl a F.TRW_CHAIN_state ≠ hdr fr.payload 4 1 % 8) ∧ (c.rx = some r) ∧ (r.rounds < 3) ∧ (c.rx = some r2)) ∧
    (let s : State := sRx true; let c := s.chain; let fr : ChainFrame := blk;
    let mine : Prop := fr.crcOk = true ∧ (fr.dst = 255 ∨ c.pos = some (BitVec.toNat fr.dst)); let acts : Prop := (mine ∧
          s.trowel.running = true ∧
            s.fl R.TRW_FWD F.TRW_FWD_accept = 1 ∧ 16 ≤ List.length fr.payload);
    let acts2 : Prop := mine ∧ s.trowel.recovery = true ∧ fr.dst ≠ 255 ∧ 16 ≤ List.length fr.payload;
    let acts3 : Prop := mine ∧ hdr fr.payload 0 2 = 0; let acts4 : Prop := mine ∧ hdr fr.payload 0 1 < 64;
    let a := R.TRW_CHAIN (hdr fr.payload 0 1);
    let r : ChainRx := (sRx true).chain.rx.getD { src := 0, crc := 0, count := 0, recovery := false };
    let r2 : ChainRx := (sRx true).chain.rx.getD { src := 0, crc := 0, count := 0, recovery := false };
      (s.powered = true) ∧ (¬acts) ∧ (acts2) ∧ (¬acts3) ∧ (acts4) ∧ (s.trowel.act = none) ∧
      (s.fl a F.TRW_CHAIN_state ≠ hdr fr.payload 4 1 % 8) ∧ (c.rx = some r) ∧ (r.rounds < 3) ∧ (c.rx = some r2)) ∧
    (let s : State := sRx2; let c := s.chain; let fr : ChainFrame := blk;
    let mine : Prop := fr.crcOk = true ∧ (fr.dst = 255 ∨ c.pos = some (BitVec.toNat fr.dst)); let acts : Prop := (mine ∧
          s.trowel.running = true ∧
            s.fl R.TRW_FWD F.TRW_FWD_accept = 1 ∧ 16 ≤ List.length fr.payload);
    let acts2 : Prop := mine ∧ s.trowel.recovery = true ∧ fr.dst ≠ 255 ∧ 16 ≤ List.length fr.payload;
    let acts3 : Prop := mine ∧ hdr fr.payload 0 2 = 0; let acts4 : Prop := mine ∧ hdr fr.payload 0 1 < 64;
    let a := R.TRW_CHAIN (hdr fr.payload 0 1);
    let r : ChainRx := (sRx2).chain.rx.getD { src := 0, crc := 0, count := 0, recovery := false };
    let r2 : ChainRx := (sRx2).chain.rx.getD { src := 0, crc := 0, count := 0, recovery := false };
      (s.powered = true) ∧ (acts) ∧ (¬acts2) ∧ (¬acts3) ∧ (acts4) ∧ (s.trowel.act = none) ∧
      (s.fl a F.TRW_CHAIN_state ≠ hdr fr.payload 4 1 % 8) ∧ (c.rx = some r) ∧ (r.rounds < 3) ∧ (c.rx = some r2)) ∧
    (let s : State := sRx false; let c := s.chain; let fr : ChainFrame := { blk with src := 4 };
    let mine : Prop := fr.crcOk = true ∧ (fr.dst = 255 ∨ c.pos = some (BitVec.toNat fr.dst)); let acts : Prop := (mine ∧
          s.trowel.running = true ∧
            s.fl R.TRW_FWD F.TRW_FWD_accept = 1 ∧ 16 ≤ List.length fr.payload);
    let acts2 : Prop := mine ∧ s.trowel.recovery = true ∧ fr.dst ≠ 255 ∧ 16 ≤ List.length fr.payload;
    let acts3 : Prop := mine ∧ hdr fr.payload 0 2 = 0; let acts4 : Prop := mine ∧ hdr fr.payload 0 1 < 64;
    let a := R.TRW_CHAIN (hdr fr.payload 0 1);
    let r : ChainRx := (sRx false).chain.rx.getD { src := 0, crc := 0, count := 0, recovery := false };
    let r2 : ChainRx := (sRx false).chain.rx.getD { src := 0, crc := 0, count := 0, recovery := false };
      (s.powered = true) ∧ (acts) ∧ (¬acts2) ∧ (¬acts3) ∧ (acts4) ∧ (s.trowel.act = none) ∧
      (s.fl a F.TRW_CHAIN_state ≠ hdr fr.payload 4 1 % 8) ∧ (c.rx = some r) ∧ (r.rounds < 3) ∧ (c.rx = some r2)) ∧
    (let s : State := { sRx false with chain := { (sRx false).chain with rx := none } }; let c := s.chain;
    let fr : ChainFrame := blk; let mine : Prop := fr.crcOk = true ∧ (fr.dst = 255 ∨ c.pos = some (BitVec.toNat fr.dst));
    let acts : Prop := (mine ∧
          s.trowel.running = true ∧
            s.fl R.TRW_FWD F.TRW_FWD_accept = 1 ∧ 16 ≤ List.length fr.payload);
    let acts2 : Prop := mine ∧ s.trowel.recovery = true ∧ fr.dst ≠ 255 ∧ 16 ≤ List.length fr.payload;
    let acts3 : Prop := mine ∧ hdr fr.payload 0 2 = 0; let acts4 : Prop := mine ∧ hdr fr.payload 0 1 < 64;
    let a := R.TRW_CHAIN (hdr fr.payload 0 1);
      (s.powered = true) ∧ (acts) ∧ (¬acts2) ∧ (¬acts3) ∧ (acts4) ∧ (s.trowel.act = none) ∧
      (s.fl a F.TRW_CHAIN_state ≠ hdr fr.payload 4 1 % 8) ∧ (c.rx = none)) ∧
    (let s : State := { sRx false with chain := { (sRx false).chain with rx := none } }; let c := s.chain;
    let fr : ChainFrame := { blk with payload := List.replicate 32 0 };
    let mine : Prop := fr.crcOk = true ∧ (fr.dst = 255 ∨ c.pos = some (BitVec.toNat fr.dst)); let acts : Prop := (mine ∧
          s.trowel.running = true ∧
            s.fl R.TRW_FWD F.TRW_FWD_accept = 1 ∧ 16 ≤ List.length fr.payload);
    let acts2 : Prop := mine ∧ s.trowel.recovery = true ∧ fr.dst ≠ 255 ∧ 16 ≤ List.length fr.payload;
    let acts3 : Prop := mine ∧ hdr fr.payload 0 2 = 0;
    let found := (List.find? (fun e => decide (e.snd.seq = fr.seq) && c.lacks (BitVec.toNat fr.src) e.fst)
          ((List.range c.txFrames.length).zip c.txFrames)); let acts4 : Prop := mine ∧ hdr fr.payload 0 1 < 64;
      (s.powered = true) ∧ (acts) ∧ (¬acts2) ∧ (acts3) ∧ (found = none) ∧ (acts4) ∧ (s.trowel.act = none) ∧ (c.rx = none)) ∧
    (let s : State := { sRx false with chain := { (sRx false).chain with rx := none } }; let c := s.chain;
    let fr : ChainFrame := blk0; let mine : Prop := fr.crcOk = true ∧ (fr.dst = 255 ∨ c.pos = some (BitVec.toNat fr.dst));
    let acts : Prop := (mine ∧
          s.trowel.running = true ∧
            s.fl R.TRW_FWD F.TRW_FWD_accept = 1 ∧ 16 ≤ List.length fr.payload);
    let acts2 : Prop := mine ∧ s.trowel.recovery = true ∧ fr.dst ≠ 255 ∧ 16 ≤ List.length fr.payload;
    let acts3 : Prop := mine ∧ hdr fr.payload 0 2 = 0; let acts4 : Prop := mine ∧ hdr fr.payload 0 1 < 64;
      (s.powered = true) ∧ (acts) ∧ (¬acts2) ∧ (¬acts3) ∧ (acts4) ∧ (s.trowel.act = none) ∧ (c.rx = none)) ∧
    (let s : State := { sRx true with chain := { (sRx true).chain with rx := none } }; let c := s.chain;
    let fr : ChainFrame := blk; let mine : Prop := fr.crcOk = true ∧ (fr.dst = 255 ∨ c.pos = some (BitVec.toNat fr.dst));
    let acts : Prop := (mine ∧
          s.trowel.running = true ∧
            s.fl R.TRW_FWD F.TRW_FWD_accept = 1 ∧ 16 ≤ List.length fr.payload);
    let acts2 : Prop := mine ∧ s.trowel.recovery = true ∧ fr.dst ≠ 255 ∧ 16 ≤ List.length fr.payload;
    let acts3 : Prop := mine ∧ hdr fr.payload 0 2 = 0; let acts4 : Prop := mine ∧ hdr fr.payload 0 1 < 64;
    let a := R.TRW_CHAIN (hdr fr.payload 0 1);
      (s.powered = true) ∧ (¬acts) ∧ (acts2) ∧ (¬acts3) ∧ (acts4) ∧ (s.trowel.act = none) ∧
      (s.fl a F.TRW_CHAIN_state ≠ hdr fr.payload 4 1 % 8) ∧ (c.rx = none)) ∧
    (let s : State := { sRx true with chain := { (sRx true).chain with rx := none } }; let c := s.chain;
    let fr : ChainFrame := { blk with payload := List.replicate 32 0 };
    let mine : Prop := fr.crcOk = true ∧ (fr.dst = 255 ∨ c.pos = some (BitVec.toNat fr.dst)); let acts : Prop := (mine ∧
          s.trowel.running = true ∧
            s.fl R.TRW_FWD F.TRW_FWD_accept = 1 ∧ 16 ≤ List.length fr.payload);
    let acts2 : Prop := mine ∧ s.trowel.recovery = true ∧ fr.dst ≠ 255 ∧ 16 ≤ List.length fr.payload;
    let acts3 : Prop := mine ∧ hdr fr.payload 0 2 = 0;
    let found := (List.find? (fun e => decide (e.snd.seq = fr.seq) && c.lacks (BitVec.toNat fr.src) e.fst)
          ((List.range c.txFrames.length).zip c.txFrames)); let acts4 : Prop := mine ∧ hdr fr.payload 0 1 < 64;
      (s.powered = true) ∧ (¬acts) ∧ (acts2) ∧ (acts3) ∧ (found = none) ∧ (acts4) ∧ (s.trowel.act = none) ∧ (c.rx = none)) ∧
    (let s : State := { sRx true with chain := { (sRx true).chain with rx := none } }; let c := s.chain;
    let fr : ChainFrame := blk0; let mine : Prop := fr.crcOk = true ∧ (fr.dst = 255 ∨ c.pos = some (BitVec.toNat fr.dst));
    let acts : Prop := (mine ∧
          s.trowel.running = true ∧
            s.fl R.TRW_FWD F.TRW_FWD_accept = 1 ∧ 16 ≤ List.length fr.payload);
    let acts2 : Prop := mine ∧ s.trowel.recovery = true ∧ fr.dst ≠ 255 ∧ 16 ≤ List.length fr.payload;
    let acts3 : Prop := mine ∧ hdr fr.payload 0 2 = 0; let acts4 : Prop := mine ∧ hdr fr.payload 0 1 < 64;
      (s.powered = true) ∧ (¬acts) ∧ (acts2) ∧ (¬acts3) ∧ (acts4) ∧ (s.trowel.act = none) ∧ (c.rx = none)) ∧
    (let s : State := sTx; let c := s.chain; let fr : ChainFrame := fr 2 2 1 [0, 0];
    let mine : Prop := fr.crcOk = true ∧ (fr.dst = 255 ∨ c.pos = some (BitVec.toNat fr.dst)); let acts : Prop := (mine ∧
          s.trowel.running = true ∧
            s.fl R.TRW_FWD F.TRW_FWD_accept = 1 ∧ 16 ≤ List.length fr.payload);
    let acts2 : Prop := mine ∧ s.trowel.recovery = true ∧ fr.dst ≠ 255 ∧ 16 ≤ List.length fr.payload;
    let acts3 : Prop := mine ∧ hdr fr.payload 0 2 = 0; let acts4 : Prop := mine ∧ hdr fr.payload 0 1 < 64;
    let p : Nat := 2; let due : Prop := Option.all (fun t0 => decide (t0 + 125000000 ≤ s.tick)) c.lastHealth = true;
      (s.powered = true) ∧ (¬acts) ∧ (¬acts2) ∧ (acts3) ∧ (acts4) ∧ (s.trowel.act = none) ∧ (c.txFrames ≠ []) ∧
      (c.txRounds < 3) ∧ (c.rx = none) ∧ (c.pos = some p) ∧ (due) ∧ (c.downPartner = true)) ∧
    (let s : State := sTx; let c := s.chain; let fr : ChainFrame := { fr 2 2 1 [0, 0] with seq := 77 };
    let mine : Prop := fr.crcOk = true ∧ (fr.dst = 255 ∨ c.pos = some (BitVec.toNat fr.dst)); let acts : Prop := (mine ∧
          s.trowel.running = true ∧
            s.fl R.TRW_FWD F.TRW_FWD_accept = 1 ∧ 16 ≤ List.length fr.payload);
    let acts2 : Prop := mine ∧ s.trowel.recovery = true ∧ fr.dst ≠ 255 ∧ 16 ≤ List.length fr.payload;
    let acts3 : Prop := mine ∧ hdr fr.payload 0 2 = 0;
    let found := (List.find? (fun e => decide (e.snd.seq = fr.seq) && c.lacks (BitVec.toNat fr.src) e.fst)
          ((List.range c.txFrames.length).zip c.txFrames)); let acts4 : Prop := mine ∧ hdr fr.payload 0 1 < 64;
    let p : Nat := 2; let due : Prop := Option.all (fun t0 => decide (t0 + 125000000 ≤ s.tick)) c.lastHealth = true;
      (s.powered = true) ∧ (¬acts) ∧ (¬acts2) ∧ (acts3) ∧ (found = none) ∧ (acts4) ∧ (s.trowel.act = none) ∧
      (c.txFrames ≠ []) ∧ (c.txRounds < 3) ∧ (c.rx = none) ∧ (c.pos = some p) ∧ (due) ∧ (c.downPartner = true)) ∧
    (let s : State := sTx; let c := s.chain; let fr : ChainFrame := { fr 2 2 1 [0, 0] with crcOk := false };
    let mine : Prop := fr.crcOk = true ∧ (fr.dst = 255 ∨ c.pos = some (BitVec.toNat fr.dst)); let acts : Prop := (mine ∧
          s.trowel.running = true ∧
            s.fl R.TRW_FWD F.TRW_FWD_accept = 1 ∧ 16 ≤ List.length fr.payload);
    let acts2 : Prop := mine ∧ s.trowel.recovery = true ∧ fr.dst ≠ 255 ∧ 16 ≤ List.length fr.payload;
    let acts3 : Prop := mine ∧ hdr fr.payload 0 2 = 0; let acts4 : Prop := mine ∧ hdr fr.payload 0 1 < 64;
    let p : Nat := 2; let due : Prop := Option.all (fun t0 => decide (t0 + 125000000 ≤ s.tick)) c.lastHealth = true;
      (s.powered = true) ∧ (¬acts) ∧ (¬acts2) ∧ (¬acts3) ∧ (¬acts4) ∧ (c.txFrames ≠ []) ∧ (c.txRounds < 3) ∧
      (c.rx = none) ∧ (c.pos = some p) ∧ (due) ∧ (c.downPartner = true)) ∧
    (let s : State := sMid; let c := s.chain; let fr : ChainFrame := fr 5 0xFF 3 [3, 1, 2, 3, 2];
    let mine : Prop := fr.crcOk = true ∧ (fr.dst = 255 ∨ c.pos = some (BitVec.toNat fr.dst)); let acts : Prop := (mine ∧
          s.trowel.running = true ∧
            s.fl R.TRW_FWD F.TRW_FWD_accept = 1 ∧ 16 ≤ List.length fr.payload);
    let acts2 : Prop := mine ∧ s.trowel.recovery = true ∧ fr.dst ≠ 255 ∧ 16 ≤ List.length fr.payload;
    let acts3 : Prop := mine ∧ hdr fr.payload 0 2 = 0; let acts4 : Prop := mine ∧ hdr fr.payload 0 1 < 64;
    let a := R.TRW_CHAIN (hdr fr.payload 0 1); let p : Nat := 2;
    let due : Prop := Option.all (fun t0 => decide (t0 + 125000000 ≤ s.tick)) c.lastHealth = true;
      (s.powered = true) ∧ (¬acts) ∧ (¬acts2) ∧ (¬acts3) ∧ (acts4) ∧ (s.trowel.act = none) ∧
      (s.fl a F.TRW_CHAIN_state ≠ hdr fr.payload 4 1 % 8) ∧ (c.rx = none) ∧ (c.pos = some p) ∧ (due) ∧
      (c.downPartner = true)) ∧
    (let s : State := { sTx with chain := { sTx.chain with txRounds := 3, lastHealth := some 1 } }; let c := s.chain;
    let fr : ChainFrame := fr 5 3 3 [3, 1, 2, 3, 2];
    let mine : Prop := fr.crcOk = true ∧ (fr.dst = 255 ∨ c.pos = some (BitVec.toNat fr.dst)); let acts : Prop := (mine ∧
          s.trowel.running = true ∧
            s.fl R.TRW_FWD F.TRW_FWD_accept = 1 ∧ 16 ≤ List.length fr.payload);
    let acts2 : Prop := mine ∧ s.trowel.recovery = true ∧ fr.dst ≠ 255 ∧ 16 ≤ List.length fr.payload;
    let acts3 : Prop := mine ∧ hdr fr.payload 0 2 = 0; let acts4 : Prop := mine ∧ hdr fr.payload 0 1 < 64;
    let p : Nat := 2; let due : Prop := Option.all (fun t0 => decide (t0 + 125000000 ≤ s.tick)) c.lastHealth = true;
      (s.powered = true) ∧ (¬acts) ∧ (¬acts2) ∧ (¬acts3) ∧ (¬acts4) ∧ (c.txFrames ≠ []) ∧ (3 ≤ c.txRounds) ∧
      (c.rx = none) ∧ (c.pos = some p) ∧ (c.pos = none ∨ ¬due)) ∧
    (let s : State := sRx3; let c := s.chain; let fr : ChainFrame := fr 5 3 3 [3, 1, 2, 3, 2];
    let mine : Prop := fr.crcOk = true ∧ (fr.dst = 255 ∨ c.pos = some (BitVec.toNat fr.dst)); let acts : Prop := (mine ∧
          s.trowel.running = true ∧
            s.fl R.TRW_FWD F.TRW_FWD_accept = 1 ∧ 16 ≤ List.length fr.payload);
    let acts2 : Prop := mine ∧ s.trowel.recovery = true ∧ fr.dst ≠ 255 ∧ 16 ≤ List.length fr.payload;
    let acts3 : Prop := mine ∧ hdr fr.payload 0 2 = 0; let acts4 : Prop := mine ∧ hdr fr.payload 0 1 < 64;
    let r : ChainRx := (sRx3).chain.rx.getD { src := 0, crc := 0, count := 0, recovery := false };
    let r2 : ChainRx := (sRx3).chain.rx.getD { src := 0, crc := 0, count := 0, recovery := false }; let p : Nat := 2;
    let due : Prop := Option.all (fun t0 => decide (t0 + 125000000 ≤ s.tick)) c.lastHealth = true;
      (s.powered = true) ∧ (¬acts) ∧ (¬acts2) ∧ (¬acts3) ∧ (¬acts4) ∧ (c.rx = some r) ∧ (c.rx = some r2) ∧
      (3 ≤ r2.rounds) ∧ (c.pos = some p) ∧ (due) ∧ (c.downPartner = true)) := by
  refine ⟨?_, ?_, ?_, ?_, ?_, ?_, ?_, ?_, ?_, ?_, ?_, ?_, ?_, ?_, ?_, ?_⟩ <;> decide +kernel

theorem wit_HoldAndDoneFollowTheChain :
    (let s : State := up; let w : Nat := 0; let w2 : Wall := 0; let ms := s.fl (R.KILN_DONE_TO w2.val) F.KILN_DONE_TO_ms;
    let due : Prop := (Option.any (fun t0 => decide (t0 + ms * 1250000 < s.tick)) (s.wall w2.val).kiln.waitFrom = true ∧
          (s.wall w2.val).kiln.waited = false ∧
            s.doneOd = false ∧ s.phase w2.val = 5 ∧ ms ≠ 0);
      (s.powered = true) ∧ (s.holdsHold = false) ∧ (s.holdN = false) ∧ (s.holdsDone = false) ∧ (s.doneOd = false) ∧
      (w < 8) ∧ (s.populated w2.val = true) ∧ (¬due)) ∧
    (let s : State := holdAnd1; let w : Wall := 0; let ms := s.fl (R.KILN_DONE_TO w.val) F.KILN_DONE_TO_ms;
    let due : Prop := (Option.any (fun t0 => decide (t0 + ms * 1250000 < s.tick)) (s.wall w.val).kiln.waitFrom = true ∧
          (s.wall w.val).kiln.waited = false ∧
            s.doneOd = false ∧ s.phase w.val = 5 ∧ ms ≠ 0);
      (s.powered = true) ∧ (s.holdsHold = true ∨ s.holdN = true) ∧ (s.holdN = false) ∧
      (s.holdsDone = true ∨ s.doneOd = true) ∧ (s.doneOd = false) ∧ (s.populated w.val = true) ∧ (¬due)) ∧
    (let s : State := holdAnd2; let w : Nat := 0; let w2 : Wall := 0;
    let ms := s.fl (R.KILN_DONE_TO w2.val) F.KILN_DONE_TO_ms;
    let due : Prop := (Option.any (fun t0 => decide (t0 + ms * 1250000 < s.tick)) (s.wall w2.val).kiln.waitFrom = true ∧
          (s.wall w2.val).kiln.waited = false ∧
            s.doneOd = false ∧ s.phase w2.val = 5 ∧ ms ≠ 0);
      (s.powered = true) ∧ (s.holdsHold = false) ∧ (s.holdsHold = true ∨ s.holdN = true) ∧ (s.holdN = true) ∧
      (s.holdsDone = false) ∧ (s.doneOd = false) ∧ (w < 8) ∧ (s.populated w2.val = true) ∧ (¬due)) ∧
    (let s : State := sWait; let w : Nat := 0; let w2 : Wall := 0;
    let ms := s.fl (R.KILN_DONE_TO w2.val) F.KILN_DONE_TO_ms;
    let due : Prop := (Option.any (fun t0 => decide (t0 + ms * 1250000 < s.tick)) (s.wall w2.val).kiln.waitFrom = true ∧
          (s.wall w2.val).kiln.waited = false ∧
            s.doneOd = false ∧ s.phase w2.val = 5 ∧ ms ≠ 0);
      (s.powered = true) ∧ (s.holdsHold = false) ∧ (s.holdN = false) ∧ (s.holdsDone = false) ∧ (s.doneOd = false) ∧
      (w < 8) ∧ ((s.wall w).kiln.waitFrom ≠ none) ∧ (s.populated w2.val = true) ∧ (due)) ∧
    (let s : State := holdAnd3; let w : Wall := 0; let ms := s.fl (R.KILN_DONE_TO w.val) F.KILN_DONE_TO_ms;
    let due : Prop := (Option.any (fun t0 => decide (t0 + ms * 1250000 < s.tick)) (s.wall w.val).kiln.waitFrom = true ∧
          (s.wall w.val).kiln.waited = false ∧
            s.doneOd = false ∧ s.phase w.val = 5 ∧ ms ≠ 0);
      (s.powered = true) ∧ (s.holdsHold = false) ∧ (s.holdN = false) ∧ (s.holdsDone = false) ∧
      (s.holdsDone = true ∨ s.doneOd = true) ∧ (s.doneOd = true) ∧ (s.populated w.val = true) ∧ (¬due)) := by
  refine ⟨?_, ?_, ?_, ?_, ?_⟩ <;> decide +kernel

theorem wit_ClaimsBelongToTheirHolder :
    (let r : Nat := claimPin 0 23; let x : Res := .pin 0 23; let s : State := up; let m : Mid := 0;
    let there : Prop := Option.all s.populated x.wall = true; let leased : Prop := ((match x with
          | Res.link w n => s.laneLeased w n (BitVec.toNat m)
          | x => false) =
          true); let mine : Prop := s.holds r (BitVec.toNat m) = true;
      (claimRes r = some x) ∧ (Allowed s m r true) ∧ (there) ∧ (s.claimed r = false) ∧ (¬leased) ∧ (¬there ∨ ¬mine) ∧
      (m = 0)) ∧
    (let r : Nat := claimPin 0 23; let x : Res := .pin 0 23; let s : State := sPin 0; let m : Mid := 0;
    let there : Prop := Option.all s.populated x.wall = true; let mine : Prop := s.holds r (BitVec.toNat m) = true;
      (claimRes r = some x) ∧ (Allowed s m r true) ∧ (there) ∧ (mine) ∧ (s.claimed r = true) ∧ (s.inUse x = false) ∧
      (m = 0)) ∧
    (let r : Nat := claimPin 0 23; let x : Res := .pin 0 23; let s : State := claimsBelong1; let m : Mid := 0;
    let there : Prop := Option.all s.populated x.wall = true; let mine : Prop := s.holds r (BitVec.toNat m) = true;
      (claimRes r = some x) ∧ (Allowed s m r true) ∧ (there) ∧ (s.claimed r = true) ∧ (¬mine) ∧ (¬there ∨ ¬mine) ∧
      (m = 0)) ∧
    (let r : Nat := claimPin 0 23; let x : Res := .pin 0 23; let s : State := sPin 3; let m : Mid := 0;
    let there : Prop := Option.all s.populated x.wall = true; let mine : Prop := s.holds r (BitVec.toNat m) = true;
      (claimRes r = some x) ∧ (Allowed s m r true) ∧ (there) ∧ (mine) ∧ (s.claimed r = true) ∧ (s.inUse x = true) ∧
      (m = 0)) ∧
    (let r : Nat := claimPin 7 0; let x : Res := .pin 7 0; let s : State := small; let m : Mid := 0;
    let there : Prop := Option.all s.populated x.wall = true; let mine : Prop := s.holds r (BitVec.toNat m) = true;
      (claimRes r = some x) ∧ (Allowed s m r true) ∧ (¬there) ∧ (¬there ∨ ¬mine) ∧ (¬there ∨ m ≠ 0)) ∧
    (let r : Nat := claimUart; let x : Res := .uart; let s : State := up; let m : Mid := 0;
    let there : Prop := Option.all s.populated x.wall = true; let leased : Prop := ((match x with
          | Res.link w n => s.laneLeased w n (BitVec.toNat m)
          | x => false) =
          true); let mine : Prop := s.holds r (BitVec.toNat m) = true;
      (claimRes r = some x) ∧ (Allowed s m r true) ∧ (there) ∧ (s.claimed r = false) ∧ (¬leased) ∧ (¬there ∨ ¬mine) ∧
      (m = 0)) ∧
    (let r : Nat := claimLink 0 15; let x : Res := .link 0 15;
    let s : State := up.wr (R.LS_LINKS 0 0) 0xFFFFFFFF |>.setFl (R.LS_CTRL 0 0) F.LS_CTRL_valid 1 |>.setFl (R.LS_CTRL 0 0) F.LS_CTRL_holder 3;
    let m : Mid := 0; let there : Prop := Option.all s.populated x.wall = true; let leased : Prop := ((match x with
          | Res.link w n => s.laneLeased w n (BitVec.toNat m)
          | x => false) =
          true); let mine : Prop := s.holds r (BitVec.toNat m) = true;
      (claimRes r = some x) ∧ (Allowed s m r true) ∧ (there) ∧ (s.claimed r = false) ∧ (leased) ∧ (¬there ∨ ¬mine) ∧
      (m = 0)) := by
  refine ⟨?_, ?_, ?_, ?_, ?_, ?_, ?_⟩ <;> decide +kernel

theorem wit_QueuesAreConfiguredAndRung :
    (let s : State := queuesAre1; let m : Mid := 0; let q : Fin 64 := 63; let sq := R.SQ_CFG q.val;
    let v : Word := setFld (setFld (setFld 0 F.SQ_CFG_en 1) F.SQ_CFG_lsize 12) F.SQ_CFG_cq 63;
    let ok : Prop := ((4 ≤ fld v F.SQ_CFG_lsize ∧ fld v F.SQ_CFG_lsize ≤ 12) ∧
          s.cqOn (fld v F.SQ_CFG_cq) = true); let cq := R.CQ_CFG q.val;
    let users : Prop := ∃ k, k < 64 ∧ s.sqOn k = true ∧ s.sqCq k = q.val;
    let same2 : Prop := v &&& 4111 = s.rd cq &&& 4111;
      (Allowed s m sq true) ∧ (s.sqOn q.val = false) ∧ (fld v F.SQ_CFG_en = 1) ∧ (ok) ∧ (Allowed s m cq true) ∧
      (s.cqOn q.val = true) ∧ (¬same2 ∨ fld v F.CQ_CFG_en = 0 ∧ users) ∧ (Allowed s m (R.SQ_DB q.val) true) ∧
      (Allowed s m (R.CQ_DB q.val) true) ∧ (s.cqSize q.val ≤ fld v F.CQ_DB_head)) ∧
    (let s : State := up; let m : Mid := 0; let q : Fin 64 := 0; let sq := R.SQ_CFG q.val;
    let v : Word := setFld (setFld 0 F.SQ_CFG_en 1) F.SQ_CFG_lsize 3;
    let ok : Prop := ((4 ≤ fld v F.SQ_CFG_lsize ∧ fld v F.SQ_CFG_lsize ≤ 12) ∧
          s.cqOn (fld v F.SQ_CFG_cq) = true); let cq := R.CQ_CFG q.val;
      (Allowed s m sq true) ∧ (s.sqOn q.val = false) ∧ (fld v F.SQ_CFG_en = 1) ∧ (¬ok) ∧ (Allowed s m cq true) ∧
      (s.cqOn q.val = false) ∧ (fld v F.CQ_CFG_en = 0) ∧ (Allowed s m (R.SQ_DB q.val) true) ∧
      (Allowed s m (R.CQ_DB q.val) true)) ∧
    (let s : State := up; let m : Mid := 0; let q : Fin 64 := 63; let sq := R.SQ_CFG q.val;
    let v : Word := setFld (setFld 0 F.CQ_CFG_en 1) F.CQ_CFG_lsize 4; let cq := R.CQ_CFG q.val;
    let ok2 : Prop := 4 ≤ fld v F.CQ_CFG_lsize ∧ fld v F.CQ_CFG_lsize ≤ 12;
      (Allowed s m sq true) ∧ (s.sqOn q.val = false) ∧ (fld v F.SQ_CFG_en = 0) ∧ (Allowed s m cq true) ∧
      (s.cqOn q.val = false) ∧ (fld v F.CQ_CFG_en = 1) ∧ (ok2) ∧ (Allowed s m (R.SQ_DB q.val) true) ∧
      (Allowed s m (R.CQ_DB q.val) true)) ∧
    (let s : State := up; let m : Mid := 0; let q : Fin 64 := 0; let sq := R.SQ_CFG q.val; let v : Word := 0;
    let cq := R.CQ_CFG q.val;
      (Allowed s m sq true) ∧ (s.sqOn q.val = false) ∧ (fld v F.SQ_CFG_en = 0) ∧ (Allowed s m cq true) ∧
      (s.cqOn q.val = false) ∧ (fld v F.CQ_CFG_en = 0) ∧ (Allowed s m (R.SQ_DB q.val) true) ∧
      (Allowed s m (R.CQ_DB q.val) true)) ∧
    (let s : State := sQ; let m : Mid := 0; let q : Fin 64 := 0; let sq := R.SQ_CFG q.val; let v : Word := 15;
    let same : Prop := v &&& 65535 = s.rd sq &&& 65535; let cq := R.CQ_CFG q.val;
    let users : Prop := ∃ k, k < 64 ∧ s.sqOn k = true ∧ s.sqCq k = q.val;
    let same2 : Prop := v &&& 4111 = s.rd cq &&& 4111;
      (Allowed s m sq true) ∧ (s.sqOn q.val = true) ∧ (¬same) ∧ (Allowed s m cq true) ∧ (s.cqOn q.val = true) ∧
      (¬same2 ∨ fld v F.CQ_CFG_en = 0 ∧ users) ∧ (Allowed s m (R.SQ_DB q.val) true) ∧
      (fld v F.SQ_DB_tail < s.sqSize q.val) ∧ (Allowed s m (R.CQ_DB q.val) true) ∧ (fld v F.CQ_DB_head < s.cqSize q.val)) ∧
    (let s : State := sQ; let m : Mid := 0; let q : Fin 64 := 0; let sq := R.SQ_CFG q.val; let v : Word := 16;
    let same : Prop := v &&& 65535 = s.rd sq &&& 65535; let cq := R.CQ_CFG q.val;
    let users : Prop := ∃ k, k < 64 ∧ s.sqOn k = true ∧ s.sqCq k = q.val;
    let same2 : Prop := v &&& 4111 = s.rd cq &&& 4111;
      (Allowed s m sq true) ∧ (s.sqOn q.val = true) ∧ (¬same) ∧ (Allowed s m cq true) ∧ (s.cqOn q.val = true) ∧
      (¬same2 ∨ fld v F.CQ_CFG_en = 0 ∧ users) ∧ (Allowed s m (R.SQ_DB q.val) true) ∧
      (s.sqSize q.val ≤ fld v F.SQ_DB_tail) ∧ (Allowed s m (R.CQ_DB q.val) true) ∧ (s.cqSize q.val ≤ fld v F.CQ_DB_head)) ∧
    (let s : State := sQ; let m : Mid := 0; let q : Fin 64 := 0; let sq := R.SQ_CFG q.val;
    let v : Word := setFld (sQ.rd (R.SQ_CFG 0)) F.SQ_CFG_en 0; let same : Prop := v &&& 65535 = s.rd sq &&& 65535;
    let cq := R.CQ_CFG q.val; let users : Prop := ∃ k, k < 64 ∧ s.sqOn k = true ∧ s.sqCq k = q.val;
    let same2 : Prop := v &&& 4111 = s.rd cq &&& 4111;
      (Allowed s m sq true) ∧ (s.sqOn q.val = true) ∧ (same) ∧ (Allowed s m cq true) ∧ (s.cqOn q.val = true) ∧
      (¬same2 ∨ fld v F.CQ_CFG_en = 0 ∧ users) ∧ (same2) ∧ (fld v F.CQ_CFG_en = 0) ∧ (Allowed s m (R.SQ_DB q.val) true) ∧
      (fld v F.SQ_DB_tail < s.sqSize q.val) ∧ (Allowed s m (R.CQ_DB q.val) true) ∧ (fld v F.CQ_DB_head < s.cqSize q.val)) ∧
    (let s : State := sQ; let m : Mid := 0; let q : Fin 64 := 0; let sq := R.SQ_CFG q.val;
    let v : Word := setFld (sQ.rd (R.CQ_CFG 0)) F.CQ_CFG_en 0; let same : Prop := v &&& 65535 = s.rd sq &&& 65535;
    let cq := R.CQ_CFG q.val; let users : Prop := ∃ k, k < 64 ∧ s.sqOn k = true ∧ s.sqCq k = q.val;
    let same2 : Prop := v &&& 4111 = s.rd cq &&& 4111;
      (Allowed s m sq true) ∧ (s.sqOn q.val = true) ∧ (same) ∧ (Allowed s m cq true) ∧ (s.cqOn q.val = true) ∧
      (¬same2 ∨ fld v F.CQ_CFG_en = 0 ∧ users) ∧ (same2) ∧ (fld v F.CQ_CFG_en = 0) ∧ (Allowed s m (R.SQ_DB q.val) true) ∧
      (fld v F.SQ_DB_tail < s.sqSize q.val) ∧ (Allowed s m (R.CQ_DB q.val) true) ∧ (fld v F.CQ_DB_head < s.cqSize q.val)) ∧
    (let s : State := sQ; let m : Mid := 0; let q : Fin 64 := 0; let sq := R.SQ_CFG q.val;
    let v : Word := sQ.rd (R.CQ_CFG 0); let same : Prop := v &&& 65535 = s.rd sq &&& 65535; let cq := R.CQ_CFG q.val;
    let same2 : Prop := v &&& 4111 = s.rd cq &&& 4111;
      (Allowed s m sq true) ∧ (s.sqOn q.val = true) ∧ (¬same) ∧ (Allowed s m cq true) ∧ (s.cqOn q.val = true) ∧ (same2) ∧
      (fld v F.CQ_CFG_en = 1) ∧ (Allowed s m (R.SQ_DB q.val) true) ∧ (fld v F.SQ_DB_tail < s.sqSize q.val) ∧
      (Allowed s m (R.CQ_DB q.val) true) ∧ (fld v F.CQ_DB_head < s.cqSize q.val)) ∧
    (let s : State := sQ.setFl (R.SQ_CFG 0) F.SQ_CFG_en 0; let m : Mid := 0; let q : Fin 64 := 0;
    let sq := R.SQ_CFG q.val; let v : Word := setFld (sQ.rd (R.CQ_CFG 0)) F.CQ_CFG_en 0; let cq := R.CQ_CFG q.val;
    let same2 : Prop := v &&& 4111 = s.rd cq &&& 4111;
    let users : Prop := ∃ k, k < 64 ∧ s.sqOn k = true ∧ s.sqCq k = q.val;
      (Allowed s m sq true) ∧ (s.sqOn q.val = false) ∧ (fld v F.SQ_CFG_en = 0) ∧ (Allowed s m cq true) ∧
      (s.cqOn q.val = true) ∧ (same2) ∧ (fld v F.CQ_CFG_en = 0) ∧ (¬users) ∧ (Allowed s m (R.SQ_DB q.val) true) ∧
      (Allowed s m (R.CQ_DB q.val) true) ∧ (fld v F.CQ_DB_head < s.cqSize q.val)) ∧
    (let s : State := up; let m : Mid := 0; let q : Fin 64 := 63; let sq := R.SQ_CFG q.val;
    let v : Word := setFld (setFld 0 F.CQ_CFG_en 1) F.CQ_CFG_lsize 13; let cq := R.CQ_CFG q.val;
    let ok2 : Prop := 4 ≤ fld v F.CQ_CFG_lsize ∧ fld v F.CQ_CFG_lsize ≤ 12;
      (Allowed s m sq true) ∧ (s.sqOn q.val = false) ∧ (fld v F.SQ_CFG_en = 0) ∧ (Allowed s m cq true) ∧
      (s.cqOn q.val = false) ∧ (fld v F.CQ_CFG_en = 1) ∧ (¬ok2) ∧ (Allowed s m (R.SQ_DB q.val) true) ∧
      (Allowed s m (R.CQ_DB q.val) true)) := by
  refine ⟨?_, ?_, ?_, ?_, ?_, ?_, ?_, ?_, ?_, ?_, ?_⟩ <;> decide +kernel

theorem wit_CompletionsArePostedInOrder :
    (let s : State := up; let c : CmdCtx := cc 0 []; let q := s.sqCq c.q.val;
      (CmdPasses s c nopCmd) ∧ (s.cqOn q = false)) ∧
    (let s : State := sQ; let c : CmdCtx := cc 0 []; let q := s.sqCq c.q.val;
    let room : Prop := s.cqRoom q = true ∧ (s.queue q).held = [];
      (CmdPasses s c nopCmd) ∧ (s.cqOn q = true) ∧ (room)) ∧
    (let s : State := completions2; let c : CmdCtx := cc 0 []; let q := s.sqCq c.q.val;
    let room : Prop := s.cqRoom q = true ∧ (s.queue q).held = [];
      (CmdPasses s c nopCmd) ∧ (s.cqOn q = true) ∧ (¬room)) ∧
    (let s : State := completions1; let c : CmdCtx := cc 0 []; let q := s.sqCq c.q.val;
    let room : Prop := s.cqRoom q = true ∧ (s.queue q).held = [];
      (CmdPasses s c nopCmd) ∧ (s.cqOn q = true) ∧ (room)) := by
  refine ⟨?_, ?_, ?_, ?_⟩ <;> decide +kernel

theorem wit_RefusedCommandsChangeNothing :
    (let s : State := up; let c : CmdCtx := cc 0 [0, 1]; let img : Image := img0; let ws : Words := [];
    let i : Instr := .nop (cc 0 [0, 1]); let c' : CmdCtx := cc 0 [0, 1]; let d : Cmd := nopCmd; let m := s.cmdMid c;
      ((i, c', d) ∈
  [(Instr.nop c, c, nopCmd), (Instr.identify c, c, s.identifyCmd m c), (Instr.cancel c, c, s.cancelCmd m c),
    (Instr.settingGet c, c, s.settingGetCmd m c), (Instr.settingSet c, c, s.settingSetCmd m c),
    (Instr.logRead c, c, s.logReadCmd m c), (Instr.wallLoad c, c, s.wallLoadCmd m c),
    (Instr.wallReset c, c, s.wallResetCmd m c),
    (Instr.wallPowerOn c, withArg c 0, s.wallPowerCmd m (withArg c 0)),
    (Instr.wallPowerStandby c, withArg c 1,
      s.wallPowerCmd m (withArg c 1)),
    (Instr.wallPowerOff c, withArg c 2, s.wallPowerCmd m (withArg c 2)),
    (Instr.patternImage c ws, c, s.patternImageCmd m c ws), (Instr.capture c, c, s.captureCmd m c),
    (Instr.march c, c, s.marchCmd m c), (Instr.gddrRetrain c, c, s.gddrRetrainCmd m c),
    (Instr.linkTrain c, c, s.linkTrainCmd m c), (Instr.fwStage c img, c, s.fwStageCmd m c img),
    (Instr.fwActivate c, c, s.fwActivateCmd m c)]) ∧ (s.powered = true)) ∧
    (let s : State := sLongs; let c : CmdCtx := cc 0 []; let img : Image := img0; let ws : Words := [];
    let i : Instr := .logRead (cc 0 []); let c' : CmdCtx := cc 0 [];
    let d : Cmd := sLongs.logReadCmd (sLongs.cmdMid (cc 0 [])) (cc 0 []); let m := s.cmdMid c;
      ((i, c', d) ∈
  [(Instr.nop c, c, nopCmd), (Instr.identify c, c, s.identifyCmd m c), (Instr.cancel c, c, s.cancelCmd m c),
    (Instr.settingGet c, c, s.settingGetCmd m c), (Instr.settingSet c, c, s.settingSetCmd m c),
    (Instr.logRead c, c, s.logReadCmd m c), (Instr.wallLoad c, c, s.wallLoadCmd m c),
    (Instr.wallReset c, c, s.wallResetCmd m c),
    (Instr.wallPowerOn c, withArg c 0, s.wallPowerCmd m (withArg c 0)),
    (Instr.wallPowerStandby c, withArg c 1,
      s.wallPowerCmd m (withArg c 1)),
    (Instr.wallPowerOff c, withArg c 2, s.wallPowerCmd m (withArg c 2)),
    (Instr.patternImage c ws, c, s.patternImageCmd m c ws), (Instr.capture c, c, s.captureCmd m c),
    (Instr.march c, c, s.marchCmd m c), (Instr.gddrRetrain c, c, s.gddrRetrainCmd m c),
    (Instr.linkTrain c, c, s.linkTrainCmd m c), (Instr.fwStage c img, c, s.fwStageCmd m c img),
    (Instr.fwActivate c, c, s.fwActivateCmd m c)]) ∧ (s.powered = true) ∧ (cmdStatus s c' d ≠ 0)) :=
  ⟨⟨(.head _), by decide +kernel⟩,
   ⟨(.tail _ (.tail _ (.tail _ (.tail _ (.tail _ (.head _)))))), by decide +kernel, by decide +kernel⟩⟩

theorem wit_HubCommandsAct :
    (let s : State := up; let c : CmdCtx := cc 0 []; let m := s.cmdMid c; let n := cmdArg c 0;
    let legal : Prop := (s.settingDefault n).isSome = true ∧ settingOk n (cmdArg c 1) = true;
    let named : LongCmd → Bool := (fun l =>
          decide (BitVec.toNat l.ctx.handle = n) && !l.console && !l.orphan && l.done.isNone &&
            (decide (m = 0) || decide (l.ctx.q = c.q)));
      (CmdPasses s c (s.identifyCmd m c)) ∧ (CmdPasses s c (s.settingGetCmd m c)) ∧ (s.settingDefault n = none) ∧
      (CmdPasses s c (s.settingSetCmd m c)) ∧ (¬legal) ∧ (CmdPasses s c (s.logReadCmd m c)) ∧
      (CmdPasses s c (s.cancelCmd m c)) ∧ (List.find? named s.longs = none)) ∧
    (let s : State := up; let c : CmdCtx := cc 0 [6]; let m := s.cmdMid c; let n := cmdArg c 0;
    let d : Word := (up.settingDefault 6).getD 0;
    let legal : Prop := (s.settingDefault n).isSome = true ∧ settingOk n (cmdArg c 1) = true;
    let named : LongCmd → Bool := (fun l =>
          decide (BitVec.toNat l.ctx.handle = n) && !l.console && !l.orphan && l.done.isNone &&
            (decide (m = 0) || decide (l.ctx.q = c.q)));
      (CmdPasses s c (s.identifyCmd m c)) ∧ (CmdPasses s c (s.settingGetCmd m c)) ∧ (s.settingDefault n = some d) ∧
      (CmdPasses s c (s.settingSetCmd m c)) ∧ (legal) ∧ (s.trowel.slotIn 4 = none) ∧
      (CmdPasses s c (s.logReadCmd m c)) ∧ (CmdPasses s c (s.cancelCmd m c)) ∧ (List.find? named s.longs = none)) ∧
    (let s : State := up; let c : CmdCtx := cc 0 [999]; let m := s.cmdMid c; let n := cmdArg c 0;
    let legal : Prop := (s.settingDefault n).isSome = true ∧ settingOk n (cmdArg c 1) = true;
    let named : LongCmd → Bool := (fun l =>
          decide (BitVec.toNat l.ctx.handle = n) && !l.console && !l.orphan && l.done.isNone &&
            (decide (m = 0) || decide (l.ctx.q = c.q)));
      (CmdPasses s c (s.identifyCmd m c)) ∧ (CmdPasses s c (s.settingGetCmd m c)) ∧ (s.settingDefault n = none) ∧
      (CmdPasses s c (s.settingSetCmd m c)) ∧ (¬legal) ∧ (CmdPasses s c (s.logReadCmd m c)) ∧
      (CmdPasses s c (s.cancelCmd m c)) ∧ (List.find? named s.longs = none)) ∧
    (let s : State := up; let c : CmdCtx := cc 0 [4, 1000]; let m := s.cmdMid c; let n := cmdArg c 0;
    let legal : Prop := (s.settingDefault n).isSome = true ∧ settingOk n (cmdArg c 1) = true;
    let named : LongCmd → Bool := (fun l =>
          decide (BitVec.toNat l.ctx.handle = n) && !l.console && !l.orphan && l.done.isNone &&
            (decide (m = 0) || decide (l.ctx.q = c.q)));
      (CmdPasses s c (s.identifyCmd m c)) ∧ (CmdPasses s c (s.settingGetCmd m c)) ∧
      (CmdPasses s c (s.settingSetCmd m c)) ∧ (legal) ∧ (s.trowel.slotIn 4 = none) ∧
      (CmdPasses s c (s.logReadCmd m c)) ∧ (CmdPasses s c (s.cancelCmd m c)) ∧ (List.find? named s.longs = none)) ∧
    (let s : State := up; let c : CmdCtx := cc 0 [999, 9]; let m := s.cmdMid c; let n := cmdArg c 0;
    let legal : Prop := (s.settingDefault n).isSome = true ∧ settingOk n (cmdArg c 1) = true;
    let named : LongCmd → Bool := (fun l =>
          decide (BitVec.toNat l.ctx.handle = n) && !l.console && !l.orphan && l.done.isNone &&
            (decide (m = 0) || decide (l.ctx.q = c.q)));
      (CmdPasses s c (s.identifyCmd m c)) ∧ (CmdPasses s c (s.settingGetCmd m c)) ∧ (s.settingDefault n = none) ∧
      (CmdPasses s c (s.settingSetCmd m c)) ∧ (¬legal) ∧ (CmdPasses s c (s.logReadCmd m c)) ∧
      (CmdPasses s c (s.cancelCmd m c)) ∧ (List.find? named s.longs = none)) ∧
    (let s : State := sTrial; let c : CmdCtx := cc 0 [4, 1000]; let m := s.cmdMid c; let n := cmdArg c 0;
    let legal : Prop := (s.settingDefault n).isSome = true ∧ settingOk n (cmdArg c 1) = true;
    let named : LongCmd → Bool := (fun l =>
          decide (BitVec.toNat l.ctx.handle = n) && !l.console && !l.orphan && l.done.isNone &&
            (decide (m = 0) || decide (l.ctx.q = c.q)));
      (CmdPasses s c (s.identifyCmd m c)) ∧ (CmdPasses s c (s.settingGetCmd m c)) ∧
      (CmdPasses s c (s.settingSetCmd m c)) ∧ (legal) ∧ (s.trowel.slotIn 4 ≠ none) ∧
      (CmdPasses s c (s.logReadCmd m c)) ∧ (CmdPasses s c (s.cancelCmd m c)) ∧ (List.find? named s.longs = none)) ∧
    (let s : State := up; let c : CmdCtx := cc 0 [0, 0, 64]; let m := s.cmdMid c; let n := cmdArg c 0;
    let legal : Prop := (s.settingDefault n).isSome = true ∧ settingOk n (cmdArg c 1) = true;
    let named : LongCmd → Bool := (fun l =>
          decide (BitVec.toNat l.ctx.handle = n) && !l.console && !l.orphan && l.done.isNone &&
            (decide (m = 0) || decide (l.ctx.q = c.q)));
      (CmdPasses s c (s.identifyCmd m c)) ∧ (CmdPasses s c (s.settingGetCmd m c)) ∧ (s.settingDefault n = none) ∧
      (CmdPasses s c (s.settingSetCmd m c)) ∧ (¬legal) ∧ (CmdPasses s c (s.logReadCmd m c)) ∧
      (CmdPasses s c (s.cancelCmd m c)) ∧ (List.find? named s.longs = none)) ∧
    (let s : State := sLong lr; let c : CmdCtx := cc 0 [5]; let m := s.cmdMid c; let n := cmdArg c 0;
    let legal : Prop := (s.settingDefault n).isSome = true ∧ settingOk n (cmdArg c 1) = true;
    let named : LongCmd → Bool := (fun l =>
          decide (BitVec.toNat l.ctx.handle = n) && !l.console && !l.orphan && l.done.isNone &&
            (decide (m = 0) || decide (l.ctx.q = c.q))); let l : LongCmd := lr;
      (CmdPasses s c (s.identifyCmd m c)) ∧ (CmdPasses s c (s.settingGetCmd m c)) ∧
      (CmdPasses s c (s.settingSetCmd m c)) ∧ (legal) ∧ (s.trowel.slotIn 4 = none) ∧
      (CmdPasses s c (s.logReadCmd m c)) ∧ (CmdPasses s c (s.cancelCmd m c)) ∧ (List.find? named s.longs = some l) ∧
      (s.cancelTarget l ≠ none) ∧ (l.op = 5 ∨
  l.op = 24 ∨ l.op = 32 ∨ l.op = 48)) ∧
    (let s : State := sLong { lr with op := 16 }; let c : CmdCtx := cc 0 [5]; let m := s.cmdMid c; let n := cmdArg c 0;
    let legal : Prop := (s.settingDefault n).isSome = true ∧ settingOk n (cmdArg c 1) = true;
    let named : LongCmd → Bool := (fun l =>
          decide (BitVec.toNat l.ctx.handle = n) && !l.console && !l.orphan && l.done.isNone &&
            (decide (m = 0) || decide (l.ctx.q = c.q))); let l : LongCmd := { lr with op := 16 };
      (CmdPasses s c (s.identifyCmd m c)) ∧ (CmdPasses s c (s.settingGetCmd m c)) ∧
      (CmdPasses s c (s.settingSetCmd m c)) ∧ (legal) ∧ (s.trowel.slotIn 4 = none) ∧
      (CmdPasses s c (s.logReadCmd m c)) ∧ (CmdPasses s c (s.cancelCmd m c)) ∧ (List.find? named s.longs = some l) ∧
      (s.cancelTarget l = none)) ∧
    (let s : State := sLong { lr with op := 49 }; let c : CmdCtx := cc 0 [5]; let m := s.cmdMid c; let n := cmdArg c 0;
    let legal : Prop := (s.settingDefault n).isSome = true ∧ settingOk n (cmdArg c 1) = true;
    let named : LongCmd → Bool := (fun l =>
          decide (BitVec.toNat l.ctx.handle = n) && !l.console && !l.orphan && l.done.isNone &&
            (decide (m = 0) || decide (l.ctx.q = c.q))); let l : LongCmd := { lr with op := 49 };
      (CmdPasses s c (s.identifyCmd m c)) ∧ (CmdPasses s c (s.settingGetCmd m c)) ∧
      (CmdPasses s c (s.settingSetCmd m c)) ∧ (legal) ∧ (s.trowel.slotIn 4 = none) ∧
      (CmdPasses s c (s.logReadCmd m c)) ∧ (CmdPasses s c (s.cancelCmd m c)) ∧ (List.find? named s.longs = some l) ∧
      (s.cancelTarget l = none)) := by
  refine ⟨?_, ?_, ?_, ?_, ?_, ?_, ?_, ?_, ?_, ?_⟩ <;> decide +kernel

theorem wit_WallCommandsChangeTheWall :
    (let s : State := up; let c : CmdCtx := cc 0 [259]; let m := s.cmdMid c;
    let legal : Prop := cmdWalls 16 c ≠ [] ∧ s.trowel.lifecycle ≠ 3; let w := c.wall.toNat;
    let legal2 : Prop := s.phase w ≠ 7 ∧ s.fl (R.KILN_STATUS w) F.KILN_STATUS_cfg ≠ 0; let c' := withArg c 0;
    let c'2 := withArg c 1; let c'3 := withArg c 2;
      (CmdPasses s c (s.wallLoadCmd m c)) ∧ (legal) ∧ (CmdPasses s c (s.wallResetCmd m c)) ∧ (legal2) ∧
      (CmdPasses s c' (s.wallPowerCmd m c')) ∧ (s.wallPower w = 0) ∧ (CmdPasses s c'2 (s.wallPowerCmd m c'2)) ∧
      (s.wallPower w ≠ 1) ∧ (s.wallPower w ≠ 3) ∧ (CmdPasses s c'3 (s.wallPowerCmd m c'3)) ∧ (s.wallPower w ≠ 2)) ∧
    (let s : State := up; let c : CmdCtx := cc 0 []; let m := s.cmdMid c;
    let legal : Prop := cmdWalls 16 c ≠ [] ∧ s.trowel.lifecycle ≠ 3; let w := c.wall.toNat;
    let legal2 : Prop := s.phase w ≠ 7 ∧ s.fl (R.KILN_STATUS w) F.KILN_STATUS_cfg ≠ 0; let c' := withArg c 0;
    let c'2 := withArg c 1; let c'3 := withArg c 2;
      (CmdPasses s c (s.wallLoadCmd m c)) ∧ (¬legal) ∧ (CmdPasses s c (s.wallResetCmd m c)) ∧ (legal2) ∧
      (CmdPasses s c' (s.wallPowerCmd m c')) ∧ (s.wallPower w = 0) ∧ (CmdPasses s c'2 (s.wallPowerCmd m c'2)) ∧
      (s.wallPower w ≠ 1) ∧ (s.wallPower w ≠ 3) ∧ (CmdPasses s c'3 (s.wallPowerCmd m c'3)) ∧ (s.wallPower w ≠ 2)) ∧
    (let s : State := up; let c : CmdCtx := cc 1 []; let m := s.cmdMid c;
    let legal : Prop := cmdWalls 16 c ≠ [] ∧ s.trowel.lifecycle ≠ 3; let w := c.wall.toNat;
    let legal2 : Prop := s.phase w ≠ 7 ∧ s.fl (R.KILN_STATUS w) F.KILN_STATUS_cfg ≠ 0; let c' := withArg c 0;
    let c'2 := withArg c 1; let c'3 := withArg c 2;
      (CmdPasses s c (s.wallLoadCmd m c)) ∧ (¬legal) ∧ (CmdPasses s c (s.wallResetCmd m c)) ∧ (legal2) ∧
      (CmdPasses s c' (s.wallPowerCmd m c')) ∧ (s.wallPower w = 0) ∧ (CmdPasses s c'2 (s.wallPowerCmd m c'2)) ∧
      (s.wallPower w ≠ 1) ∧ (s.wallPower w ≠ 3) ∧ (CmdPasses s c'3 (s.wallPowerCmd m c'3)) ∧ (s.wallPower w ≠ 2)) ∧
    (let s : State := up.setPhase 1 7; let c : CmdCtx := cc 1 []; let m := s.cmdMid c;
    let legal : Prop := cmdWalls 16 c ≠ [] ∧ s.trowel.lifecycle ≠ 3; let w := c.wall.toNat;
    let legal2 : Prop := s.phase w ≠ 7 ∧ s.fl (R.KILN_STATUS w) F.KILN_STATUS_cfg ≠ 0; let c' := withArg c 0;
    let c'2 := withArg c 1; let c'3 := withArg c 2;
      (CmdPasses s c (s.wallLoadCmd m c)) ∧ (¬legal) ∧ (CmdPasses s c (s.wallResetCmd m c)) ∧ (¬legal2) ∧
      (CmdPasses s c' (s.wallPowerCmd m c')) ∧ (s.wallPower w = 0) ∧ (CmdPasses s c'2 (s.wallPowerCmd m c'2)) ∧
      (s.wallPower w ≠ 1) ∧ (s.wallPower w ≠ 3) ∧ (CmdPasses s c'3 (s.wallPowerCmd m c'3)) ∧ (s.wallPower w ≠ 2)) ∧
    (let s : State := wallCommands1; let c : CmdCtx := cc 1 [0]; let m := s.cmdMid c;
    let legal : Prop := cmdWalls 16 c ≠ [] ∧ s.trowel.lifecycle ≠ 3; let w := c.wall.toNat;
    let legal2 : Prop := s.phase w ≠ 7 ∧ s.fl (R.KILN_STATUS w) F.KILN_STATUS_cfg ≠ 0; let c' := withArg c 0;
    let c'2 := withArg c 1; let c'3 := withArg c 2;
      (CmdPasses s c (s.wallLoadCmd m c)) ∧ (¬legal) ∧ (CmdPasses s c (s.wallResetCmd m c)) ∧ (legal2) ∧
      (CmdPasses s c' (s.wallPowerCmd m c')) ∧ (s.wallPower w ≠ 0) ∧ (s.wallPower w ≠ 3) ∧
      (CmdPasses s c'2 (s.wallPowerCmd m c'2)) ∧ (s.wallPower w = 1) ∧ (CmdPasses s c'3 (s.wallPowerCmd m c'3)) ∧
      (s.wallPower w ≠ 2)) ∧
    (let s : State := up; let c : CmdCtx := cc 7 [0]; let m := s.cmdMid c;
    let legal : Prop := cmdWalls 16 c ≠ [] ∧ s.trowel.lifecycle ≠ 3; let w := c.wall.toNat;
    let legal2 : Prop := s.phase w ≠ 7 ∧ s.fl (R.KILN_STATUS w) F.KILN_STATUS_cfg ≠ 0; let c' := withArg c 0;
    let c'2 := withArg c 1; let c'3 := withArg c 2;
      (CmdPasses s c (s.wallLoadCmd m c)) ∧ (¬legal) ∧ (CmdPasses s c (s.wallResetCmd m c)) ∧ (¬legal2) ∧
      (CmdPasses s c' (s.wallPowerCmd m c')) ∧ (s.wallPower w ≠ 0) ∧ (s.wallPower w ≠ 3) ∧
      (CmdPasses s c'2 (s.wallPowerCmd m c'2)) ∧ (s.wallPower w ≠ 1) ∧ (CmdPasses s c'3 (s.wallPowerCmd m c'3)) ∧
      (s.wallPower w = 2)) ∧
    (let s : State := up.setFl (R.WPWR_CTRL 1) F.WPWR_CTRL_state 3; let c : CmdCtx := cc 1 [0]; let m := s.cmdMid c;
    let legal : Prop := cmdWalls 16 c ≠ [] ∧ s.trowel.lifecycle ≠ 3; let w := c.wall.toNat;
    let legal2 : Prop := s.phase w ≠ 7 ∧ s.fl (R.KILN_STATUS w) F.KILN_STATUS_cfg ≠ 0; let c' := withArg c 0;
    let c'2 := withArg c 1; let c'3 := withArg c 2;
      (CmdPasses s c (s.wallLoadCmd m c)) ∧ (¬legal) ∧ (CmdPasses s c (s.wallResetCmd m c)) ∧ (legal2) ∧
      (CmdPasses s c' (s.wallPowerCmd m c')) ∧ (s.wallPower w ≠ 0) ∧ (s.wallPower w = 3) ∧
      (CmdPasses s c'2 (s.wallPowerCmd m c'2)) ∧ (s.wallPower w ≠ 1) ∧ (CmdPasses s c'3 (s.wallPowerCmd m c'3)) ∧
      (s.wallPower w ≠ 2)) ∧
    (let s : State := up.setFl (R.WPWR_CTRL 1) F.WPWR_CTRL_state 2 |>.setPhase 1 0; let c : CmdCtx := cc 1 [0];
    let m := s.cmdMid c; let legal : Prop := cmdWalls 16 c ≠ [] ∧ s.trowel.lifecycle ≠ 3; let w := c.wall.toNat;
    let legal2 : Prop := s.phase w ≠ 7 ∧ s.fl (R.KILN_STATUS w) F.KILN_STATUS_cfg ≠ 0; let c' := withArg c 0;
    let c'2 := withArg c 1; let c'3 := withArg c 2;
      (CmdPasses s c (s.wallLoadCmd m c)) ∧ (¬legal) ∧ (CmdPasses s c (s.wallResetCmd m c)) ∧ (legal2) ∧
      (CmdPasses s c' (s.wallPowerCmd m c')) ∧ (s.wallPower w ≠ 0) ∧ (s.wallPower w ≠ 3) ∧
      (CmdPasses s c'2 (s.wallPowerCmd m c'2)) ∧ (s.wallPower w ≠ 1) ∧ (CmdPasses s c'3 (s.wallPowerCmd m c'3)) ∧
      (s.wallPower w = 2)) ∧
    (let s : State := up.setFl (R.WPWR_CTRL 1) F.WPWR_CTRL_state 1; let c : CmdCtx := cc 1 [1]; let m := s.cmdMid c;
    let legal : Prop := cmdWalls 16 c ≠ [] ∧ s.trowel.lifecycle ≠ 3; let w := c.wall.toNat;
    let legal2 : Prop := s.phase w ≠ 7 ∧ s.fl (R.KILN_STATUS w) F.KILN_STATUS_cfg ≠ 0; let c' := withArg c 0;
    let c'2 := withArg c 1; let c'3 := withArg c 2;
      (CmdPasses s c (s.wallLoadCmd m c)) ∧ (legal) ∧ (CmdPasses s c (s.wallResetCmd m c)) ∧ (legal2) ∧
      (CmdPasses s c' (s.wallPowerCmd m c')) ∧ (s.wallPower w ≠ 0) ∧ (s.wallPower w ≠ 3) ∧
      (CmdPasses s c'2 (s.wallPowerCmd m c'2)) ∧ (s.wallPower w = 1) ∧ (CmdPasses s c'3 (s.wallPowerCmd m c'3)) ∧
      (s.wallPower w ≠ 2)) := by
  refine ⟨?_, ?_, ?_, ?_, ?_, ?_, ?_, ?_, ?_⟩ <;> decide +kernel

theorem wit_PatternImagesAreWrittenSlotBySlot :
    (let s : State := leased up; let c : CmdCtx := cc 0 []; let ws : Words := patImg; let m := s.cmdMid c;
    let w := c.wall.toNat; let w2 : Wall := 0; let slots := (s.wall w2.val).kiln.slots;
      (CmdPasses s c (s.patternImageCmd m c ws)) ∧ (s.inTest w 6 = false) ∧ (OnWall s w2) ∧ (slots = [])) ∧
    (let s : State := leased up; let c : CmdCtx := cc 0 []; let ws : Words := patImg.drop 1; let m := s.cmdMid c;
    let w := c.wall.toNat; let w2 : Wall := 0; let slots := (s.wall w2.val).kiln.slots;
      (CmdPasses s c (s.patternImageCmd m c ws)) ∧ (s.inTest w 6 = false) ∧ (OnWall s w2) ∧ (slots = [])) ∧
    (let s : State := (leased up).setFl (R.SRAM_STATUS 0) F.SRAM_STATUS_test 64; let c : CmdCtx := cc 0 [];
    let ws : Words := patImg; let m := s.cmdMid c; let w := c.wall.toNat; let w2 : Wall := 0;
    let slots := (s.wall w2.val).kiln.slots;
      (CmdPasses s c (s.patternImageCmd m c ws)) ∧ (s.inTest w 6 = true) ∧ (OnWall s w2) ∧ (slots = [])) ∧
    (let s : State := sSlot; let c : CmdCtx := cc 0 []; let ws : Words := []; let m := s.cmdMid c; let w := c.wall.toNat;
    let w2 : Wall := 0; let slots := (s.wall w2.val).kiln.slots; let i : Nat := 127; let n : Nat := 127;
    let d : Words := List.replicate 96 5; let rest : List (Nat × Nat × Words) := [];
    let waits : Prop := (s.inTest w2.val (libOffset i n / 4194304) = true ∨
          Option.any (fun r => decide (r.req.slot = BitVec.ofNat 7 n)) (s.tile w2.val i).refill = true);
      (CmdPasses s c (s.patternImageCmd m c ws)) ∧ (s.inTest w 6 = false) ∧ (OnWall s w2) ∧
      (slots = (i, n, d) :: rest) ∧ (¬waits) ∧ (List.length d = 96)) ∧
    (let s : State := sSlot.setTile 0 127 { refill := some { req := { kind := .demand, slot := 127 }, way := 0 } };
    let c : CmdCtx := cc 0 []; let ws : Words := []; let m := s.cmdMid c; let w := c.wall.toNat; let w2 : Wall := 0;
    let slots := (s.wall w2.val).kiln.slots; let i : Nat := 127; let n : Nat := 127; let d : Words := List.replicate 96 5;
    let rest : List (Nat × Nat × Words) := []; let waits : Prop := (s.inTest w2.val (libOffset i n / 4194304) = true ∨
          Option.any (fun r => decide (r.req.slot = BitVec.ofNat 7 n)) (s.tile w2.val i).refill = true);
      (CmdPasses s c (s.patternImageCmd m c ws)) ∧ (s.inTest w 6 = false) ∧ (OnWall s w2) ∧
      (slots = (i, n, d) :: rest) ∧ (waits)) := by
  refine ⟨?_, ?_, ?_, ?_, ?_⟩ <;> decide +kernel

theorem wit_LongCommandsBegin :
    (let s : State := leased up; let c : CmdCtx := cc 0 [0, 1]; let m := s.cmdMid c; let a := cmdArg c 0;
    let w := c.wall.toNat; let free : Prop := s.holds (claimCap w) m = true ∨ s.claimed (claimCap w) = false;
    let held : Prop := 2 ≤ s.fl (R.CAP_STATUS w) F.CAP_STATUS_state;
    let st := ((s.marchRequest w (a % 256) (nbits a 8 2)
            (nbits a 10 2) m).snd); let mine : Prop := s.holds (claimLink w a) m = true;
    let leased : Prop := s.laneLeased w a m = true;
    let legal : Prop := (rateAllowed (s.lkMode w a) (s.fl (R.LK_CTRL w a) F.LK_CTRL_rate) (s.fl (R.LK_RATE w a) F.LK_RATE_mbps) = true ∧
          s.fl (R.LK_CTRL w a) F.LK_CTRL_lpbk ≠ 3); let img : Image := img0;
    let busy : Prop := s.stageBusy = true ∨ ∃ l, l ∈ s.longs ∧ l.op = 48 ∧ l.done = none;
    let r := s.fwActivate a (cmdArg c 1) w (cmdArg c 2);
      (CmdPasses s c (s.captureCmd m c)) ∧ (a % 4 ≠ 3) ∧ (free) ∧ (held ∨ s.isReady w = true) ∧
      (CmdPasses s c (s.marchCmd m c)) ∧ (st = 0) ∧ (CmdPasses s c (s.gddrRetrainCmd m c)) ∧
      (CmdPasses s c (s.linkTrainCmd m c)) ∧ (¬mine) ∧ (¬leased) ∧ (mine ∨ ¬leased ∧ s.claimed (claimLink w a) = false) ∧
      (legal) ∧ (CmdPasses s c (s.fwStageCmd m c img)) ∧ (¬busy) ∧ (CmdPasses s c (s.fwActivateCmd m c)) ∧ (r.snd ≠ 0) ∧
      (a = 0)) ∧
    (let s : State := leased up; let c : CmdCtx := cc 0 [3]; let m := s.cmdMid c; let a := cmdArg c 0;
    let w := c.wall.toNat; let st := ((s.marchRequest w (a % 256) (nbits a 8 2)
            (nbits a 10 2) m).snd); let mine : Prop := s.holds (claimLink w a) m = true;
    let leased : Prop := s.laneLeased w a m = true;
    let legal : Prop := (rateAllowed (s.lkMode w a) (s.fl (R.LK_CTRL w a) F.LK_CTRL_rate) (s.fl (R.LK_RATE w a) F.LK_RATE_mbps) = true ∧
          s.fl (R.LK_CTRL w a) F.LK_CTRL_lpbk ≠ 3); let img : Image := img0;
    let busy : Prop := s.stageBusy = true ∨ ∃ l, l ∈ s.longs ∧ l.op = 48 ∧ l.done = none;
    let r := s.fwActivate a (cmdArg c 1) w (cmdArg c 2);
      (CmdPasses s c (s.captureCmd m c)) ∧ (a % 4 = 3) ∧ (CmdPasses s c (s.marchCmd m c)) ∧ (st = 0) ∧
      (CmdPasses s c (s.linkTrainCmd m c)) ∧ (¬mine) ∧ (¬leased) ∧ (mine ∨ ¬leased ∧ s.claimed (claimLink w a) = false) ∧
      (legal) ∧ (CmdPasses s c (s.fwStageCmd m c img)) ∧ (¬busy) ∧ (CmdPasses s c (s.fwActivateCmd m c)) ∧ (r.snd ≠ 0)) ∧
    (let s : State := (leased up).setFl (claimCap 0) F.CLAIM_held 1 |>.setFl (claimCap 0) F.CLAIM_holder 3;
    let c : CmdCtx := cc 0 [0, 1]; let m := s.cmdMid c; let a := cmdArg c 0; let w := c.wall.toNat;
    let free : Prop := s.holds (claimCap w) m = true ∨ s.claimed (claimCap w) = false;
    let st := ((s.marchRequest w (a % 256) (nbits a 8 2)
            (nbits a 10 2) m).snd); let mine : Prop := s.holds (claimLink w a) m = true;
    let leased : Prop := s.laneLeased w a m = true;
    let legal : Prop := (rateAllowed (s.lkMode w a) (s.fl (R.LK_CTRL w a) F.LK_CTRL_rate) (s.fl (R.LK_RATE w a) F.LK_RATE_mbps) = true ∧
          s.fl (R.LK_CTRL w a) F.LK_CTRL_lpbk ≠ 3); let img : Image := img0;
    let busy : Prop := s.stageBusy = true ∨ ∃ l, l ∈ s.longs ∧ l.op = 48 ∧ l.done = none;
    let r := s.fwActivate a (cmdArg c 1) w (cmdArg c 2);
      (CmdPasses s c (s.captureCmd m c)) ∧ (a % 4 ≠ 3) ∧ (¬free) ∧ (CmdPasses s c (s.marchCmd m c)) ∧ (st = 0) ∧
      (CmdPasses s c (s.gddrRetrainCmd m c)) ∧ (CmdPasses s c (s.linkTrainCmd m c)) ∧ (¬mine) ∧ (¬leased) ∧
      (mine ∨ ¬leased ∧ s.claimed (claimLink w a) = false) ∧ (legal) ∧ (CmdPasses s c (s.fwStageCmd m c img)) ∧ (¬busy) ∧
      (CmdPasses s c (s.fwActivateCmd m c)) ∧ (r.snd ≠ 0) ∧ (a = 0)) ∧
    (let s : State := leased (sCap 2); let c : CmdCtx := cc 0 [0, 1]; let m := s.cmdMid c; let a := cmdArg c 0;
    let w := c.wall.toNat; let free : Prop := s.holds (claimCap w) m = true ∨ s.claimed (claimCap w) = false;
    let held : Prop := 2 ≤ s.fl (R.CAP_STATUS w) F.CAP_STATUS_state;
    let st := ((s.marchRequest w (a % 256) (nbits a 8 2)
            (nbits a 10 2) m).snd); let mine : Prop := s.holds (claimLink w a) m = true;
    let leased : Prop := s.laneLeased w a m = true;
    let legal : Prop := (rateAllowed (s.lkMode w a) (s.fl (R.LK_CTRL w a) F.LK_CTRL_rate) (s.fl (R.LK_RATE w a) F.LK_RATE_mbps) = true ∧
          s.fl (R.LK_CTRL w a) F.LK_CTRL_lpbk ≠ 3); let img : Image := img0;
    let busy : Prop := s.stageBusy = true ∨ ∃ l, l ∈ s.longs ∧ l.op = 48 ∧ l.done = none;
    let r := s.fwActivate a (cmdArg c 1) w (cmdArg c 2);
      (CmdPasses s c (s.captureCmd m c)) ∧ (a % 4 ≠ 3) ∧ (free) ∧ (held ∨ s.isReady w = true) ∧
      (CmdPasses s c (s.marchCmd m c)) ∧ (st = 0) ∧ (CmdPasses s c (s.gddrRetrainCmd m c)) ∧
      (CmdPasses s c (s.linkTrainCmd m c)) ∧ (¬mine) ∧ (¬leased) ∧ (mine ∨ ¬leased ∧ s.claimed (claimLink w a) = false) ∧
      (legal) ∧ (CmdPasses s c (s.fwStageCmd m c img)) ∧ (¬busy) ∧ (CmdPasses s c (s.fwActivateCmd m c)) ∧ (r.snd ≠ 0) ∧
      (a = 0)) ∧
    (let s : State := up; let c : CmdCtx := cc 0 [0x23F]; let m := s.cmdMid c; let w := c.wall.toNat;
    let a := cmdArg c 0; let st := ((s.marchRequest w (a % 256) (nbits a 8 2)
            (nbits a 10 2) m).snd); let img : Image := img0;
    let busy : Prop := s.stageBusy = true ∨ ∃ l, l ∈ s.longs ∧ l.op = 48 ∧ l.done = none;
      (CmdPasses s c (s.marchCmd m c)) ∧ (st = 0) ∧ (CmdPasses s c (s.fwStageCmd m c img)) ∧ (¬busy)) ∧
    (let s : State := up; let c : CmdCtx := cc 0 [0x3FF]; let m := s.cmdMid c; let w := c.wall.toNat;
    let a := cmdArg c 0; let st := ((s.marchRequest w (a % 256) (nbits a 8 2)
            (nbits a 10 2) m).snd); let img : Image := img0;
    let busy : Prop := s.stageBusy = true ∨ ∃ l, l ∈ s.longs ∧ l.op = 48 ∧ l.done = none;
      (CmdPasses s c (s.marchCmd m c)) ∧ (st ≠ 0) ∧ (CmdPasses s c (s.fwStageCmd m c img)) ∧ (¬busy)) ∧
    (let s : State := up; let c : CmdCtx := cc 0 [1]; let m := s.cmdMid c; let a := cmdArg c 0; let w := c.wall.toNat;
    let free : Prop := s.holds (claimCap w) m = true ∨ s.claimed (claimCap w) = false;
    let held : Prop := 2 ≤ s.fl (R.CAP_STATUS w) F.CAP_STATUS_state;
    let st := ((s.marchRequest w (a % 256) (nbits a 8 2)
            (nbits a 10 2) m).snd); let mine : Prop := s.holds (claimLink w a) m = true;
    let leased : Prop := s.laneLeased w a m = true;
    let legal : Prop := (rateAllowed (s.lkMode w a) (s.fl (R.LK_CTRL w a) F.LK_CTRL_rate) (s.fl (R.LK_RATE w a) F.LK_RATE_mbps) = true ∧
          s.fl (R.LK_CTRL w a) F.LK_CTRL_lpbk ≠ 3); let img : Image := img0;
    let busy : Prop := s.stageBusy = true ∨ ∃ l, l ∈ s.longs ∧ l.op = 48 ∧ l.done = none;
    let r := s.fwActivate a (cmdArg c 1) w (cmdArg c 2);
      (CmdPasses s c (s.captureCmd m c)) ∧ (a % 4 ≠ 3) ∧ (free) ∧ (held ∨ s.isReady w = true) ∧
      (CmdPasses s c (s.marchCmd m c)) ∧ (st = 0) ∧ (CmdPasses s c (s.gddrRetrainCmd m c)) ∧
      (CmdPasses s c (s.linkTrainCmd m c)) ∧ (¬mine) ∧ (¬leased) ∧ (mine ∨ ¬leased ∧ s.claimed (claimLink w a) = false) ∧
      (legal) ∧ (CmdPasses s c (s.fwStageCmd m c img)) ∧ (¬busy) ∧ (CmdPasses s c (s.fwActivateCmd m c)) ∧ (r.snd ≠ 0)) ∧
    (let s : State := sLk (lkV 1 5 0) 0 {}; let c : CmdCtx := cc 0 [15]; let m := s.cmdMid c; let a := cmdArg c 0;
    let w := c.wall.toNat; let st := ((s.marchRequest w (a % 256) (nbits a 8 2)
            (nbits a 10 2) m).snd); let mine : Prop := s.holds (claimLink w a) m = true;
    let leased : Prop := s.laneLeased w a m = true;
    let legal : Prop := (rateAllowed (s.lkMode w a) (s.fl (R.LK_CTRL w a) F.LK_CTRL_rate) (s.fl (R.LK_RATE w a) F.LK_RATE_mbps) = true ∧
          s.fl (R.LK_CTRL w a) F.LK_CTRL_lpbk ≠ 3); let img : Image := img0;
    let busy : Prop := s.stageBusy = true ∨ ∃ l, l ∈ s.longs ∧ l.op = 48 ∧ l.done = none;
      (CmdPasses s c (s.captureCmd m c)) ∧ (a % 4 = 3) ∧ (CmdPasses s c (s.marchCmd m c)) ∧ (st = 0) ∧
      (CmdPasses s c (s.linkTrainCmd m c)) ∧ (mine ∨ ¬leased ∧ s.claimed (claimLink w a) = false) ∧ (legal) ∧
      (CmdPasses s c (s.fwStageCmd m c img)) ∧ (¬busy)) ∧
    (let s : State := (sLk (lkV 1 5 0) 0 {}).setFl (claimLink 0 15) F.CLAIM_holder 3; let c : CmdCtx := cc 0 [15];
    let m := s.cmdMid c; let a := cmdArg c 0; let w := c.wall.toNat;
    let st := ((s.marchRequest w (a % 256) (nbits a 8 2)
            (nbits a 10 2) m).snd); let mine : Prop := s.holds (claimLink w a) m = true;
    let leased : Prop := s.laneLeased w a m = true; let img : Image := img0;
    let busy : Prop := s.stageBusy = true ∨ ∃ l, l ∈ s.longs ∧ l.op = 48 ∧ l.done = none;
      (CmdPasses s c (s.captureCmd m c)) ∧ (a % 4 = 3) ∧ (CmdPasses s c (s.marchCmd m c)) ∧ (st = 0) ∧
      (CmdPasses s c (s.linkTrainCmd m c)) ∧ (¬mine) ∧ (¬leased) ∧ (s.claimed (claimLink w a) = true) ∧
      (CmdPasses s c (s.fwStageCmd m c img)) ∧ (¬busy)) ∧
    (let s : State := (up.wr (R.LS_LINKS 0 0) 0xFFFFFFFF |>.setFl (R.LS_CTRL 0 0) F.LS_CTRL_valid 1 |>.setFl (R.LS_CTRL 0 0) F.LS_CTRL_holder 3);
    let c : CmdCtx := cc 0 [15]; let m := s.cmdMid c; let a := cmdArg c 0; let w := c.wall.toNat;
    let st := ((s.marchRequest w (a % 256) (nbits a 8 2)
            (nbits a 10 2) m).snd); let mine : Prop := s.holds (claimLink w a) m = true;
    let leased : Prop := s.laneLeased w a m = true; let img : Image := img0;
    let busy : Prop := s.stageBusy = true ∨ ∃ l, l ∈ s.longs ∧ l.op = 48 ∧ l.done = none;
      (CmdPasses s c (s.captureCmd m c)) ∧ (a % 4 = 3) ∧ (CmdPasses s c (s.marchCmd m c)) ∧ (st = 0) ∧
      (CmdPasses s c (s.linkTrainCmd m c)) ∧ (¬mine) ∧ (leased) ∧ (CmdPasses s c (s.fwStageCmd m c img)) ∧ (¬busy)) ∧
    (let s : State := sLk (lkV 5 0 0) 0 {}; let c : CmdCtx := cc 0 [15]; let m := s.cmdMid c; let a := cmdArg c 0;
    let w := c.wall.toNat; let st := ((s.marchRequest w (a % 256) (nbits a 8 2)
            (nbits a 10 2) m).snd); let mine : Prop := s.holds (claimLink w a) m = true;
    let leased : Prop := s.laneLeased w a m = true;
    let legal : Prop := (rateAllowed (s.lkMode w a) (s.fl (R.LK_CTRL w a) F.LK_CTRL_rate) (s.fl (R.LK_RATE w a) F.LK_RATE_mbps) = true ∧
          s.fl (R.LK_CTRL w a) F.LK_CTRL_lpbk ≠ 3); let img : Image := img0;
    let busy : Prop := s.stageBusy = true ∨ ∃ l, l ∈ s.longs ∧ l.op = 48 ∧ l.done = none;
      (CmdPasses s c (s.captureCmd m c)) ∧ (a % 4 = 3) ∧ (CmdPasses s c (s.marchCmd m c)) ∧ (st = 0) ∧
      (CmdPasses s c (s.linkTrainCmd m c)) ∧ (mine ∨ ¬leased ∧ s.claimed (claimLink w a) = false) ∧ (¬legal) ∧
      (CmdPasses s c (s.fwStageCmd m c img)) ∧ (¬busy)) ∧
    (let s : State := sLk (lkV 1 5 1) 3 {}; let c : CmdCtx := cc 0 [15]; let m := s.cmdMid c; let a := cmdArg c 0;
    let w := c.wall.toNat; let st := ((s.marchRequest w (a % 256) (nbits a 8 2)
            (nbits a 10 2) m).snd); let mine : Prop := s.holds (claimLink w a) m = true;
    let leased : Prop := s.laneLeased w a m = true;
    let legal : Prop := (rateAllowed (s.lkMode w a) (s.fl (R.LK_CTRL w a) F.LK_CTRL_rate) (s.fl (R.LK_RATE w a) F.LK_RATE_mbps) = true ∧
          s.fl (R.LK_CTRL w a) F.LK_CTRL_lpbk ≠ 3); let img : Image := img0;
    let busy : Prop := s.stageBusy = true ∨ ∃ l, l ∈ s.longs ∧ l.op = 48 ∧ l.done = none;
      (CmdPasses s c (s.captureCmd m c)) ∧ (a % 4 = 3) ∧ (CmdPasses s c (s.marchCmd m c)) ∧ (st = 0) ∧
      (CmdPasses s c (s.linkTrainCmd m c)) ∧ (mine ∨ ¬leased ∧ s.claimed (claimLink w a) = false) ∧ (legal) ∧
      (CmdPasses s c (s.fwStageCmd m c img)) ∧ (¬busy)) ∧
    (let s : State := up; let c : CmdCtx := cc 0 []; let m := s.cmdMid c; let a := cmdArg c 0; let w := c.wall.toNat;
    let free : Prop := s.holds (claimCap w) m = true ∨ s.claimed (claimCap w) = false;
    let held : Prop := 2 ≤ s.fl (R.CAP_STATUS w) F.CAP_STATUS_state;
    let st := ((s.marchRequest w (a % 256) (nbits a 8 2)
            (nbits a 10 2) m).snd); let mine : Prop := s.holds (claimLink w a) m = true;
    let leased : Prop := s.laneLeased w a m = true;
    let legal : Prop := (rateAllowed (s.lkMode w a) (s.fl (R.LK_CTRL w a) F.LK_CTRL_rate) (s.fl (R.LK_RATE w a) F.LK_RATE_mbps) = true ∧
          s.fl (R.LK_CTRL w a) F.LK_CTRL_lpbk ≠ 3); let img : Image := img0;
    let busy : Prop := s.stageBusy = true ∨ ∃ l, l ∈ s.longs ∧ l.op = 48 ∧ l.done = none;
    let r := s.fwActivate a (cmdArg c 1) w (cmdArg c 2);
      (CmdPasses s c (s.captureCmd m c)) ∧ (a % 4 ≠ 3) ∧ (free) ∧ (held ∨ s.isReady w = true) ∧
      (CmdPasses s c (s.marchCmd m c)) ∧ (st = 0) ∧ (CmdPasses s c (s.gddrRetrainCmd m c)) ∧
      (CmdPasses s c (s.linkTrainCmd m c)) ∧ (¬mine) ∧ (¬leased) ∧ (mine ∨ ¬leased ∧ s.claimed (claimLink w a) = false) ∧
      (legal) ∧ (CmdPasses s c (s.fwStageCmd m c img)) ∧ (¬busy) ∧ (CmdPasses s c (s.fwActivateCmd m c)) ∧ (r.snd ≠ 0) ∧
      (a = 0)) ∧
    (let s : State := { up with longs := [{ lr with op := 48 }] }; let c : CmdCtx := cc 0 []; let m := s.cmdMid c;
    let a := cmdArg c 0; let w := c.wall.toNat;
    let free : Prop := s.holds (claimCap w) m = true ∨ s.claimed (claimCap w) = false;
    let held : Prop := 2 ≤ s.fl (R.CAP_STATUS w) F.CAP_STATUS_state;
    let st := ((s.marchRequest w (a % 256) (nbits a 8 2)
            (nbits a 10 2) m).snd); let mine : Prop := s.holds (claimLink w a) m = true;
    let leased : Prop := s.laneLeased w a m = true;
    let legal : Prop := (rateAllowed (s.lkMode w a) (s.fl (R.LK_CTRL w a) F.LK_CTRL_rate) (s.fl (R.LK_RATE w a) F.LK_RATE_mbps) = true ∧
          s.fl (R.LK_CTRL w a) F.LK_CTRL_lpbk ≠ 3); let img : Image := img0;
    let busy : Prop := s.stageBusy = true ∨ ∃ l, l ∈ s.longs ∧ l.op = 48 ∧ l.done = none;
    let r := s.fwActivate a (cmdArg c 1) w (cmdArg c 2);
      (CmdPasses s c (s.captureCmd m c)) ∧ (a % 4 ≠ 3) ∧ (free) ∧ (held ∨ s.isReady w = true) ∧
      (CmdPasses s c (s.marchCmd m c)) ∧ (st = 0) ∧ (CmdPasses s c (s.gddrRetrainCmd m c)) ∧
      (CmdPasses s c (s.linkTrainCmd m c)) ∧ (¬mine) ∧ (¬leased) ∧ (mine ∨ ¬leased ∧ s.claimed (claimLink w a) = false) ∧
      (legal) ∧ (CmdPasses s c (s.fwStageCmd m c img)) ∧ (busy) ∧ (CmdPasses s c (s.fwActivateCmd m c)) ∧ (r.snd ≠ 0) ∧
      (a = 0)) ∧
    (let s : State := sStaged; let c : CmdCtx := cc 0 []; let m := s.cmdMid c; let a := cmdArg c 0;
    let w := c.wall.toNat; let free : Prop := s.holds (claimCap w) m = true ∨ s.claimed (claimCap w) = false;
    let held : Prop := 2 ≤ s.fl (R.CAP_STATUS w) F.CAP_STATUS_state;
    let st := ((s.marchRequest w (a % 256) (nbits a 8 2)
            (nbits a 10 2) m).snd); let mine : Prop := s.holds (claimLink w a) m = true;
    let leased : Prop := s.laneLeased w a m = true;
    let legal : Prop := (rateAllowed (s.lkMode w a) (s.fl (R.LK_CTRL w a) F.LK_CTRL_rate) (s.fl (R.LK_RATE w a) F.LK_RATE_mbps) = true ∧
          s.fl (R.LK_CTRL w a) F.LK_CTRL_lpbk ≠ 3); let img : Image := img0;
    let busy : Prop := s.stageBusy = true ∨ ∃ l, l ∈ s.longs ∧ l.op = 48 ∧ l.done = none;
    let r := s.fwActivate a (cmdArg c 1) w (cmdArg c 2);
      (CmdPasses s c (s.captureCmd m c)) ∧ (a % 4 ≠ 3) ∧ (free) ∧ (held ∨ s.isReady w = true) ∧
      (CmdPasses s c (s.marchCmd m c)) ∧ (st = 0) ∧ (CmdPasses s c (s.gddrRetrainCmd m c)) ∧
      (CmdPasses s c (s.linkTrainCmd m c)) ∧ (¬mine) ∧ (¬leased) ∧ (mine ∨ ¬leased ∧ s.claimed (claimLink w a) = false) ∧
      (legal) ∧ (CmdPasses s c (s.fwStageCmd m c img)) ∧ (¬busy) ∧ (CmdPasses s c (s.fwActivateCmd m c)) ∧ (r.snd = 0) ∧
      (a = 0) ∧ (s.trowel.slotIn 2 ≠ none) ∧ (s.trowel.act = none)) ∧
    (let s : State := up; let c : CmdCtx := cc 0 [0]; let m := s.cmdMid c; let a := cmdArg c 0; let w := c.wall.toNat;
    let free : Prop := s.holds (claimCap w) m = true ∨ s.claimed (claimCap w) = false;
    let held : Prop := 2 ≤ s.fl (R.CAP_STATUS w) F.CAP_STATUS_state;
    let st := ((s.marchRequest w (a % 256) (nbits a 8 2)
            (nbits a 10 2) m).snd); let mine : Prop := s.holds (claimLink w a) m = true;
    let leased : Prop := s.laneLeased w a m = true;
    let legal : Prop := (rateAllowed (s.lkMode w a) (s.fl (R.LK_CTRL w a) F.LK_CTRL_rate) (s.fl (R.LK_RATE w a) F.LK_RATE_mbps) = true ∧
          s.fl (R.LK_CTRL w a) F.LK_CTRL_lpbk ≠ 3); let img : Image := img0;
    let busy : Prop := s.stageBusy = true ∨ ∃ l, l ∈ s.longs ∧ l.op = 48 ∧ l.done = none;
    let r := s.fwActivate a (cmdArg c 1) w (cmdArg c 2);
      (CmdPasses s c (s.captureCmd m c)) ∧ (a % 4 ≠ 3) ∧ (free) ∧ (held ∨ s.isReady w = true) ∧
      (CmdPasses s c (s.marchCmd m c)) ∧ (st = 0) ∧ (CmdPasses s c (s.gddrRetrainCmd m c)) ∧
      (CmdPasses s c (s.linkTrainCmd m c)) ∧ (¬mine) ∧ (¬leased) ∧ (mine ∨ ¬leased ∧ s.claimed (claimLink w a) = false) ∧
      (legal) ∧ (CmdPasses s c (s.fwStageCmd m c img)) ∧ (¬busy) ∧ (CmdPasses s c (s.fwActivateCmd m c)) ∧ (r.snd ≠ 0) ∧
      (a = 0)) := by
  refine ⟨?_, ?_, ?_, ?_, ?_, ?_, ?_, ?_, ?_, ?_, ?_, ?_, ?_, ?_, ?_, ?_⟩ <;> decide +kernel

theorem wit_EntriesAreFetchedAndFinished :
    (let s : State := sFetch; let q : Fin 64 := 0; let q3 : Fin 64 := 0;
    let may : Prop := s.fetchesNext q3.val = true ∧ (s.queue q3.val).fenced = none; let h : Word := 5;
      ((s.queue q.val).fenced = none) ∧ (s.fetchesNext q.val = true) ∧ (may) ∧
      (List.find? (fun l => decide (l.ctx.handle = h)) s.longs = none)) ∧
    (let s : State := sFetch; let q : Fin 64 := 1; let q3 : Fin 64 := 1;
    let may : Prop := s.fetchesNext q3.val = true ∧ (s.queue q3.val).fenced = none; let h : Word := 5;
      ((s.queue q.val).fenced = none) ∧ (s.fetchesNext q.val = false) ∧ (¬may) ∧
      (List.find? (fun l => decide (l.ctx.handle = h)) s.longs = none)) ∧
    (let s : State := { sFetch with longs := [{ lr with ctx := { lr.ctx with q := 0 } }] }; let q : Fin 64 := 0;
    let q3 : Fin 64 := 0; let may : Prop := s.fetchesNext q3.val = true ∧ (s.queue q3.val).fenced = none;
    let h2 : Word := 5; let l : LongCmd := lr;
      ((s.queue q.val).fenced = none) ∧ (s.fetchesNext q.val = true) ∧ (may) ∧
      (List.find? (fun l => decide (l.ctx.handle = h2)) s.longs = some l) ∧ ((s.longResult l).snd ≠ none) ∧
      ((s.queue l.ctx.q.val).fenced = none)) ∧
    (let s : State := sFenced; let q2 : Fin 64 := 0; let f : CmdCtx × Nat × Bytes := fen;
    let runs : Prop := s.powered = true ∧ s.trowel.running = true ∧ s.service.safe = false ∧ s.unfinished q2.val = false;
    let q3 : Fin 64 := 0; let may : Prop := s.fetchesNext q3.val = true ∧ (s.queue q3.val).fenced = none;
    let h : Word := 5;
      ((s.queue q2.val).fenced = some f) ∧ (runs) ∧ (¬may) ∧
      (List.find? (fun l => decide (l.ctx.handle = h)) s.longs = none)) ∧
    (let s : State := { sFenced with longs := [lr] }; let q2 : Fin 64 := 0; let f : CmdCtx × Nat × Bytes := fen;
    let runs : Prop := s.powered = true ∧ s.trowel.running = true ∧ s.service.safe = false ∧ s.unfinished q2.val = false;
    let q3 : Fin 64 := 0; let may : Prop := s.fetchesNext q3.val = true ∧ (s.queue q3.val).fenced = none;
    let h2 : Word := 5; let l : LongCmd := lr;
      ((s.queue q2.val).fenced = some f) ∧ (¬runs) ∧ (¬may) ∧
      (List.find? (fun l => decide (l.ctx.handle = h2)) s.longs = some l) ∧ ((s.longResult l).snd ≠ none)) ∧
    (let s : State := sLong { lr with op := 16 }; let q : Fin 64 := 0; let q3 : Fin 64 := 0;
    let may : Prop := s.fetchesNext q3.val = true ∧ (s.queue q3.val).fenced = none; let h2 : Word := 5;
    let l : LongCmd := { lr with op := 16 };
      ((s.queue q.val).fenced = none) ∧ (s.fetchesNext q.val = false) ∧ (¬may) ∧
      (List.find? (fun l => decide (l.ctx.handle = h2)) s.longs = some l) ∧ ((s.longResult l).snd = none)) ∧
    (let s : State := entriesAre1; let q : Fin 64 := 0; let q3 : Fin 64 := 0;
    let may : Prop := s.fetchesNext q3.val = true ∧ (s.queue q3.val).fenced = none; let h2 : Word := 5;
    let l : LongCmd := entriesAre2; let r : Nat × Word × Word := (0, 1, 2);
      ((s.queue q.val).fenced = none) ∧ (s.fetchesNext q.val = false) ∧ (¬may) ∧
      (List.find? (fun l => decide (l.ctx.handle = h2)) s.longs = some l) ∧ ((s.longResult l).snd ≠ none) ∧
      ((s.queue l.ctx.q.val).fenced = none) ∧ (l.done = some r) ∧ (s.longs = [l]) ∧ (l.console = false) ∧
      (l.claim = none) ∧ (l.op ≠ 32)) := by
  refine ⟨?_, ?_, ?_, ?_, ?_, ?_, ?_⟩ <;> decide +kernel

theorem wit_SelfTestsBegin :
    (let s : State := sLk 0 0 {}; let c : CmdCtx := cc 0 [0, 15]; let i : Instr := .selfTestBrickBist (cc 0 [0, 15]);
    let num : Nat := 1; let m := s.cmdMid c;
    let status : Nat → Nat := fun num => cmdStatus s (withArg c num) (s.selfTestCmd num m (withArg c num) false);
    let cond : Nat → Nat := fun num => s.testCheck num m (withArg c num);
    let lane : Nat → Except Nat (State × Option Nat) := fun num => s.laneClaim m c.wall.toNat (cmdArg (withArg c num) 1);
      (s.powered = true) ∧ ((i, num) ∈
  [(Instr.selfTestBrickBist c, 1), (Instr.selfTestMortarSpine c, 2),
    (Instr.selfTestTmemMarch c, 3), (Instr.selfTestSramMarch c, 4),
    (Instr.selfTestGddrPattern c, 5), (Instr.selfTestBondRoute c, 8),
    (Instr.selfTestAngleReference c, 9), (Instr.selfTestCxlLoopback c, 10),
    (Instr.selfTestRegulatorCheck c, 11)]) ∧ (status num = 0) ∧ (cond num = 0) ∧ (status 6 = 0) ∧ (cond 6 = 0) ∧
      (status 7 = 0) ∧ (cmdArg (withArg c 7) 1 < 16) ∧
      (s.fl (R.LK_CTRL c.wall.toNat (cmdArg (withArg c 7) 1)) F.LK_CTRL_en =
  0) ∧ ((lane 7).isOk = true)) ∧
    (let s : State := small; let c : CmdCtx := cc 7 [0, 15]; let i : Instr := .selfTestBrickBist (cc 7 [0, 15]);
    let num : Nat := 1; let m := s.cmdMid c;
    let status : Nat → Nat := fun num => cmdStatus s (withArg c num) (s.selfTestCmd num m (withArg c num) false);
      (s.powered = true) ∧ ((i, num) ∈
  [(Instr.selfTestBrickBist c, 1), (Instr.selfTestMortarSpine c, 2),
    (Instr.selfTestTmemMarch c, 3), (Instr.selfTestSramMarch c, 4),
    (Instr.selfTestGddrPattern c, 5), (Instr.selfTestBondRoute c, 8),
    (Instr.selfTestAngleReference c, 9), (Instr.selfTestCxlLoopback c, 10),
    (Instr.selfTestRegulatorCheck c, 11)]) ∧ (status num ≠ 0) ∧ (status 6 ≠ 0) ∧ (status 7 ≠ 0)) ∧
    (let s : State := (sLk 0 0 {}).setFl (claimLink 0 15) F.CLAIM_holder 3; let c : CmdCtx := cc 0 [0, 15];
    let i : Instr := .selfTestBrickBist (cc 0 [0, 15]); let num : Nat := 1; let m := s.cmdMid c;
    let status : Nat → Nat := fun num => cmdStatus s (withArg c num) (s.selfTestCmd num m (withArg c num) false);
    let cond : Nat → Nat := fun num => s.testCheck num m (withArg c num);
      (s.powered = true) ∧ ((i, num) ∈
  [(Instr.selfTestBrickBist c, 1), (Instr.selfTestMortarSpine c, 2),
    (Instr.selfTestTmemMarch c, 3), (Instr.selfTestSramMarch c, 4),
    (Instr.selfTestGddrPattern c, 5), (Instr.selfTestBondRoute c, 8),
    (Instr.selfTestAngleReference c, 9), (Instr.selfTestCxlLoopback c, 10),
    (Instr.selfTestRegulatorCheck c, 11)]) ∧ (status num = 0) ∧ (cond num = 0) ∧ (status 6 = 0) ∧ (cond 6 = 0) ∧
      (status 7 = 0) ∧ (cmdArg (withArg c 7) 1 < 16) ∧
      (s.fl (R.LK_CTRL c.wall.toNat (cmdArg (withArg c 7) 1)) F.LK_CTRL_en =
  0)) ∧
    (let s : State := up; let c : CmdCtx := cc 0 [0, 127]; let i : Instr := .selfTestBrickBist (cc 0 [0, 127]);
    let num : Nat := 1; let m := s.cmdMid c;
    let status : Nat → Nat := fun num => cmdStatus s (withArg c num) (s.selfTestCmd num m (withArg c num) false);
    let cond : Nat → Nat := fun num => s.testCheck num m (withArg c num);
      (s.powered = true) ∧ ((i, num) ∈
  [(Instr.selfTestBrickBist c, 1), (Instr.selfTestMortarSpine c, 2),
    (Instr.selfTestTmemMarch c, 3), (Instr.selfTestSramMarch c, 4),
    (Instr.selfTestGddrPattern c, 5), (Instr.selfTestBondRoute c, 8),
    (Instr.selfTestAngleReference c, 9), (Instr.selfTestCxlLoopback c, 10),
    (Instr.selfTestRegulatorCheck c, 11)]) ∧ (status num = 0) ∧ (cond num = 0) ∧ (status 6 = 0) ∧ (cond 6 ≠ 0) ∧
      (status 7 = 0)) ∧
    (let s : State := up; let c : CmdCtx := cc 0 [0, 127]; let i : Instr := .selfTestMortarSpine (cc 0 [0, 127]);
    let num : Nat := 2; let m := s.cmdMid c;
    let status : Nat → Nat := fun num => cmdStatus s (withArg c num) (s.selfTestCmd num m (withArg c num) false);
    let cond : Nat → Nat := fun num => s.testCheck num m (withArg c num);
      (s.powered = true) ∧ ((i, num) ∈
  [(Instr.selfTestBrickBist c, 1), (Instr.selfTestMortarSpine c, 2),
    (Instr.selfTestTmemMarch c, 3), (Instr.selfTestSramMarch c, 4),
    (Instr.selfTestGddrPattern c, 5), (Instr.selfTestBondRoute c, 8),
    (Instr.selfTestAngleReference c, 9), (Instr.selfTestCxlLoopback c, 10),
    (Instr.selfTestRegulatorCheck c, 11)]) ∧ (status num = 0) ∧ (cond num ≠ 0) ∧ (status 6 = 0) ∧ (cond 6 ≠ 0) ∧
      (status 7 = 0)) ∧
    (let s : State := up; let c : CmdCtx := cc 0 [0, 127]; let i : Instr := .selfTestTmemMarch (cc 0 [0, 127]);
    let num : Nat := 3; let m := s.cmdMid c;
    let status : Nat → Nat := fun num => cmdStatus s (withArg c num) (s.selfTestCmd num m (withArg c num) false);
    let cond : Nat → Nat := fun num => s.testCheck num m (withArg c num);
      (s.powered = true) ∧ ((i, num) ∈
  [(Instr.selfTestBrickBist c, 1), (Instr.selfTestMortarSpine c, 2),
    (Instr.selfTestTmemMarch c, 3), (Instr.selfTestSramMarch c, 4),
    (Instr.selfTestGddrPattern c, 5), (Instr.selfTestBondRoute c, 8),
    (Instr.selfTestAngleReference c, 9), (Instr.selfTestCxlLoopback c, 10),
    (Instr.selfTestRegulatorCheck c, 11)]) ∧ (status num = 0) ∧ (cond num = 0) ∧ (status 6 = 0) ∧ (cond 6 ≠ 0) ∧
      (status 7 = 0)) ∧
    (let s : State := sQ; let c : CmdCtx := cc 0 [0, 127]; let i : Instr := .selfTestBrickBist (cc 0 [0, 127]);
    let num : Nat := 1; let m := s.cmdMid c;
    let status : Nat → Nat := fun num => cmdStatus s (withArg c num) (s.selfTestCmd num m (withArg c num) false);
    let cond : Nat → Nat := fun num => s.testCheck num m (withArg c num);
      (s.powered = true) ∧ ((i, num) ∈
  [(Instr.selfTestBrickBist c, 1), (Instr.selfTestMortarSpine c, 2),
    (Instr.selfTestTmemMarch c, 3), (Instr.selfTestSramMarch c, 4),
    (Instr.selfTestGddrPattern c, 5), (Instr.selfTestBondRoute c, 8),
    (Instr.selfTestAngleReference c, 9), (Instr.selfTestCxlLoopback c, 10),
    (Instr.selfTestRegulatorCheck c, 11)]) ∧ (status num = 0) ∧ (cond num = 0) ∧ (status 6 = 0) ∧ (cond 6 ≠ 0) ∧
      (status 7 = 0)) ∧
    (let s : State := sQ; let c : CmdCtx := cc 0 [0, 127]; let i : Instr := .selfTestMortarSpine (cc 0 [0, 127]);
    let num : Nat := 2; let m := s.cmdMid c;
    let status : Nat → Nat := fun num => cmdStatus s (withArg c num) (s.selfTestCmd num m (withArg c num) false);
    let cond : Nat → Nat := fun num => s.testCheck num m (withArg c num);
      (s.powered = true) ∧ ((i, num) ∈
  [(Instr.selfTestBrickBist c, 1), (Instr.selfTestMortarSpine c, 2),
    (Instr.selfTestTmemMarch c, 3), (Instr.selfTestSramMarch c, 4),
    (Instr.selfTestGddrPattern c, 5), (Instr.selfTestBondRoute c, 8),
    (Instr.selfTestAngleReference c, 9), (Instr.selfTestCxlLoopback c, 10),
    (Instr.selfTestRegulatorCheck c, 11)]) ∧ (status num = 0) ∧ (cond num ≠ 0) ∧ (status 6 = 0) ∧ (cond 6 ≠ 0) ∧
      (status 7 = 0)) ∧
    (let s : State := sQ; let c : CmdCtx := cc 0 [0, 127]; let i : Instr := .selfTestTmemMarch (cc 0 [0, 127]);
    let num : Nat := 3; let m := s.cmdMid c;
    let status : Nat → Nat := fun num => cmdStatus s (withArg c num) (s.selfTestCmd num m (withArg c num) false);
    let cond : Nat → Nat := fun num => s.testCheck num m (withArg c num);
      (s.powered = true) ∧ ((i, num) ∈
  [(Instr.selfTestBrickBist c, 1), (Instr.selfTestMortarSpine c, 2),
    (Instr.selfTestTmemMarch c, 3), (Instr.selfTestSramMarch c, 4),
    (Instr.selfTestGddrPattern c, 5), (Instr.selfTestBondRoute c, 8),
    (Instr.selfTestAngleReference c, 9), (Instr.selfTestCxlLoopback c, 10),
    (Instr.selfTestRegulatorCheck c, 11)]) ∧ (status num = 0) ∧ (cond num = 0) ∧ (status 6 = 0) ∧ (cond 6 ≠ 0) ∧
      (status 7 = 0)) ∧
    (let s : State := up; let c : CmdCtx := cc 0 [0, 0]; let i : Instr := .selfTestSramMarch (cc 0 [0, 0]);
    let num : Nat := 4; let m := s.cmdMid c;
    let status : Nat → Nat := fun num => cmdStatus s (withArg c num) (s.selfTestCmd num m (withArg c num) false);
    let cond : Nat → Nat := fun num => s.testCheck num m (withArg c num);
    let lane : Nat → Except Nat (State × Option Nat) := fun num => s.laneClaim m c.wall.toNat (cmdArg (withArg c num) 1);
      (s.powered = true) ∧ ((i, num) ∈
  [(Instr.selfTestBrickBist c, 1), (Instr.selfTestMortarSpine c, 2),
    (Instr.selfTestTmemMarch c, 3), (Instr.selfTestSramMarch c, 4),
    (Instr.selfTestGddrPattern c, 5), (Instr.selfTestBondRoute c, 8),
    (Instr.selfTestAngleReference c, 9), (Instr.selfTestCxlLoopback c, 10),
    (Instr.selfTestRegulatorCheck c, 11)]) ∧ (status num = 0) ∧ (cond num ≠ 0) ∧ (status 6 = 0) ∧ (cond 6 = 0) ∧
      (status 7 = 0) ∧ (cmdArg (withArg c 7) 1 < 16) ∧
      (s.fl (R.LK_CTRL c.wall.toNat (cmdArg (withArg c 7) 1)) F.LK_CTRL_en =
  0) ∧ ((lane 7).isOk = true)) ∧
    (let s : State := up; let c : CmdCtx := cc 0 [0, 0]; let i : Instr := .selfTestGddrPattern (cc 0 [0, 0]);
    let num : Nat := 5; let m := s.cmdMid c;
    let status : Nat → Nat := fun num => cmdStatus s (withArg c num) (s.selfTestCmd num m (withArg c num) false);
    let cond : Nat → Nat := fun num => s.testCheck num m (withArg c num);
    let lane : Nat → Except Nat (State × Option Nat) := fun num => s.laneClaim m c.wall.toNat (cmdArg (withArg c num) 1);
      (s.powered = true) ∧ ((i, num) ∈
  [(Instr.selfTestBrickBist c, 1), (Instr.selfTestMortarSpine c, 2),
    (Instr.selfTestTmemMarch c, 3), (Instr.selfTestSramMarch c, 4),
    (Instr.selfTestGddrPattern c, 5), (Instr.selfTestBondRoute c, 8),
    (Instr.selfTestAngleReference c, 9), (Instr.selfTestCxlLoopback c, 10),
    (Instr.selfTestRegulatorCheck c, 11)]) ∧ (status num = 0) ∧ (cond num ≠ 0) ∧ (status 6 = 0) ∧ (cond 6 = 0) ∧
      (status 7 = 0) ∧ (cmdArg (withArg c 7) 1 < 16) ∧
      (s.fl (R.LK_CTRL c.wall.toNat (cmdArg (withArg c 7) 1)) F.LK_CTRL_en =
  0) ∧ ((lane 7).isOk = true)) ∧
    (let s : State := up; let c : CmdCtx := cc 0 [0, 0]; let i : Instr := .selfTestBondRoute (cc 0 [0, 0]);
    let num : Nat := 8; let m := s.cmdMid c;
    let status : Nat → Nat := fun num => cmdStatus s (withArg c num) (s.selfTestCmd num m (withArg c num) false);
    let cond : Nat → Nat := fun num => s.testCheck num m (withArg c num);
    let lane : Nat → Except Nat (State × Option Nat) := fun num => s.laneClaim m c.wall.toNat (cmdArg (withArg c num) 1);
      (s.powered = true) ∧ ((i, num) ∈
  [(Instr.selfTestBrickBist c, 1), (Instr.selfTestMortarSpine c, 2),
    (Instr.selfTestTmemMarch c, 3), (Instr.selfTestSramMarch c, 4),
    (Instr.selfTestGddrPattern c, 5), (Instr.selfTestBondRoute c, 8),
    (Instr.selfTestAngleReference c, 9), (Instr.selfTestCxlLoopback c, 10),
    (Instr.selfTestRegulatorCheck c, 11)]) ∧ (status num = 0) ∧ (cond num = 0) ∧ (status 6 = 0) ∧ (cond 6 = 0) ∧
      (status 7 = 0) ∧ (cmdArg (withArg c 7) 1 < 16) ∧
      (s.fl (R.LK_CTRL c.wall.toNat (cmdArg (withArg c 7) 1)) F.LK_CTRL_en =
  0) ∧ ((lane 7).isOk = true)) ∧
    (let s : State := up; let c : CmdCtx := cc 0 [0, 0]; let i : Instr := .selfTestAngleReference (cc 0 [0, 0]);
    let num : Nat := 9; let m := s.cmdMid c;
    let status : Nat → Nat := fun num => cmdStatus s (withArg c num) (s.selfTestCmd num m (withArg c num) false);
    let cond : Nat → Nat := fun num => s.testCheck num m (withArg c num);
    let lane : Nat → Except Nat (State × Option Nat) := fun num => s.laneClaim m c.wall.toNat (cmdArg (withArg c num) 1);
      (s.powered = true) ∧ ((i, num) ∈
  [(Instr.selfTestBrickBist c, 1), (Instr.selfTestMortarSpine c, 2),
    (Instr.selfTestTmemMarch c, 3), (Instr.selfTestSramMarch c, 4),
    (Instr.selfTestGddrPattern c, 5), (Instr.selfTestBondRoute c, 8),
    (Instr.selfTestAngleReference c, 9), (Instr.selfTestCxlLoopback c, 10),
    (Instr.selfTestRegulatorCheck c, 11)]) ∧ (status num = 0) ∧ (cond num = 0) ∧ (status 6 = 0) ∧ (cond 6 = 0) ∧
      (status 7 = 0) ∧ (cmdArg (withArg c 7) 1 < 16) ∧
      (s.fl (R.LK_CTRL c.wall.toNat (cmdArg (withArg c 7) 1)) F.LK_CTRL_en =
  0) ∧ ((lane 7).isOk = true)) ∧
    (let s : State := up; let c : CmdCtx := cc 0 [0, 0]; let i : Instr := .selfTestCxlLoopback (cc 0 [0, 0]);
    let num : Nat := 10; let m := s.cmdMid c;
    let status : Nat → Nat := fun num => cmdStatus s (withArg c num) (s.selfTestCmd num m (withArg c num) false);
    let cond : Nat → Nat := fun num => s.testCheck num m (withArg c num);
    let lane : Nat → Except Nat (State × Option Nat) := fun num => s.laneClaim m c.wall.toNat (cmdArg (withArg c num) 1);
      (s.powered = true) ∧ ((i, num) ∈
  [(Instr.selfTestBrickBist c, 1), (Instr.selfTestMortarSpine c, 2),
    (Instr.selfTestTmemMarch c, 3), (Instr.selfTestSramMarch c, 4),
    (Instr.selfTestGddrPattern c, 5), (Instr.selfTestBondRoute c, 8),
    (Instr.selfTestAngleReference c, 9), (Instr.selfTestCxlLoopback c, 10),
    (Instr.selfTestRegulatorCheck c, 11)]) ∧ (status num = 0) ∧ (cond num ≠ 0) ∧ (status 6 = 0) ∧ (cond 6 = 0) ∧
      (status 7 = 0) ∧ (cmdArg (withArg c 7) 1 < 16) ∧
      (s.fl (R.LK_CTRL c.wall.toNat (cmdArg (withArg c 7) 1)) F.LK_CTRL_en =
  0) ∧ ((lane 7).isOk = true)) ∧
    (let s : State := up; let c : CmdCtx := cc 0 [0, 0]; let i : Instr := .selfTestRegulatorCheck (cc 0 [0, 0]);
    let num : Nat := 11; let m := s.cmdMid c;
    let status : Nat → Nat := fun num => cmdStatus s (withArg c num) (s.selfTestCmd num m (withArg c num) false);
    let cond : Nat → Nat := fun num => s.testCheck num m (withArg c num);
    let lane : Nat → Except Nat (State × Option Nat) := fun num => s.laneClaim m c.wall.toNat (cmdArg (withArg c num) 1);
      (s.powered = true) ∧ ((i, num) ∈
  [(Instr.selfTestBrickBist c, 1), (Instr.selfTestMortarSpine c, 2),
    (Instr.selfTestTmemMarch c, 3), (Instr.selfTestSramMarch c, 4),
    (Instr.selfTestGddrPattern c, 5), (Instr.selfTestBondRoute c, 8),
    (Instr.selfTestAngleReference c, 9), (Instr.selfTestCxlLoopback c, 10),
    (Instr.selfTestRegulatorCheck c, 11)]) ∧ (status num = 0) ∧ (cond num = 0) ∧ (status 6 = 0) ∧ (cond 6 = 0) ∧
      (status 7 = 0) ∧ (cmdArg (withArg c 7) 1 < 16) ∧
      (s.fl (R.LK_CTRL c.wall.toNat (cmdArg (withArg c 7) 1)) F.LK_CTRL_en =
  0) ∧ ((lane 7).isOk = true)) := by
  refine ⟨?_, ?_, ?_, ?_, ?_, ?_, ?_, ?_, ?_, ?_, ?_, ?_, ?_, ?_, ?_⟩ <;> decide +kernel

theorem wit_CxlLinkAndResets :
    (let s : State := up; let kind : BitVec 2 := 2;
      (s.powered = true) ∧ (s.service.scanHold = false) ∧ (s.cxl.up = true) ∧ (s.awaiting = []) ∧ (kind ≠ 3)) ∧
    (let s : State := { up with service := { up.service with scanHold := true } }; let kind : BitVec 2 := 3;
      (s.powered = true) ∧ (s.service.scanHold = true) ∧ (s.cxl.up = true) ∧ (s.awaiting = []) ∧ (kind = 3)) ∧
    (let s : State := { sAwait with cxl := {} }; let kind : BitVec 2 := 0;
      (s.powered = true) ∧ (s.service.scanHold = false) ∧ (s.cxl.up = false) ∧ (kind ≠ 3)) ∧
    (let s : State := sAwait; let kind : BitVec 2 := 0;
      (s.powered = true) ∧ (s.service.scanHold = false) ∧ (s.cxl.up = true) ∧ (kind ≠ 3)) ∧
    (let s : State := { sQ with longs := [lr] }; let kind : BitVec 2 := 0;
      (s.powered = true) ∧ (s.service.scanHold = false) ∧ (s.cxl.up = true) ∧ (s.awaiting = []) ∧ (kind ≠ 3)) := by
  refine ⟨?_, ?_, ?_, ?_, ?_⟩ <;> decide +kernel

set_option maxRecDepth 1000000 in
theorem wit_StreamsAreWrittenFrameByFrame :
    (let s : State := sK 1 {}; let w : Wall := 0; let k := s.kiln w.val; let waits : Prop := (s.phase w.val = 1 ∨
          s.phase w.val = 2 ∨ s.phase w.val = 3 ∧ k.zeroed = false); let ws : Words := [];
    let next : Prop := (s.nextRecord w.val ws = true ∧
          flocType (List.getD ws 0 0) ≠ 31);
      (OnWall s w) ∧ (waits) ∧ (¬next)) ∧
    (let s : State := streamsAre1; let w : Wall := 0; let k := s.kiln w.val; let waits : Prop := (s.phase w.val = 1 ∨
          s.phase w.val = 2 ∨ s.phase w.val = 3 ∧ k.zeroed = false); let p : Packet := pK;
    let s1 : State := streamsAre1; let first := nbit (BitVec.toNat p.addr) 0; let bad : Prop := (p.typ ≠ 0 ∨
          32 < BitVec.toNat p.mid ∨
            4 ≤ BitVec.toNat p.addr ∨
              p.count % 4 ≠ 0 ∨ first = k.open_); let last := nbit (BitVec.toNat p.addr) 1;
    let got := k.got ++ wordsOfBytes (List.take p.count p.payload); let cut : Prop := last = true ∧ List.length got < 98;
    let ws : Words := []; let next : Prop := (s.nextRecord w.val ws = true ∧
          flocType (List.getD ws 0 0) ≠ 31);
      (OnWall s w) ∧ (¬waits) ∧ (p.isAnswer = false) ∧ (Reaches s s1 w.val 23 1 p) ∧ (¬bad) ∧
      (s.kilnTakes w.val = true) ∧ (k.header.isSome = true) ∧ (¬cut) ∧ (¬next)) ∧
    (let s : State := streamsAre1; let w : Wall := 0; let k := s.kiln w.val; let waits : Prop := (s.phase w.val = 1 ∨
          s.phase w.val = 2 ∨ s.phase w.val = 3 ∧ k.zeroed = false); let p : Packet := { pK with addr := 3 };
    let s1 : State := streamsAre1; let first := nbit (BitVec.toNat p.addr) 0; let bad : Prop := (p.typ ≠ 0 ∨
          32 < BitVec.toNat p.mid ∨
            4 ≤ BitVec.toNat p.addr ∨
              p.count % 4 ≠ 0 ∨ first = k.open_); let last := nbit (BitVec.toNat p.addr) 1;
    let got := k.got ++ wordsOfBytes (List.take p.count p.payload); let cut : Prop := last = true ∧ List.length got < 98;
    let ws : Words := []; let next : Prop := (s.nextRecord w.val ws = true ∧
          flocType (List.getD ws 0 0) ≠ 31);
      (OnWall s w) ∧ (¬waits) ∧ (p.isAnswer = false) ∧ (Reaches s s1 w.val 23 1 p) ∧ (¬bad) ∧
      (s.kilnTakes w.val = true) ∧ (k.header.isSome = true) ∧ (cut) ∧ (¬next)) ∧
    (let s : State := sK 3 kOpen; let w : Wall := 0; let k := s.kiln w.val; let waits : Prop := (s.phase w.val = 1 ∨
          s.phase w.val = 2 ∨ s.phase w.val = 3 ∧ k.zeroed = false); let p : Packet := { pK with addr := 4 };
    let s1 : State := sK 3 kOpen; let first := nbit (BitVec.toNat p.addr) 0; let bad : Prop := (p.typ ≠ 0 ∨
          32 < BitVec.toNat p.mid ∨
            4 ≤ BitVec.toNat p.addr ∨
              p.count % 4 ≠ 0 ∨ first = k.open_); let ws : Words := [];
    let next : Prop := (s.nextRecord w.val ws = true ∧
          flocType (List.getD ws 0 0) ≠ 31);
      (OnWall s w) ∧ (¬waits) ∧ (p.isAnswer = false) ∧ (Reaches s s1 w.val 23 1 p) ∧ (bad) ∧ (¬next)) ∧
    (let s : State := sK 6 { kOpen with open_ := false }; let w : Wall := 0; let k := s.kiln w.val;
    let waits : Prop := (s.phase w.val = 1 ∨
          s.phase w.val = 2 ∨ s.phase w.val = 3 ∧ k.zeroed = false); let p : Packet := pK;
    let s1 : State := sK 6 { kOpen with open_ := false }; let first := nbit (BitVec.toNat p.addr) 0;
    let bad : Prop := (p.typ ≠ 0 ∨
          32 < BitVec.toNat p.mid ∨
            4 ≤ BitVec.toNat p.addr ∨
              p.count % 4 ≠ 0 ∨ first = k.open_); let ws : Words := [];
    let next : Prop := (s.nextRecord w.val ws = true ∧
          flocType (List.getD ws 0 0) ≠ 31);
      (OnWall s w) ∧ (¬waits) ∧ (p.isAnswer = false) ∧ (Reaches s s1 w.val 23 1 p) ∧ (¬bad) ∧
      (s.kilnTakes w.val = false) ∧ (¬next)) ∧
    (let s : State := sKr (imgRec (frameLoc 1 5 0 0 3) 9); let w : Wall := 0; let k := s.kiln w.val;
    let waits : Prop := (s.phase w.val = 1 ∨
          s.phase w.val = 2 ∨ s.phase w.val = 3 ∧ k.zeroed = false); let ws : Words := imgRec (frameLoc 1 5 0 0 3) 9;
    let next : Prop := (s.nextRecord w.val ws = true ∧
          flocType (List.getD ws 0 0) ≠ 31); let l := List.getD ws 0 0;
    let mine : Prop := flocBcast l = true ∨ flocWall l = w.val ∨ k.bcast = true;
      (OnWall s w) ∧ (¬waits) ∧ (next) ∧ (¬mine)) ∧
    (let s : State := sKr (frameLoc 0 5 0 0 3 :: List.replicate 97 0); let w : Wall := 0; let k := s.kiln w.val;
    let waits : Prop := (s.phase w.val = 1 ∨
          s.phase w.val = 2 ∨ s.phase w.val = 3 ∧ k.zeroed = false);
    let ws : Words := frameLoc 0 5 0 0 3 :: List.replicate 97 0; let next : Prop := (s.nextRecord w.val ws = true ∧
          flocType (List.getD ws 0 0) ≠ 31); let l := List.getD ws 0 0;
    let mine : Prop := flocBcast l = true ∨ flocWall l = w.val ∨ k.bcast = true;
    let good : Prop := recordCrcOk ws = true ∧ frameFieldsOk l = true;
      (OnWall s w) ∧ (¬waits) ∧ (next) ∧ (mine) ∧ (¬good)) ∧
    (let s : State := sKr (imgRec (frameLoc 0 127 3 127 0) 9); let w : Wall := 0; let k := s.kiln w.val;
    let waits : Prop := (s.phase w.val = 1 ∨
          s.phase w.val = 2 ∨ s.phase w.val = 3 ∧ k.zeroed = false);
    let ws : Words := imgRec (frameLoc 0 127 3 127 0) 9; let next : Prop := (s.nextRecord w.val ws = true ∧
          flocType (List.getD ws 0 0) ≠ 31); let l := List.getD ws 0 0;
    let mine : Prop := flocBcast l = true ∨ flocWall l = w.val ∨ k.bcast = true;
    let good : Prop := recordCrcOk ws = true ∧ frameFieldsOk l = true;
      (OnWall s w) ∧ (¬waits) ∧ (next) ∧ (mine) ∧ (good) ∧ (flocType l < 4)) ∧
    (let s : State := sKr (imgRec (frameLoc 0 0 8 0 0) 9); let w : Wall := 0; let k := s.kiln w.val;
    let waits : Prop := (s.phase w.val = 1 ∨
          s.phase w.val = 2 ∨ s.phase w.val = 3 ∧ k.zeroed = false); let ws : Words := imgRec (frameLoc 0 0 8 0 0) 9;
    let next : Prop := (s.nextRecord w.val ws = true ∧
          flocType (List.getD ws 0 0) ≠ 31); let l := List.getD ws 0 0;
    let mine : Prop := flocBcast l = true ∨ flocWall l = w.val ∨ k.bcast = true;
    let good : Prop := recordCrcOk ws = true ∧ frameFieldsOk l = true; let d := List.take 96 (List.drop 1 ws);
    let pairs := (((s.setKiln w.val
                { isLoad := k.isLoad, chainWait := k.chainWait, bcast := k.bcast, open_ := k.open_, master := k.master, got := List.drop 98 k.got, fin := k.fin, header := k.header, records := k.records + 1, zeroed := k.zeroed, ended := k.ended, frames := k.frames, replayMaster := k.replayMaster, startedAt := k.startedAt, pos := k.pos, stepAt := k.stepAt, waitFrom := k.waitFrom, waited := k.waited, timedOut := k.timedOut, result := k.result, slots := k.slots : KilnX }).applyPairs
            (BitVec.toNat k.master) w (flocType l) d).snd);
      (OnWall s w) ∧ (¬waits) ∧ (next) ∧ (mine) ∧ (good) ∧ (4 ≤ flocType l) ∧ (k.frames.length < 668) ∧ (pairs = 0)) ∧
    (let s : State := sKr (imgRec (frameLoc 0 0 8 0 0) 0x80000003); let w : Wall := 0; let k := s.kiln w.val;
    let waits : Prop := (s.phase w.val = 1 ∨
          s.phase w.val = 2 ∨ s.phase w.val = 3 ∧ k.zeroed = false);
    let ws : Words := imgRec (frameLoc 0 0 8 0 0) 0x80000003; let next : Prop := (s.nextRecord w.val ws = true ∧
          flocType (List.getD ws 0 0) ≠ 31); let l := List.getD ws 0 0;
    let mine : Prop := flocBcast l = true ∨ flocWall l = w.val ∨ k.bcast = true;
    let good : Prop := recordCrcOk ws = true ∧ frameFieldsOk l = true; let d := List.take 96 (List.drop 1 ws);
    let pairs := (((s.setKiln w.val
                { isLoad := k.isLoad, chainWait := k.chainWait, bcast := k.bcast, open_ := k.open_, master := k.master, got := List.drop 98 k.got, fin := k.fin, header := k.header, records := k.records + 1, zeroed := k.zeroed, ended := k.ended, frames := k.frames, replayMaster := k.replayMaster, startedAt := k.startedAt, pos := k.pos, stepAt := k.stepAt, waitFrom := k.waitFrom, waited := k.waited, timedOut := k.timedOut, result := k.result, slots := k.slots : KilnX }).applyPairs
            (BitVec.toNat k.master) w (flocType l) d).snd);
      (OnWall s w) ∧ (¬waits) ∧ (next) ∧ (mine) ∧ (good) ∧ (4 ≤ flocType l) ∧ (668 ≤ k.frames.length ∨ pairs ≠ 0) ∧
      (k.frames.length < 668)) :=
  ⟨by decide +kernel,
   ⟨by decide +kernel, by decide +kernel, by decide +kernel, (reaches_outside _ _ _ _ _ rfl), by decide +kernel,
    by decide +kernel, by decide +kernel, by decide +kernel, by decide +kernel⟩,
   ⟨by decide +kernel, by decide +kernel, by decide +kernel, (reaches_outside _ _ _ _ _ rfl), by decide +kernel,
    by decide +kernel, by decide +kernel, by decide +kernel, by decide +kernel⟩,
   ⟨by decide +kernel, by decide +kernel, by decide +kernel, (reaches_outside _ _ _ _ _ rfl), by decide +kernel,
    by decide +kernel⟩,
   ⟨by decide +kernel, by decide +kernel, by decide +kernel, (reaches_outside _ _ _ _ _ rfl), by decide +kernel,
    by decide +kernel, by decide +kernel⟩,
   by decide +kernel,
   by decide +kernel,
   by decide +kernel,
   by decide +kernel,
   by decide +kernel⟩

set_option maxRecDepth 1000000 in
theorem wit_EndRecordsAndBootLoads :
    (let s : State := sEnd (0x1F0000 :: List.replicate 97 0); let w : Wall := 0; let k := s.kiln w.val;
    let ws : Words := 0x1F0000 :: List.replicate 97 0; let ends : Prop := (s.nextRecord w.val ws = true ∧
          flocType (List.getD ws 0 0) = 31 ∧
            (k.fin = true ∨ 98 < List.length k.got)); let h := k.header.getD [];
    let good : Prop := (recordCrcOk ws = true ∧
          flocSlot (List.getD ws 0 0) = 0 ∧
            flocSub (List.getD ws 0 0) = 0 ∧
              List.length k.got = 98 ∧
                BitVec.toNat (List.getD ws 1 0) = k.records ∧
                  BitVec.toNat (List.getD h 3 0) =
                      k.records + 1 ∧
                    s.driveConflict w.val = none); let due : Prop := (s.trowel.running = true ∧
          s.bootDue w.val = true ∧
            s.wallPower w.val = 0 ∧
              1 ≤ s.phase w.val ∧
                s.phase w.val ≤ 3 ∧ k.got = [] ∧ k.open_ = false ∧ s.bootTurn w.val = true);
      (OnWall s w) ∧ (ends) ∧ (¬good) ∧ (¬due)) ∧
    (let s : State := sEnd endRec; let w : Wall := 0; let k := s.kiln w.val; let ws : Words := endRec;
    let ends : Prop := (s.nextRecord w.val ws = true ∧
          flocType (List.getD ws 0 0) = 31 ∧
            (k.fin = true ∨ 98 < List.length k.got)); let h := k.header.getD [];
    let good : Prop := (recordCrcOk ws = true ∧
          flocSlot (List.getD ws 0 0) = 0 ∧
            flocSub (List.getD ws 0 0) = 0 ∧
              List.length k.got = 98 ∧
                BitVec.toNat (List.getD ws 1 0) = k.records ∧
                  BitVec.toNat (List.getD h 3 0) =
                      k.records + 1 ∧
                    s.driveConflict w.val = none); let due : Prop := (s.trowel.running = true ∧
          s.bootDue w.val = true ∧
            s.wallPower w.val = 0 ∧
              1 ≤ s.phase w.val ∧
                s.phase w.val ≤ 3 ∧ k.got = [] ∧ k.open_ = false ∧ s.bootTurn w.val = true);
      (OnWall s w) ∧ (ends) ∧ (good) ∧ (¬due)) ∧
    (let s : State := sBoot; let w : Wall := 0; let k := s.kiln w.val; let ws : Words := [];
    let ends : Prop := (s.nextRecord w.val ws = true ∧
          flocType (List.getD ws 0 0) = 31 ∧
            (k.fin = true ∨ 98 < List.length k.got)); let due : Prop := (s.trowel.running = true ∧
          s.bootDue w.val = true ∧
            s.wallPower w.val = 0 ∧
              1 ≤ s.phase w.val ∧
                s.phase w.val ≤ 3 ∧ k.got = [] ∧ k.open_ = false ∧ s.bootTurn w.val = true); let img : Image := img0;
      (OnWall s w) ∧ (¬ends) ∧ (due) ∧ ((s.trowel.store.getD (s.bootEntry w.val) { : ImgSlot }).image = some img)) := by
  refine ⟨?_, ?_, ?_⟩ <;> decide +kernel

theorem wit_StartUpGoesFromPhaseToPhase :
    (let s : State := sK 1 {}; let w : Wall := 0; let x := s.wall w.val; let k := x.kiln;
    let free : Prop := (s.phase w.val = 1 ∧
          s.flushBusy w.val = false ∧
            x.wipe = none ∧
              (k.chainWait = false ∨ s.holdN = true) ∧
                (k.isLoad = true ∨ s.bootDue w.val = false) ∧
                  s.monHold w.val = false ∧
                    x.hot = false ∧
                      x.scan = false ∧ s.service.safe = false ∧ s.trowel.recovery = false ∧ s.service.scanHold = false);
    let ready : Prop := (s.phase w.val = 2 ∧
          s.gdState w.val 0 = 1 ∧
            s.gdState w.val 1 = 1 ∧ x.march = []);
    let done : Prop := s.phase w.val = 3 ∧ k.zeroed = false ∧ k.startedAt + 65536 ≤ s.tick;
    let now : Prop := s.phase w.val = 5 ∧ s.slotNow w.val = 0 ∧ k.stepAt ≠ some x.cycle;
    let code := if k.pos = 4 then 0 else s.stepCode w.val k.pos;
    let waits : Prop := k.chainWait = true ∧ k.waited = false ∧ code = s.fl (R.STARTUP_ORDER w.val) F.STARTUP_ORDER_done_step ∧ s.doneOd = false;
      (OnWall s w) ∧ (free) ∧ (¬ready) ∧ (¬done) ∧ (s.phase w.val ≠ 4) ∧ (¬now ∨ waits ∧ k.waitFrom ≠ none)) ∧
    (let s : State := { sK 1 {} with trowel := {} }; let w : Wall := 0; let x := s.wall w.val; let k := x.kiln;
    let free : Prop := (s.phase w.val = 1 ∧
          s.flushBusy w.val = false ∧
            x.wipe = none ∧
              (k.chainWait = false ∨ s.holdN = true) ∧
                (k.isLoad = true ∨ s.bootDue w.val = false) ∧
                  s.monHold w.val = false ∧
                    x.hot = false ∧
                      x.scan = false ∧ s.service.safe = false ∧ s.trowel.recovery = false ∧ s.service.scanHold = false);
    let ready : Prop := (s.phase w.val = 2 ∧
          s.gdState w.val 0 = 1 ∧
            s.gdState w.val 1 = 1 ∧ x.march = []);
    let done : Prop := s.phase w.val = 3 ∧ k.zeroed = false ∧ k.startedAt + 65536 ≤ s.tick;
    let now : Prop := s.phase w.val = 5 ∧ s.slotNow w.val = 0 ∧ k.stepAt ≠ some x.cycle;
    let code := if k.pos = 4 then 0 else s.stepCode w.val k.pos;
    let waits : Prop := k.chainWait = true ∧ k.waited = false ∧ code = s.fl (R.STARTUP_ORDER w.val) F.STARTUP_ORDER_done_step ∧ s.doneOd = false;
      (OnWall s w) ∧ (free) ∧ (s.trowel.running = false) ∧ (¬ready) ∧ (¬done) ∧ (s.phase w.val ≠ 4) ∧
      (¬now ∨ waits ∧ k.waitFrom ≠ none)) ∧
    (let s : State := startUp1; let w : Wall := 0; let x := s.wall w.val; let k := x.kiln;
    let free : Prop := (s.phase w.val = 1 ∧
          s.flushBusy w.val = false ∧
            x.wipe = none ∧
              (k.chainWait = false ∨ s.holdN = true) ∧
                (k.isLoad = true ∨ s.bootDue w.val = false) ∧
                  s.monHold w.val = false ∧
                    x.hot = false ∧
                      x.scan = false ∧ s.service.safe = false ∧ s.trowel.recovery = false ∧ s.service.scanHold = false);
    let ready : Prop := (s.phase w.val = 2 ∧
          s.gdState w.val 0 = 1 ∧
            s.gdState w.val 1 = 1 ∧ x.march = []);
    let done : Prop := s.phase w.val = 3 ∧ k.zeroed = false ∧ k.startedAt + 65536 ≤ s.tick;
    let now : Prop := s.phase w.val = 5 ∧ s.slotNow w.val = 0 ∧ k.stepAt ≠ some x.cycle;
    let code := if k.pos = 4 then 0 else s.stepCode w.val k.pos;
    let waits : Prop := k.chainWait = true ∧ k.waited = false ∧ code = s.fl (R.STARTUP_ORDER w.val) F.STARTUP_ORDER_done_step ∧ s.doneOd = false;
      (OnWall s w) ∧ (¬free) ∧ (ready) ∧ (¬done) ∧ (s.phase w.val ≠ 4) ∧ (¬now ∨ waits ∧ k.waitFrom ≠ none)) ∧
    (let s : State := { startUp2 with tick := 65536 }; let w : Wall := 0; let x := s.wall w.val; let k := x.kiln;
    let free : Prop := (s.phase w.val = 1 ∧
          s.flushBusy w.val = false ∧
            x.wipe = none ∧
              (k.chainWait = false ∨ s.holdN = true) ∧
                (k.isLoad = true ∨ s.bootDue w.val = false) ∧
                  s.monHold w.val = false ∧
                    x.hot = false ∧
                      x.scan = false ∧ s.service.safe = false ∧ s.trowel.recovery = false ∧ s.service.scanHold = false);
    let ready : Prop := (s.phase w.val = 2 ∧
          s.gdState w.val 0 = 1 ∧
            s.gdState w.val 1 = 1 ∧ x.march = []);
    let done : Prop := s.phase w.val = 3 ∧ k.zeroed = false ∧ k.startedAt + 65536 ≤ s.tick;
    let now : Prop := s.phase w.val = 5 ∧ s.slotNow w.val = 0 ∧ k.stepAt ≠ some x.cycle;
    let code := if k.pos = 4 then 0 else s.stepCode w.val k.pos;
    let waits : Prop := k.chainWait = true ∧ k.waited = false ∧ code = s.fl (R.STARTUP_ORDER w.val) F.STARTUP_ORDER_done_step ∧ s.doneOd = false;
      (OnWall s w) ∧ (¬free) ∧ (¬ready) ∧ (done) ∧ (s.phase w.val ≠ 4) ∧ (¬now ∨ waits ∧ k.waitFrom ≠ none)) ∧
    (let s : State := sK 4 {}; let w : Wall := 0; let x := s.wall w.val; let k := x.kiln;
    let free : Prop := (s.phase w.val = 1 ∧
          s.flushBusy w.val = false ∧
            x.wipe = none ∧
              (k.chainWait = false ∨ s.holdN = true) ∧
                (k.isLoad = true ∨ s.bootDue w.val = false) ∧
                  s.monHold w.val = false ∧
                    x.hot = false ∧
                      x.scan = false ∧ s.service.safe = false ∧ s.trowel.recovery = false ∧ s.service.scanHold = false);
    let ready : Prop := (s.phase w.val = 2 ∧
          s.gdState w.val 0 = 1 ∧
            s.gdState w.val 1 = 1 ∧ x.march = []);
    let done : Prop := s.phase w.val = 3 ∧ k.zeroed = false ∧ k.startedAt + 65536 ≤ s.tick;
    let r := s.replayFrom w (s.fl (R.KILN_REPLAY w.val) F.KILN_REPLAY_frames) 0;
    let now : Prop := s.phase w.val = 5 ∧ s.slotNow w.val = 0 ∧ k.stepAt ≠ some x.cycle;
    let code := if k.pos = 4 then 0 else s.stepCode w.val k.pos;
    let waits : Prop := k.chainWait = true ∧ k.waited = false ∧ code = s.fl (R.STARTUP_ORDER w.val) F.STARTUP_ORDER_done_step ∧ s.doneOd = false;
      (OnWall s w) ∧ (¬free) ∧ (¬ready) ∧ (¬done) ∧ (s.phase w.val = 4) ∧ (r.snd = none) ∧
      (¬now ∨ waits ∧ k.waitFrom ≠ none)) ∧
    (let s : State := startUp3; let w : Wall := 0; let x := s.wall w.val; let k := x.kiln;
    let free : Prop := (s.phase w.val = 1 ∧
          s.flushBusy w.val = false ∧
            x.wipe = none ∧
              (k.chainWait = false ∨ s.holdN = true) ∧
                (k.isLoad = true ∨ s.bootDue w.val = false) ∧
                  s.monHold w.val = false ∧
                    x.hot = false ∧
                      x.scan = false ∧ s.service.safe = false ∧ s.trowel.recovery = false ∧ s.service.scanHold = false);
    let ready : Prop := (s.phase w.val = 2 ∧
          s.gdState w.val 0 = 1 ∧
            s.gdState w.val 1 = 1 ∧ x.march = []);
    let done : Prop := s.phase w.val = 3 ∧ k.zeroed = false ∧ k.startedAt + 65536 ≤ s.tick;
    let r := s.replayFrom w (s.fl (R.KILN_REPLAY w.val) F.KILN_REPLAY_frames) 0;
    let now : Prop := s.phase w.val = 5 ∧ s.slotNow w.val = 0 ∧ k.stepAt ≠ some x.cycle;
    let code := if k.pos = 4 then 0 else s.stepCode w.val k.pos;
    let waits : Prop := k.chainWait = true ∧ k.waited = false ∧ code = s.fl (R.STARTUP_ORDER w.val) F.STARTUP_ORDER_done_step ∧ s.doneOd = false;
      (OnWall s w) ∧ (¬free) ∧ (¬ready) ∧ (¬done) ∧ (s.phase w.val = 4) ∧ (r.snd ≠ none) ∧
      (¬now ∨ waits ∧ k.waitFrom ≠ none)) ∧
    (let s : State := sK 5 { pos := 3 }; let w : Wall := 0; let x := s.wall w.val; let k := x.kiln;
    let free : Prop := (s.phase w.val = 1 ∧
          s.flushBusy w.val = false ∧
            x.wipe = none ∧
              (k.chainWait = false ∨ s.holdN = true) ∧
                (k.isLoad = true ∨ s.bootDue w.val = false) ∧
                  s.monHold w.val = false ∧
                    x.hot = false ∧
                      x.scan = false ∧ s.service.safe = false ∧ s.trowel.recovery = false ∧ s.service.scanHold = false);
    let ready : Prop := (s.phase w.val = 2 ∧
          s.gdState w.val 0 = 1 ∧
            s.gdState w.val 1 = 1 ∧ x.march = []);
    let done : Prop := s.phase w.val = 3 ∧ k.zeroed = false ∧ k.startedAt + 65536 ≤ s.tick;
    let now : Prop := s.phase w.val = 5 ∧ s.slotNow w.val = 0 ∧ k.stepAt ≠ some x.cycle;
    let code := if k.pos = 4 then 0 else s.stepCode w.val k.pos;
    let waits : Prop := k.chainWait = true ∧ k.waited = false ∧ code = s.fl (R.STARTUP_ORDER w.val) F.STARTUP_ORDER_done_step ∧ s.doneOd = false;
      (OnWall s w) ∧ (¬free) ∧ (¬ready) ∧ (¬done) ∧ (s.phase w.val ≠ 4) ∧ (now) ∧ (¬waits) ∧ (k.pos ≠ 4) ∧ (code = 1)) ∧
    (let s : State := sK 5 {}; let w : Wall := 0; let x := s.wall w.val; let k := x.kiln;
    let free : Prop := (s.phase w.val = 1 ∧
          s.flushBusy w.val = false ∧
            x.wipe = none ∧
              (k.chainWait = false ∨ s.holdN = true) ∧
                (k.isLoad = true ∨ s.bootDue w.val = false) ∧
                  s.monHold w.val = false ∧
                    x.hot = false ∧
                      x.scan = false ∧ s.service.safe = false ∧ s.trowel.recovery = false ∧ s.service.scanHold = false);
    let ready : Prop := (s.phase w.val = 2 ∧
          s.gdState w.val 0 = 1 ∧
            s.gdState w.val 1 = 1 ∧ x.march = []);
    let done : Prop := s.phase w.val = 3 ∧ k.zeroed = false ∧ k.startedAt + 65536 ≤ s.tick;
    let now : Prop := s.phase w.val = 5 ∧ s.slotNow w.val = 0 ∧ k.stepAt ≠ some x.cycle;
    let code := if k.pos = 4 then 0 else s.stepCode w.val k.pos;
    let waits : Prop := k.chainWait = true ∧ k.waited = false ∧ code = s.fl (R.STARTUP_ORDER w.val) F.STARTUP_ORDER_done_step ∧ s.doneOd = false;
      (OnWall s w) ∧ (¬free) ∧ (¬ready) ∧ (¬done) ∧ (s.phase w.val ≠ 4) ∧ (now) ∧ (¬waits) ∧ (k.pos ≠ 4) ∧ (code = 2)) ∧
    (let s : State := sK 5 { pos := 2 }; let w : Wall := 0; let x := s.wall w.val; let k := x.kiln;
    let free : Prop := (s.phase w.val = 1 ∧
          s.flushBusy w.val = false ∧
            x.wipe = none ∧
              (k.chainWait = false ∨ s.holdN = true) ∧
                (k.isLoad = true ∨ s.bootDue w.val = false) ∧
                  s.monHold w.val = false ∧
                    x.hot = false ∧
                      x.scan = false ∧ s.service.safe = false ∧ s.trowel.recovery = false ∧ s.service.scanHold = false);
    let ready : Prop := (s.phase w.val = 2 ∧
          s.gdState w.val 0 = 1 ∧
            s.gdState w.val 1 = 1 ∧ x.march = []);
    let done : Prop := s.phase w.val = 3 ∧ k.zeroed = false ∧ k.startedAt + 65536 ≤ s.tick;
    let now : Prop := s.phase w.val = 5 ∧ s.slotNow w.val = 0 ∧ k.stepAt ≠ some x.cycle;
    let code := if k.pos = 4 then 0 else s.stepCode w.val k.pos;
    let waits : Prop := k.chainWait = true ∧ k.waited = false ∧ code = s.fl (R.STARTUP_ORDER w.val) F.STARTUP_ORDER_done_step ∧ s.doneOd = false;
      (OnWall s w) ∧ (¬free) ∧ (¬ready) ∧ (¬done) ∧ (s.phase w.val ≠ 4) ∧ (now) ∧ (¬waits) ∧ (k.pos ≠ 4) ∧ (code = 3)) ∧
    (let s : State := (sK 5 { chainWait := true, pos := 4 }).setFl (R.STARTUP_ORDER 0) F.STARTUP_ORDER_done_step 0;
    let w : Wall := 0; let x := s.wall w.val; let k := x.kiln; let free : Prop := (s.phase w.val = 1 ∧
          s.flushBusy w.val = false ∧
            x.wipe = none ∧
              (k.chainWait = false ∨ s.holdN = true) ∧
                (k.isLoad = true ∨ s.bootDue w.val = false) ∧
                  s.monHold w.val = false ∧
                    x.hot = false ∧
                      x.scan = false ∧ s.service.safe = false ∧ s.trowel.recovery = false ∧ s.service.scanHold = false);
    let ready : Prop := (s.phase w.val = 2 ∧
          s.gdState w.val 0 = 1 ∧
            s.gdState w.val 1 = 1 ∧ x.march = []);
    let done : Prop := s.phase w.val = 3 ∧ k.zeroed = false ∧ k.startedAt + 65536 ≤ s.tick;
    let now : Prop := s.phase w.val = 5 ∧ s.slotNow w.val = 0 ∧ k.stepAt ≠ some x.cycle;
    let code := if k.pos = 4 then 0 else s.stepCode w.val k.pos;
    let waits : Prop := k.chainWait = true ∧ k.waited = false ∧ code = s.fl (R.STARTUP_ORDER w.val) F.STARTUP_ORDER_done_step ∧ s.doneOd = false;
      (OnWall s w) ∧ (¬free) ∧ (¬ready) ∧ (¬done) ∧ (s.phase w.val ≠ 4) ∧ (now) ∧ (waits) ∧ (k.waitFrom = none)) ∧
    (let s : State := sK 5 { chainWait := true }; let w : Wall := 0; let x := s.wall w.val; let k := x.kiln;
    let free : Prop := (s.phase w.val = 1 ∧
          s.flushBusy w.val = false ∧
            x.wipe = none ∧
              (k.chainWait = false ∨ s.holdN = true) ∧
                (k.isLoad = true ∨ s.bootDue w.val = false) ∧
                  s.monHold w.val = false ∧
                    x.hot = false ∧
                      x.scan = false ∧ s.service.safe = false ∧ s.trowel.recovery = false ∧ s.service.scanHold = false);
    let ready : Prop := (s.phase w.val = 2 ∧
          s.gdState w.val 0 = 1 ∧
            s.gdState w.val 1 = 1 ∧ x.march = []);
    let done : Prop := s.phase w.val = 3 ∧ k.zeroed = false ∧ k.startedAt + 65536 ≤ s.tick;
    let now : Prop := s.phase w.val = 5 ∧ s.slotNow w.val = 0 ∧ k.stepAt ≠ some x.cycle;
    let code := if k.pos = 4 then 0 else s.stepCode w.val k.pos;
    let waits : Prop := k.chainWait = true ∧ k.waited = false ∧ code = s.fl (R.STARTUP_ORDER w.val) F.STARTUP_ORDER_done_step ∧ s.doneOd = false;
      (OnWall s w) ∧ (¬free) ∧ (¬ready) ∧ (¬done) ∧ (s.phase w.val ≠ 4) ∧ (now) ∧ (waits) ∧ (k.waitFrom = none)) ∧
    (let s : State := sK 5 { chainWait := true, pos := 1, waitFrom := some 0 }; let w : Wall := 0; let x := s.wall w.val;
    let k := x.kiln; let free : Prop := (s.phase w.val = 1 ∧
          s.flushBusy w.val = false ∧
            x.wipe = none ∧
              (k.chainWait = false ∨ s.holdN = true) ∧
                (k.isLoad = true ∨ s.bootDue w.val = false) ∧
                  s.monHold w.val = false ∧
                    x.hot = false ∧
                      x.scan = false ∧ s.service.safe = false ∧ s.trowel.recovery = false ∧ s.service.scanHold = false);
    let ready : Prop := (s.phase w.val = 2 ∧
          s.gdState w.val 0 = 1 ∧
            s.gdState w.val 1 = 1 ∧ x.march = []);
    let done : Prop := s.phase w.val = 3 ∧ k.zeroed = false ∧ k.startedAt + 65536 ≤ s.tick;
    let now : Prop := s.phase w.val = 5 ∧ s.slotNow w.val = 0 ∧ k.stepAt ≠ some x.cycle;
    let code := if k.pos = 4 then 0 else s.stepCode w.val k.pos;
    let waits : Prop := k.chainWait = true ∧ k.waited = false ∧ code = s.fl (R.STARTUP_ORDER w.val) F.STARTUP_ORDER_done_step ∧ s.doneOd = false;
      (OnWall s w) ∧ (¬free) ∧ (¬ready) ∧ (¬done) ∧ (s.phase w.val ≠ 4) ∧ (¬now ∨ waits ∧ k.waitFrom ≠ none) ∧ (now) ∧
      (waits)) ∧
    (let s : State := sK 5 { isLoad := true, pos := 4 }; let w : Wall := 0; let x := s.wall w.val; let k := x.kiln;
    let free : Prop := (s.phase w.val = 1 ∧
          s.flushBusy w.val = false ∧
            x.wipe = none ∧
              (k.chainWait = false ∨ s.holdN = true) ∧
                (k.isLoad = true ∨ s.bootDue w.val = false) ∧
                  s.monHold w.val = false ∧
                    x.hot = false ∧
                      x.scan = false ∧ s.service.safe = false ∧ s.trowel.recovery = false ∧ s.service.scanHold = false);
    let ready : Prop := (s.phase w.val = 2 ∧
          s.gdState w.val 0 = 1 ∧
            s.gdState w.val 1 = 1 ∧ x.march = []);
    let done : Prop := s.phase w.val = 3 ∧ k.zeroed = false ∧ k.startedAt + 65536 ≤ s.tick;
    let now : Prop := s.phase w.val = 5 ∧ s.slotNow w.val = 0 ∧ k.stepAt ≠ some x.cycle;
    let code := if k.pos = 4 then 0 else s.stepCode w.val k.pos;
    let waits : Prop := k.chainWait = true ∧ k.waited = false ∧ code = s.fl (R.STARTUP_ORDER w.val) F.STARTUP_ORDER_done_step ∧ s.doneOd = false;
      (OnWall s w) ∧ (¬free) ∧ (¬ready) ∧ (¬done) ∧ (s.phase w.val ≠ 4) ∧ (now) ∧ (¬waits) ∧ (k.pos = 4) ∧
      (k.isLoad = true)) := by
  refine ⟨?_, ?_, ?_, ?_, ?_, ?_, ?_, ?_, ?_, ?_, ?_, ?_, ?_⟩ <;> decide +kernel

theorem wit_StartUpOrderAndPointingSettings :
    (let s : State := up; let m : Mid := 0; let w : Wall := 0; let a := R.STARTUP_ORDER w.val; let v : Word := 0x6C;
    let good : Prop := (fld v F.STARTUP_ORDER_first = 0 ∧
          [fld v F.STARTUP_ORDER_second, fld v F.STARTUP_ORDER_third, fld v F.STARTUP_ORDER_fourth] ∈
            [[1, 2, 3],
              [1, 3, 2],
              [2, 1, 3],
              [2, 3, 1],
              [3, 1, 2],
              [3, 2, 1]]); let b := R.PT_CFG w.val;
      (Allowed s m a true) ∧ (good) ∧ (Allowed s m b true)) ∧
    (let s : State := up; let m : Mid := 0; let w : Wall := 0; let a := R.STARTUP_ORDER w.val; let v : Word := 255;
    let good : Prop := (fld v F.STARTUP_ORDER_first = 0 ∧
          [fld v F.STARTUP_ORDER_second, fld v F.STARTUP_ORDER_third, fld v F.STARTUP_ORDER_fourth] ∈
            [[1, 2, 3],
              [1, 3, 2],
              [2, 1, 3],
              [2, 3, 1],
              [3, 1, 2],
              [3, 2, 1]]); let b := R.PT_CFG w.val;
      (Allowed s m a true) ∧ (¬good) ∧ (Allowed s m b true)) := by
  refine ⟨?_, ?_⟩ <;> decide +kernel

theorem wit_PointingPassesOverTheFrames :
    (let s : State := sPt {}; let w : Wall := 0; let p := s.point w.val;
    let due : Prop := p.active = false ∧ Option.all (fun t0 => decide (t0 + p.intervalTicks ≤ s.tick)) p.start = true;
    let f := s.scrubAt w.val; let checks : Prop := p.active = true ∧ f < 128 * tileFrames;
    let ends : Prop := p.active = true ∧ 128 * tileFrames ≤ f;
    let missed : Prop := (s.fl (R.PT_CFG w.val) F.PT_CFG_en = 1 ∧
          p.lastHb + 2 * p.intervalTicks + 1250000 < s.tick);
      (OnWall s w) ∧ (s.isReady w.val = true) ∧ (due) ∧ (¬checks) ∧ (¬ends) ∧ (¬missed)) ∧
    (let s : State := sPt { active := true }; let w : Wall := 0; let p := s.point w.val;
    let due : Prop := p.active = false ∧ Option.all (fun t0 => decide (t0 + p.intervalTicks ≤ s.tick)) p.start = true;
    let f := s.scrubAt w.val; let checks : Prop := p.active = true ∧ f < 128 * tileFrames; let tl := f / tileFrames;
    let x := s.tile w.val tl; let busy : Prop := x.refill.isSome = true ∨ s.capReads w.val tl = true;
    let on : Prop := p.reading = true ∧ f = p.frame; let i := f % tileFrames; let typ := if i < 4 then 0 else 1;
    let sub := if i < 4 then i else i - 4;
    let words : State → Words := fun t => if i < 4 then t.foundWords w.val tl sub else (t.tile w.val tl).programWords sub;
    let chk := checkFrame (ofWords (words s)) (s.frameCode.getD (codeKey w.val tl typ sub) 0);
    let ends : Prop := p.active = true ∧ 128 * tileFrames ≤ f;
    let missed : Prop := (s.fl (R.PT_CFG w.val) F.PT_CFG_en = 1 ∧
          p.lastHb + 2 * p.intervalTicks + 1250000 < s.tick);
      (OnWall s w) ∧ (s.isReady w.val = true) ∧ (¬due) ∧ (checks) ∧ (¬busy) ∧ (¬on ∨ x.scrubWay ≠ none) ∧ (i < 47) ∧
      (chk = CodeCheck.ok) ∧ (¬ends) ∧ (¬missed)) ∧
    (let s : State := sFlip 128; let w : Wall := 0; let p := s.point w.val;
    let due : Prop := p.active = false ∧ Option.all (fun t0 => decide (t0 + p.intervalTicks ≤ s.tick)) p.start = true;
    let f := s.scrubAt w.val; let checks : Prop := p.active = true ∧ f < 128 * tileFrames; let tl := f / tileFrames;
    let x := s.tile w.val tl; let busy : Prop := x.refill.isSome = true ∨ s.capReads w.val tl = true;
    let on : Prop := p.reading = true ∧ f = p.frame; let i := f % tileFrames; let typ := if i < 4 then 0 else 1;
    let sub := if i < 4 then i else i - 4;
    let words : State → Words := fun t => if i < 4 then t.foundWords w.val tl sub else (t.tile w.val tl).programWords sub;
    let chk := checkFrame (ofWords (words s)) (s.frameCode.getD (codeKey w.val tl typ sub) 0); let j2 : Nat := 7;
    let ends : Prop := p.active = true ∧ 128 * tileFrames ≤ f;
    let missed : Prop := (s.fl (R.PT_CFG w.val) F.PT_CFG_en = 1 ∧
          p.lastHb + 2 * p.intervalTicks + 1250000 < s.tick);
      (OnWall s w) ∧ (s.isReady w.val = true) ∧ (¬due) ∧ (checks) ∧ (¬busy) ∧ (¬on ∨ x.scrubWay ≠ none) ∧ (i < 47) ∧
      (chk = CodeCheck.dataBit j2) ∧ (i < 46) ∧ (¬ends) ∧ (¬missed)) ∧
    (let s : State := sFlip 640; let w : Wall := 0; let p := s.point w.val;
    let due : Prop := p.active = false ∧ Option.all (fun t0 => decide (t0 + p.intervalTicks ≤ s.tick)) p.start = true;
    let f := s.scrubAt w.val; let checks : Prop := p.active = true ∧ f < 128 * tileFrames; let tl := f / tileFrames;
    let x := s.tile w.val tl; let busy : Prop := x.refill.isSome = true ∨ s.capReads w.val tl = true;
    let on : Prop := p.reading = true ∧ f = p.frame; let i := f % tileFrames; let typ := if i < 4 then 0 else 1;
    let sub := if i < 4 then i else i - 4;
    let words : State → Words := fun t => if i < 4 then t.foundWords w.val tl sub else (t.tile w.val tl).programWords sub;
    let chk := checkFrame (ofWords (words s)) (s.frameCode.getD (codeKey w.val tl typ sub) 0);
    let ends : Prop := p.active = true ∧ 128 * tileFrames ≤ f;
    let missed : Prop := (s.fl (R.PT_CFG w.val) F.PT_CFG_en = 1 ∧
          p.lastHb + 2 * p.intervalTicks + 1250000 < s.tick);
      (OnWall s w) ∧ (s.isReady w.val = true) ∧ (¬due) ∧ (checks) ∧ (¬busy) ∧ (¬on ∨ x.scrubWay ≠ none) ∧ (i < 47) ∧
      (chk = CodeCheck.bad) ∧ (p.ueAct ≠ 1) ∧ (¬ends) ∧ (¬missed)) ∧
    (let s : State := (sFlip 640).setPoint 0 { active := true, set1 := 2, set2 := 2 }; let w : Wall := 0;
    let p := s.point w.val;
    let due : Prop := p.active = false ∧ Option.all (fun t0 => decide (t0 + p.intervalTicks ≤ s.tick)) p.start = true;
    let f := s.scrubAt w.val; let checks : Prop := p.active = true ∧ f < 128 * tileFrames; let tl := f / tileFrames;
    let x := s.tile w.val tl; let busy : Prop := x.refill.isSome = true ∨ s.capReads w.val tl = true;
    let on : Prop := p.reading = true ∧ f = p.frame; let i := f % tileFrames; let typ := if i < 4 then 0 else 1;
    let sub := if i < 4 then i else i - 4;
    let words : State → Words := fun t => if i < 4 then t.foundWords w.val tl sub else (t.tile w.val tl).programWords sub;
    let chk := checkFrame (ofWords (words s)) (s.frameCode.getD (codeKey w.val tl typ sub) 0);
    let ends : Prop := p.active = true ∧ 128 * tileFrames ≤ f;
    let missed : Prop := (s.fl (R.PT_CFG w.val) F.PT_CFG_en = 1 ∧
          p.lastHb + 2 * p.intervalTicks + 1250000 < s.tick);
      (OnWall s w) ∧ (s.isReady w.val = true) ∧ (¬due) ∧ (checks) ∧ (¬busy) ∧ (¬on ∨ x.scrubWay ≠ none) ∧ (i < 47) ∧
      (chk = CodeCheck.bad) ∧ (p.ueAct = 1) ∧ (¬ends) ∧ (¬missed)) ∧
    (let s : State := { sPt { active := true, frame := 0 } with frameCode := [(codeKey 0 0 0 0, 1)] }; let w : Wall := 0;
    let p := s.point w.val;
    let due : Prop := p.active = false ∧ Option.all (fun t0 => decide (t0 + p.intervalTicks ≤ s.tick)) p.start = true;
    let f := s.scrubAt w.val; let checks : Prop := p.active = true ∧ f < 128 * tileFrames; let tl := f / tileFrames;
    let x := s.tile w.val tl; let busy : Prop := x.refill.isSome = true ∨ s.capReads w.val tl = true;
    let on : Prop := p.reading = true ∧ f = p.frame; let i := f % tileFrames; let typ := if i < 4 then 0 else 1;
    let sub := if i < 4 then i else i - 4;
    let words : State → Words := fun t => if i < 4 then t.foundWords w.val tl sub else (t.tile w.val tl).programWords sub;
    let chk := checkFrame (ofWords (words s)) (s.frameCode.getD (codeKey w.val tl typ sub) 0); let j : Nat := 0;
    let ends : Prop := p.active = true ∧ 128 * tileFrames ≤ f;
    let missed : Prop := (s.fl (R.PT_CFG w.val) F.PT_CFG_en = 1 ∧
          p.lastHb + 2 * p.intervalTicks + 1250000 < s.tick);
      (OnWall s w) ∧ (s.isReady w.val = true) ∧ (¬due) ∧ (checks) ∧ (¬busy) ∧ (¬on ∨ x.scrubWay ≠ none) ∧ (i < 47) ∧
      (chk = CodeCheck.codeBit j) ∧ (¬ends) ∧ (¬missed)) ∧
    (let s : State := (sPt { active := true, frame := 0 }).setTile 0 0 { refill := some { req := rq, way := 0 } };
    let w : Wall := 0; let p := s.point w.val;
    let due : Prop := p.active = false ∧ Option.all (fun t0 => decide (t0 + p.intervalTicks ≤ s.tick)) p.start = true;
    let f := s.scrubAt w.val; let checks : Prop := p.active = true ∧ f < 128 * tileFrames; let tl := f / tileFrames;
    let x := s.tile w.val tl; let busy : Prop := x.refill.isSome = true ∨ s.capReads w.val tl = true;
    let i := f % tileFrames; let on : Prop := p.reading = true ∧ f = p.frame;
    let ends : Prop := p.active = true ∧ 128 * tileFrames ≤ f;
    let missed : Prop := (s.fl (R.PT_CFG w.val) F.PT_CFG_en = 1 ∧
          p.lastHb + 2 * p.intervalTicks + 1250000 < s.tick);
      (OnWall s w) ∧ (s.isReady w.val = true) ∧ (¬due) ∧ (checks) ∧ (busy) ∧ (on ∨ i < 47) ∧ (¬on) ∧ (¬ends) ∧ (¬missed)) ∧
    (let s : State := (sPt { active := true, frame := 47 }).setTile 0 0 { ways := [(0, { slot := 3, valid := true })], refill := some { req := rq, way := 1 } };
    let w : Wall := 0; let p := s.point w.val;
    let due : Prop := p.active = false ∧ Option.all (fun t0 => decide (t0 + p.intervalTicks ≤ s.tick)) p.start = true;
    let f := s.scrubAt w.val; let checks : Prop := p.active = true ∧ f < 128 * tileFrames; let tl := f / tileFrames;
    let x := s.tile w.val tl; let busy : Prop := x.refill.isSome = true ∨ s.capReads w.val tl = true;
    let on : Prop := p.reading = true ∧ f = p.frame; let i := f % tileFrames;
    let ends : Prop := p.active = true ∧ 128 * tileFrames ≤ f;
    let missed : Prop := (s.fl (R.PT_CFG w.val) F.PT_CFG_en = 1 ∧
          p.lastHb + 2 * p.intervalTicks + 1250000 < s.tick);
      (OnWall s w) ∧ (s.isReady w.val = true) ∧ (¬due) ∧ (checks) ∧ (busy) ∧ (¬on) ∧ (47 ≤ i) ∧ (¬ends) ∧ (¬missed)) ∧
    (let s : State := (sPt { active := true, frame := 47, reading := true }).setTile 0 0 { ways := [(0, { slot := 3, valid := true })] };
    let w : Wall := 0; let p := s.point w.val;
    let due : Prop := p.active = false ∧ Option.all (fun t0 => decide (t0 + p.intervalTicks ≤ s.tick)) p.start = true;
    let f := s.scrubAt w.val; let checks : Prop := p.active = true ∧ f < 128 * tileFrames; let tl := f / tileFrames;
    let x := s.tile w.val tl; let busy : Prop := x.refill.isSome = true ∨ s.capReads w.val tl = true;
    let on : Prop := p.reading = true ∧ f = p.frame; let ends : Prop := p.active = true ∧ 128 * tileFrames ≤ f;
    let missed : Prop := (s.fl (R.PT_CFG w.val) F.PT_CFG_en = 1 ∧
          p.lastHb + 2 * p.intervalTicks + 1250000 < s.tick);
      (OnWall s w) ∧ (s.isReady w.val = true) ∧ (¬due) ∧ (checks) ∧ (¬busy) ∧ (on) ∧ (x.scrubWay = none) ∧ (¬ends) ∧
      (¬missed)) ∧
    (let s : State := sWayPt 0 0; let w : Wall := 0; let p := s.point w.val;
    let due : Prop := p.active = false ∧ Option.all (fun t0 => decide (t0 + p.intervalTicks ≤ s.tick)) p.start = true;
    let f := s.scrubAt w.val; let checks : Prop := p.active = true ∧ f < 128 * tileFrames; let tl := f / tileFrames;
    let x := s.tile w.val tl; let busy : Prop := x.refill.isSome = true ∨ s.capReads w.val tl = true;
    let on : Prop := p.reading = true ∧ f = p.frame; let i := f % tileFrames; let y := x.way (i - 47);
    let wayChk := checkFrame y.pat.toNat y.code; let ends : Prop := p.active = true ∧ 128 * tileFrames ≤ f;
    let missed : Prop := (s.fl (R.PT_CFG w.val) F.PT_CFG_en = 1 ∧
          p.lastHb + 2 * p.intervalTicks + 1250000 < s.tick);
      (OnWall s w) ∧ (s.isReady w.val = true) ∧ (¬due) ∧ (checks) ∧ (¬busy) ∧ (¬on ∨ x.scrubWay ≠ none) ∧ (47 ≤ i) ∧
      (wayChk = CodeCheck.ok) ∧ (¬ends) ∧ (¬missed)) ∧
    (let s : State := sWayPt 0 1; let w : Wall := 0; let p := s.point w.val;
    let due : Prop := p.active = false ∧ Option.all (fun t0 => decide (t0 + p.intervalTicks ≤ s.tick)) p.start = true;
    let f := s.scrubAt w.val; let checks : Prop := p.active = true ∧ f < 128 * tileFrames; let tl := f / tileFrames;
    let x := s.tile w.val tl; let busy : Prop := x.refill.isSome = true ∨ s.capReads w.val tl = true;
    let on : Prop := p.reading = true ∧ f = p.frame; let i := f % tileFrames; let y := x.way (i - 47);
    let wayChk := checkFrame y.pat.toNat y.code; let j : Nat := 0;
    let ends : Prop := p.active = true ∧ 128 * tileFrames ≤ f;
    let missed : Prop := (s.fl (R.PT_CFG w.val) F.PT_CFG_en = 1 ∧
          p.lastHb + 2 * p.intervalTicks + 1250000 < s.tick);
      (OnWall s w) ∧ (s.isReady w.val = true) ∧ (¬due) ∧ (checks) ∧ (¬busy) ∧ (¬on ∨ x.scrubWay ≠ none) ∧ (47 ≤ i) ∧
      (wayChk = CodeCheck.codeBit j) ∧ (¬ends) ∧ (¬missed)) ∧
    (let s : State := sWayPt 128 0; let w : Wall := 0; let p := s.point w.val;
    let due : Prop := p.active = false ∧ Option.all (fun t0 => decide (t0 + p.intervalTicks ≤ s.tick)) p.start = true;
    let f := s.scrubAt w.val; let checks : Prop := p.active = true ∧ f < 128 * tileFrames; let tl := f / tileFrames;
    let x := s.tile w.val tl; let busy : Prop := x.refill.isSome = true ∨ s.capReads w.val tl = true;
    let on : Prop := p.reading = true ∧ f = p.frame; let i := f % tileFrames; let y := x.way (i - 47);
    let wayChk := checkFrame y.pat.toNat y.code; let j2 : Nat := 7;
    let ends : Prop := p.active = true ∧ 128 * tileFrames ≤ f;
    let missed : Prop := (s.fl (R.PT_CFG w.val) F.PT_CFG_en = 1 ∧
          p.lastHb + 2 * p.intervalTicks + 1250000 < s.tick);
      (OnWall s w) ∧ (s.isReady w.val = true) ∧ (¬due) ∧ (checks) ∧ (¬busy) ∧ (¬on ∨ x.scrubWay ≠ none) ∧ (47 ≤ i) ∧
      (wayChk = CodeCheck.dataBit j2) ∧ (¬ends) ∧ (¬missed)) ∧
    (let s : State := sWayPt 640 0; let w : Wall := 0; let p := s.point w.val;
    let due : Prop := p.active = false ∧ Option.all (fun t0 => decide (t0 + p.intervalTicks ≤ s.tick)) p.start = true;
    let f := s.scrubAt w.val; let checks : Prop := p.active = true ∧ f < 128 * tileFrames; let tl := f / tileFrames;
    let x := s.tile w.val tl; let busy : Prop := x.refill.isSome = true ∨ s.capReads w.val tl = true;
    let on : Prop := p.reading = true ∧ f = p.frame; let i := f % tileFrames; let y := x.way (i - 47);
    let wayChk := checkFrame y.pat.toNat y.code; let ends : Prop := p.active = true ∧ 128 * tileFrames ≤ f;
    let missed : Prop := (s.fl (R.PT_CFG w.val) F.PT_CFG_en = 1 ∧
          p.lastHb + 2 * p.intervalTicks + 1250000 < s.tick);
      (OnWall s w) ∧ (s.isReady w.val = true) ∧ (¬due) ∧ (checks) ∧ (¬busy) ∧ (¬on ∨ x.scrubWay ≠ none) ∧ (47 ≤ i) ∧
      (wayChk = CodeCheck.bad) ∧ (¬ends) ∧ (¬missed)) ∧
    (let s : State := pointing1; let w : Wall := 0; let p := s.point w.val;
    let due : Prop := p.active = false ∧ Option.all (fun t0 => decide (t0 + p.intervalTicks ≤ s.tick)) p.start = true;
    let f := s.scrubAt w.val; let checks : Prop := p.active = true ∧ f < 128 * tileFrames;
    let ends : Prop := p.active = true ∧ 128 * tileFrames ≤ f;
    let missed : Prop := (s.fl (R.PT_CFG w.val) F.PT_CFG_en = 1 ∧
          p.lastHb + 2 * p.intervalTicks + 1250000 < s.tick);
      (OnWall s w) ∧ (s.isReady w.val = true) ∧ (¬due) ∧ (¬checks) ∧ (ends) ∧
      (s.fl (R.PT_CFG w.val) F.PT_CFG_auto = 0 ∨ s.trowel.running = false) ∧ (¬missed)) ∧
    (let s : State := pointing2; let w : Wall := 0; let p := s.point w.val;
    let due : Prop := p.active = false ∧ Option.all (fun t0 => decide (t0 + p.intervalTicks ≤ s.tick)) p.start = true;
    let f := s.scrubAt w.val; let checks : Prop := p.active = true ∧ f < 128 * tileFrames;
    let ends : Prop := p.active = true ∧ 128 * tileFrames ≤ f;
    let missed : Prop := (s.fl (R.PT_CFG w.val) F.PT_CFG_en = 1 ∧
          p.lastHb + 2 * p.intervalTicks + 1250000 < s.tick);
      (OnWall s w) ∧ (s.isReady w.val = true) ∧ (due) ∧ (¬checks) ∧ (¬ends) ∧ (missed)) := by
  refine ⟨?_, ?_, ?_, ?_, ?_, ?_, ?_, ?_, ?_, ?_, ?_, ?_, ?_, ?_, ?_⟩ <;> decide +kernel

theorem wit_PowerAndResetComeAndGo :
    (let s : State := dark;
      (s.powered = false)) ∧
    (let s : State := up; let ns : Nat := 1000; let ns2 : Nat := 1000;
      (s.powered = true) ∧ (1000 ≤ ns) ∧ (100 ≤ ns2)) ∧
    (let s : State := up; let ns2 : Nat := 100;
      (s.powered = true) ∧ (100 ≤ ns2) ∧ (ns2 < 1000)) ∧
    (let s : State := up; let ns3 : Nat := 99;
      (s.powered = true) ∧ (ns3 < 100)) := by
  refine ⟨?_, ?_, ?_, ?_⟩ <;> decide +kernel

theorem wit_WallsAndCoursesArePowered :
    (let s : State := wallsAnd1; let w : Wall := 7;
    let turn : Prop := ((s.trowel.running = true ∨ s.trowel.recovery = true) ∧
          s.trowel.upNext = w.val ∧
            Option.all (fun t0 => decide (t0 + 1250000 ≤ s.tick)) s.trowel.upAt = true);
    let rises : Prop := s.wallPower w.val = 2 ∧ s.fl (R.WPWR_CTRL w.val) F.WPWR_CTRL_ocp = 0; let m : Mid := 0;
    let a := R.WPWR_GATE w.val; let v : Word := 0;
    let asks : Fin 16 → Prop := fun c => nbit (fld v F.WPWR_GATE_req) c.val = true ∧ nbit (s.fl a F.WPWR_GATE_req) c.val = false;
    let c : Fin 16 := 0; let due : Prop := ∃ e, e ∈ (s.wall w.val).gateWake ∧ e.fst = c.val ∧ e.snd + 2500 ≤ s.tick;
      (OnWall s w) ∧ (turn) ∧ (rises) ∧ (s.wallPower w.val = 2) ∧ (s.powered = true) ∧ (Allowed s m a true) ∧
      (∀ (c : Fin 16), asks c → s.courseIdle w.val c.val = true) ∧ (¬due)) ∧
    (let s : State := { wallsAnd1 with trowel := { wallsAnd1.trowel with upNext := 0 } }; let w : Wall := 0;
    let turn : Prop := ((s.trowel.running = true ∨ s.trowel.recovery = true) ∧
          s.trowel.upNext = w.val ∧
            Option.all (fun t0 => decide (t0 + 1250000 ≤ s.tick)) s.trowel.upAt = true);
    let rises : Prop := s.wallPower w.val = 2 ∧ s.fl (R.WPWR_CTRL w.val) F.WPWR_CTRL_ocp = 0; let m : Mid := 0;
    let a := R.WPWR_GATE w.val; let v : Word := 0;
    let asks : Fin 16 → Prop := fun c => nbit (fld v F.WPWR_GATE_req) c.val = true ∧ nbit (s.fl a F.WPWR_GATE_req) c.val = false;
    let c : Fin 16 := 0; let due : Prop := ∃ e, e ∈ (s.wall w.val).gateWake ∧ e.fst = c.val ∧ e.snd + 2500 ≤ s.tick;
      (OnWall s w) ∧ (turn) ∧ (¬rises) ∧ (s.wallPower w.val ≠ 2) ∧ ((s.wall w.val).wipe = none) ∧ (s.powered = true) ∧
      (Allowed s m a true) ∧ (∀ (c : Fin 16), asks c → s.courseIdle w.val c.val = true) ∧ (¬due)) ∧
    (let s : State := up; let w : Wall := 0; let turn : Prop := ((s.trowel.running = true ∨ s.trowel.recovery = true) ∧
          s.trowel.upNext = w.val ∧
            Option.all (fun t0 => decide (t0 + 1250000 ≤ s.tick)) s.trowel.upAt = true);
    let rises : Prop := s.wallPower w.val = 2 ∧ s.fl (R.WPWR_CTRL w.val) F.WPWR_CTRL_ocp = 0; let m : Mid := 0;
    let a := R.WPWR_GATE w.val; let v : Word := 0x8000;
    let asks : Fin 16 → Prop := fun c => nbit (fld v F.WPWR_GATE_req) c.val = true ∧ nbit (s.fl a F.WPWR_GATE_req) c.val = false;
    let c : Fin 16 := 15; let due : Prop := ∃ e, e ∈ (s.wall w.val).gateWake ∧ e.fst = c.val ∧ e.snd + 2500 ≤ s.tick;
      (OnWall s w) ∧ (turn) ∧ (¬rises) ∧ (s.wallPower w.val ≠ 2) ∧ ((s.wall w.val).wipe = none) ∧ (s.powered = true) ∧
      (Allowed s m a true) ∧ (∀ (c : Fin 16), asks c → s.courseIdle w.val c.val = true) ∧ (¬due)) ∧
    (let s : State := sBusyCourse; let w : Wall := 0;
    let turn : Prop := ((s.trowel.running = true ∨ s.trowel.recovery = true) ∧
          s.trowel.upNext = w.val ∧
            Option.all (fun t0 => decide (t0 + 1250000 ≤ s.tick)) s.trowel.upAt = true);
    let rises : Prop := s.wallPower w.val = 2 ∧ s.fl (R.WPWR_CTRL w.val) F.WPWR_CTRL_ocp = 0; let m : Mid := 0;
    let a := R.WPWR_GATE w.val; let v : Word := 1;
    let asks : Fin 16 → Prop := fun c => nbit (fld v F.WPWR_GATE_req) c.val = true ∧ nbit (s.fl a F.WPWR_GATE_req) c.val = false;
    let c : Fin 16 := 0; let due : Prop := ∃ e, e ∈ (s.wall w.val).gateWake ∧ e.fst = c.val ∧ e.snd + 2500 ≤ s.tick;
      (OnWall s w) ∧ (turn) ∧ (¬rises) ∧ (s.wallPower w.val ≠ 2) ∧ ((s.wall w.val).wipe = none) ∧ (s.powered = true) ∧
      (Allowed s m a true) ∧ (∃ c, asks c ∧ s.courseIdle w.val c.val = false) ∧ (¬due)) ∧
    (let s : State := wallsAnd2; let w : Wall := 0;
    let turn : Prop := ((s.trowel.running = true ∨ s.trowel.recovery = true) ∧
          s.trowel.upNext = w.val ∧
            Option.all (fun t0 => decide (t0 + 1250000 ≤ s.tick)) s.trowel.upAt = true);
    let rises : Prop := s.wallPower w.val = 2 ∧ s.fl (R.WPWR_CTRL w.val) F.WPWR_CTRL_ocp = 0; let m : Mid := 0;
    let a := R.WPWR_GATE w.val; let v : Word := 1;
    let asks : Fin 16 → Prop := fun c => nbit (fld v F.WPWR_GATE_req) c.val = true ∧ nbit (s.fl a F.WPWR_GATE_req) c.val = false;
    let c : Fin 16 := 15; let due : Prop := ∃ e, e ∈ (s.wall w.val).gateWake ∧ e.fst = c.val ∧ e.snd + 2500 ≤ s.tick;
      (OnWall s w) ∧ (turn) ∧ (¬rises) ∧ (s.wallPower w.val ≠ 2) ∧ ((s.wall w.val).wipe = none) ∧ (s.powered = true) ∧
      (Allowed s m a true) ∧ (∀ (c : Fin 16), asks c → s.courseIdle w.val c.val = true) ∧ (due)) ∧
    (let s : State := dark;
      (s.powered = false)) ∧
    (let s : State := up; let w : Wall := 1; let turn : Prop := ((s.trowel.running = true ∨ s.trowel.recovery = true) ∧
          s.trowel.upNext = w.val ∧
            Option.all (fun t0 => decide (t0 + 1250000 ≤ s.tick)) s.trowel.upAt = true); let m : Mid := 0;
    let a := R.WPWR_GATE w.val; let v : Word := 0;
    let asks : Fin 16 → Prop := fun c => nbit (fld v F.WPWR_GATE_req) c.val = true ∧ nbit (s.fl a F.WPWR_GATE_req) c.val = false;
    let c : Fin 16 := 0; let due : Prop := ∃ e, e ∈ (s.wall w.val).gateWake ∧ e.fst = c.val ∧ e.snd + 2500 ≤ s.tick;
      (OnWall s w) ∧ (¬turn) ∧ (s.wallPower w.val ≠ 2) ∧ ((s.wall w.val).wipe = none) ∧ (s.powered = true) ∧
      (Allowed s m a true) ∧ (∀ (c : Fin 16), asks c → s.courseIdle w.val c.val = true) ∧ (¬due)) := by
  refine ⟨?_, ?_, ?_, ?_, ?_, ?_, ?_⟩ <;> decide +kernel

theorem wit_MonitorsWatchTheRails :
    (let s : State := up; let mv : Samples := [(0, 60000)];
    let deb : Nat → Nat := fun m => s.fl (R.MON_CFG m) F.MON_CFG_deb;
    let out : Nat → Nat → Prop := fun m v => v.cast < (s.monLimits m).fst ∨ (s.monLimits m).snd < v.cast;
    let active : State → Nat → Prop := fun u m => u.fl (R.MON_CFG m) F.MON_CFG_active = 1;
    let rises : Nat → Nat → Prop := fun m v => out m v ∧ ¬active s m ∧ deb m ≤ (s.mon m).run ∧ s.fl (R.MON_CFG m) F.MON_CFG_en = 1;
    let due : Prop := s.trowel.running = true ∧ s.periodOver s.service.calAt 12500000 = true;
    let m3 := nextMon s.part.walls 100 s.trowel.calNext;
      (s.powered = true) ∧ (s.periodOver s.service.telAt 1250000 = true) ∧
      (s.periodOver s.service.cmpAt 1250 = true) ∧ ((List.map Prod.fst mv).Nodup) ∧ (∀ (e : Nat × Nat),
  e ∈ mv →
    isSensor e.fst = false →
      s.monLive e.fst = true → rises e.fst e.snd → s.fl (R.MON_CFG e.fst) F.MON_CFG_act ≤ 1) ∧ (due) ∧ (m3 < 88)) ∧
    (let s : State := monitors1; let mv : Samples := [(0, 60000)]; let m : Nat := 0; let v : Nat := 60000;
    let m2 : Nat := 0; let v2 : Nat := 60000; let deb : Nat → Nat := fun m => s.fl (R.MON_CFG m) F.MON_CFG_deb;
    let out : Nat → Nat → Prop := fun m v => v.cast < (s.monLimits m).fst ∨ (s.monLimits m).snd < v.cast;
    let active : State → Nat → Prop := fun u m => u.fl (R.MON_CFG m) F.MON_CFG_active = 1;
    let rises : Nat → Nat → Prop := fun m v => out m v ∧ ¬active s m ∧ deb m ≤ (s.mon m).run ∧ s.fl (R.MON_CFG m) F.MON_CFG_en = 1;
    let due : Prop := s.trowel.running = true ∧ s.periodOver s.service.calAt 12500000 = true;
    let m3 := nextMon s.part.walls 100 s.trowel.calNext; let ok : Bool := false;
      (s.powered = true) ∧ (s.periodOver s.service.telAt 1250000 = true) ∧
      (s.periodOver s.service.cmpAt 1250 = true) ∧ ((List.map Prod.fst mv).Nodup) ∧ ((m, v) ∈ mv) ∧
      (isSensor m = false) ∧ (s.monLive m = true) ∧ ((m2, v2) ∈ mv) ∧ (isSensor m2 = false) ∧ (s.monLive m2 = true) ∧
      (rises m2 v2) ∧ (∀ (e : Nat × Nat),
  e ∈ mv →
    isSensor e.fst = false →
      s.monLive e.fst = true → rises e.fst e.snd → s.fl (R.MON_CFG e.fst) F.MON_CFG_act ≤ 1) ∧ (due) ∧ (m3 < 88) ∧
      (ok = false)) ∧
    (let s : State := monitors2; let mv : Samples := [(0, 60000)]; let m : Nat := 0; let v : Nat := 60000;
    let m2 : Nat := 0; let v2 : Nat := 60000; let deb : Nat → Nat := fun m => s.fl (R.MON_CFG m) F.MON_CFG_deb;
    let out : Nat → Nat → Prop := fun m v => v.cast < (s.monLimits m).fst ∨ (s.monLimits m).snd < v.cast;
    let active : State → Nat → Prop := fun u m => u.fl (R.MON_CFG m) F.MON_CFG_active = 1;
    let rises : Nat → Nat → Prop := fun m v => out m v ∧ ¬active s m ∧ deb m ≤ (s.mon m).run ∧ s.fl (R.MON_CFG m) F.MON_CFG_en = 1;
    let due : Prop := s.trowel.running = true ∧ s.periodOver s.service.calAt 12500000 = true;
    let m3 := nextMon s.part.walls 100 s.trowel.calNext;
      (s.powered = true) ∧ (s.periodOver s.service.telAt 1250000 = true) ∧
      (s.periodOver s.service.cmpAt 1250 = true) ∧ ((List.map Prod.fst mv).Nodup) ∧ ((m, v) ∈ mv) ∧
      (isSensor m = false) ∧ (s.monLive m = true) ∧ ((m2, v2) ∈ mv) ∧ (isSensor m2 = false) ∧ (s.monLive m2 = true) ∧
      (rises m2 v2) ∧ (s.fl (R.MON_CFG m2) F.MON_CFG_act = 3) ∧ (due) ∧ (m3 < 88)) ∧
    (let s : State := monitors1; let mv : Samples := [(0, (monitors1.monLimits 0).1.toNat)]; let m : Nat := 0;
    let v : Nat := (monitors1.monLimits 0).1.toNat; let m2 : Nat := 0; let v2 : Nat := (monitors1.monLimits 0).1.toNat;
    let deb : Nat → Nat := fun m => s.fl (R.MON_CFG m) F.MON_CFG_deb;
    let out : Nat → Nat → Prop := fun m v => v.cast < (s.monLimits m).fst ∨ (s.monLimits m).snd < v.cast;
    let active : State → Nat → Prop := fun u m => u.fl (R.MON_CFG m) F.MON_CFG_active = 1;
    let rises : Nat → Nat → Prop := fun m v => out m v ∧ ¬active s m ∧ deb m ≤ (s.mon m).run ∧ s.fl (R.MON_CFG m) F.MON_CFG_en = 1;
    let due : Prop := s.trowel.running = true ∧ s.periodOver s.service.calAt 12500000 = true;
    let m3 := nextMon s.part.walls 100 s.trowel.calNext;
      (s.powered = true) ∧ (s.periodOver s.service.telAt 1250000 = true) ∧
      (s.periodOver s.service.cmpAt 1250 = true) ∧ ((List.map Prod.fst mv).Nodup) ∧ ((m, v) ∈ mv) ∧
      (isSensor m = false) ∧ (s.monLive m = true) ∧ ((m2, v2) ∈ mv) ∧ (isSensor m2 = false) ∧ (s.monLive m2 = true) ∧
      (∀ (e : Nat × Nat),
  e ∈ mv →
    isSensor e.fst = false →
      s.monLive e.fst = true → rises e.fst e.snd → s.fl (R.MON_CFG e.fst) F.MON_CFG_act ≤ 1) ∧ (due) ∧ (m3 < 88)) ∧
    (let s : State := { up with service := { up.service with telAt := some 0, cmpAt := some 0, calAt := some 0 } };
    let due : Prop := s.trowel.running = true ∧ s.periodOver s.service.calAt 12500000 = true;
      (s.powered = true) ∧ (s.periodOver s.service.telAt 1250000 = false) ∧
      (s.periodOver s.service.cmpAt 1250 = false) ∧ (¬due)) := by
  refine ⟨?_, ?_, ?_, ?_, ?_⟩ <;> decide +kernel

theorem wit_ClockStepsFollowTheTemperature :
    (let s : State := sHot; let w : Wall := 0; let x := s.wall w.val; let clk := R.WPWR_CLK w.val;
    let asks : Prop := (s.trowel.running = true ∧
          s.fl clk F.WPWR_CLK_auto = 1 ∧
            s.wallOff w.val = false ∧ x.pendStep = none ∧ s.policyStep w.val ≠ s.clockStep w.val);
    let now : Prop := s.phase w.val ≠ 0 ∧ s.slotNow w.val = 0;
    let may : Prop := s.trowel.running = true ∧ s.fl (R.WPWR_CTRL w.val) F.WPWR_CTRL_tsb = 1;
    let hot : Prop := (s.wallPower w.val = 0 ∧
          Option.any (fun t0 => decide (t0 + 1250000000 ≤ s.tick)) x.hotSince = true);
    let cool : Prop := (s.wallPower w.val = 1 ∧
          x.tsbBy = true ∧ Option.any (fun t0 => decide (t0 + 12500000000 ≤ s.tick)) x.coolSince = true);
      (OnWall s w) ∧ (asks) ∧ (x.pendStep = none ∨ ¬now) ∧ (¬may ∨ ¬hot ∧ ¬cool)) ∧
    (let s : State := clockSteps1; let w : Wall := 0; let x := s.wall w.val; let clk := R.WPWR_CLK w.val;
    let asks : Prop := (s.trowel.running = true ∧
          s.fl clk F.WPWR_CLK_auto = 1 ∧
            s.wallOff w.val = false ∧ x.pendStep = none ∧ s.policyStep w.val ≠ s.clockStep w.val); let k : Nat := 2;
    let p : Bool := true; let now : Prop := s.phase w.val ≠ 0 ∧ s.slotNow w.val = 0;
    let may : Prop := s.trowel.running = true ∧ s.fl (R.WPWR_CTRL w.val) F.WPWR_CTRL_tsb = 1;
    let hot : Prop := (s.wallPower w.val = 0 ∧
          Option.any (fun t0 => decide (t0 + 1250000000 ≤ s.tick)) x.hotSince = true);
    let cool : Prop := (s.wallPower w.val = 1 ∧
          x.tsbBy = true ∧ Option.any (fun t0 => decide (t0 + 12500000000 ≤ s.tick)) x.coolSince = true);
      (OnWall s w) ∧ (¬asks) ∧ (x.pendStep = some (k, p)) ∧ (now) ∧ (¬may ∨ ¬hot ∧ ¬cool)) ∧
    (let s : State := clockSteps2; let w : Wall := 0; let x := s.wall w.val; let clk := R.WPWR_CLK w.val;
    let asks : Prop := (s.trowel.running = true ∧
          s.fl clk F.WPWR_CLK_auto = 1 ∧
            s.wallOff w.val = false ∧ x.pendStep = none ∧ s.policyStep w.val ≠ s.clockStep w.val);
    let now : Prop := s.phase w.val ≠ 0 ∧ s.slotNow w.val = 0;
    let may : Prop := s.trowel.running = true ∧ s.fl (R.WPWR_CTRL w.val) F.WPWR_CTRL_tsb = 1;
    let hot : Prop := (s.wallPower w.val = 0 ∧
          Option.any (fun t0 => decide (t0 + 1250000000 ≤ s.tick)) x.hotSince = true);
      (OnWall s w) ∧ (¬asks) ∧ (x.pendStep = none ∨ ¬now) ∧ (may) ∧ (hot)) ∧
    (let s : State := sCool; let w : Wall := 0; let x := s.wall w.val; let clk := R.WPWR_CLK w.val;
    let asks : Prop := (s.trowel.running = true ∧
          s.fl clk F.WPWR_CLK_auto = 1 ∧
            s.wallOff w.val = false ∧ x.pendStep = none ∧ s.policyStep w.val ≠ s.clockStep w.val);
    let now : Prop := s.phase w.val ≠ 0 ∧ s.slotNow w.val = 0;
    let may : Prop := s.trowel.running = true ∧ s.fl (R.WPWR_CTRL w.val) F.WPWR_CTRL_tsb = 1;
    let cool : Prop := (s.wallPower w.val = 1 ∧
          x.tsbBy = true ∧ Option.any (fun t0 => decide (t0 + 12500000000 ≤ s.tick)) x.coolSince = true);
      (OnWall s w) ∧ (¬asks) ∧ (x.pendStep = none ∨ ¬now) ∧ (may) ∧ (cool)) := by
  refine ⟨?_, ?_, ?_, ?_⟩ <;> decide +kernel

theorem wit_ActivationsGoThroughATrial :
    (let s : State := up;
      (s.trowel.act = none)) ∧
    (let s : State := sMixed; let a : Activation := act0;
    let point : Prop := a.reached = none ∧ s.trowel.running = true ∧ s.pointReached a.when_ a.target a.wall a.ang = true;
    let x := s.trowel.slot a.slot; let fits : Prop := s.versionsFit x.version = true;
    let ready : Prop := a.reached.isSome = true ∧ a.restarted = false ∧ s.othersRun = false;
    let soaked : Prop := (Option.any
              (fun t0 =>
                decide
                  (t0 +
                      BitVec.toNat (s.trowel.settings.getD 4 5000) *
                        1250000 ≤
                    s.tick))
              s.trowel.trialSince =
            true ∧
          s.trowel.running = true ∧ a.restarted = true ∧ (∀ (w : Nat), w ∈ a.ready → s.isReady w = true) ∧ s.cxl.up = a.cxlUp);
    let late : Prop := (Option.any (fun t0 => decide (t0 + 12500000000 ≤ s.tick)) a.reached = true ∧
          a.restarted = false ∧ s.othersRun = true);
      (s.trowel.act = some a) ∧ (point) ∧ (¬fits) ∧ (¬ready) ∧ (¬soaked) ∧ (¬late)) ∧
    (let s : State := sAct act0; let a : Activation := act0;
    let point : Prop := a.reached = none ∧ s.trowel.running = true ∧ s.pointReached a.when_ a.target a.wall a.ang = true;
    let x := s.trowel.slot a.slot; let fits : Prop := s.versionsFit x.version = true; let rolls : Prop := (a.when_ = 1 ∧
          s.trowel.settings.getD 6 1 = 1 ∧
            s.rollWaits x = true); let now := BitVec.toNat (s.rd R.CHN_TICK);
    let waits : Prop := a.waiting = true ∧ now ≤ a.waitTick;
    let ready : Prop := a.reached.isSome = true ∧ a.restarted = false ∧ s.othersRun = false;
    let soaked : Prop := (Option.any
              (fun t0 =>
                decide
                  (t0 +
                      BitVec.toNat (s.trowel.settings.getD 4 5000) *
                        1250000 ≤
                    s.tick))
              s.trowel.trialSince =
            true ∧
          s.trowel.running = true ∧ a.restarted = true ∧ (∀ (w : Nat), w ∈ a.ready → s.isReady w = true) ∧ s.cxl.up = a.cxlUp);
    let late : Prop := (Option.any (fun t0 => decide (t0 + 12500000000 ≤ s.tick)) a.reached = true ∧
          a.restarted = false ∧ s.othersRun = true);
      (s.trowel.act = some a) ∧ (point) ∧ (fits) ∧ (¬rolls) ∧ (¬waits) ∧ (¬ready) ∧ (¬soaked) ∧ (¬late)) ∧
    (let s : State := sAct { act0 with when_ := 1, waiting := true, waitTick := 9 };
    let a : Activation := { act0 with when_ := 1, waiting := true, waitTick := 9 };
    let point : Prop := a.reached = none ∧ s.trowel.running = true ∧ s.pointReached a.when_ a.target a.wall a.ang = true;
    let x := s.trowel.slot a.slot; let fits : Prop := s.versionsFit x.version = true; let rolls : Prop := (a.when_ = 1 ∧
          s.trowel.settings.getD 6 1 = 1 ∧
            s.rollWaits x = true); let now := BitVec.toNat (s.rd R.CHN_TICK);
    let waits : Prop := a.waiting = true ∧ now ≤ a.waitTick;
    let ready : Prop := a.reached.isSome = true ∧ a.restarted = false ∧ s.othersRun = false;
    let soaked : Prop := (Option.any
              (fun t0 =>
                decide
                  (t0 +
                      BitVec.toNat (s.trowel.settings.getD 4 5000) *
                        1250000 ≤
                    s.tick))
              s.trowel.trialSince =
            true ∧
          s.trowel.running = true ∧ a.restarted = true ∧ (∀ (w : Nat), w ∈ a.ready → s.isReady w = true) ∧ s.cxl.up = a.cxlUp);
    let late : Prop := (Option.any (fun t0 => decide (t0 + 12500000000 ≤ s.tick)) a.reached = true ∧
          a.restarted = false ∧ s.othersRun = true);
      (s.trowel.act = some a) ∧ (point) ∧ (fits) ∧ (¬rolls) ∧ (waits) ∧ (¬ready) ∧ (¬soaked) ∧ (¬late)) ∧
    (let s : State := sRoll; let a : Activation := { act0 with when_ := 1 };
    let point : Prop := a.reached = none ∧ s.trowel.running = true ∧ s.pointReached a.when_ a.target a.wall a.ang = true;
    let x := s.trowel.slot a.slot; let fits : Prop := s.versionsFit x.version = true; let rolls : Prop := (a.when_ = 1 ∧
          s.trowel.settings.getD 6 1 = 1 ∧
            s.rollWaits x = true);
    let ready : Prop := a.reached.isSome = true ∧ a.restarted = false ∧ s.othersRun = false;
    let soaked : Prop := (Option.any
              (fun t0 =>
                decide
                  (t0 +
                      BitVec.toNat (s.trowel.settings.getD 4 5000) *
                        1250000 ≤
                    s.tick))
              s.trowel.trialSince =
            true ∧
          s.trowel.running = true ∧ a.restarted = true ∧ (∀ (w : Nat), w ∈ a.ready → s.isReady w = true) ∧ s.cxl.up = a.cxlUp);
    let late : Prop := (Option.any (fun t0 => decide (t0 + 12500000000 ≤ s.tick)) a.reached = true ∧
          a.restarted = false ∧ s.othersRun = true);
      (s.trowel.act = some a) ∧ (point) ∧ (fits) ∧ (rolls) ∧ (¬ready) ∧ (¬soaked) ∧ (¬late)) ∧
    (let s : State := activations1; let a : Activation := activations2;
    let point : Prop := a.reached = none ∧ s.trowel.running = true ∧ s.pointReached a.when_ a.target a.wall a.ang = true;
    let ready : Prop := a.reached.isSome = true ∧ a.restarted = false ∧ s.othersRun = false;
    let x := s.trowel.slot a.slot; let fits : Prop := s.versionsFit x.version = true; let soaked : Prop := (Option.any
              (fun t0 =>
                decide
                  (t0 +
                      BitVec.toNat (s.trowel.settings.getD 4 5000) *
                        1250000 ≤
                    s.tick))
              s.trowel.trialSince =
            true ∧
          s.trowel.running = true ∧ a.restarted = true ∧ (∀ (w : Nat), w ∈ a.ready → s.isReady w = true) ∧ s.cxl.up = a.cxlUp);
    let late : Prop := (Option.any (fun t0 => decide (t0 + 12500000000 ≤ s.tick)) a.reached = true ∧
          a.restarted = false ∧ s.othersRun = true);
      (s.trowel.act = some a) ∧ (¬point) ∧ (ready) ∧ (fits) ∧ (¬soaked) ∧ (¬late)) ∧
    (let s : State := sMixedRun; let a : Activation := activations2;
    let point : Prop := a.reached = none ∧ s.trowel.running = true ∧ s.pointReached a.when_ a.target a.wall a.ang = true;
    let ready : Prop := a.reached.isSome = true ∧ a.restarted = false ∧ s.othersRun = false;
    let x := s.trowel.slot a.slot; let fits : Prop := s.versionsFit x.version = true; let soaked : Prop := (Option.any
              (fun t0 =>
                decide
                  (t0 +
                      BitVec.toNat (s.trowel.settings.getD 4 5000) *
                        1250000 ≤
                    s.tick))
              s.trowel.trialSince =
            true ∧
          s.trowel.running = true ∧ a.restarted = true ∧ (∀ (w : Nat), w ∈ a.ready → s.isReady w = true) ∧ s.cxl.up = a.cxlUp);
    let late : Prop := (Option.any (fun t0 => decide (t0 + 12500000000 ≤ s.tick)) a.reached = true ∧
          a.restarted = false ∧ s.othersRun = true);
      (s.trowel.act = some a) ∧ (¬point) ∧ (ready) ∧ (¬fits) ∧ (¬soaked) ∧ (¬late)) ∧
    (let s : State := sSoak; let a : Activation := act1;
    let point : Prop := a.reached = none ∧ s.trowel.running = true ∧ s.pointReached a.when_ a.target a.wall a.ang = true;
    let ready : Prop := a.reached.isSome = true ∧ a.restarted = false ∧ s.othersRun = false;
    let soaked : Prop := (Option.any
              (fun t0 =>
                decide
                  (t0 +
                      BitVec.toNat (s.trowel.settings.getD 4 5000) *
                        1250000 ≤
                    s.tick))
              s.trowel.trialSince =
            true ∧
          s.trowel.running = true ∧ a.restarted = true ∧ (∀ (w : Nat), w ∈ a.ready → s.isReady w = true) ∧ s.cxl.up = a.cxlUp);
    let late : Prop := (Option.any (fun t0 => decide (t0 + 12500000000 ≤ s.tick)) a.reached = true ∧
          a.restarted = false ∧ s.othersRun = true);
      (s.trowel.act = some a) ∧ (¬point) ∧ (¬ready) ∧ (soaked) ∧ ((s.trowel.slot !a.slot).state = 5) ∧ (¬late)) ∧
    (let s : State := { sSoak with trowel := { sSoak.trowel with slotA := { state := 5 } } }; let a : Activation := act1;
    let point : Prop := a.reached = none ∧ s.trowel.running = true ∧ s.pointReached a.when_ a.target a.wall a.ang = true;
    let ready : Prop := a.reached.isSome = true ∧ a.restarted = false ∧ s.othersRun = false;
    let soaked : Prop := (Option.any
              (fun t0 =>
                decide
                  (t0 +
                      BitVec.toNat (s.trowel.settings.getD 4 5000) *
                        1250000 ≤
                    s.tick))
              s.trowel.trialSince =
            true ∧
          s.trowel.running = true ∧ a.restarted = true ∧ (∀ (w : Nat), w ∈ a.ready → s.isReady w = true) ∧ s.cxl.up = a.cxlUp);
    let late : Prop := (Option.any (fun t0 => decide (t0 + 12500000000 ≤ s.tick)) a.reached = true ∧
          a.restarted = false ∧ s.othersRun = true);
      (s.trowel.act = some a) ∧ (¬point) ∧ (¬ready) ∧ (soaked) ∧ ((s.trowel.slot !a.slot).state = 5) ∧ (¬late)) ∧
    (let s : State := sLate; let a : Activation := activations2;
    let point : Prop := a.reached = none ∧ s.trowel.running = true ∧ s.pointReached a.when_ a.target a.wall a.ang = true;
    let ready : Prop := a.reached.isSome = true ∧ a.restarted = false ∧ s.othersRun = false;
    let soaked : Prop := (Option.any
              (fun t0 =>
                decide
                  (t0 +
                      BitVec.toNat (s.trowel.settings.getD 4 5000) *
                        1250000 ≤
                    s.tick))
              s.trowel.trialSince =
            true ∧
          s.trowel.running = true ∧ a.restarted = true ∧ (∀ (w : Nat), w ∈ a.ready → s.isReady w = true) ∧ s.cxl.up = a.cxlUp);
    let late : Prop := (Option.any (fun t0 => decide (t0 + 12500000000 ≤ s.tick)) a.reached = true ∧
          a.restarted = false ∧ s.othersRun = true);
      (s.trowel.act = some a) ∧ (¬point) ∧ (¬ready) ∧ (¬soaked) ∧ (late)) := by
  refine ⟨?_, ?_, ?_, ?_, ?_, ?_, ?_, ?_, ?_, ?_⟩ <;> decide +kernel

set_option maxRecDepth 1000000 in
theorem wit_TheLoaderBootsOrRecovers :
    (let s : State := State.reset; let loads : Prop := s.trowel.running = false ∧ s.trowel.recovery = false;
    let expired : Prop := s.trowel.recovery = false ∧ s.wdtOver = true; let clear : Prop := (s.trowel.running = true ∧
          s.trowel.bootAt + 75000000000 ≤ s.tick ∧
            s.service.wdtLast + 75000000000 ≤ s.tick);
      (s.powered = true) ∧ (loads) ∧ (s.trowel.bootSlot = none) ∧ (¬loads ∨ s.trowel.bootSlot = none) ∧ (¬expired) ∧
      (¬clear)) ∧
    (let s : State := up; let loads : Prop := s.trowel.running = false ∧ s.trowel.recovery = false;
    let expired : Prop := s.trowel.recovery = false ∧ s.wdtOver = true; let clear : Prop := (s.trowel.running = true ∧
          s.trowel.bootAt + 75000000000 ≤ s.tick ∧
            s.service.wdtLast + 75000000000 ≤ s.tick);
      (s.powered = true) ∧ (¬loads) ∧ (¬loads ∨ s.trowel.bootSlot = none) ∧ (¬expired) ∧ (¬clear)) ∧
    (let s : State := sLoader 5 imgGood 0; let loads : Prop := s.trowel.running = false ∧ s.trowel.recovery = false;
    let b : Bool := true; let i : Image := imgGood; let ok : Bool := true;
    let st := if ok = true then s.bootCheck i else stSignature; let trial : Prop := (s.trowel.slot b).state = 4;
    let b2 : Bool := true; let i2 : Image := imgGood;
    let late : Prop := ((s.trowel.bootAt + if i2.peger = true then 812500000 else 312500000) ≤
          s.tick); let expired : Prop := s.trowel.recovery = false ∧ s.wdtOver = true;
    let clear : Prop := (s.trowel.running = true ∧
          s.trowel.bootAt + 75000000000 ≤ s.tick ∧
            s.service.wdtLast + 75000000000 ≤ s.tick);
      (s.powered = true) ∧ (loads) ∧ (s.trowel.bootSlot = some b) ∧ ((s.trowel.slot b).image = some i) ∧
      (st = 0 ∨ st = stSettings ∧ ¬trial) ∧ (s.trowel.bootSlot = some b2) ∧ ((s.trowel.slot b2).image = some i2) ∧
      (¬late) ∧ (¬expired) ∧ (¬clear)) ∧
    (let s : State := sLoader 4 theLoader2 0; let loads : Prop := s.trowel.running = false ∧ s.trowel.recovery = false;
    let b : Bool := true; let i : Image := theLoader2; let ok : Bool := true;
    let st := if ok = true then s.bootCheck i else stSignature; let trial : Prop := (s.trowel.slot b).state = 4;
    let b2 : Bool := true; let i2 : Image := theLoader2;
    let late : Prop := ((s.trowel.bootAt + if i2.peger = true then 812500000 else 312500000) ≤
          s.tick); let expired : Prop := s.trowel.recovery = false ∧ s.wdtOver = true;
    let clear : Prop := (s.trowel.running = true ∧
          s.trowel.bootAt + 75000000000 ≤ s.tick ∧
            s.service.wdtLast + 75000000000 ≤ s.tick);
      (s.powered = true) ∧ (loads) ∧ (s.trowel.bootSlot = some b) ∧ ((s.trowel.slot b).image = some i) ∧ (st ≠ 0) ∧
      (trial) ∧ (st ≠ stSettings) ∧ (s.trowel.bootSlot = some b2) ∧ ((s.trowel.slot b2).image = some i2) ∧ (¬late) ∧
      (¬expired) ∧ (¬clear)) ∧
    (let s : State := sLoader 5 theLoader2 0; let loads : Prop := s.trowel.running = false ∧ s.trowel.recovery = false;
    let b : Bool := true; let i : Image := theLoader2; let ok : Bool := true;
    let st := if ok = true then s.bootCheck i else stSignature; let trial : Prop := (s.trowel.slot b).state = 4;
    let b2 : Bool := true; let i2 : Image := theLoader2;
    let late : Prop := ((s.trowel.bootAt + if i2.peger = true then 812500000 else 312500000) ≤
          s.tick); let expired : Prop := s.trowel.recovery = false ∧ s.wdtOver = true;
    let clear : Prop := (s.trowel.running = true ∧
          s.trowel.bootAt + 75000000000 ≤ s.tick ∧
            s.service.wdtLast + 75000000000 ≤ s.tick);
      (s.powered = true) ∧ (loads) ∧ (s.trowel.bootSlot = some b) ∧ ((s.trowel.slot b).image = some i) ∧ (st ≠ 0) ∧
      (st ≠ stSettings) ∧ (¬trial) ∧ (s.trowel.bootSlot = some b2) ∧ ((s.trowel.slot b2).image = some i2) ∧ (¬late) ∧
      (¬expired) ∧ (¬clear)) ∧
    (let s : State := sLoader 5 imgGood 0; let loads : Prop := s.trowel.running = false ∧ s.trowel.recovery = false;
    let b : Bool := true; let i : Image := imgGood; let ok : Bool := false;
    let st := if ok = true then s.bootCheck i else stSignature; let trial : Prop := (s.trowel.slot b).state = 4;
    let b2 : Bool := true; let i2 : Image := imgGood;
    let late : Prop := ((s.trowel.bootAt + if i2.peger = true then 812500000 else 312500000) ≤
          s.tick); let expired : Prop := s.trowel.recovery = false ∧ s.wdtOver = true;
    let clear : Prop := (s.trowel.running = true ∧
          s.trowel.bootAt + 75000000000 ≤ s.tick ∧
            s.service.wdtLast + 75000000000 ≤ s.tick);
      (s.powered = true) ∧ (loads) ∧ (s.trowel.bootSlot = some b) ∧ ((s.trowel.slot b).image = some i) ∧ (st ≠ 0) ∧
      (st ≠ stSettings) ∧ (¬trial) ∧ (s.trowel.bootSlot = some b2) ∧ ((s.trowel.slot b2).image = some i2) ∧ (¬late) ∧
      (¬expired) ∧ (¬clear)) ∧
    (let s : State := sLoader 4 imgGood 812500000;
    let loads : Prop := s.trowel.running = false ∧ s.trowel.recovery = false; let b : Bool := true;
    let i : Image := imgGood; let ok : Bool := true; let st := if ok = true then s.bootCheck i else stSignature;
    let trial : Prop := (s.trowel.slot b).state = 4; let b2 : Bool := true; let i2 : Image := imgGood;
    let late : Prop := ((s.trowel.bootAt + if i2.peger = true then 812500000 else 312500000) ≤
          s.tick); let expired : Prop := s.trowel.recovery = false ∧ s.wdtOver = true;
    let clear : Prop := (s.trowel.running = true ∧
          s.trowel.bootAt + 75000000000 ≤ s.tick ∧
            s.service.wdtLast + 75000000000 ≤ s.tick);
      (s.powered = true) ∧ (loads) ∧ (s.trowel.bootSlot = some b) ∧ ((s.trowel.slot b).image = some i) ∧
      (st = 0 ∨ st = stSettings ∧ ¬trial) ∧ (s.trowel.bootSlot = some b2) ∧ ((s.trowel.slot b2).image = some i2) ∧
      (late) ∧ ((s.trowel.slot b2).state = 4) ∧ (¬expired) ∧ (¬clear)) ∧
    (let s : State := sLoader 5 imgGood 812500000;
    let loads : Prop := s.trowel.running = false ∧ s.trowel.recovery = false; let b : Bool := true;
    let i : Image := imgGood; let ok : Bool := true; let st := if ok = true then s.bootCheck i else stSignature;
    let trial : Prop := (s.trowel.slot b).state = 4; let b2 : Bool := true; let i2 : Image := imgGood;
    let late : Prop := ((s.trowel.bootAt + if i2.peger = true then 812500000 else 312500000) ≤
          s.tick); let expired : Prop := s.trowel.recovery = false ∧ s.wdtOver = true;
    let clear : Prop := (s.trowel.running = true ∧
          s.trowel.bootAt + 75000000000 ≤ s.tick ∧
            s.service.wdtLast + 75000000000 ≤ s.tick);
      (s.powered = true) ∧ (loads) ∧ (s.trowel.bootSlot = some b) ∧ ((s.trowel.slot b).image = some i) ∧
      (st = 0 ∨ st = stSettings ∧ ¬trial) ∧ (s.trowel.bootSlot = some b2) ∧ ((s.trowel.slot b2).image = some i2) ∧
      (late) ∧ ((s.trowel.slot b2).state ≠ 4) ∧ (¬expired) ∧ (¬clear)) ∧
    (let s : State := { sLoader 5 imgGood 81250000000 with service := { State.reset.service with wdtLast := 0 } };
    let loads : Prop := s.trowel.running = false ∧ s.trowel.recovery = false; let b : Bool := true;
    let i : Image := imgGood; let ok : Bool := true; let st := if ok = true then s.bootCheck i else stSignature;
    let trial : Prop := (s.trowel.slot b).state = 4; let b2 : Bool := true; let i2 : Image := imgGood;
    let late : Prop := ((s.trowel.bootAt + if i2.peger = true then 812500000 else 312500000) ≤
          s.tick); let expired : Prop := s.trowel.recovery = false ∧ s.wdtOver = true; let b4 : Bool := true;
    let clear : Prop := (s.trowel.running = true ∧
          s.trowel.bootAt + 75000000000 ≤ s.tick ∧
            s.service.wdtLast + 75000000000 ≤ s.tick);
      (s.powered = true) ∧ (loads) ∧ (s.trowel.bootSlot = some b) ∧ ((s.trowel.slot b).image = some i) ∧
      (st = 0 ∨ st = stSettings ∧ ¬trial) ∧ (s.trowel.bootSlot = some b2) ∧ ((s.trowel.slot b2).image = some i2) ∧
      (late) ∧ ((s.trowel.slot b2).state ≠ 4) ∧ (expired) ∧ (s.trowel.slotIn 4 = none) ∧ (s.trowel.running = false) ∧
      (s.trowel.bootSlot = some b4) ∧ (¬clear)) ∧
    (let s : State := { theLoader3 with tick := 75000000000 };
    let loads : Prop := s.trowel.running = false ∧ s.trowel.recovery = false;
    let expired : Prop := s.trowel.recovery = false ∧ s.wdtOver = true;
    let n := min 255 (s.fl R.PWR_WDT F.PWR_WDT_count + 1); let clear : Prop := (s.trowel.running = true ∧
          s.trowel.bootAt + 75000000000 ≤ s.tick ∧
            s.service.wdtLast + 75000000000 ≤ s.tick);
      (s.powered = true) ∧ (¬loads) ∧ (¬loads ∨ s.trowel.bootSlot = none) ∧ (expired) ∧ (s.trowel.running = true) ∧ (n = 4) ∧
      (s.trowel.slotIn 4 = none) ∧ (clear)) ∧
    (let s : State := { sTrial with tick := 75000000000 };
    let loads : Prop := s.trowel.running = false ∧ s.trowel.recovery = false;
    let expired : Prop := s.trowel.recovery = false ∧ s.wdtOver = true; let b3 : Bool := false;
    let clear : Prop := (s.trowel.running = true ∧
          s.trowel.bootAt + 75000000000 ≤ s.tick ∧
            s.service.wdtLast + 75000000000 ≤ s.tick);
      (s.powered = true) ∧ (¬loads) ∧ (¬loads ∨ s.trowel.bootSlot = none) ∧ (expired) ∧ (s.trowel.running = true) ∧
      (s.trowel.slotIn 4 = some b3) ∧ (clear)) := by
  refine ⟨?_, ?_, ?_, ?_, ?_, ?_, ?_, ?_, ?_, ?_, ?_⟩ <;> decide +kernel

set_option maxRecDepth 1000000 in
theorem wit_RecoveryTakesAnImage :
    (let s : State := up; let m : Mid := 0; let a := R.RCV_CTRL; let rom : Prop := s.trowel.recovery = true ∧ m = 0;
    let data : Bytes := []; let takes : Prop := s.trowel.recovery = true ∧ List.length data = 1024;
    let v2 : Word := setFld 0 F.RCV_CTRL_len 4096;
      (Allowed s m a true) ∧ (¬rom) ∧ (¬takes) ∧ (Allowed s m R.TRW_RCV_SEND true) ∧
      (fld v2 F.TRW_RCV_SEND_go = 0 ∨ s.trowel.slotIn 5 = none)) ∧
    (let s : State := sRom; let m : Mid := 0; let a := R.RCV_CTRL; let rom : Prop := s.trowel.recovery = true ∧ m = 0;
    let v : Word := setFld 0 F.RCV_CTRL_len 4096; let len := fld v F.RCV_CTRL_len;
    let legal : Prop := 1 ≤ len ∧ len ≤ 4096; let got := (s.trowel.rcvGot ++
          List.take len
            (bytesOfWords
              (List.map (fun j => s.trowel.rcvWin.getD j 0) (List.range 1024)))); let img : Image := img0;
    let i := imageOf s.trowel.rcvGot img.sigOk; let st := (if hdr i.header 5 1 ≠ 1 then stBadArg
        else s.imageCheck i); let data : Bytes := leBytes 1024 (2 ^ 138);
    let takes : Prop := s.trowel.recovery = true ∧ List.length data = 1024; let b := s.trowel.xmodem ++ data;
    let v2 : Word := setFld 0 F.RCV_CTRL_len 4096;
      (Allowed s m a true) ∧ (rom) ∧ (fld v F.RCV_CTRL_abort = 0) ∧ (legal) ∧ (fld v F.RCV_CTRL_done = 0) ∧
      (s.headStatus got ≠ 0) ∧ (st ≠ 0) ∧ (takes) ∧ (s.headStatus b ≠ 0) ∧ (Allowed s m R.TRW_RCV_SEND true) ∧
      (fld v2 F.TRW_RCV_SEND_go = 0 ∨ s.trowel.slotIn 5 = none)) ∧
    (let s : State := sRom; let m : Mid := 0; let a := R.RCV_CTRL; let rom : Prop := s.trowel.recovery = true ∧ m = 0;
    let v : Word := setFld 0 F.RCV_CTRL_abort 1; let img : Image := img0; let i := imageOf s.trowel.rcvGot img.sigOk;
    let st := (if hdr i.header 5 1 ≠ 1 then stBadArg
        else s.imageCheck i); let data : Bytes := List.replicate 1024 0;
    let takes : Prop := s.trowel.recovery = true ∧ List.length data = 1024; let b := s.trowel.xmodem ++ data;
    let v2 : Word := setFld 0 F.RCV_CTRL_abort 1;
      (Allowed s m a true) ∧ (rom) ∧ (fld v F.RCV_CTRL_abort = 1) ∧ (st ≠ 0) ∧ (takes) ∧ (s.headStatus b ≠ 0) ∧
      (Allowed s m R.TRW_RCV_SEND true) ∧ (fld v2 F.TRW_RCV_SEND_go = 0 ∨ s.trowel.slotIn 5 = none)) ∧
    (let s : State := sRom; let m : Mid := 0; let a := R.RCV_CTRL; let rom : Prop := s.trowel.recovery = true ∧ m = 0;
    let v : Word := 0; let len := fld v F.RCV_CTRL_len; let legal : Prop := 1 ≤ len ∧ len ≤ 4096; let img : Image := img0;
    let i := imageOf s.trowel.rcvGot img.sigOk; let st := (if hdr i.header 5 1 ≠ 1 then stBadArg
        else s.imageCheck i); let data : Bytes := imgFwOf 0x7C3AA3C7 512 ++ List.replicate 512 0;
    let takes : Prop := s.trowel.recovery = true ∧ List.length data = 1024; let b := s.trowel.xmodem ++ data;
    let v2 : Word := 0;
      (Allowed s m a true) ∧ (rom) ∧ (fld v F.RCV_CTRL_abort = 0) ∧ (¬legal) ∧ (st ≠ 0) ∧ (takes) ∧ (s.headStatus b = 0) ∧
      (512 + hdr b 16 4 ≤ List.length b) ∧ (Allowed s m R.TRW_RCV_SEND true) ∧
      (fld v2 F.TRW_RCV_SEND_go = 0 ∨ s.trowel.slotIn 5 = none)) ∧
    (let s : State := sRom; let m : Mid := 0; let a := R.RCV_CTRL; let rom : Prop := s.trowel.recovery = true ∧ m = 0;
    let v : Word := setFld 0 F.RCV_CTRL_len 4; let len := fld v F.RCV_CTRL_len; let legal : Prop := 1 ≤ len ∧ len ≤ 4096;
    let got := (s.trowel.rcvGot ++
          List.take len
            (bytesOfWords
              (List.map (fun j => s.trowel.rcvWin.getD j 0) (List.range 1024)))); let img : Image := img0;
    let i := imageOf s.trowel.rcvGot img.sigOk; let st := (if hdr i.header 5 1 ≠ 1 then stBadArg
        else s.imageCheck i); let data : Bytes := imgFw 0x7C3AA3C7 ++ List.replicate 512 0;
    let takes : Prop := s.trowel.recovery = true ∧ List.length data = 1024; let b := s.trowel.xmodem ++ data;
    let v2 : Word := setFld 0 F.RCV_CTRL_len 4;
      (Allowed s m a true) ∧ (rom) ∧ (fld v F.RCV_CTRL_abort = 0) ∧ (legal) ∧ (fld v F.RCV_CTRL_done = 0) ∧
      (s.headStatus got = 0) ∧ (st ≠ 0) ∧ (takes) ∧ (s.headStatus b = 0) ∧ (List.length b < 512 + hdr b 16 4) ∧
      (Allowed s m R.TRW_RCV_SEND true) ∧ (fld v2 F.TRW_RCV_SEND_go = 0 ∨ s.trowel.slotIn 5 = none)) ∧
    (let s : State := sRom; let m : Mid := 0; let a := R.RCV_CTRL; let rom : Prop := s.trowel.recovery = true ∧ m = 0;
    let v : Word := setFld (setFld 0 F.RCV_CTRL_len 4) F.RCV_CTRL_done 1; let len := fld v F.RCV_CTRL_len;
    let legal : Prop := 1 ≤ len ∧ len ≤ 4096; let img : Image := img0; let i := imageOf s.trowel.rcvGot img.sigOk;
    let st := (if hdr i.header 5 1 ≠ 1 then stBadArg
        else s.imageCheck i); let data : Bytes := [];
    let takes : Prop := s.trowel.recovery = true ∧ List.length data = 1024;
    let v2 : Word := setFld (setFld 0 F.RCV_CTRL_len 4) F.RCV_CTRL_done 1;
      (Allowed s m a true) ∧ (rom) ∧ (fld v F.RCV_CTRL_abort = 0) ∧ (legal) ∧ (fld v F.RCV_CTRL_done = 1) ∧ (st ≠ 0) ∧
      (¬takes) ∧ (Allowed s m R.TRW_RCV_SEND true) ∧ (fld v2 F.TRW_RCV_SEND_go = 0 ∨ s.trowel.slotIn 5 = none)) ∧
    (let s : State := sGot (imgFw 0); let m : Mid := 0; let a := R.RCV_CTRL;
    let rom : Prop := s.trowel.recovery = true ∧ m = 0; let v : Word := setFld 0 F.RCV_CTRL_len 4096;
    let len := fld v F.RCV_CTRL_len; let legal : Prop := 1 ≤ len ∧ len ≤ 4096; let got := (s.trowel.rcvGot ++
          List.take len
            (bytesOfWords
              (List.map (fun j => s.trowel.rcvWin.getD j 0) (List.range 1024)))); let img : Image := img0;
    let i := imageOf s.trowel.rcvGot img.sigOk; let st := (if hdr i.header 5 1 ≠ 1 then stBadArg
        else s.imageCheck i); let data : Bytes := [];
    let takes : Prop := s.trowel.recovery = true ∧ List.length data = 1024; let v2 : Word := setFld 0 F.RCV_CTRL_len 4096;
      (Allowed s m a true) ∧ (rom) ∧ (fld v F.RCV_CTRL_abort = 0) ∧ (legal) ∧ (fld v F.RCV_CTRL_done = 0) ∧
      (s.headStatus got ≠ 0) ∧ (st ≠ 0) ∧ (¬takes) ∧ (Allowed s m R.TRW_RCV_SEND true) ∧
      (fld v2 F.TRW_RCV_SEND_go = 0 ∨ s.trowel.slotIn 5 = none)) ∧
    (let s : State := sGot (imgFw 0x7C3AA3C7); let m : Mid := 0; let a := R.RCV_CTRL;
    let rom : Prop := s.trowel.recovery = true ∧ m = 0; let v : Word := setFld 0 F.RCV_CTRL_len 4;
    let len := fld v F.RCV_CTRL_len; let legal : Prop := 1 ≤ len ∧ len ≤ 4096; let got := (s.trowel.rcvGot ++
          List.take len
            (bytesOfWords
              (List.map (fun j => s.trowel.rcvWin.getD j 0) (List.range 1024)))); let img : Image := img0;
    let i := imageOf s.trowel.rcvGot img.sigOk; let st := (if hdr i.header 5 1 ≠ 1 then stBadArg
        else s.imageCheck i); let data : Bytes := [];
    let takes : Prop := s.trowel.recovery = true ∧ List.length data = 1024; let v2 : Word := setFld 0 F.RCV_CTRL_len 4;
      (Allowed s m a true) ∧ (rom) ∧ (fld v F.RCV_CTRL_abort = 0) ∧ (legal) ∧ (fld v F.RCV_CTRL_done = 0) ∧
      (s.headStatus got = 0) ∧ (st = 0) ∧ (¬takes) ∧ (Allowed s m R.TRW_RCV_SEND true) ∧
      (fld v2 F.TRW_RCV_SEND_go = 0 ∨ s.trowel.slotIn 5 = none)) ∧
    (let s : State := sSendsCommitted; let m : Mid := 0; let a := R.RCV_CTRL;
    let rom : Prop := s.trowel.recovery = true ∧ m = 0; let data : Bytes := [];
    let takes : Prop := s.trowel.recovery = true ∧ List.length data = 1024; let v2 : Word := setFld 0 F.TRW_RCV_SEND_go 1;
    let b2 : Bool := false; let i2 : Image := img0;
      (Allowed s m a true) ∧ (¬rom) ∧ (¬takes) ∧ (Allowed s m R.TRW_RCV_SEND true) ∧ (fld v2 F.TRW_RCV_SEND_go = 1) ∧
      (s.trowel.slotIn 5 = some b2) ∧ ((s.trowel.slot b2).image = some i2)) := by
  refine ⟨?_, ?_, ?_, ?_, ?_, ?_, ?_, ?_, ?_⟩ <;> decide +kernel

theorem wit_RegisterBusPacketsAccessRegisters :
    (let s : State := up; let w : Wall := 0; let p : Packet := pB 0 (R.PT_CFG 0 - wallBase 0) 4; let s1 : State := up;
    let fits : Prop := p.count = 4 ∧ BitVec.toNat p.addr < 4194304;
      (OnWall s w) ∧ (p.isAnswer = false) ∧ (Reaches s s1 w.val 23 0 p) ∧ (p.typ = 0) ∧ (fits)) ∧
    (let s : State := up; let w : Wall := 0; let p : Packet := pB 1 0x3FFFFC 4; let s1 : State := up;
    let fits : Prop := p.count = 4 ∧ BitVec.toNat p.addr < 4194304;
      (OnWall s w) ∧ (p.isAnswer = false) ∧ (Reaches s s1 w.val 23 0 p) ∧ (p.typ ≠ 0) ∧ (p.typ ≠ 3) ∧ (fits)) ∧
    (let s : State := up; let w : Wall := 0; let p : Packet := pB 1 0x400000 4; let s1 : State := up;
    let fits : Prop := p.count = 4 ∧ BitVec.toNat p.addr < 4194304;
      (OnWall s w) ∧ (p.isAnswer = false) ∧ (Reaches s s1 w.val 23 0 p) ∧ (p.typ ≠ 0) ∧ (p.typ ≠ 3) ∧
      (p.typ = 3 ∨ ¬fits)) ∧
    (let s : State := up; let w : Wall := 0; let p : Packet := pB 3 0 4; let s1 : State := up;
    let fits : Prop := p.count = 4 ∧ BitVec.toNat p.addr < 4194304;
      (OnWall s w) ∧ (p.isAnswer = false) ∧ (Reaches s s1 w.val 23 0 p) ∧ (p.typ ≠ 0) ∧ (p.typ = 3 ∨ ¬fits)) :=
  ⟨⟨by decide +kernel, by decide +kernel, (reaches_outside _ _ _ _ _ rfl), by decide +kernel, by decide +kernel⟩,
   ⟨by decide +kernel, by decide +kernel, (reaches_outside _ _ _ _ _ rfl), by decide +kernel, by decide +kernel,
    by decide +kernel⟩,
   ⟨by decide +kernel, by decide +kernel, (reaches_outside _ _ _ _ _ rfl), by decide +kernel, by decide +kernel,
    by decide +kernel⟩,
   ⟨by decide +kernel, by decide +kernel, (reaches_outside _ _ _ _ _ rfl), by decide +kernel, by decide +kernel⟩⟩

theorem wit_ConsoleSessionsReadTheModule :
    (let s : State := up; (s.uartAlive = true) ∧ (s.service.open_ = false) ∧ (s.claimed claimUart = false)) ∧
    (let s : State := consoleSessions1; (s.uartAlive = true) ∧ (s.service.open_ = false) ∧ (s.claimed claimUart = true)) ∧
    (let s : State := sCon; (s.uartAlive = true) ∧ (s.service.open_ = true) ∧ (AtConsole s) ∧ (s.populated 7 = true)) ∧
    (let s : State := consoleSessions2; (s.service.open_ = true ∧ s.service.lastInput + 1125000000000 ≤ s.tick)) ∧
    (let s : State := sCon; let a := 0x3FFFFFC; let n := 1; let legal := a % 4 = 0 ∧ a + 4 * n ≤ 0x4000000;
     let there := ∀ k, k < n → (wallOfAddr (a + 4 * k)).all (fun e => s.populated e.1) = true; (AtConsole s) ∧ (legal) ∧ (there)) ∧
    (let s : State := sCon; let a := 0x3FFFFFC; let n := 2; let legal := a % 4 = 0 ∧ a + 4 * n ≤ 0x4000000; (AtConsole s) ∧ (¬ legal)) ∧
    (let s : State := consoleSessions3; let a := 0x2C00000; let n := 1; let legal := a % 4 = 0 ∧ a + 4 * n ≤ 0x4000000;
     let there := ∀ k, k < n → (wallOfAddr (a + 4 * k)).all (fun e => s.populated e.1) = true;
      (AtConsole s) ∧ (s.populated 7 = false) ∧ (legal) ∧ (¬ there)) ∧
    (let s : State := consoleSessions4; (s.uartAlive = true) ∧ (s.service.open_ = true) ∧ (s.trowel.recovery = true)) ∧
    (let s : State := dark; (s.uartAlive = false) ∧ (s.uartAlive = false ∨ s.service.open_ = false)) := by
  refine ⟨?_, ?_, ?_, ?_, ?_, ?_, ?_, ?_, ?_⟩ <;> decide +kernel

/-- The members of the lists of commands that ConsoleSessionsReadTheModule speaks of. -/
theorem wit_ConsoleSessionsReadTheModule_lists :
    (Instr.pageChain ∈ [Instr.pagePower, .pageChain, .pageHost]) ∧
    (Instr.pageLink 7 15 ∈ [Instr.pageMemory 7, .pageWall 7, .pageLink 7 15, .pagePin 7]) := by
  exact ⟨by simp, by simp⟩

theorem wit_SequencerWordsDecodeBack :
    (SeqForm 0 (.rep x0 { src := false, count := 4095, ra := 0, fin := 1 })) ∧
    (seqEncode (.rep x0 { src := false, count := 4095, ra := 0, fin := 1 }) = some 0x88FFF001) ∧
    (SeqForm 9 (.pat x0 { slot := 127, ba := 2, bb := 2, bc := 2, step := 255, hold := 15, cond := 10 })) ∧
    (seqEncode (.pat x0 { slot := 127, ba := 2, bb := 2, bc := 2, step := 255, hold := 15, cond := 10 }) = some 0x1FEAFFFA) := by
  refine ⟨⟨by decide, rfl⟩, by decide +kernel, ⟨by decide, by decide, by decide, by decide⟩, by decide +kernel⟩

theorem wit_FlitsSpellTheirPacket :
    (let p := pB 0 0xFFC 4; p.wf = true ∧ p.payload ≠ [] ∧ p.typ ∈ [(0 : BitVec 3), 2, 3]) ∧
    (let p := { pB 1 0xFFC 4 with payload := [] }; p.wf = true ∧ p.payload = [] ∧ p.typ ∉ [(0 : BitVec 3), 2, 3] ∧ p.len = 0) := by
  refine ⟨?_, ?_⟩ <;> decide +kernel

set_option maxRecDepth 1000000 in
theorem wit_ConsoleCommandsAct :
    (let s : State := sCon; let m := s.consoleMid; let st := s.regCheck m R.EV_RAISE true;
    let v2 : Word := setFld (setFld 0 F.SVC_METER_SEL_mode 1) F.SVC_METER_SEL_qty 9;
    let there : Prop := meterNamesWall v2 = false ∨ s.populated (fld v2 F.SVC_METER_SEL_wall) = true;
    let free : Prop := s.claimed claimMeter = false ∨ s.holds claimMeter m = true;
    let legal : Prop := (fld v2 F.SVC_METER_SEL_mode ≠ 3 ∧
          (fld v2 F.SVC_METER_SEL_mode = 1 →
            1 ≤ fld v2 F.SVC_METER_SEL_qty ∧ fld v2 F.SVC_METER_SEL_qty ≤ 9)); let w : Wall := 0;
    let t3 : BitVec 8 := 1; let a : Word := 127; let b : Word := 0; let c : Word := 0;
    let x := consoleCtx w [BitVec.ofNat 32 t3.toNat, a, b, c];
    let st2 := consoleStatus s x (s.selfTestCmd t3.toNat m x true); let n : Fin 16 := 15; let far : Bool := false;
    let sec : Word := 1; let num := if far = true then 7 else 6;
    let x2 := consoleCtx w [BitVec.ofNat 32 num, BitVec.ofNat 32 n.val, sec];
    let st3 := consoleStatus s x2 (s.selfTestCmd num m x2 true); let banks : BitVec 8 := 1; let alg : BitVec 2 := 1;
    let bg : BitVec 2 := 0; let x3 := (consoleCtx w
          [BitVec.ofNat 32
              (banks.toNat + alg.toNat * 256 + bg.toNat * 1024)]); let st4 := consoleStatus s x3 (s.marchCmd m x3);
    let r := (s.marchRequest w.val banks.toNat alg.toNat bg.toNat m).snd; let b2 : Nat := 0; let x4 := consoleCtx w [];
    let st5 := consoleStatus s x4 (s.wallResetCmd m x4);
    let legal2 : Prop := s.phase w.val ≠ 7 ∧ s.fl (R.KILN_STATUS w.val) F.KILN_STATUS_cfg ≠ 0; let e : BitVec 2 := 0;
    let x5 := consoleCtx w [BitVec.ofNat 32 (2 ^ w.val)]; let st6 := consoleStatus s x5 (s.entryLoadCmd m x5 e.toNat);
    let stored := (s.trowel.store.getD e.toNat { : ImgSlot }).image;
    let legal3 : Prop := e.toNat < 3 ∧ stored ≠ none ∧ s.trowel.lifecycle ≠ 3; let p : BitVec 2 := 1;
    let x6 := consoleCtx w [BitVec.ofNat 32 p.toNat]; let st7 := consoleStatus s x6 (s.wallPowerCmd m x6);
      (AtConsole s) ∧ (st = 0) ∧ (there) ∧ (free) ∧ (s.regCheck m R.SVC_METER_SEL true = 0) ∧ (legal) ∧ (st2 = 0) ∧
      (s.testCheck t3.toNat m x = 0) ∧ (t3.toNat ≠ 6) ∧ (t3.toNat ≠ 7) ∧ (st3 = 0) ∧ (s.testCheck num m x2 = 0) ∧
      (st4 = 0) ∧ (r = 0) ∧ (b2 < 8) ∧ (nbit banks.toNat b2 = true) ∧ (st5 = 0) ∧ (legal2) ∧ (st6 = 0) ∧ (¬legal3) ∧
      (st7 = 0) ∧ (p ≠ 3) ∧ (s.wallPower w.val ≠ 3)) ∧
    (let s : State := sCon; let m := s.consoleMid; let st := s.regCheck m R.EV_RAISE true;
    let v2 : Word := setFld (setFld 0 F.SVC_METER_SEL_mode 1) F.SVC_METER_SEL_qty 10;
    let there : Prop := meterNamesWall v2 = false ∨ s.populated (fld v2 F.SVC_METER_SEL_wall) = true;
    let free : Prop := s.claimed claimMeter = false ∨ s.holds claimMeter m = true;
    let legal : Prop := (fld v2 F.SVC_METER_SEL_mode ≠ 3 ∧
          (fld v2 F.SVC_METER_SEL_mode = 1 →
            1 ≤ fld v2 F.SVC_METER_SEL_qty ∧ fld v2 F.SVC_METER_SEL_qty ≤ 9)); let w : Wall := 0;
    let t3 : BitVec 8 := 6; let a : Word := 15; let b : Word := 0; let c : Word := 0;
    let x := consoleCtx w [BitVec.ofNat 32 t3.toNat, a, b, c];
    let st2 := consoleStatus s x (s.selfTestCmd t3.toNat m x true); let n : Fin 16 := 15; let far : Bool := false;
    let sec : Word := 1; let num := if far = true then 7 else 6;
    let x2 := consoleCtx w [BitVec.ofNat 32 num, BitVec.ofNat 32 n.val, sec];
    let st3 := consoleStatus s x2 (s.selfTestCmd num m x2 true); let banks : BitVec 8 := 0; let alg : BitVec 2 := 3;
    let bg : BitVec 2 := 0; let x3 := (consoleCtx w
          [BitVec.ofNat 32
              (banks.toNat + alg.toNat * 256 + bg.toNat * 1024)]); let st4 := consoleStatus s x3 (s.marchCmd m x3);
    let r := (s.marchRequest w.val banks.toNat alg.toNat bg.toNat m).snd; let b2 : Nat := 0; let x4 := consoleCtx w [];
    let st5 := consoleStatus s x4 (s.wallResetCmd m x4);
    let legal2 : Prop := s.phase w.val ≠ 7 ∧ s.fl (R.KILN_STATUS w.val) F.KILN_STATUS_cfg ≠ 0; let e : BitVec 2 := 3;
    let x5 := consoleCtx w [BitVec.ofNat 32 (2 ^ w.val)]; let st6 := consoleStatus s x5 (s.entryLoadCmd m x5 e.toNat);
    let stored := (s.trowel.store.getD e.toNat { : ImgSlot }).image;
    let legal3 : Prop := e.toNat < 3 ∧ stored ≠ none ∧ s.trowel.lifecycle ≠ 3; let p : BitVec 2 := 3;
    let x6 := consoleCtx w [BitVec.ofNat 32 p.toNat]; let st7 := consoleStatus s x6 (s.wallPowerCmd m x6);
      (AtConsole s) ∧ (st = 0) ∧ (there) ∧ (free) ∧ (s.regCheck m R.SVC_METER_SEL true = 0) ∧ (¬legal) ∧ (st2 = 0) ∧
      (s.testCheck t3.toNat m x = 0) ∧ (t3 = 6 ∨ t3 = 7) ∧ (st3 = 0) ∧ (s.testCheck num m x2 = 0) ∧ (st4 = 0) ∧ (r = 0) ∧
      (b2 < 8) ∧ (st5 = 0) ∧ (legal2) ∧ (st6 = 0) ∧ (¬legal3) ∧ (st7 = 0) ∧ (p = 3)) ∧
    (let s : State := sConLane; let m := s.consoleMid; let st := s.regCheck m R.EV_RAISE true; let v2 : Word := 0;
    let there : Prop := meterNamesWall v2 = false ∨ s.populated (fld v2 F.SVC_METER_SEL_wall) = true;
    let free : Prop := s.claimed claimMeter = false ∨ s.holds claimMeter m = true;
    let legal : Prop := (fld v2 F.SVC_METER_SEL_mode ≠ 3 ∧
          (fld v2 F.SVC_METER_SEL_mode = 1 →
            1 ≤ fld v2 F.SVC_METER_SEL_qty ∧ fld v2 F.SVC_METER_SEL_qty ≤ 9)); let w : Wall := 0;
    let t3 : BitVec 8 := 6; let a : Word := 15; let b : Word := 0; let c : Word := 0;
    let x := consoleCtx w [BitVec.ofNat 32 t3.toNat, a, b, c];
    let st2 := consoleStatus s x (s.selfTestCmd t3.toNat m x true); let n : Fin 16 := 15; let far : Bool := false;
    let sec : Word := 1; let num := if far = true then 7 else 6;
    let x2 := consoleCtx w [BitVec.ofNat 32 num, BitVec.ofNat 32 n.val, sec];
    let st3 := consoleStatus s x2 (s.selfTestCmd num m x2 true); let banks : BitVec 8 := 0; let alg : BitVec 2 := 3;
    let bg : BitVec 2 := 0; let x3 := (consoleCtx w
          [BitVec.ofNat 32
              (banks.toNat + alg.toNat * 256 + bg.toNat * 1024)]); let st4 := consoleStatus s x3 (s.marchCmd m x3);
    let r := (s.marchRequest w.val banks.toNat alg.toNat bg.toNat m).snd; let b2 : Nat := 0; let x4 := consoleCtx w [];
    let st5 := consoleStatus s x4 (s.wallResetCmd m x4);
    let legal2 : Prop := s.phase w.val ≠ 7 ∧ s.fl (R.KILN_STATUS w.val) F.KILN_STATUS_cfg ≠ 0; let e : BitVec 2 := 3;
    let x5 := consoleCtx w [BitVec.ofNat 32 (2 ^ w.val)]; let st6 := consoleStatus s x5 (s.entryLoadCmd m x5 e.toNat);
    let stored := (s.trowel.store.getD e.toNat { : ImgSlot }).image;
    let legal3 : Prop := e.toNat < 3 ∧ stored ≠ none ∧ s.trowel.lifecycle ≠ 3; let p : BitVec 2 := 3;
    let x6 := consoleCtx w [BitVec.ofNat 32 p.toNat]; let st7 := consoleStatus s x6 (s.wallPowerCmd m x6);
      (AtConsole s) ∧ (st = 0) ∧ (there) ∧ (free) ∧ (s.regCheck m R.SVC_METER_SEL true = 0) ∧ (legal) ∧ (st2 = 0) ∧
      (s.testCheck t3.toNat m x = 0) ∧ (t3 = 6 ∨ t3 = 7) ∧ (st3 = 0) ∧ (s.testCheck num m x2 = 0) ∧ (st4 = 0) ∧ (r = 0) ∧
      (b2 < 8) ∧ (st5 = 0) ∧ (legal2) ∧ (st6 = 0) ∧ (¬legal3) ∧ (st7 = 0) ∧ (p = 3)) ∧
    (let s : State := consoleCommands1; let m := s.consoleMid; let st := s.regCheck m R.EV_RAISE true;
    let v2 : Word := setFld 0 F.SVC_METER_SEL_mode 3;
    let there : Prop := meterNamesWall v2 = false ∨ s.populated (fld v2 F.SVC_METER_SEL_wall) = true;
    let free : Prop := s.claimed claimMeter = false ∨ s.holds claimMeter m = true;
    let legal : Prop := (fld v2 F.SVC_METER_SEL_mode ≠ 3 ∧
          (fld v2 F.SVC_METER_SEL_mode = 1 →
            1 ≤ fld v2 F.SVC_METER_SEL_qty ∧ fld v2 F.SVC_METER_SEL_qty ≤ 9)); let w : Wall := 0;
    let t3 : BitVec 8 := 12; let a : Word := 15; let b : Word := 0; let c : Word := 0;
    let x := consoleCtx w [BitVec.ofNat 32 t3.toNat, a, b, c];
    let st2 := consoleStatus s x (s.selfTestCmd t3.toNat m x true); let n : Fin 16 := 15; let far : Bool := false;
    let sec : Word := 1; let num := if far = true then 7 else 6;
    let x2 := consoleCtx w [BitVec.ofNat 32 num, BitVec.ofNat 32 n.val, sec];
    let st3 := consoleStatus s x2 (s.selfTestCmd num m x2 true); let banks : BitVec 8 := 255; let alg : BitVec 2 := 3;
    let bg : BitVec 2 := 0; let x3 := (consoleCtx w
          [BitVec.ofNat 32
              (banks.toNat + alg.toNat * 256 + bg.toNat * 1024)]); let st4 := consoleStatus s x3 (s.marchCmd m x3);
    let r := (s.marchRequest w.val banks.toNat alg.toNat bg.toNat m).snd; let x4 := consoleCtx w [];
    let st5 := consoleStatus s x4 (s.wallResetCmd m x4);
    let legal2 : Prop := s.phase w.val ≠ 7 ∧ s.fl (R.KILN_STATUS w.val) F.KILN_STATUS_cfg ≠ 0; let e : BitVec 2 := 0;
    let x5 := consoleCtx w [BitVec.ofNat 32 (2 ^ w.val)]; let st6 := consoleStatus s x5 (s.entryLoadCmd m x5 e.toNat);
    let stored := (s.trowel.store.getD e.toNat { : ImgSlot }).image;
    let legal3 : Prop := e.toNat < 3 ∧ stored ≠ none ∧ s.trowel.lifecycle ≠ 3; let p : BitVec 2 := 0;
    let x6 := consoleCtx w [BitVec.ofNat 32 p.toNat]; let st7 := consoleStatus s x6 (s.wallPowerCmd m x6);
      (AtConsole s) ∧ (st = 0) ∧ (there) ∧ (free) ∧ (s.regCheck m R.SVC_METER_SEL true = 0) ∧ (¬legal) ∧ (st2 = 0) ∧
      (s.testCheck t3.toNat m x ≠ 0) ∧ (st3 = 0) ∧ (s.testCheck num m x2 = 0) ∧ (st4 = 0) ∧ (r ≠ 0) ∧ (st5 = 0) ∧
      (legal2) ∧ (st6 = 0) ∧ (¬legal3) ∧ (st7 = 0) ∧ (p ≠ 3) ∧ (s.wallPower w.val ≠ 3)) ∧
    (let s : State := consoleCommands2; let m := s.consoleMid; let st := s.regCheck m R.EV_RAISE true; let v2 : Word := 0;
    let there : Prop := meterNamesWall v2 = false ∨ s.populated (fld v2 F.SVC_METER_SEL_wall) = true;
    let free : Prop := s.claimed claimMeter = false ∨ s.holds claimMeter m = true;
    let legal : Prop := (fld v2 F.SVC_METER_SEL_mode ≠ 3 ∧
          (fld v2 F.SVC_METER_SEL_mode = 1 →
            1 ≤ fld v2 F.SVC_METER_SEL_qty ∧ fld v2 F.SVC_METER_SEL_qty ≤ 9)); let w : Wall := 0;
    let t3 : BitVec 8 := 1; let a : Word := 128; let b : Word := 0; let c : Word := 0;
    let x := consoleCtx w [BitVec.ofNat 32 t3.toNat, a, b, c];
    let st2 := consoleStatus s x (s.selfTestCmd t3.toNat m x true); let n : Fin 16 := 15; let far : Bool := false;
    let sec : Word := 1; let num := if far = true then 7 else 6;
    let x2 := consoleCtx w [BitVec.ofNat 32 num, BitVec.ofNat 32 n.val, sec];
    let st3 := consoleStatus s x2 (s.selfTestCmd num m x2 true); let banks : BitVec 8 := 1; let alg : BitVec 2 := 0;
    let bg : BitVec 2 := 0; let x3 := (consoleCtx w
          [BitVec.ofNat 32
              (banks.toNat + alg.toNat * 256 + bg.toNat * 1024)]); let st4 := consoleStatus s x3 (s.marchCmd m x3);
    let r := (s.marchRequest w.val banks.toNat alg.toNat bg.toNat m).snd; let b2 : Nat := 0; let x4 := consoleCtx w [];
    let st5 := consoleStatus s x4 (s.wallResetCmd m x4);
    let legal2 : Prop := s.phase w.val ≠ 7 ∧ s.fl (R.KILN_STATUS w.val) F.KILN_STATUS_cfg ≠ 0; let e : BitVec 2 := 2;
    let x5 := consoleCtx w [BitVec.ofNat 32 (2 ^ w.val)]; let st6 := consoleStatus s x5 (s.entryLoadCmd m x5 e.toNat);
    let stored := (s.trowel.store.getD e.toNat { : ImgSlot }).image;
    let legal3 : Prop := e.toNat < 3 ∧ stored ≠ none ∧ s.trowel.lifecycle ≠ 3; let img : Image := img0;
    let p : BitVec 2 := 2; let x6 := consoleCtx w [BitVec.ofNat 32 p.toNat];
    let st7 := consoleStatus s x6 (s.wallPowerCmd m x6);
      (AtConsole s) ∧ (st = 0) ∧ (there) ∧ (free) ∧ (s.regCheck m R.SVC_METER_SEL true = 0) ∧ (legal) ∧ (st2 = 0) ∧
      (s.testCheck t3.toNat m x ≠ 0) ∧ (st3 = 0) ∧ (s.testCheck num m x2 = 0) ∧ (st4 = 0) ∧ (r = 0) ∧ (b2 < 8) ∧
      (nbit banks.toNat b2 = true) ∧ (st5 = 0) ∧ (legal2) ∧ (st6 = 0) ∧ (legal3) ∧ (stored = some img) ∧ (st7 = 0) ∧
      (p ≠ 3) ∧ (s.wallPower w.val ≠ 3)) ∧
    (let s : State := sConFull; let m := s.consoleMid; let st := s.regCheck m R.EV_RAISE true;
    let v2 : Word := setFld (setFld 0 F.SVC_METER_SEL_mode 1) F.SVC_METER_SEL_qty 9;
    let there : Prop := meterNamesWall v2 = false ∨ s.populated (fld v2 F.SVC_METER_SEL_wall) = true;
    let free : Prop := s.claimed claimMeter = false ∨ s.holds claimMeter m = true; let w : Wall := 0;
    let t2 : BitVec 8 := 1; let a : Word := 127; let b : Word := 0; let c : Word := 0;
    let x := consoleCtx w [BitVec.ofNat 32 t2.toNat, a, b, c];
    let st2 := consoleStatus s x (s.selfTestCmd t2.toNat m x true); let n : Fin 16 := 15; let far : Bool := false;
    let sec : Word := 1; let num := if far = true then 7 else 6;
    let x2 := consoleCtx w [BitVec.ofNat 32 num, BitVec.ofNat 32 n.val, sec];
    let st3 := consoleStatus s x2 (s.selfTestCmd num m x2 true); let banks : BitVec 8 := 1; let alg : BitVec 2 := 1;
    let bg : BitVec 2 := 0; let x3 := (consoleCtx w
          [BitVec.ofNat 32
              (banks.toNat + alg.toNat * 256 + bg.toNat * 1024)]); let st4 := consoleStatus s x3 (s.marchCmd m x3);
    let r := (s.marchRequest w.val banks.toNat alg.toNat bg.toNat m).snd; let b2 : Nat := 0; let x4 := consoleCtx w [];
    let st5 := consoleStatus s x4 (s.wallResetCmd m x4);
    let legal2 : Prop := s.phase w.val ≠ 7 ∧ s.fl (R.KILN_STATUS w.val) F.KILN_STATUS_cfg ≠ 0; let e : BitVec 2 := 0;
    let x5 := consoleCtx w [BitVec.ofNat 32 (2 ^ w.val)]; let st6 := consoleStatus s x5 (s.entryLoadCmd m x5 e.toNat);
    let stored := (s.trowel.store.getD e.toNat { : ImgSlot }).image;
    let legal3 : Prop := e.toNat < 3 ∧ stored ≠ none ∧ s.trowel.lifecycle ≠ 3; let p : BitVec 2 := 1;
    let x6 := consoleCtx w [BitVec.ofNat 32 p.toNat]; let st7 := consoleStatus s x6 (s.wallPowerCmd m x6);
      (AtConsole s) ∧ (st = 0) ∧ (there) ∧ (¬free) ∧ (st2 = 0) ∧ (s.testCheck t2.toNat m x = 0) ∧ (t2.toNat ≠ 6) ∧
      (t2.toNat ≠ 7) ∧ (st3 = 0) ∧ (s.testCheck num m x2 = 0) ∧ (st4 = 0) ∧ (r = 0) ∧ (b2 < 8) ∧
      (nbit banks.toNat b2 = true) ∧ (st5 = 0) ∧ (legal2) ∧ (st6 = 0) ∧ (¬legal3) ∧ (st7 = 0) ∧ (p ≠ 3) ∧
      (s.wallPower w.val ≠ 3)) ∧
    (let s : State := consoleSessions3; let m := s.consoleMid; let st := s.regCheck m R.EV_RAISE true;
    let v2 : Word := setFld (setFld (setFld 0 F.SVC_METER_SEL_mode 1) F.SVC_METER_SEL_qty 9) F.SVC_METER_SEL_wall 7;
    let there : Prop := meterNamesWall v2 = false ∨ s.populated (fld v2 F.SVC_METER_SEL_wall) = true; let w : Wall := 0;
    let t2 : BitVec 8 := 1; let a : Word := 127; let b : Word := 0; let c : Word := 0;
    let x := consoleCtx w [BitVec.ofNat 32 t2.toNat, a, b, c];
    let st2 := consoleStatus s x (s.selfTestCmd t2.toNat m x true); let n : Fin 16 := 15; let far : Bool := false;
    let sec : Word := 1; let num := if far = true then 7 else 6;
    let x2 := consoleCtx w [BitVec.ofNat 32 num, BitVec.ofNat 32 n.val, sec];
    let st3 := consoleStatus s x2 (s.selfTestCmd num m x2 true); let banks : BitVec 8 := 1; let alg : BitVec 2 := 1;
    let bg : BitVec 2 := 0; let x3 := (consoleCtx w
          [BitVec.ofNat 32
              (banks.toNat + alg.toNat * 256 + bg.toNat * 1024)]); let st4 := consoleStatus s x3 (s.marchCmd m x3);
    let r := (s.marchRequest w.val banks.toNat alg.toNat bg.toNat m).snd; let b2 : Nat := 0; let x4 := consoleCtx w [];
    let st5 := consoleStatus s x4 (s.wallResetCmd m x4);
    let legal2 : Prop := s.phase w.val ≠ 7 ∧ s.fl (R.KILN_STATUS w.val) F.KILN_STATUS_cfg ≠ 0; let e : BitVec 2 := 0;
    let x5 := consoleCtx w [BitVec.ofNat 32 (2 ^ w.val)]; let st6 := consoleStatus s x5 (s.entryLoadCmd m x5 e.toNat);
    let stored := (s.trowel.store.getD e.toNat { : ImgSlot }).image;
    let legal3 : Prop := e.toNat < 3 ∧ stored ≠ none ∧ s.trowel.lifecycle ≠ 3; let p : BitVec 2 := 1;
    let x6 := consoleCtx w [BitVec.ofNat 32 p.toNat]; let st7 := consoleStatus s x6 (s.wallPowerCmd m x6);
      (AtConsole s) ∧ (st = 0) ∧ (¬there) ∧ (st2 = 0) ∧ (s.testCheck t2.toNat m x = 0) ∧ (t2.toNat ≠ 6) ∧ (t2.toNat ≠ 7) ∧
      (st3 = 0) ∧ (s.testCheck num m x2 = 0) ∧ (st4 = 0) ∧ (r = 0) ∧ (b2 < 8) ∧ (nbit banks.toNat b2 = true) ∧ (st5 = 0) ∧
      (legal2) ∧ (st6 = 0) ∧ (¬legal3) ∧ (st7 = 0) ∧ (p ≠ 3) ∧ (s.wallPower w.val ≠ 3)) ∧
    (let s : State := sConBusy; let m := s.consoleMid; let st := s.regCheck m R.EV_RAISE true;
    let v2 : Word := setFld (setFld 0 F.SVC_METER_SEL_mode 1) F.SVC_METER_SEL_qty 9;
    let there : Prop := meterNamesWall v2 = false ∨ s.populated (fld v2 F.SVC_METER_SEL_wall) = true;
    let free : Prop := s.claimed claimMeter = false ∨ s.holds claimMeter m = true;
    let legal : Prop := (fld v2 F.SVC_METER_SEL_mode ≠ 3 ∧
          (fld v2 F.SVC_METER_SEL_mode = 1 →
            1 ≤ fld v2 F.SVC_METER_SEL_qty ∧ fld v2 F.SVC_METER_SEL_qty ≤ 9)); let w : Wall := 0;
    let t3 : BitVec 8 := 1; let a : Word := 127; let b : Word := 0; let c : Word := 0;
    let x := consoleCtx w [BitVec.ofNat 32 t3.toNat, a, b, c];
    let st2 := consoleStatus s x (s.selfTestCmd t3.toNat m x true); let n : Fin 16 := 15; let far : Bool := false;
    let sec : Word := 1; let num := if far = true then 7 else 6;
    let x2 := consoleCtx w [BitVec.ofNat 32 num, BitVec.ofNat 32 n.val, sec];
    let st3 := consoleStatus s x2 (s.selfTestCmd num m x2 true); let banks : BitVec 8 := 1; let alg : BitVec 2 := 1;
    let bg : BitVec 2 := 0; let x3 := (consoleCtx w
          [BitVec.ofNat 32
              (banks.toNat + alg.toNat * 256 + bg.toNat * 1024)]); let st4 := consoleStatus s x3 (s.marchCmd m x3);
    let x4 := consoleCtx w []; let st5 := consoleStatus s x4 (s.wallResetCmd m x4); let e : BitVec 2 := 0;
    let x5 := consoleCtx w [BitVec.ofNat 32 (2 ^ w.val)]; let st6 := consoleStatus s x5 (s.entryLoadCmd m x5 e.toNat);
    let p : BitVec 2 := 1; let x6 := consoleCtx w [BitVec.ofNat 32 p.toNat];
    let st7 := consoleStatus s x6 (s.wallPowerCmd m x6);
      (AtConsole s) ∧ (st = 0) ∧ (there) ∧ (free) ∧ (s.regCheck m R.SVC_METER_SEL true = 0) ∧ (legal) ∧ (st2 ≠ 0) ∧
      (st3 ≠ 0) ∧ (st4 ≠ 0) ∧ (st5 ≠ 0) ∧ (st6 ≠ 0) ∧ (st7 ≠ 0)) ∧
    (let s : State := sConHost; let m := s.consoleMid; let st := s.regCheck m R.EV_RAISE true; let v2 : Word := 0;
    let there : Prop := meterNamesWall v2 = false ∨ s.populated (fld v2 F.SVC_METER_SEL_wall) = true;
    let free : Prop := s.claimed claimMeter = false ∨ s.holds claimMeter m = true; let w : Wall := 0;
    let t2 : BitVec 8 := 1; let a : Word := 127; let b : Word := 0; let c : Word := 0;
    let x := consoleCtx w [BitVec.ofNat 32 t2.toNat, a, b, c];
    let st2 := consoleStatus s x (s.selfTestCmd t2.toNat m x true); let n : Fin 16 := 15; let far : Bool := false;
    let sec : Word := 1; let num := if far = true then 7 else 6;
    let x2 := consoleCtx w [BitVec.ofNat 32 num, BitVec.ofNat 32 n.val, sec];
    let st3 := consoleStatus s x2 (s.selfTestCmd num m x2 true); let banks : BitVec 8 := 1; let alg : BitVec 2 := 1;
    let bg : BitVec 2 := 0; let x3 := (consoleCtx w
          [BitVec.ofNat 32
              (banks.toNat + alg.toNat * 256 + bg.toNat * 1024)]); let st4 := consoleStatus s x3 (s.marchCmd m x3);
    let x4 := consoleCtx w []; let st5 := consoleStatus s x4 (s.wallResetCmd m x4); let e : BitVec 2 := 0;
    let x5 := consoleCtx w [BitVec.ofNat 32 (2 ^ w.val)]; let st6 := consoleStatus s x5 (s.entryLoadCmd m x5 e.toNat);
    let p : BitVec 2 := 1; let x6 := consoleCtx w [BitVec.ofNat 32 p.toNat];
    let st7 := consoleStatus s x6 (s.wallPowerCmd m x6);
      (AtConsole s) ∧ (st ≠ 0) ∧ (there) ∧ (free) ∧ (st2 ≠ 0) ∧ (st3 ≠ 0) ∧ (st4 ≠ 0) ∧ (st5 ≠ 0) ∧ (st6 ≠ 0) ∧ (st7 ≠ 0)) ∧
    (let s : State := sConOn; let m := s.consoleMid; let st := s.regCheck m R.EV_RAISE true; let v2 : Word := 0;
    let there : Prop := meterNamesWall v2 = false ∨ s.populated (fld v2 F.SVC_METER_SEL_wall) = true;
    let free : Prop := s.claimed claimMeter = false ∨ s.holds claimMeter m = true;
    let legal : Prop := (fld v2 F.SVC_METER_SEL_mode ≠ 3 ∧
          (fld v2 F.SVC_METER_SEL_mode = 1 →
            1 ≤ fld v2 F.SVC_METER_SEL_qty ∧ fld v2 F.SVC_METER_SEL_qty ≤ 9)); let w : Wall := 0;
    let t3 : BitVec 8 := 6; let a : Word := 15; let b : Word := 0; let c : Word := 0;
    let x := consoleCtx w [BitVec.ofNat 32 t3.toNat, a, b, c];
    let st2 := consoleStatus s x (s.selfTestCmd t3.toNat m x true); let n : Fin 16 := 15; let far : Bool := false;
    let sec : Word := 1; let num := if far = true then 7 else 6;
    let x2 := consoleCtx w [BitVec.ofNat 32 num, BitVec.ofNat 32 n.val, sec];
    let st3 := consoleStatus s x2 (s.selfTestCmd num m x2 true); let banks : BitVec 8 := 1; let alg : BitVec 2 := 1;
    let bg : BitVec 2 := 0; let x3 := (consoleCtx w
          [BitVec.ofNat 32
              (banks.toNat + alg.toNat * 256 + bg.toNat * 1024)]); let st4 := consoleStatus s x3 (s.marchCmd m x3);
    let r := (s.marchRequest w.val banks.toNat alg.toNat bg.toNat m).snd; let b2 : Nat := 0; let x4 := consoleCtx w [];
    let st5 := consoleStatus s x4 (s.wallResetCmd m x4);
    let legal2 : Prop := s.phase w.val ≠ 7 ∧ s.fl (R.KILN_STATUS w.val) F.KILN_STATUS_cfg ≠ 0; let e : BitVec 2 := 0;
    let x5 := consoleCtx w [BitVec.ofNat 32 (2 ^ w.val)]; let st6 := consoleStatus s x5 (s.entryLoadCmd m x5 e.toNat);
    let stored := (s.trowel.store.getD e.toNat { : ImgSlot }).image;
    let legal3 : Prop := e.toNat < 3 ∧ stored ≠ none ∧ s.trowel.lifecycle ≠ 3; let p : BitVec 2 := 1;
    let x6 := consoleCtx w [BitVec.ofNat 32 p.toNat]; let st7 := consoleStatus s x6 (s.wallPowerCmd m x6);
      (AtConsole s) ∧ (st = 0) ∧ (there) ∧ (free) ∧ (s.regCheck m R.SVC_METER_SEL true = 0) ∧ (legal) ∧ (st2 = 0) ∧
      (s.testCheck t3.toNat m x ≠ 0) ∧ (st3 = 0) ∧ (s.testCheck num m x2 ≠ 0) ∧ (st4 = 0) ∧ (r = 0) ∧ (b2 < 8) ∧
      (nbit banks.toNat b2 = true) ∧ (st5 = 0) ∧ (legal2) ∧ (st6 = 0) ∧ (¬legal3) ∧ (st7 = 0) ∧ (p ≠ 3) ∧
      (s.wallPower w.val ≠ 3)) ∧
    (let s : State := { sCon.setFl (R.KILN_STATUS 0) F.KILN_STATUS_cfg 0 with service := sCon.service };
    let m := s.consoleMid; let st := s.regCheck m R.EV_RAISE true; let v2 : Word := 0;
    let there : Prop := meterNamesWall v2 = false ∨ s.populated (fld v2 F.SVC_METER_SEL_wall) = true;
    let free : Prop := s.claimed claimMeter = false ∨ s.holds claimMeter m = true;
    let legal : Prop := (fld v2 F.SVC_METER_SEL_mode ≠ 3 ∧
          (fld v2 F.SVC_METER_SEL_mode = 1 →
            1 ≤ fld v2 F.SVC_METER_SEL_qty ∧ fld v2 F.SVC_METER_SEL_qty ≤ 9)); let w : Wall := 0;
    let t3 : BitVec 8 := 6; let a : Word := 15; let b : Word := 0; let c : Word := 0;
    let x := consoleCtx w [BitVec.ofNat 32 t3.toNat, a, b, c];
    let st2 := consoleStatus s x (s.selfTestCmd t3.toNat m x true); let n : Fin 16 := 15; let far : Bool := false;
    let sec : Word := 1; let num := if far = true then 7 else 6;
    let x2 := consoleCtx w [BitVec.ofNat 32 num, BitVec.ofNat 32 n.val, sec];
    let st3 := consoleStatus s x2 (s.selfTestCmd num m x2 true); let banks : BitVec 8 := 1; let alg : BitVec 2 := 1;
    let bg : BitVec 2 := 0; let x3 := (consoleCtx w
          [BitVec.ofNat 32
              (banks.toNat + alg.toNat * 256 + bg.toNat * 1024)]); let st4 := consoleStatus s x3 (s.marchCmd m x3);
    let r := (s.marchRequest w.val banks.toNat alg.toNat bg.toNat m).snd; let b2 : Nat := 0; let x4 := consoleCtx w [];
    let st5 := consoleStatus s x4 (s.wallResetCmd m x4);
    let legal2 : Prop := s.phase w.val ≠ 7 ∧ s.fl (R.KILN_STATUS w.val) F.KILN_STATUS_cfg ≠ 0; let e : BitVec 2 := 0;
    let x5 := consoleCtx w [BitVec.ofNat 32 (2 ^ w.val)]; let st6 := consoleStatus s x5 (s.entryLoadCmd m x5 e.toNat);
    let stored := (s.trowel.store.getD e.toNat { : ImgSlot }).image;
    let legal3 : Prop := e.toNat < 3 ∧ stored ≠ none ∧ s.trowel.lifecycle ≠ 3; let p : BitVec 2 := 1;
    let x6 := consoleCtx w [BitVec.ofNat 32 p.toNat]; let st7 := consoleStatus s x6 (s.wallPowerCmd m x6);
      (AtConsole s) ∧ (st = 0) ∧ (there) ∧ (free) ∧ (s.regCheck m R.SVC_METER_SEL true = 0) ∧ (legal) ∧ (st2 = 0) ∧
      (s.testCheck t3.toNat m x = 0) ∧ (t3 = 6 ∨ t3 = 7) ∧ (st3 = 0) ∧ (s.testCheck num m x2 = 0) ∧ (st4 = 0) ∧ (r = 0) ∧
      (b2 < 8) ∧ (nbit banks.toNat b2 = true) ∧ (st5 = 0) ∧ (¬legal2) ∧ (st6 = 0) ∧ (¬legal3) ∧ (st7 = 0) ∧ (p ≠ 3) ∧
      (s.wallPower w.val ≠ 3)) ∧
    (let s : State := sConShut; let m := s.consoleMid; let st := s.regCheck m R.EV_RAISE true; let v2 : Word := 0;
    let there : Prop := meterNamesWall v2 = false ∨ s.populated (fld v2 F.SVC_METER_SEL_wall) = true;
    let free : Prop := s.claimed claimMeter = false ∨ s.holds claimMeter m = true;
    let legal : Prop := (fld v2 F.SVC_METER_SEL_mode ≠ 3 ∧
          (fld v2 F.SVC_METER_SEL_mode = 1 →
            1 ≤ fld v2 F.SVC_METER_SEL_qty ∧ fld v2 F.SVC_METER_SEL_qty ≤ 9)); let w : Wall := 0;
    let t3 : BitVec 8 := 6; let a : Word := 15; let b : Word := 0; let c : Word := 0;
    let x := consoleCtx w [BitVec.ofNat 32 t3.toNat, a, b, c];
    let st2 := consoleStatus s x (s.selfTestCmd t3.toNat m x true); let n : Fin 16 := 15; let far : Bool := false;
    let sec : Word := 1; let num := if far = true then 7 else 6;
    let x2 := consoleCtx w [BitVec.ofNat 32 num, BitVec.ofNat 32 n.val, sec];
    let st3 := consoleStatus s x2 (s.selfTestCmd num m x2 true); let banks : BitVec 8 := 1; let alg : BitVec 2 := 1;
    let bg : BitVec 2 := 0; let x3 := (consoleCtx w
          [BitVec.ofNat 32
              (banks.toNat + alg.toNat * 256 + bg.toNat * 1024)]); let st4 := consoleStatus s x3 (s.marchCmd m x3);
    let r := (s.marchRequest w.val banks.toNat alg.toNat bg.toNat m).snd; let b2 : Nat := 0; let x4 := consoleCtx w [];
    let st5 := consoleStatus s x4 (s.wallResetCmd m x4);
    let legal2 : Prop := s.phase w.val ≠ 7 ∧ s.fl (R.KILN_STATUS w.val) F.KILN_STATUS_cfg ≠ 0; let e : BitVec 2 := 0;
    let x5 := consoleCtx w [BitVec.ofNat 32 (2 ^ w.val)]; let st6 := consoleStatus s x5 (s.entryLoadCmd m x5 e.toNat);
    let stored := (s.trowel.store.getD e.toNat { : ImgSlot }).image;
    let legal3 : Prop := e.toNat < 3 ∧ stored ≠ none ∧ s.trowel.lifecycle ≠ 3; let p : BitVec 2 := 1;
    let x6 := consoleCtx w [BitVec.ofNat 32 p.toNat]; let st7 := consoleStatus s x6 (s.wallPowerCmd m x6);
      (AtConsole s) ∧ (st = 0) ∧ (there) ∧ (free) ∧ (s.regCheck m R.SVC_METER_SEL true = 0) ∧ (legal) ∧ (st2 = 0) ∧
      (s.testCheck t3.toNat m x = 0) ∧ (t3 = 6 ∨ t3 = 7) ∧ (st3 = 0) ∧ (s.testCheck num m x2 = 0) ∧ (st4 = 0) ∧ (r = 0) ∧
      (b2 < 8) ∧ (nbit banks.toNat b2 = true) ∧ (st5 = 0) ∧ (legal2) ∧ (st6 = 0) ∧ (¬legal3) ∧ (st7 = 0) ∧ (p ≠ 3) ∧
      (s.wallPower w.val = 3)) := by
  refine ⟨?_, ?_, ?_, ?_, ?_, ?_, ?_, ?_, ?_, ?_, ?_, ?_⟩ <;> decide +kernel

theorem wit_SafeModeAndRecoveryHoldTheWalls :
    (let s : State := sCon; let m : Mid := 0;
      (AtConsole s) ∧ (s.service.safe = false) ∧ (Allowed s m R.SVC_SAFE true) ∧ (m = 0)) ∧
    (let s : State := safeMode1; let m : Mid := 0;
      (AtConsole s) ∧ (s.service.safe = true) ∧ (Allowed s m R.SVC_SAFE true) ∧ (m = 0)) ∧
    (let s : State := safeMode2; let m : Mid := 0;
      (Allowed s m R.SVC_SAFE true) ∧ (m = 0) ∧ (s.service.safe = true)) ∧
    (let s : State := lets up R.SVC_SAFE; let m : Mid := 1;
      (Allowed s m R.SVC_SAFE true) ∧ (m ≠ 0)) := by
  refine ⟨?_, ?_, ?_, ?_⟩ <;> decide +kernel

theorem wit_TheMeterShowsItsQuantity :
    (let s : State := up; let m : Mid := 0; let a := R.SVC_METER_SEL;
    let due : Prop := s.powered = true ∧ s.periodOver s.service.meterAt 1250000 = true;
    let mode2 := s.fl a F.SVC_METER_SEL_mode;
      (Allowed s m a true) ∧ (s.holds claimMeter (BitVec.toNat m) = false) ∧ (due) ∧ (mode2 = 0)) ∧
    (let s : State := meterDue sMeter; let m : Mid := 0; let a := R.SVC_METER_SEL;
    let v : Word := setFld (setFld 0 F.SVC_METER_SEL_mode 1) F.SVC_METER_SEL_qty 9;
    let mode := fld v F.SVC_METER_SEL_mode; let good : Prop := (mode ≠ 3 ∧
          (mode = 1 →
            1 ≤ fld v F.SVC_METER_SEL_qty ∧ fld v F.SVC_METER_SEL_qty ≤ 9));
    let due : Prop := s.powered = true ∧ s.periodOver s.service.meterAt 1250000 = true;
    let mode2 := s.fl a F.SVC_METER_SEL_mode;
      (Allowed s m a true) ∧ (s.holds claimMeter (BitVec.toNat m) = true) ∧ (good) ∧ (due) ∧ (mode2 = 0)) ∧
    (let s : State := meterDue theMeter1; let m : Mid := 0; let a := R.SVC_METER_SEL;
    let v : Word := setFld (setFld 0 F.SVC_METER_SEL_mode 1) F.SVC_METER_SEL_qty 10;
    let mode := fld v F.SVC_METER_SEL_mode; let good : Prop := (mode ≠ 3 ∧
          (mode = 1 →
            1 ≤ fld v F.SVC_METER_SEL_qty ∧ fld v F.SVC_METER_SEL_qty ≤ 9));
    let due : Prop := s.powered = true ∧ s.periodOver s.service.meterAt 1250000 = true;
    let mode2 := s.fl a F.SVC_METER_SEL_mode;
      (Allowed s m a true) ∧ (s.holds claimMeter (BitVec.toNat m) = true) ∧ (¬good) ∧ (due) ∧ (mode2 = 2)) ∧
    (let s : State := meterDue theMeter2; let m : Mid := 0; let a := R.SVC_METER_SEL;
    let v : Word := setFld 0 F.SVC_METER_SEL_mode 3; let mode := fld v F.SVC_METER_SEL_mode;
    let good : Prop := (mode ≠ 3 ∧
          (mode = 1 →
            1 ≤ fld v F.SVC_METER_SEL_qty ∧ fld v F.SVC_METER_SEL_qty ≤ 9));
    let due : Prop := s.powered = true ∧ s.periodOver s.service.meterAt 1250000 = true;
    let mode2 := s.fl a F.SVC_METER_SEL_mode;
      (Allowed s m a true) ∧ (s.holds claimMeter (BitVec.toNat m) = true) ∧ (¬good) ∧ (due) ∧ (mode2 = 1)) ∧
    (let s : State := meterSet; let m : Mid := 0; let a := R.SVC_METER_SEL; let v : Word := 0;
    let mode := fld v F.SVC_METER_SEL_mode; let good : Prop := (mode ≠ 3 ∧
          (mode = 1 →
            1 ≤ fld v F.SVC_METER_SEL_qty ∧ fld v F.SVC_METER_SEL_qty ≤ 9));
    let due : Prop := s.powered = true ∧ s.periodOver s.service.meterAt 1250000 = true;
      (Allowed s m a true) ∧ (s.holds claimMeter (BitVec.toNat m) = true) ∧ (good) ∧ (¬due)) := by
  refine ⟨?_, ?_, ?_, ?_, ?_⟩ <;> decide +kernel

theorem wit_BoundaryScanStopsTheModule :
    (let s : State := up; let i : Instr := .testLogicReset; let op : Nat := 2; let w : Wall := 7;
      (s.powered = true) ∧ ((i, op) ∈
  [(Instr.samplePreload, 1), (Instr.idcode, 2),
    (Instr.bypass, 255), (Instr.testLogicReset, 2)]) ∧ (op = 2) ∧ (s.populated w.val = true)) ∧
    (let s : State := up; let i : Instr := .bypass; let op : Nat := 255; let w : Wall := 0;
      (s.powered = true) ∧ ((i, op) ∈
  [(Instr.samplePreload, 1), (Instr.idcode, 2),
    (Instr.bypass, 255), (Instr.testLogicReset, 2)]) ∧ (s.populated w.val = true) ∧ (s.wallOff w.val = false) ∧
      (s.wallPower w.val ≠ 2)) ∧
    (let s : State := up; let i2 : Instr := .extestTrain; let op2 : Nat := 6; let w : Nat := 1; let w2 : Wall := 1;
      (s.powered = true) ∧ ((i2, op2) ∈
  [(Instr.extest, 0), (Instr.highz, 3),
    (Instr.clamp, 4), (Instr.extestPulse, 5),
    (Instr.extestTrain, 6)]) ∧ (w < 8) ∧ (s.populated w = true) ∧ (s.wallOff w = false) ∧
      (s.populated w2.val = true) ∧ (s.wallOff w2.val = false) ∧ (s.wallPower w2.val ≠ 2)) ∧
    (let s : State := up; let i2 : Instr := .extest; let op2 : Nat := 0; let w : Nat := 1; let w2 : Wall := 1;
      (s.powered = true) ∧ ((i2, op2) ∈
  [(Instr.extest, 0), (Instr.highz, 3),
    (Instr.clamp, 4), (Instr.extestPulse, 5),
    (Instr.extestTrain, 6)]) ∧ (w < 8) ∧ (s.populated w = true) ∧ (s.wallOff w = false) ∧
      (s.populated w2.val = true) ∧ (s.wallOff w2.val = false) ∧ (s.wallPower w2.val ≠ 2)) ∧
    (let s : State := small; let i : Instr := .idcode; let op : Nat := 2; let w : Wall := 7;
      (s.powered = true) ∧ ((i, op) ∈
  [(Instr.samplePreload, 1), (Instr.idcode, 2),
    (Instr.bypass, 255), (Instr.testLogicReset, 2)]) ∧ (op = 2) ∧ (s.populated w.val = false)) ∧
    (let s : State := dark; let w : Wall := 7; let i : Instr := .wallScan 7;
      (s.powered = false) ∧ (i ∈
  [Instr.extest, Instr.samplePreload, Instr.idcode, Instr.highz, Instr.clamp, Instr.extestPulse, Instr.extestTrain,
    Instr.bypass, Instr.testLogicReset, Instr.wallScan w])) := by
  refine ⟨?_, ?_, ?_, ?_, ?_, ?_⟩ <;> decide +kernel

end Sys2Proof.Tests
end

section
/-!
PROOFS. The queue of waiting commands and the part are kept by every command, and what a module reset leaves.

`State.queueAndPart` reads the queue and the part off `State.outside`, so the lemmas of Laws/Outside.lean already speak of it.
Below, in the order of the model's files, each further operation of the model gets one lemma (`…_queueAndPart`: for an
operation that answers more than a state, of its state), then each shape of rows, and at the end every command by its row.
-/
namespace Sys2Proof.Machine
open Sys2Proof

/-! ### The queue and the part -/

/-- The queue of waiting commands and the part, as fields. -/
def State.fixed (s : State) : List Instr × Part := (s.pending, s.part)

/-- The queue and the part of a state, read off what lies outside the walls. -/
@[simp] abbrev State.queueAndPart (s : State) : List Instr × Part := s.outside.fixed

@[simp] theorem State.pending_part_eq_queueAndPart (s : State) :
    (s.pending, s.part) = s.queueAndPart := (rfl)

/-- A state written field by field, as every update `{ s with … }` is, has the queue and the part that it names. -/
@[simp] theorem State.mk_queueAndPart (part fresh tick regs pairs last walls tiles flows bases acus links pins gddrx sram sramErr gddr
    gddrErr found frameCode flight awaiting hubSeq hubWait log logCount ringLostSeen queues sqTurn longs hostOut cxl chain doneOd holdN
    trowel mons service powered pending) :
    (State.mk part fresh tick regs pairs last walls tiles flows bases acus links pins gddrx sram sramErr gddr gddrErr found frameCode
      flight awaiting hubSeq hubWait log logCount ringLostSeen queues sqTurn longs hostOut cxl chain doneOd holdN trowel mons service
      powered pending).queueAndPart = (pending, part) := (rfl)

@[simp] theorem State.fixed_ite (c : Prop) [Decidable c] (a b : State) :
    (if c then a else b).fixed = if c then a.fixed else b.fixed := apply_ite _ _ _ _

@[simp] theorem State.fst_ite {α : Type} (c : Prop) [Decidable c] (a b : State × α) :
    (if c then a else b).1 = if c then a.1 else b.1 := apply_ite _ _ _ _

theorem State.ite_queueAndPart {c : Prop} [Decidable c] {a b s : State} (ha : a.queueAndPart = s.queueAndPart)
    (hb : b.queueAndPart = s.queueAndPart) : (if c then a else b).queueAndPart = s.queueAndPart := by
  split
  · exact ha
  · exact hb

/-- The same of a pair's state, from an equation for the pair: so that a `let` of the pair is never compared under a projection,
where the kernel would evaluate the condition of a branch. -/
theorem State.queueAndPart_fst_of {α : Type} {s : State} {p : State × α}
    (h : ∀ u x, p = (u, x) → u.queueAndPart = s.queueAndPart) : p.1.queueAndPart = s.queueAndPart := h p.1 p.2 rfl

@[simp] theorem State.foldl_queueAndPart {α : Type} {f : State → α → State} (hf : ∀ a x, (f a x).queueAndPart = a.queueAndPart) :
    ∀ (l : List α) (s : State), (l.foldl f s).queueAndPart = s.queueAndPart
  | [], _ => rfl
  | x :: l, s => (State.foldl_queueAndPart hf l (f s x)).trans (hf s x)

@[simp] theorem State.foldl_fst_queueAndPart {α β : Type} {f : State × β → α → State × β}
    (hf : ∀ a x, (f a x).1.queueAndPart = a.1.queueAndPart) :
    ∀ (l : List α) (s : State × β), (l.foldl f s).1.queueAndPart = s.1.queueAndPart
  | [], _ => rfl
  | x :: l, s => (State.foldl_fst_queueAndPart hf l (f s x)).trans (hf s x)

@[simp] theorem State.foldN_queueAndPart {f : State → Nat → State} (hf : ∀ a x, (f a x).queueAndPart = a.queueAndPart) (n : Nat)
    (s : State) : (foldN n s f).queueAndPart = s.queueAndPart := State.foldl_queueAndPart hf _ s

/-! ### Machine/Ops.lean -/

@[simp] theorem State.setQueue_queueAndPart (s : State) (q : Nat) (x : QueueX) :
    (s.setQueue q x).queueAndPart = s.queueAndPart := by
  simp [State.setQueue]

@[simp] theorem State.setMon_queueAndPart (s : State) (m : Nat) (x : MonX) :
    (s.setMon m x).queueAndPart = s.queueAndPart := by
  simp [State.setMon]

@[simp] theorem State.answer_queueAndPart (s : State) (m : Mid) (a : Nat) (isWrite : Bool) (status : Nat) (v : Word) :
    (s.answer m a isWrite status v).queueAndPart = s.queueAndPart := by
  simp [State.answer]

/-! ### Machine/Cache.lean -/

@[simp] theorem State.slotWritten_queueAndPart (s : State) (w t : Nat) (slot : BitVec 7) :
    (s.slotWritten w t slot).queueAndPart = s.queueAndPart := by
  simp [State.slotWritten]

/-! ### Machine/Sram.lean -/

@[simp] theorem State.setBankOn_queueAndPart (s : State) (w b : Nat) (on : Bool) :
    (s.setBankOn w b on).queueAndPart = s.queueAndPart := by
  simp [State.setBankOn]

/-! ### Machine/SaveArea.lean -/

@[simp] theorem State.spillOnto_queueAndPart (s : State) (w : Nat) (c : Ctx) (fr : Nat) :
    (s.spillOnto w c fr).1.queueAndPart = s.queueAndPart := by
  simp [State.spillOnto]

@[simp] theorem State.spillNew_queueAndPart (s : State) (w t f : Nat) (c : Ctx) (fr a : Nat) :
    (s.spillNew w t f c fr a).1.queueAndPart = s.queueAndPart := by
  simp [State.spillNew]

theorem State.spillFrame_queueAndPart {s u : State} {w t f : Nat} {c d : Ctx} {fr : Nat} (h : s.spillFrame w t f c fr = some (u, d)) :
    u.queueAndPart = s.queueAndPart := by
  unfold State.spillFrame at h
  split at h
  · cases h
    simp
  · split at h
    · cases h
    · rename_i h1
      cases h
      simp [State.takeArea_outside _ _ _ _ h1]

@[simp] theorem State.spillReserved_queueAndPart (s : State) (w t f : Nat) (c : Ctx) (fr : Nat) (as : List Nat) :
    (s.spillReserved w t f c fr as).1.queueAndPart = s.queueAndPart := by
  unfold State.spillReserved
  repeat' split
  all_goals simp

@[simp] theorem State.fillFrame_queueAndPart (s : State) (w : Nat) (c : Ctx) (fr : Nat) :
    (s.fillFrame w c fr).1.queueAndPart = s.queueAndPart := by
  simp [State.fillFrame]

/-! ### Machine/Access.lean -/

@[simp] theorem State.setPhase_queueAndPart (s : State) (w p : Nat) :
    (s.setPhase w p).queueAndPart = s.queueAndPart := by
  simp [State.setPhase]

theorem State.regWrite_queueAndPart {eff : State → State × Nat} (heff : ∀ a, (eff a).1.queueAndPart = a.queueAndPart) (s : State)
    (m a : Nat) : (s.regWrite m a eff).queueAndPart = s.queueAndPart := by
  simp [State.regWrite, heff]

@[simp] theorem State.plain_queueAndPart (s : State) (a : Nat) (v : Word) :
    (s.plain a v).queueAndPart = s.queueAndPart := by
  unfold State.plain
  split <;> simp

@[simp] theorem refuse_fst (s : State) (st : Nat) : (refuse s st).1 = s := (rfl)

/-! ### Machine/SeqCtl.lean -/

@[simp] theorem State.releaseSync_queueAndPart (s : State) (w f : Nat) :
    (s.releaseSync w f).queueAndPart = s.queueAndPart := by
  simp [State.releaseSync]

/-! ### Machine/Hod.lean -/

theorem State.spillAll_queueAndPart (w t f : Nat) :
    ∀ (k : Nat) (s : State) (c : Ctx) (as : List Nat),
    (s.spillAll w t f c as k).1.queueAndPart = s.queueAndPart
  | 0, _, _, _ => rfl
  | k + 1, s, c, as => by
    unfold State.spillAll
    simp [State.spillAll_queueAndPart w t f k]

/-! ### Machine/CacheCmds.lean -/

@[simp] theorem State.refillFails_queueAndPart (s : State) (w t : Nat) (r : RefillReq) :
    (s.refillFails w t r).queueAndPart = s.queueAndPart := by
  unfold State.refillFails
  dsimp only
  split <;> simp

@[simp] theorem State.pinWrite_queueAndPart (s : State) (w t : Nat) (b : Bool) (v : Word) :
    (s.pinWrite w t b v).1.queueAndPart = s.queueAndPart := by
  simp [State.pinWrite]

@[simp] theorem State.invalWrite_queueAndPart (s : State) (w t : Nat) (v : Word) :
    (s.invalWrite w t v).1.queueAndPart = s.queueAndPart := by
  simp [State.invalWrite]

@[simp] theorem State.whandWrite_queueAndPart (s : State) (w t : Nat) (v : Word) :
    (s.whandWrite w t v).1.queueAndPart = s.queueAndPart := by
  simp [State.whandWrite]

@[simp] theorem State.capArm_queueAndPart (s : State) (m w : Nat) (v : Word) :
    (s.capArm m w v).queueAndPart = s.queueAndPart := by
  simp [State.capArm]

@[simp] theorem State.capWrite_queueAndPart (s : State) (m w : Nat) (v : Word) :
    (s.capWrite m w v).1.queueAndPart = s.queueAndPart := by
  simp [State.capWrite]

@[simp] theorem State.bondWord_queueAndPart (s : State) (w t m addr : Nat) (d : W48) :
    (s.bondWord w t m addr d).queueAndPart = s.queueAndPart := by
  unfold State.bondWord
  dsimp only
  split <;> simp

/-! ### Machine/BondNet.lean -/

@[simp] theorem State.setWallState_queueAndPart (s : State) (w v : Nat) :
    (s.setWallState w v).queueAndPart = s.queueAndPart := by
  simp [State.setWallState]

@[simp] theorem State.lostIn_queueAndPart (s : State) (w i : Nat) (p : Packet) :
    (s.lostIn w i p).queueAndPart = s.queueAndPart := by
  simp [State.lostIn]

@[simp] theorem State.lostAtSwitch_queueAndPart (s : State) (p : Packet) :
    (s.lostAtSwitch p).queueAndPart = s.queueAndPart := by
  simp [State.lostAtSwitch]

@[simp] theorem State.fly_queueAndPart (s : State) (a : At) (p : Packet) (due : Nat) :
    (s.fly a p due).queueAndPart = s.queueAndPart := by
  simp [State.fly]

theorem State.take_queueAndPart {s u : State} {a : At} {p : Packet} {now : Nat} {first : InFlight → Bool} {e : InFlight}
    (h : s.take a p now first = some (u, e)) : u.queueAndPart = s.queueAndPart := by
  unfold State.take at h
  split at h
  · cases h
  · cases h
    simp

@[simp] theorem State.enterWith_queueAndPart (s : State) (w r i : Nat) (p : Packet) (due : Nat) (trail : List Hop) :
    (s.enterWith w r i p due trail).queueAndPart = s.queueAndPart := by
  simp [State.enterWith]

@[simp] theorem State.enterMesh_queueAndPart (s : State) (w r i : Nat) (p : Packet) (due : Nat) :
    (s.enterMesh w r i p due).queueAndPart = s.queueAndPart := by
  simp [State.enterMesh]

@[simp] theorem State.sendAnswer_queueAndPart (s : State) (w r : Nat) (p : Packet) (due : Nat) :
    (s.sendAnswer w r p due).queueAndPart = s.queueAndPart := by
  simp [State.sendAnswer]

@[simp] theorem State.refuseAt_queueAndPart (s : State) (w r : Nat) (p : Packet) (status : Nat) :
    (s.refuseAt w r p status).queueAndPart = s.queueAndPart := by
  simp [State.refuseAt]

@[simp] theorem State.switchAnswer_queueAndPart (s : State) (p : Packet) :
    (s.switchAnswer p).queueAndPart = s.queueAndPart := by
  simp [State.switchAnswer]

@[simp] theorem State.switchRefuse_queueAndPart (s : State) (p : Packet) (status : Nat) :
    (s.switchRefuse p status).queueAndPart = s.queueAndPart := by
  simp [State.switchRefuse]

@[simp] theorem State.answerAt_queueAndPart (s : State) (w r : Nat) (p : Packet) (a : Ans) :
    (s.answerAt w r p a).queueAndPart = s.queueAndPart := by
  unfold State.answerAt
  split <;> simp

theorem State.serve_queueAndPart {run : State → State × Ans} (hrun : ∀ a, (run a).1.queueAndPart = a.queueAndPart) (s : State)
    (w r j : Nat) (p : Packet) : (s.serve w r j p run).queueAndPart = s.queueAndPart := by
  unfold State.serve
  split
  · rfl
  · split
    · rfl
    · rename_i h
      split
      · rfl
      · simp [hrun, State.take_queueAndPart h]

@[simp] theorem State.setDom_queueAndPart (s : State) (d : Domain) (v : Nat) :
    (s.setDom d v).queueAndPart = s.queueAndPart := by
  unfold State.setDom
  split <;> simp

@[simp] theorem State.closeDomain_queueAndPart (s : State) (d : Domain) :
    (s.closeDomain d).queueAndPart = s.queueAndPart := by
  simp [State.closeDomain]

@[simp] theorem State.domainOff_queueAndPart (s : State) (d : Domain) :
    (s.domainOff d).queueAndPart = s.queueAndPart := by
  simp [State.domainOff]

@[simp] theorem State.reopenDomain_queueAndPart (s : State) (d : Domain) :
    (s.reopenDomain d).queueAndPart = s.queueAndPart := by
  simp [State.reopenDomain]

@[simp] theorem State.drainDiscard_queueAndPart (s : State) (d : Domain) :
    (s.drainDiscard d).queueAndPart = s.queueAndPart := by
  unfold State.drainDiscard
  extract_lets gone s1 inWall n s2 s3
  have h2 : s2.queueAndPart = s.queueAndPart :=
    (State.foldl_queueAndPart (fun a e => by split <;> simp) gone s1).trans (by simp [s1])
  have h3 : s3.queueAndPart = s2.queueAndPart := State.foldN_queueAndPart (fun a w => by simp) 8 s2
  split
  · exact h3.trans h2
  · exact (congrArg State.fixed (State.stickyHub_outside ..)).trans (h3.trans h2)

@[simp] theorem State.dropRegs_queueAndPart (s : State) (p : Nat → Bool) :
    (s.dropRegs p).queueAndPart = s.queueAndPart := by
  simp [State.dropRegs]

@[simp] theorem State.releaseConns_queueAndPart (s : State) (p : State → Nat → Nat → Bool) :
    (s.releaseConns p).queueAndPart = s.queueAndPart := by
  simp [State.releaseConns]

@[simp] theorem State.wantRelease_queueAndPart (s : State) (d : Domain) :
    (s.wantRelease d).queueAndPart = s.queueAndPart := by
  simp [State.wantRelease]

@[simp] theorem State.releaseDomain_queueAndPart (s : State) (d : Domain) :
    (s.releaseDomain d).queueAndPart = s.queueAndPart := by
  cases d <;> simp [State.releaseDomain]

@[simp] theorem State.discardWall_queueAndPart (s : State) (w : Nat) :
    (s.discardWall w).queueAndPart = s.queueAndPart := by
  simp [State.discardWall]

/-! ### Machine/BondCmds.lean -/

@[simp] theorem State.endFence_queueAndPart (s : State) (w t : Nat) (b : Bank) :
    (s.endFence w t b).queueAndPart = s.queueAndPart := by
  simp [State.endFence]

@[simp] theorem State.recordSend_queueAndPart (s : State) (w t f status : Nat) :
    (s.recordSend w t f status).queueAndPart = s.queueAndPart := by
  unfold State.recordSend
  split <;> simp

theorem State.sendReply_queueAndPart {s u : State} {w t : Nat} {tag : BitVec 8} {status : Nat}
    (h : s.sendReply w t tag status = some u) : u.queueAndPart = s.queueAndPart := by
  unfold State.sendReply at h
  dsimp only at h
  split at h
  · cases h
  · cases h
    simp

@[simp] theorem State.gcSent_queueAndPart (s : State) (w c : Nat) :
    (s.gcSent w c).queueAndPart = s.queueAndPart := by
  simp [State.gcSent]

@[simp] theorem State.gmiss_queueAndPart (s : State) (w r : Nat) (p : Packet) :
    (s.gmiss w r p).queueAndPart = s.queueAndPart := by
  simp [State.gmiss]

@[simp] theorem State.passHead_queueAndPart (s : State) (w r : Nat) (e : InFlight) (c : Nat) :
    (s.passHead w r e c).queueAndPart = s.queueAndPart := by
  simp [State.passHead]

@[simp] theorem State.passBest_queueAndPart (s : State) (w r : Nat) (e : InFlight) :
    (s.passBest w r e).queueAndPart = s.queueAndPart := by
  simp [State.passBest]

@[simp] theorem State.hold_queueAndPart (s : State) (p : Packet) (io : Bool) :
    (s.hold p io).queueAndPart = s.queueAndPart := by
  simp [State.hold]

@[simp] theorem State.hubTake_queueAndPart (s : State) (p : Packet) :
    (s.hubTake p).queueAndPart = s.queueAndPart := by
  unfold State.hubTake
  repeat' split
  all_goals simp

@[simp] theorem State.gdropped_queueAndPart (s : State) (w t : Nat) (p : Packet) :
    (s.gdropped w t p).queueAndPart = s.queueAndPart := by
  simp [State.gdropped]

@[simp] theorem State.bufferWords_queueAndPart (s : State) (w t : Nat) (g : Bool) (asp : Nat) (ws : List (Nat × Nat × W48)) :
    (s.bufferWords w t g asp ws).queueAndPart = s.queueAndPart := by
  simp [State.bufferWords]

theorem State.linkAnswer_queueAndPart {s u : State} {w n : Nat} {tag : BitVec 8} {status : Nat}
    (h : s.linkAnswer w n tag status = some u) : u.queueAndPart = s.queueAndPart := by
  unfold State.linkAnswer at h
  dsimp only at h
  split at h
  · cases h
    simp
  · cases h

@[simp] theorem State.epochWrite_queueAndPart (s : State) (seg : Segment) (v : Word) :
    (s.epochWrite seg v).1.queueAndPart = s.queueAndPart := by
  simp [State.epochWrite]

@[simp] theorem State.routeWrite_queueAndPart (s : State) (seg : Segment) (b : Bool) (r d : Nat) (v : Word) :
    (s.routeWrite seg b r d v).1.queueAndPart = s.queueAndPart := by
  unfold State.routeWrite
  repeat' split
  all_goals simp

@[simp] theorem State.slotWrite_queueAndPart (s : State) (seg : Segment) (b : Bool) (r o j : Nat) (v : Word) :
    (s.slotWrite seg b r o j v).1.queueAndPart = s.queueAndPart := by
  unfold State.slotWrite
  repeat' split
  all_goals simp

@[simp] theorem State.gcWrite_queueAndPart (s : State) (w c : Nat) (v : Word) :
    (s.gcWrite w c v).1.queueAndPart = s.queueAndPart := by
  simp [State.gcWrite]

@[simp] theorem State.gcDstWrite_queueAndPart (s : State) (w c : Nat) (v : Word) :
    (s.gcDstWrite w c v).1.queueAndPart = s.queueAndPart := by
  simp [State.gcDstWrite]

@[simp] theorem State.ringWrite_queueAndPart (s : State) (w t : Nat) (v : Word) :
    (s.ringWrite w t v).1.queueAndPart = s.queueAndPart := by
  simp [State.ringWrite]

/-! ### Machine/Angle.lean -/

@[simp] theorem State.acceptEdge_queueAndPart (s : State) (w n : Nat) (angle : W64) (fwd : Bool) :
    (s.acceptEdge w n angle fwd).queueAndPart = s.queueAndPart := by
  simp [State.acceptEdge]

@[simp] theorem State.ashWrite_queueAndPart (s : State) (w n : Nat) (v : Word) :
    (s.ashWrite w n v).1.queueAndPart = s.queueAndPart := by
  simp [State.ashWrite]

@[simp] theorem State.angCfgWrite_queueAndPart (s : State) (m w n : Nat) (v : Word) :
    (s.angCfgWrite m w n v).1.queueAndPart = s.queueAndPart := by
  simp [State.angCfgWrite]

@[simp] theorem State.angSetupWrite_queueAndPart (s : State) (w n a : Nat) (v : Word) :
    (s.angSetupWrite w n a v).1.queueAndPart = s.queueAndPart := by
  simp [State.angSetupWrite]

@[simp] theorem State.angCmdWrite_queueAndPart (s : State) (w n : Nat) (v : Word) :
    (s.angCmdWrite w n v).1.queueAndPart = s.queueAndPart := by
  simp [State.angCmdWrite]

/-! ### Machine/AcuCmds.lean -/

@[simp] theorem State.acuWrite_queueAndPart (s : State) (m w u : Nat) (v : Word) :
    (s.acuWrite m w u v).1.queueAndPart = s.queueAndPart := by
  simp [State.acuWrite]

@[simp] theorem State.acuSetupWrite_queueAndPart (s : State) (m w u a : Nat) (v : Word) :
    (s.acuSetupWrite m w u a v).1.queueAndPart = s.queueAndPart := by
  simp [State.acuSetupWrite]

/-! ### Machine/FlowCmds.lean -/

@[simp] theorem State.leaseWrite_queueAndPart (s : State) (w l : Nat) (v : Word) :
    (s.leaseWrite w l v).1.queueAndPart = s.queueAndPart := by
  simp [State.leaseWrite]

@[simp] theorem State.grantWrite_queueAndPart (s : State) (w l a : Nat) (v : Word) :
    (s.grantWrite w l a v).1.queueAndPart = s.queueAndPart := by
  simp [State.grantWrite]

@[simp] theorem State.schedWrite_queueAndPart (s : State) (w f : Nat) (v : Word) :
    (s.schedWrite w f v).1.queueAndPart = s.queueAndPart := by
  simp [State.schedWrite]

@[simp] theorem State.descWrite_queueAndPart (s : State) (m w f r : Nat) (v : Word) :
    (s.descWrite m w f r v).1.queueAndPart = s.queueAndPart := by
  unfold State.descWrite
  repeat' split
  all_goals simp

@[simp] theorem State.dispCmd_queueAndPart (s : State) (m w f op : Nat) :
    (s.dispCmd m w f op).1.queueAndPart = s.queueAndPart := by
  simp [State.dispCmd]

@[simp] theorem State.doorbell_queueAndPart (s : State) (w : Nat) (v : Word) :
    (s.doorbell w v).1.queueAndPart = s.queueAndPart := by
  simp [State.doorbell]

@[simp] theorem State.fwWrite_queueAndPart (s : State) (w n : Nat) (v : Word) :
    (s.fwWrite w n v).1.queueAndPart = s.queueAndPart := by
  simp [State.fwWrite]

@[simp] theorem State.hodCfgWrite_queueAndPart (s : State) (w : Nat) (v : Word) :
    (s.hodCfgWrite w v).1.queueAndPart = s.queueAndPart := by
  simp [State.hodCfgWrite]

@[simp] theorem State.countStaged_queueAndPart (s : State) (w f : Nat) :
    (s.countStaged w f).queueAndPart = s.queueAndPart := by
  simp [State.countStaged]

/-! ### Machine/MemCmds.lean -/

@[simp] theorem State.bankRead_queueAndPart (s : State) (w b : Nat) (p : Packet) :
    (s.bankRead w b p).1.queueAndPart = s.queueAndPart := by
  simp [State.bankRead]

@[simp] theorem State.bankWrite_queueAndPart (s : State) (w b : Nat) (p : Packet) :
    (s.bankWrite w b p).1.queueAndPart = s.queueAndPart := by
  simp [State.bankWrite]

@[simp] theorem State.retWrite_queueAndPart (s : State) (w : Nat) (v : Word) :
    (s.retWrite w v).1.queueAndPart = s.queueAndPart := by
  simp [State.retWrite]

@[simp] theorem State.marchOn_queueAndPart (s : State) (w b : Nat) (m : March) :
    (s.marchOn w b m).queueAndPart = s.queueAndPart := by
  simp [State.marchOn]

@[simp] theorem State.marchRequest_queueAndPart (s : State) (w mask alg bg m : Nat) :
    (s.marchRequest w mask alg bg m).1.queueAndPart = s.queueAndPart := by
  unfold State.marchRequest
  split <;> simp

@[simp] theorem State.marchOff_queueAndPart (s : State) (w b : Nat) :
    (s.marchOff w b).queueAndPart = s.queueAndPart := by
  simp [State.marchOff]

@[simp] theorem State.looseBank_queueAndPart (s : State) (w b : Nat) :
    (s.looseBank w b).queueAndPart = s.queueAndPart := by
  simp [State.looseBank]

@[simp] theorem State.marchFailed_queueAndPart (s : State) (w b addr count : Nat) :
    (s.marchFailed w b addr count).queueAndPart = s.queueAndPart := by
  simp [State.marchFailed]

@[simp] theorem State.marchCut_queueAndPart (s : State) (w b : Nat) :
    (s.marchCut w b).queueAndPart = s.queueAndPart := by
  simp [State.marchCut]

@[simp] theorem State.marchAbort_queueAndPart (s : State) (w : Nat) (p : Nat → Bool) :
    (s.marchAbort w p).queueAndPart = s.queueAndPart := by
  simp [State.marchAbort]

@[simp] theorem State.marchStop_queueAndPart (s : State) (w : Nat) :
    (s.marchStop w).queueAndPart = s.queueAndPart := by
  simp [State.marchStop]

@[simp] theorem State.marchWrite_queueAndPart (s : State) (m w : Nat) (v : Word) :
    (s.marchWrite m w v).1.queueAndPart = s.queueAndPart := by
  simp [State.marchWrite]

@[simp] theorem State.finishLong_queueAndPart (s : State) (p : LongCmd → Bool) (status : Nat) (r0 r1 : Word) :
    (s.finishLong p status r0 r1).queueAndPart = s.queueAndPart := by
  simp [State.finishLong]

@[simp] theorem State.marchTold_queueAndPart (s : State) (w b : Nat) (fail : Bool) :
    (s.marchTold w b fail).queueAndPart = s.queueAndPart := by
  simp [State.marchTold]

@[simp] theorem State.tamper_queueAndPart (s : State) (w cause : Nat) :
    (s.tamper w cause).queueAndPart = s.queueAndPart := by
  simp [State.tamper]

@[simp] theorem State.secWrite_queueAndPart (s : State) (w : Nat) (v : Word) :
    (s.secWrite w v).1.queueAndPart = s.queueAndPart := by
  simp [State.secWrite]

@[simp] theorem State.setGd_queueAndPart (s : State) (w d off : Nat) (bs : List Byte) :
    (s.setGd w d off bs).queueAndPart = s.queueAndPart := by
  simp [State.setGd]

@[simp] theorem State.gdDeny_queueAndPart (s : State) (w d m off : Nat) (write : Bool) :
    (s.gdDeny w d m off write).queueAndPart = s.queueAndPart := by
  simp [State.gdDeny]

@[simp] theorem State.gdCrc_queueAndPart (s : State) (w d crc : Nat) :
    (s.gdCrc w d crc).queueAndPart = s.queueAndPart := by
  simp [State.gdCrc]

@[simp] theorem State.gdUe_queueAndPart (s : State) (w d off : Nat) (link : Bool) :
    (s.gdUe w d off link).queueAndPart = s.queueAndPart := by
  simp [State.gdUe]

@[simp] theorem State.gdTransfer_queueAndPart (s : State) (w d off n crc : Nat) (skip : Nat → Bool) :
    (s.gdTransfer w d off n crc skip).1.queueAndPart = s.queueAndPart := by
  simp [State.gdTransfer]

@[simp] theorem State.sendBi_queueAndPart (s : State) (w d line : Nat) (dataOnly : Bool) :
    (s.sendBi w d line dataOnly).queueAndPart = s.queueAndPart := by
  simp [State.sendBi]

@[simp] theorem State.devRead_queueAndPart (s : State) (w d : Nat) (p : Packet) (crc : Nat) :
    (s.devRead w d p crc).1.queueAndPart = s.queueAndPart := by
  simp [State.devRead]

@[simp] theorem State.devWrite_queueAndPart (s : State) (w d : Nat) (p : Packet) (crc : Nat) :
    (s.devWrite w d p crc).1.queueAndPart = s.queueAndPart := by
  simp [State.devWrite]

@[simp] theorem State.enqueue_queueAndPart (s : State) (w d : Nat) (q : GdReq) :
    (s.enqueue w d q).queueAndPart = s.queueAndPart := by
  simp [State.enqueue]

@[simp] theorem State.dequeue_queueAndPart (s : State) (w d : Nat) (q : GdReq) :
    (s.dequeue w d q).queueAndPart = s.queueAndPart := by
  simp [State.dequeue]

@[simp] theorem State.hostServe_queueAndPart (s : State) (w d dpa off crc : Nat) (filter : List HostLine) :
    (s.hostServe w d dpa off crc filter).queueAndPart = s.queueAndPart := by
  simp [State.hostServe]

@[simp] theorem State.hostRead_queueAndPart (s : State) (w d dpa off crc : Nat) (excl : Bool) :
    (s.hostRead w d dpa off crc excl).queueAndPart = s.queueAndPart := by
  unfold State.hostRead
  dsimp only
  repeat' split
  all_goals simp

@[simp] theorem State.biResponse_queueAndPart (s : State) (w d line : Nat) :
    (s.biResponse w d line).queueAndPart = s.queueAndPart := by
  unfold State.biResponse
  dsimp only
  split <;> simp

@[simp] theorem State.gdCmdWrite_queueAndPart (s : State) (w d : Nat) (v : Word) :
    (s.gdCmdWrite w d v).1.queueAndPart = s.queueAndPart := by
  simp [State.gdCmdWrite]

@[simp] theorem State.regionWrite_queueAndPart (s : State) (w d r : Nat) (v : Word) :
    (s.regionWrite w d r v).1.queueAndPart = s.queueAndPart := by
  simp [State.regionWrite]

/-! ### Machine/Pins.lean -/

@[simp] theorem State.fpTripWrite_queueAndPart (s : State) (m w p : Nat) (v : Word) :
    (s.fpTripWrite m w p v).1.queueAndPart = s.queueAndPart := by
  simp [State.fpTripWrite]

@[simp] theorem State.fpCfgWrite_queueAndPart (s : State) (m w p : Nat) (v : Word) :
    (s.fpCfgWrite m w p v).1.queueAndPart = s.queueAndPart := by
  simp [State.fpCfgWrite]

@[simp] theorem State.fpMaskWrite_queueAndPart (s : State) (m w p : Nat) (v : Word) :
    (s.fpMaskWrite m w p v).1.queueAndPart = s.queueAndPart := by
  simp [State.fpMaskWrite]

@[simp] theorem State.fpBankWrite_queueAndPart (s : State) (w : Nat) (v : Word) :
    (s.fpBankWrite w v).1.queueAndPart = s.queueAndPart := by
  simp [State.fpBankWrite]

/-! ### Machine/Links.lean -/

@[simp] theorem State.setLkState_queueAndPart (s : State) (w n v : Nat) :
    (s.setLkState w n v).queueAndPart = s.queueAndPart := by
  simp [State.setLkState]

@[simp] theorem State.setLkIndex_queueAndPart (s : State) (w n v k : Nat) :
    (s.setLkIndex w n v k).queueAndPart = s.queueAndPart := by
  simp [State.setLkIndex]

@[simp] theorem State.armLink_queueAndPart (s : State) (w n : Nat) :
    (s.armLink w n).queueAndPart = s.queueAndPart := by
  simp [State.armLink]

@[simp] theorem State.idleLink_queueAndPart (s : State) (w n : Nat) :
    (s.idleLink w n).queueAndPart = s.queueAndPart := by
  simp [State.idleLink]

@[simp] theorem State.startLink_queueAndPart (s : State) (w n : Nat) :
    (s.startLink w n).queueAndPart = s.queueAndPart := by
  simp [State.startLink]

@[simp] theorem State.lkCtrlWrite_queueAndPart (s : State) (m w n : Nat) (v : Word) :
    (s.lkCtrlWrite m w n v).1.queueAndPart = s.queueAndPart := by
  simp [State.lkCtrlWrite]

@[simp] theorem State.lkSetupWrite_queueAndPart (s : State) (m w n a : Nat) (v : Word) :
    (s.lkSetupWrite m w n a v).1.queueAndPart = s.queueAndPart := by
  simp [State.lkSetupWrite]

@[simp] theorem State.loseLink_queueAndPart (s : State) (w n : Nat) :
    (s.loseLink w n).queueAndPart = s.queueAndPart := by
  simp [State.loseLink]

@[simp] theorem State.openFrame_queueAndPart (s : State) (w n : Nat) :
    (s.openFrame w n).queueAndPart = s.queueAndPart := by
  simp [State.openFrame]

@[simp] theorem State.slotSend_queueAndPart (s : State) (w n : Nat) (dst : BitVec 16) (addr : Word) (ws : List Nat) :
    (s.slotSend w n dst addr ws).queueAndPart = s.queueAndPart := by
  simp [State.slotSend]

@[simp] theorem State.rxWrite_queueAndPart (s : State) (w n e : Nat) (ws : List Nat) :
    (s.rxWrite w n e ws).queueAndPart = s.queueAndPart := by
  simp [State.rxWrite]

@[simp] theorem State.crcFail_queueAndPart (s : State) (w n : Nat) :
    (s.crcFail w n).queueAndPart = s.queueAndPart := by
  simp [State.crcFail]

@[simp] theorem State.latchSlot_queueAndPart (s : State) (w n e : Nat) :
    (s.latchSlot w n e).1.queueAndPart = s.queueAndPart := by
  simp [State.latchSlot]

@[simp] theorem State.latchAll_queueAndPart (s : State) (w n : Nat) :
    (s.latchAll w n).1.queueAndPart = s.queueAndPart := by
  simp [State.latchAll]

@[simp] theorem State.transmit_queueAndPart (s : State) (w n : Nat) :
    (s.transmit w n).queueAndPart = s.queueAndPart := by
  simp [State.transmit]

@[simp] theorem State.lkGoWrite_queueAndPart (s : State) (m w n : Nat) (v : Word) :
    (s.lkGoWrite m w n v).1.queueAndPart = s.queueAndPart := by
  simp [State.lkGoWrite]

@[simp] theorem State.ptpAdj_queueAndPart (s : State) (w : Nat) (v : Word) :
    (s.ptpAdj w v).1.queueAndPart = s.queueAndPart := by
  simp [State.ptpAdj]

@[simp] theorem State.ptpRead_queueAndPart (s : State) (w : Nat) :
    (s.ptpRead w).1.queueAndPart = s.queueAndPart := by
  simp [State.ptpRead]

@[simp] theorem State.ringPut_queueAndPart (s : State) (w base size off : Nat) (b : Bytes) :
    (s.ringPut w base size off b).queueAndPart = s.queueAndPart := by
  simp [State.ringPut]

@[simp] theorem State.ringGet_queueAndPart (s : State) (w base size off n : Nat) :
    (s.ringGet w base size off n).1.queueAndPart = s.queueAndPart := by
  simp [State.ringGet]

/-! ### Machine/Events.lean -/

@[simp] theorem State.msi_queueAndPart (s : State) (v : Nat) :
    (s.msi v).queueAndPart = s.queueAndPart := by
  simp [State.msi]

@[simp] theorem State.msixCtrlWrite_queueAndPart (s : State) (v : Nat) (d : Word) :
    (s.msixCtrlWrite v d).1.queueAndPart = s.queueAndPart := by
  simp [State.msixCtrlWrite]

@[simp] theorem State.ringCopy_queueAndPart (s : State) (r : EvRec) :
    (s.ringCopy r).queueAndPart = s.queueAndPart := by
  simp [State.ringCopy]

@[simp] theorem State.evrRdWrite_queueAndPart (s : State) (v : Word) :
    (s.evrRdWrite v).1.queueAndPart = s.queueAndPart := by
  simp [State.evrRdWrite]

@[simp] theorem State.evrCfgWrite_queueAndPart (s : State) (v : Word) :
    (s.evrCfgWrite v).1.queueAndPart = s.queueAndPart := by
  simp [State.evrCfgWrite]

@[simp] theorem State.append_queueAndPart (s : State) (r : EvRec) :
    (s.append r).queueAndPart = s.queueAndPart := by
  simp [State.append]

@[simp] theorem State.wevLog_queueAndPart (s : State) (w : Nat) (r : EvRec) :
    (s.wevLog w r).queueAndPart = s.queueAndPart := by
  simp [State.wevLog]

@[simp] theorem State.appendLate_queueAndPart (s : State) (w : Nat) (r : EvRec) :
    (s.appendLate w r).queueAndPart = s.queueAndPart := by
  simp [State.appendLate]

@[simp] theorem State.evRaise_queueAndPart (s : State) (v : Word) :
    (s.evRaise v).1.queueAndPart = s.queueAndPart := by
  simp [State.evRaise]

/-! ### Machine/Queues.lean -/

@[simp] theorem State.sqCfgWrite_queueAndPart (s : State) (q : Nat) (v : Word) :
    (s.sqCfgWrite q v).1.queueAndPart = s.queueAndPart := by
  simp [State.sqCfgWrite]

@[simp] theorem State.cqCfgWrite_queueAndPart (s : State) (c : Nat) (v : Word) :
    (s.cqCfgWrite c v).1.queueAndPart = s.queueAndPart := by
  simp [State.cqCfgWrite]

@[simp] theorem State.queueSetup_queueAndPart (s : State) (on : Bool) (a : Nat) (v : Word) :
    (s.queueSetup on a v).1.queueAndPart = s.queueAndPart := by
  simp [State.queueSetup]

@[simp] theorem State.postTo_queueAndPart (s : State) (c : Nat) (r : Cpl) :
    (s.postTo c r).queueAndPart = s.queueAndPart := by
  simp [State.postTo]

@[simp] theorem State.complete_queueAndPart (s : State) (r : Cpl) :
    (s.complete_ r).queueAndPart = s.queueAndPart := by
  simp [State.complete_]

@[simp] theorem State.resumeCq_queueAndPart (s : State) (c : Nat) :
    (s.resumeCq c).queueAndPart = s.queueAndPart := by
  simp [State.resumeCq]

@[simp] theorem State.sqDbWrite_queueAndPart (s : State) (q : Nat) (v : Word) :
    (s.sqDbWrite q v).1.queueAndPart = s.queueAndPart := by
  simp [State.sqDbWrite]

@[simp] theorem State.cqDbWrite_queueAndPart (s : State) (c : Nat) (v : Word) :
    (s.cqDbWrite c v).1.queueAndPart = s.queueAndPart := by
  simp [State.cqDbWrite]

/-- A command keeps the queue and the part: its effect does, and what a failed check leaves. -/
structure Cmd.Keeps (d : Cmd) : Prop where
  run : ∀ s, (d.run s).1.queueAndPart = s.queueAndPart
  failed : ∀ s, (d.failed s).queueAndPart = s.queueAndPart

theorem State.startCmd_queueAndPart {d : Cmd} (hd : d.Keeps) (s : State) (c : CmdCtx) :
    (s.startCmd c d).1.queueAndPart = s.queueAndPart := by
  unfold State.startCmd
  dsimp only
  repeat' split
  all_goals simp [hd.run, hd.failed]

@[simp] theorem State.addLong_queueAndPart (s : State) (c : CmdCtx) (op : Nat) (console : Bool) (r : CmdRes) :
    (s.addLong c op console r).queueAndPart = s.queueAndPart := by
  unfold State.addLong
  split <;> simp

theorem State.runCmd_queueAndPart {d : Cmd} (hd : d.Keeps) (s : State) (c : CmdCtx) :
    (s.runCmd c d).queueAndPart = s.queueAndPart := by
  unfold State.runCmd
  dsimp only
  split <;> simp [State.startCmd_queueAndPart hd]

theorem State.cmdClaim_queueAndPart {s u : State} {m a : Nat} {k : Option Nat} (h : s.cmdClaim m a = some (u, k)) :
    u.queueAndPart = s.queueAndPart := by
  unfold State.cmdClaim at h
  split at h
  · cases h
    rfl
  · split at h
    · cases h
    · cases h
      simp

@[simp] theorem State.dropClaim_queueAndPart (s : State) (a : Nat) :
    (s.dropClaim a).queueAndPart = s.queueAndPart := by
  simp [State.dropClaim]

@[simp] theorem State.toBuffer_queueAndPart (s : State) (c : CmdCtx) (off : Nat) (b : Bytes) :
    (s.toBuffer c off b).queueAndPart = s.queueAndPart := by
  simp [State.toBuffer]

@[simp] theorem State.endLongs_queueAndPart (s : State) (w status : Nat) (p : LongCmd → Bool) :
    (s.endLongs w status p).queueAndPart = s.queueAndPart := by
  simp [State.endLongs]

theorem nopCmd_keeps : nopCmd.Keeps := ⟨fun _ => rfl, fun _ => rfl⟩

@[simp] theorem State.cxlDown_queueAndPart (s : State) :
    s.cxlDown.queueAndPart = s.queueAndPart := by
  simp [State.cxlDown]

@[simp] theorem State.flr_queueAndPart (s : State) : s.flr.queueAndPart = s.queueAndPart := by
  simp [State.flr]

/-! ### Machine/Reset.lean -/

@[simp] theorem State.stopElements_queueAndPart (s : State) (w : Nat) :
    (s.stopElements w).queueAndPart = s.queueAndPart := by
  simp [State.stopElements]

@[simp] theorem State.clearWallRegs_queueAndPart (s : State) (w : Nat) :
    (s.clearWallRegs w).queueAndPart = s.queueAndPart := by
  unfold State.clearWallRegs
  refine State.foldl_queueAndPart (fun a e => ?_) _ _
  split <;> simp

@[simp] theorem State.releaseClaims_queueAndPart (s : State) (w : Nat) :
    (s.releaseClaims w).queueAndPart = s.queueAndPart := by
  simp [State.releaseClaims]

@[simp] theorem State.flushCheck_queueAndPart (s : State) (w d : Nat) :
    (s.flushCheck w d).queueAndPart = s.queueAndPart := by
  simp [State.flushCheck]

@[simp] theorem State.startFlush_queueAndPart (s : State) (w : Nat) :
    (s.startFlush w).queueAndPart = s.queueAndPart := by
  simp [State.startFlush]

@[simp] theorem State.showHold_queueAndPart (s : State) (w : Nat) :
    (s.showHold w).queueAndPart = s.queueAndPart := by
  simp [State.showHold]

@[simp] theorem State.setHold_queueAndPart (s : State) (level : Bool) :
    (s.setHold level).queueAndPart = s.queueAndPart := by
  simp [State.setHold]

@[simp] theorem State.setDone_queueAndPart (s : State) (level : Bool) :
    (s.setDone level).queueAndPart = s.queueAndPart := by
  simp [State.setDone]

@[simp] theorem State.enterReset_queueAndPart (s : State) (w : Nat) (load chain : Bool) (p : LongCmd → Bool) :
    (s.enterReset w load chain p).queueAndPart = s.queueAndPart := by
  simp [State.enterReset]

@[simp] theorem State.wallEvent_queueAndPart (s : State) (w var status : Nat) :
    (s.wallEvent w var status).queueAndPart = s.queueAndPart := by
  simp [State.wallEvent]

@[simp] theorem State.beginLoad_queueAndPart (s : State) (w : Nat) (chain : Bool) (p : LongCmd → Bool) :
    (s.beginLoad w chain p).queueAndPart = s.queueAndPart := by
  simp [State.beginLoad]

@[simp] theorem State.beginReset_queueAndPart (s : State) (w : Nat) (p : LongCmd → Bool) :
    (s.beginReset w p).queueAndPart = s.queueAndPart := by
  simp [State.beginReset]

@[simp] theorem State.settleLoads_queueAndPart (s : State) :
    s.settleLoads.queueAndPart = s.queueAndPart := by
  simp [State.settleLoads]

@[simp] theorem State.settleStart_queueAndPart (s : State) (w status : Nat) :
    (s.settleStart w status).queueAndPart = s.queueAndPart := by
  simp [State.settleStart]

@[simp] theorem State.kilnError_queueAndPart (s : State) (w status : Nat) (floc : Word) :
    (s.kilnError w status floc).queueAndPart = s.queueAndPart := by
  simp [State.kilnError]

@[simp] theorem State.failWall_queueAndPart (s : State) (w status : Nat) :
    (s.failWall w status).queueAndPart = s.queueAndPart := by
  simp [State.failWall]

@[simp] theorem State.writePtRecord_queueAndPart (s : State) (w interval : Nat) :
    (s.writePtRecord w interval).queueAndPart = s.queueAndPart := by
  simp [State.writePtRecord]

@[simp] theorem State.rewriteSecure_queueAndPart (s : State) (w : Nat) :
    (s.rewriteSecure w).queueAndPart = s.queueAndPart := by
  simp [State.rewriteSecure]

/-! ### Machine/WallRegs.lean -/

@[simp] theorem State.orderWrite_queueAndPart (s : State) (w : Nat) (v : Word) :
    (s.orderWrite w v).1.queueAndPart = s.queueAndPart := by
  simp [State.orderWrite]

@[simp] theorem State.ptCfgWrite_queueAndPart (s : State) (w : Nat) (v : Word) :
    (s.ptCfgWrite w v).1.queueAndPart = s.queueAndPart := by
  simp [State.ptCfgWrite]

@[simp] theorem State.tableWrite_queueAndPart (s : State) (locked one : Bool) (first a : Nat) (v : Word) :
    (s.tableWrite locked one first a v).1.queueAndPart = s.queueAndPart := by
  simp [State.tableWrite]

@[simp] theorem State.sramRegWrite_queueAndPart (s : State) (m w o : Nat) (v : Word) :
    (s.sramRegWrite m w o v).1.queueAndPart = s.queueAndPart := by
  simp [State.sramRegWrite]

@[simp] theorem State.gddrRegWrite_queueAndPart (s : State) (w o : Nat) (v : Word) :
    (s.gddrRegWrite w o v).1.queueAndPart = s.queueAndPart := by
  simp [State.gddrRegWrite]

@[simp] theorem State.dispRegWrite_queueAndPart (s : State) (m w o : Nat) (v : Word) :
    (s.dispRegWrite m w o v).1.queueAndPart = s.queueAndPart := by
  simp [State.dispRegWrite]

@[simp] theorem State.kilnRegWrite_queueAndPart (s : State) (m w o : Nat) (v : Word) :
    (s.kilnRegWrite m w o v).1.queueAndPart = s.queueAndPart := by
  simp [State.kilnRegWrite]

@[simp] theorem State.bondRegWrite_queueAndPart (s : State) (w : Wall) (o : Nat) (v : Word) (any : Bool) :
    (s.bondRegWrite w o v any).1.queueAndPart = s.queueAndPart := by
  unfold State.bondRegWrite
  extract_lets
  repeat' split
  all_goals simp

@[simp] theorem State.angleRegWrite_queueAndPart (s : State) (m w o : Nat) (v : Word) :
    (s.angleRegWrite m w o v).1.queueAndPart = s.queueAndPart := by
  simp [State.angleRegWrite]

@[simp] theorem State.linkRegWrite_queueAndPart (s : State) (m w o : Nat) (v : Word) :
    (s.linkRegWrite m w o v).1.queueAndPart = s.queueAndPart := by
  simp [State.linkRegWrite]

@[simp] theorem State.pinRegWrite_queueAndPart (s : State) (m w o : Nat) (v : Word) :
    (s.pinRegWrite m w o v).1.queueAndPart = s.queueAndPart := by
  simp [State.pinRegWrite]

@[simp] theorem State.tileRegWrite_queueAndPart (s : State) (w o : Nat) (v : Word) :
    (s.tileRegWrite w o v).1.queueAndPart = s.queueAndPart := by
  simp [State.tileRegWrite]

@[simp] theorem State.wallRegWrite_queueAndPart (s : State) (m : Nat) (w : Wall) (o : Nat) (v : Word) :
    (s.wallRegWrite m w o v).1.queueAndPart = s.queueAndPart := by
  unfold State.wallRegWrite
  split <;> simp

/-! ### Machine/Kiln.lean -/

@[simp] theorem State.setFound_queueAndPart (s : State) (w t sub : Nat) (ws : Words) :
    (s.setFound w t sub ws).queueAndPart = s.queueAndPart := by
  simp [State.setFound]

@[simp] theorem State.setFrameCode_queueAndPart (s : State) (w t typ sub : Nat) (c : BitVec 16) :
    (s.setFrameCode w t typ sub c).queueAndPart = s.queueAndPart := by
  simp [State.setFrameCode]

@[simp] theorem State.writeFoundation_queueAndPart (s : State) (w t sub : Nat) (ws : Words) :
    (s.writeFoundation w t sub ws).queueAndPart = s.queueAndPart := by
  simp [State.writeFoundation]

@[simp] theorem State.writeProgram_queueAndPart (s : State) (w t sub : Nat) (ws : Words) :
    (s.writeProgram w t sub ws).queueAndPart = s.queueAndPart := by
  simp [State.writeProgram]

@[simp] theorem State.writeTmem_queueAndPart (s : State) (w t m sub : Nat) (ws : Words) :
    (s.writeTmem w t m sub ws).queueAndPart = s.queueAndPart := by
  simp [State.writeTmem]

@[simp] theorem State.writeLibrary_queueAndPart (s : State) (w t n : Nat) (ws : Words) :
    (s.writeLibrary w t n ws).queueAndPart = s.queueAndPart := by
  simp [State.writeLibrary]

@[simp] theorem State.giveClaim_queueAndPart (s : State) (a m : Nat) :
    (s.giveClaim a m).queueAndPart = s.queueAndPart := by
  simp [State.giveClaim]

@[simp] theorem State.applyPair_queueAndPart (s : State) (m : Nat) (w : Wall) (typ : Nat) (d v : Word) :
    (s.applyPair m w typ d v).1.queueAndPart = s.queueAndPart := by
  unfold State.applyPair
  dsimp only
  repeat' split
  all_goals simp

theorem State.applyPairs_queueAndPart (m : Nat) (w : Wall) (typ : Nat) : ∀ (l : Words) (s : State),
    (s.applyPairs m w typ l).1.queueAndPart = s.queueAndPart
  | [], _ => rfl
  | [_], _ => rfl
  | d :: v :: r, s => by
    unfold State.applyPairs
    simp [State.applyPairs_queueAndPart m w typ r]

@[simp] theorem State.setKiln_queueAndPart (s : State) (w : Nat) (k : KilnX) :
    (s.setKiln w k).queueAndPart = s.queueAndPart := by
  simp [State.setKiln]

@[simp] theorem State.loadTime_queueAndPart (s : State) (w : Nat) :
    (s.loadTime w).queueAndPart = s.queueAndPart := by
  simp [State.loadTime]

@[simp] theorem State.failLoad_queueAndPart (s : State) (w status : Nat) (floc : Word) :
    (s.failLoad w status floc).queueAndPart = s.queueAndPart := by
  simp [State.failLoad]

@[simp] theorem State.kilnLook_queueAndPart (s : State) (w : Nat) :
    (s.kilnLook w).queueAndPart = s.queueAndPart := by
  simp [State.kilnLook]

@[simp] theorem State.writeFrame_queueAndPart (s : State) (w : Wall) (m : Nat) (l : Word) (d : Words) :
    (s.writeFrame w m l d).1.queueAndPart = s.queueAndPart := by
  simp [State.writeFrame, State.applyPairs_queueAndPart]

@[simp] theorem State.setSpine_queueAndPart (s : State) (w : Nat) :
    (s.setSpine w).queueAndPart = s.queueAndPart := by
  simp [State.setSpine]

@[simp] theorem State.enterRelease_queueAndPart (s : State) (w : Nat) :
    (s.enterRelease w).queueAndPart = s.queueAndPart := by
  simp [State.enterRelease]

@[simp] theorem State.loadEntry_queueAndPart (s : State) (w entry : Nat) (chain : Bool) (p : LongCmd → Bool) :
    (s.loadEntry w entry chain p).queueAndPart = s.queueAndPart := by
  unfold State.loadEntry
  split <;> simp

theorem State.replayFrom_queueAndPart (w : Wall) :
    ∀ (n i : Nat) (s : State), (s.replayFrom w n i).1.queueAndPart = s.queueAndPart
  | 0, _, _ => rfl
  | n + 1, i, s => by
    unfold State.replayFrom
    simp [State.replayFrom_queueAndPart w n, State.applyPairs_queueAndPart]

@[simp] theorem State.fabricStep_queueAndPart (s : State) (w : Nat) :
    (s.fabricStep w).queueAndPart = s.queueAndPart := by
  simp [State.fabricStep]

@[simp] theorem State.pinsStep_queueAndPart (s : State) (w : Nat) :
    (s.pinsStep w).queueAndPart = s.queueAndPart := by
  simp [State.pinsStep]

@[simp] theorem State.takeStep_queueAndPart (s : State) (w code : Nat) :
    (s.takeStep w code).queueAndPart = s.queueAndPart := by
  simp [State.takeStep]

@[simp] theorem State.enterReady_queueAndPart (s : State) (w : Nat) :
    (s.enterReady w).queueAndPart = s.queueAndPart := by
  simp [State.enterReady]

/-! ### Machine/Point.lean -/

@[simp] theorem State.setPoint_queueAndPart (s : State) (w : Nat) (p : PointX) :
    (s.setPoint w p).queueAndPart = s.queueAndPart := by
  simp [State.setPoint]

@[simp] theorem State.loadPoint_queueAndPart (s : State) (w : Nat) :
    (s.loadPoint w).queueAndPart = s.queueAndPart := by
  simp [State.loadPoint]

@[simp] theorem State.showPoint_queueAndPart (s : State) (w : Nat) :
    (s.showPoint w).queueAndPart = s.queueAndPart := by
  simp [State.showPoint]

@[simp] theorem State.startPass_queueAndPart (s : State) (w : Nat) :
    (s.startPass w).queueAndPart = s.queueAndPart := by
  simp [State.startPass]

@[simp] theorem State.scrubCe_queueAndPart (s : State) (w : Nat) :
    (s.scrubCe w).queueAndPart = s.queueAndPart := by
  simp [State.scrubCe]

@[simp] theorem State.scrubUe_queueAndPart (s : State) (w : Nat) (floc : Word) :
    (s.scrubUe w floc).queueAndPart = s.queueAndPart := by
  simp [State.scrubUe]

@[simp] theorem State.scrubFrame_queueAndPart (s : State) (w t typ sub : Nat) :
    (s.scrubFrame w t typ sub).queueAndPart = s.queueAndPart := by
  unfold State.scrubFrame
  dsimp only
  split <;> simp

@[simp] theorem State.scrubWay_queueAndPart (s : State) (w t k : Nat) :
    (s.scrubWay w t k).queueAndPart = s.queueAndPart := by
  unfold State.scrubWay
  dsimp only
  split <;> simp

/-! ### Machine/Power.lean -/

@[simp] theorem State.loadEcc_queueAndPart (s : State) :
    s.loadEcc.queueAndPart = s.queueAndPart := by
  simp [State.loadEcc]

@[simp] theorem State.loadSettings_queueAndPart (s : State) :
    s.loadSettings.queueAndPart = s.queueAndPart := by
  unfold State.loadSettings
  refine (State.foldl_queueAndPart (fun a e => ?_) _ _).trans (by simp)
  split <;> simp

@[simp] theorem State.moduleReset_queueAndPart (s : State) (cause mon : Nat) (cxl : CxlX) :
    (s.moduleReset cause mon cxl).queueAndPart = s.queueAndPart := by
  simp [State.moduleReset]

@[simp] theorem State.brownOut_queueAndPart (s : State) :
    s.brownOut.queueAndPart = s.queueAndPart := by
  simp [State.brownOut]

@[simp] theorem State.wantClock_queueAndPart (s : State) (w : Nat) :
    (s.wantClock w).queueAndPart = s.queueAndPart := by
  simp [State.wantClock]

@[simp] theorem State.powerUp_queueAndPart (s : State) (w : Nat) (p : LongCmd → Bool) :
    (s.powerUp w p).queueAndPart = s.queueAndPart := by
  simp [State.powerUp]

@[simp] theorem State.loseWall_queueAndPart (s : State) (w : Nat) :
    (s.loseWall w).queueAndPart = s.queueAndPart := by
  simp [State.loseWall]

@[simp] theorem State.wallDown_queueAndPart (s : State) (w : Wall) (g : Nat) :
    (s.wallDown w g).queueAndPart = s.queueAndPart := by
  simp [State.wallDown]

@[simp] theorem State.downProgress_queueAndPart (s : State) (w : Wall) :
    (s.downProgress w).queueAndPart = s.queueAndPart := by
  unfold State.downProgress
  dsimp only
  split <;> simp

@[simp] theorem State.beginDown_queueAndPart (s : State) (w : Wall) (g : Nat) (p : LongCmd → Bool) :
    (s.beginDown w g p).queueAndPart = s.queueAndPart := by
  simp [State.beginDown]

@[simp] theorem State.beginUp_queueAndPart (s : State) (w : Nat) (p : LongCmd → Bool) :
    (s.beginUp w p).queueAndPart = s.queueAndPart := by
  simp [State.beginUp]

@[simp] theorem State.stopWall_queueAndPart (s : State) (w : Nat) :
    (s.stopWall w).queueAndPart = s.queueAndPart := by
  simp [State.stopWall]

@[simp] theorem State.stopWalls_queueAndPart (s : State) (ws : List Nat) :
    (s.stopWalls ws).queueAndPart = s.queueAndPart := by
  simp [State.stopWalls]

@[simp] theorem State.showHolds_queueAndPart (s : State) :
    s.showHolds.queueAndPart = s.queueAndPart := by
  simp [State.showHolds]

@[simp] theorem State.monEvent_queueAndPart (s : State) (m : Nat) (low : Bool) (v : Int) :
    (s.monEvent m low v).queueAndPart = s.queueAndPart := by
  unfold State.monEvent
  split <;> simp

@[simp] theorem State.monCompare_queueAndPart (s : State) (m : Nat) (v : Int) :
    (s.monCompare m v).1.queueAndPart = s.queueAndPart := by
  simp [State.monCompare]

@[simp] theorem State.compareAll_queueAndPart (s : State) (vs : List (Nat × Int)) :
    (s.compareAll vs).queueAndPart = s.queueAndPart := by
  unfold State.compareAll
  dsimp only
  split <;> simp

@[simp] theorem State.monSample_queueAndPart (s : State) (m : Nat) (v : Int) (cur : Nat) :
    (s.monSample m v cur).queueAndPart = s.queueAndPart := by
  simp [State.monSample]

@[simp] theorem State.wallTelemetry_queueAndPart (s : State) (w cw : Nat) :
    (s.wallTelemetry w cw).queueAndPart = s.queueAndPart := by
  simp [State.wallTelemetry]

@[simp] theorem State.overTemp_queueAndPart (s : State) (w : Nat) :
    (s.overTemp w).queueAndPart = s.queueAndPart := by
  simp [State.overTemp]

@[simp] theorem State.fanPolicy_queueAndPart (s : State) :
    s.fanPolicy.queueAndPart = s.queueAndPart := by
  simp [State.fanPolicy]

@[simp] theorem State.gateCourse_queueAndPart (s : State) (w : Wall) (c : Fin 16) :
    (s.gateCourse w c).queueAndPart = s.queueAndPart := by
  simp [State.gateCourse]

@[simp] theorem State.gateProgress_queueAndPart (s : State) (w : Wall) :
    (s.gateProgress w).queueAndPart = s.queueAndPart := by
  simp [State.gateProgress]

@[simp] theorem State.gateWrite_queueAndPart (s : State) (w : Wall) (v : Word) :
    (s.gateWrite w v).1.queueAndPart = s.queueAndPart := by
  simp [State.gateWrite]

/-! ### Machine/Trowel.lean -/

@[simp] theorem State.chainOut_queueAndPart (s : State) (down : Bool) (fr : ChainFrame) :
    (s.chainOut down fr).queueAndPart = s.queueAndPart := by
  simp [State.chainOut]

@[simp] theorem State.chainSend_queueAndPart (s : State) (typ dst : Nat) (seq : BitVec 8) (payload : Bytes) :
    (s.chainSend typ dst seq payload).queueAndPart = s.queueAndPart := by
  simp [State.chainSend]

@[simp] theorem State.takeTxSeq_queueAndPart (s : State) :
    s.takeTxSeq.queueAndPart = s.queueAndPart := by
  simp [State.takeTxSeq]

@[simp] theorem State.sendHealth_queueAndPart (s : State) :
    s.sendHealth.queueAndPart = s.queueAndPart := by
  unfold State.sendHealth
  split <;> simp

@[simp] theorem State.withHealth_queueAndPart (s t : State) :
    (s.withHealth t).queueAndPart = t.queueAndPart := by
  simp [State.withHealth]

@[simp] theorem State.sendImage_queueAndPart (s : State) (typ dst : Nat) (i : Image) :
    (s.sendImage typ dst i).queueAndPart = s.queueAndPart := by
  simp [State.sendImage]

@[simp] theorem State.imageEvent_queueAndPart (s : State) (status : Nat) (i : Image) :
    (s.imageEvent status i).queueAndPart = s.queueAndPart := by
  simp [State.imageEvent]

@[simp] theorem State.lifeCycle_queueAndPart (s : State) (lc : Nat) :
    (s.lifeCycle lc).queueAndPart = s.queueAndPart := by
  simp [State.lifeCycle]

@[simp] theorem State.storeImage_queueAndPart (s : State) (i : Image) (status : Nat) :
    (s.storeImage i status).queueAndPart = s.queueAndPart := by
  simp [State.storeImage]

@[simp] theorem State.fwStage_queueAndPart (s : State) (i : Image) :
    (s.fwStage i).1.queueAndPart = s.queueAndPart := by
  simp [State.fwStage]

@[simp] theorem State.fwActivate_queueAndPart (s : State) (when_ target wall ang : Nat) :
    (s.fwActivate when_ target wall ang).1.queueAndPart = s.queueAndPart := by
  unfold State.fwActivate
  dsimp only
  split <;> simp

@[simp] theorem State.withdrawAct_queueAndPart (s : State) (status : Nat) :
    (s.withdrawAct status).queueAndPart = s.queueAndPart := by
  simp [State.withdrawAct]

@[simp] theorem State.restartTrowel_queueAndPart (s : State) :
    s.restartTrowel.queueAndPart = s.queueAndPart := by
  simp [State.restartTrowel]

@[simp] theorem State.holdWalls_queueAndPart (s : State) :
    s.holdWalls.queueAndPart = s.queueAndPart := by
  simp [State.holdWalls]

@[simp] theorem State.enterSafe_queueAndPart (s : State) (cause : Nat) :
    (s.enterSafe cause).queueAndPart = s.queueAndPart := by
  simp [State.enterSafe]

@[simp] theorem State.leaveSafe_queueAndPart (s : State) :
    s.leaveSafe.queueAndPart = s.queueAndPart := by
  simp [State.leaveSafe]

@[simp] theorem State.enterRecovery_queueAndPart (s : State) (cause : Nat) :
    (s.enterRecovery cause).queueAndPart = s.queueAndPart := by
  simp [State.enterRecovery]

@[simp] theorem State.revert_queueAndPart (s : State) (b : Bool) (status : Nat) :
    (s.revert b status).queueAndPart = s.queueAndPart := by
  simp [State.revert]

@[simp] theorem State.bootFailed_queueAndPart (s : State) (b : Bool) (cause status : Nat) :
    (s.bootFailed b cause status).queueAndPart = s.queueAndPart := by
  simp [State.bootFailed]

@[simp] theorem State.bootDone_queueAndPart (s : State) (b : Bool) :
    (s.bootDone b).queueAndPart = s.queueAndPart := by
  simp [State.bootDone]

@[simp] theorem State.newGeneration_queueAndPart (s : State) :
    s.newGeneration.queueAndPart = s.queueAndPart := by
  simp [State.newGeneration]

@[simp] theorem State.refuseRecovery_queueAndPart (s : State) (st : Nat) (i : Image) :
    (s.refuseRecovery st i).queueAndPart = s.queueAndPart := by
  simp [State.refuseRecovery]

@[simp] theorem State.recover_queueAndPart (s : State) (i : Image) :
    (s.recover i).queueAndPart = s.queueAndPart := by
  simp [State.recover]

@[simp] theorem State.rcvWinWrite_queueAndPart (s : State) (m j : Nat) (v : Word) :
    (s.rcvWinWrite m j v).1.queueAndPart = s.queueAndPart := by
  simp [State.rcvWinWrite]

@[simp] theorem State.rcvCtrlWrite_queueAndPart (s : State) (m : Nat) (v : Word) (img : Option Image) :
    (s.rcvCtrlWrite m v img).1.queueAndPart = s.queueAndPart := by
  unfold State.rcvCtrlWrite
  repeat' split
  all_goals simp

@[simp] theorem State.rcvSendWrite_queueAndPart (s : State) (v : Word) :
    (s.rcvSendWrite v).1.queueAndPart = s.queueAndPart := by
  unfold State.rcvSendWrite
  repeat' split
  all_goals simp

/-! ### Machine/Chain.lean -/

@[simp] theorem State.sendEnum_queueAndPart (s : State) (down : Bool) (n : Nat) :
    (s.sendEnum down n).queueAndPart = s.queueAndPart := by
  simp [State.sendEnum]

@[simp] theorem State.takePos_queueAndPart (s : State) (p : Nat) :
    (s.takePos p).queueAndPart = s.queueAndPart := by
  simp [State.takePos]

@[simp] theorem State.chainForward_queueAndPart (s : State) (fr : ChainFrame) :
    (s.chainForward fr).queueAndPart = s.queueAndPart := by
  simp [State.chainForward]

@[simp] theorem State.chainBad_queueAndPart (s : State) :
    s.chainBad.queueAndPart = s.queueAndPart := by
  simp [State.chainBad]

theorem State.chainFrame_queueAndPart {act : State → State} (hact : ∀ a, (act a).queueAndPart = a.queueAndPart) (s : State)
    (fr : ChainFrame) : (s.chainFrame fr act).queueAndPart = s.queueAndPart := by
  simp [State.chainFrame, hact]

@[simp] theorem State.takeTick_queueAndPart (s : State) (t : Word) :
    (s.takeTick t).queueAndPart = s.queueAndPart := by
  simp [State.takeTick]

@[simp] theorem State.sendTick_queueAndPart (s : State) (t : Word) :
    (s.sendTick t).queueAndPart = s.queueAndPart := by
  simp [State.sendTick]

@[simp] theorem State.takeHealth_queueAndPart (s : State) (p version state crc : Nat) :
    (s.takeHealth p version state crc).queueAndPart = s.queueAndPart := by
  unfold State.takeHealth
  dsimp only
  split <;> simp

@[simp] theorem State.markStaging_queueAndPart (s : State) (i : Image) (v : Nat) :
    (s.markStaging i v).queueAndPart = s.queueAndPart := by
  simp [State.markStaging]

@[simp] theorem State.chainAck_queueAndPart (s : State) (fr : ChainFrame) (status : Nat) :
    (s.chainAck fr status).queueAndPart = s.queueAndPart := by
  simp [State.chainAck]

@[simp] theorem State.chainDone_queueAndPart (s : State) (r : ChainRx) (fr : ChainFrame) :
    (s.chainDone r fr).queueAndPart = s.queueAndPart := by
  simp [State.chainDone]

@[simp] theorem State.chainBlock_queueAndPart (s : State) (r : ChainRx) (fr : ChainFrame) :
    (s.chainBlock r fr).queueAndPart = s.queueAndPart := by
  simp [State.chainBlock]

@[simp] theorem State.chainTake_queueAndPart (s : State) (fr : ChainFrame) (recovery : Bool) :
    (s.chainTake fr recovery).queueAndPart = s.queueAndPart := by
  unfold State.chainTake
  dsimp only
  split <;> simp

@[simp] theorem State.resend_queueAndPart (s : State) : s.resend.queueAndPart = s.queueAndPart := by
  simp [State.resend]

/-! ### Machine/Claims.lean -/

@[simp] theorem State.closeConsole_queueAndPart (s : State) :
    s.closeConsole.queueAndPart = s.queueAndPart := by
  simp [State.closeConsole]

@[simp] theorem State.resetRes_queueAndPart (s : State) (r : Res) :
    (s.resetRes r).queueAndPart = s.queueAndPart := by
  cases r <;> simp [State.resetRes]

@[simp] theorem State.takeClaim_queueAndPart (s : State) (a m : Nat) :
    (s.takeClaim a m).queueAndPart = s.queueAndPart := by
  simp [State.takeClaim]

@[simp] theorem State.claimWrite_queueAndPart (s : State) (m a : Nat) (v : Word) :
    (s.claimWrite m a v).1.queueAndPart = s.queueAndPart := by
  unfold State.claimWrite
  split
  · simp
  · dsimp only
    repeat' split
    all_goals simp

/-! ### Machine/RegRead.lean -/

@[simp] theorem State.fetchReg_queueAndPart (s : State) (m a : Nat) :
    (s.fetchReg m a).1.queueAndPart = s.queueAndPart := by
  unfold State.fetchReg
  repeat' split
  all_goals simp

@[simp] theorem State.regRead_queueAndPart (s : State) (m a : Nat) :
    (s.regRead m a).queueAndPart = s.queueAndPart := by
  simp [State.regRead]

/-! ### Machine/RegWrite.lean -/

@[simp] theorem State.queueRegWrite_queueAndPart (s : State) (a : Nat) (v : Word) :
    (s.queueRegWrite a v).1.queueAndPart = s.queueAndPart := by
  unfold State.queueRegWrite
  split <;> simp

@[simp] theorem State.eventRegWrite_queueAndPart (s : State) (a : Nat) (v : Word) :
    (s.eventRegWrite a v).1.queueAndPart = s.queueAndPart := by
  simp [State.eventRegWrite]

@[simp] theorem State.trowelRegWrite_queueAndPart (s : State) (m a : Nat) (v : Word) :
    (s.trowelRegWrite m a v).1.queueAndPart = s.queueAndPart := by
  simp [State.trowelRegWrite]

@[simp] theorem State.powerRegWrite_queueAndPart (s : State) (a : Nat) (v : Word) :
    (s.powerRegWrite a v).1.queueAndPart = s.queueAndPart := by
  simp [State.powerRegWrite]

@[simp] theorem State.accessRegWrite_queueAndPart (s : State) (m a : Nat) (v : Word) :
    (s.accessRegWrite m a v).1.queueAndPart = s.queueAndPart := by
  simp [State.accessRegWrite]

@[simp] theorem State.switchRegWrite_queueAndPart (s : State) (a : Nat) (v : Word) :
    (s.switchRegWrite a v).1.queueAndPart = s.queueAndPart := by
  simp [State.switchRegWrite]

@[simp] theorem State.meterSelWrite_queueAndPart (s : State) (m : Nat) (v : Word) :
    (s.meterSelWrite m v).1.queueAndPart = s.queueAndPart := by
  simp [State.meterSelWrite]

@[simp] theorem State.safeWrite_queueAndPart (s : State) (m : Nat) (v : Word) :
    (s.safeWrite m v).1.queueAndPart = s.queueAndPart := by
  simp [State.safeWrite]

@[simp] theorem State.serviceRegWrite_queueAndPart (s : State) (m a : Nat) (v : Word) :
    (s.serviceRegWrite m a v).1.queueAndPart = s.queueAndPart := by
  simp [State.serviceRegWrite]

@[simp] theorem State.hubRegWrite_queueAndPart (s : State) (m a : Nat) (v : Word) :
    (s.hubRegWrite m a v).1.queueAndPart = s.queueAndPart := by
  unfold State.hubRegWrite
  split <;> simp

@[simp] theorem State.writeEffect_queueAndPart (s : State) (m a : Nat) (v : Word) :
    (s.writeEffect m a v).1.queueAndPart = s.queueAndPart := by
  unfold State.writeEffect
  repeat' split
  all_goals simp

/-! ### Machine/Capture.lean -/

@[simp] theorem State.readback_queueAndPart (s : State) (w : Nat) (config : Bool) (ts : List Nat) :
    (s.readback w config ts).1.queueAndPart = s.queueAndPart := by
  simp [State.readback]

/-! ### Machine/Commands.lean -/

theorem State.cmdOf_keeps {run : State → State × CmdRes} (h : ∀ s, (run s).1.queueAndPart = s.queueAndPart) (s : State)
    (m op : Nat) (c : CmdCtx) (isLong : Bool) (minLen : Nat) (bad : Bool) : (s.cmdOf m op c isLong minLen bad run).Keeps :=
  ⟨h, fun _ => rfl⟩

@[simp] theorem fails_fst (s : State) (st : Nat) : (fails s st).1 = s := (rfl)

theorem State.identifyCmd_keeps (s : State) (m : Nat) (c : CmdCtx) : (s.identifyCmd m c).Keeps :=
  State.cmdOf_keeps (fun s => by simp) ..

theorem State.settingGetCmd_keeps (s : State) (m : Nat) (c : CmdCtx) :
    (s.settingGetCmd m c).Keeps :=
  State.cmdOf_keeps (fun s => by split <;> simp) ..

theorem State.settingSetCmd_keeps (s : State) (m : Nat) (c : CmdCtx) :
    (s.settingSetCmd m c).Keeps :=
  State.cmdOf_keeps (fun s => by simp) ..

theorem State.logReadCmd_keeps (s : State) (m : Nat) (c : CmdCtx) : (s.logReadCmd m c).Keeps :=
  State.cmdOf_keeps (fun _ => rfl) ..

@[simp] theorem State.loadWall_queueAndPart (s : State) (w : Nat) (p : LongCmd → Bool) :
    (s.loadWall w p).queueAndPart = s.queueAndPart := by
  simp [State.loadWall]

theorem State.wallLoadCmd_keeps (s : State) (m : Nat) (c : CmdCtx) : (s.wallLoadCmd m c).Keeps :=
  State.cmdOf_keeps (fun s => by simp) ..

theorem State.wallResetCmd_keeps (s : State) (m : Nat) (c : CmdCtx) : (s.wallResetCmd m c).Keeps :=
  State.cmdOf_keeps (fun s => by simp) ..

theorem State.wallPowerCmd_keeps (s : State) (m : Nat) (c : CmdCtx) : (s.wallPowerCmd m c).Keeps :=
  State.cmdOf_keeps (fun s => by simp) ..

theorem State.patternImageCmd_keeps (s : State) (m : Nat) (c : CmdCtx) (ws : Words) :
    (s.patternImageCmd m c ws).Keeps :=
  State.cmdOf_keeps (fun s => by
    extract_lets w s1
    split
    · simp
    · split <;> simp [s1]) ..

theorem State.captureCmd_keeps (s : State) (m : Nat) (c : CmdCtx) : (s.captureCmd m c).Keeps :=
  State.cmdOf_keeps (fun s => State.queueAndPart_fst_of fun u x h => by
    extract_lets w at h
    split at h
    · cases h
      rfl
    · split at h
      · cases h
        rfl
      · next s1 k hk =>
        have hs1 := State.cmdClaim_queueAndPart hk
        split at h
        · cases h
          simp [hs1]
        · extract_lets s2 r at h
          split at h
          · cases h
            rfl
          · cases h
            simp [r, s2, hs1]) ..

theorem State.marchCmd_keeps (s : State) (m : Nat) (c : CmdCtx) : (s.marchCmd m c).Keeps :=
  State.cmdOf_keeps (fun s => by simp) ..

theorem State.gddrRetrainCmd_keeps (s : State) (m : Nat) (c : CmdCtx) :
    (s.gddrRetrainCmd m c).Keeps :=
  State.cmdOf_keeps (fun s => by simp) ..

theorem State.laneClaim_queueAndPart {s u : State} {m w n : Nat} {k : Option Nat} (h : s.laneClaim m w n = .ok (u, k)) :
    u.queueAndPart = s.queueAndPart := by
  unfold State.laneClaim at h
  split at h
  · cases h
  · split at h
    · cases h
    · rename_i h1
      cases h
      exact State.cmdClaim_queueAndPart h1

theorem State.linkTrainCmd_keeps (s : State) (m : Nat) (c : CmdCtx) : (s.linkTrainCmd m c).Keeps :=
  State.cmdOf_keeps (fun s => by
    dsimp only
    split
    · simp
    · rename_i h
      simp [State.laneClaim_queueAndPart h]) ..

theorem State.fwStageCmd_keeps (s : State) (m : Nat) (c : CmdCtx) (img : Image) :
    (s.fwStageCmd m c img).Keeps :=
  State.cmdOf_keeps (fun s => by simp) ..

theorem State.fwActivateCmd_keeps (s : State) (m : Nat) (c : CmdCtx) :
    (s.fwActivateCmd m c).Keeps :=
  State.cmdOf_keeps (fun s => by simp) ..

/-! ### Machine/SelfTests.lean -/

@[simp] theorem State.setVerdict_queueAndPart (s : State) (num state stage : Nat) :
    (s.setVerdict num state stage).queueAndPart = s.queueAndPart := by
  simp [State.setVerdict]

@[simp] theorem State.testRefused_queueAndPart (s : State) (m num : Nat) :
    (s.testRefused m num).queueAndPart = s.queueAndPart := by
  simp [State.testRefused]

@[simp] theorem State.testBegin_queueAndPart (s : State) (num m : Nat) (c : CmdCtx) (console : Bool) :
    (s.testBegin num m c console).queueAndPart = s.queueAndPart := by
  simp [State.testBegin]

@[simp] theorem State.testMarch_queueAndPart (s : State) (w mask alg bg : Nat) :
    (s.testMarch w mask alg bg).queueAndPart = s.queueAndPart := by
  simp [State.testMarch]

theorem State.selfTestCmd_keeps (s : State) (num m : Nat) (c : CmdCtx) (console : Bool) :
    (s.selfTestCmd num m c console).Keeps where
  run s := by
    simp only [State.selfTestCmd, State.cmdOf]
    split
    · simp
    · split
      · split
        · simp
        · rename_i h
          simp [State.laneClaim_queueAndPart h]
      · simp
  failed s := State.testRefused_queueAndPart ..

@[simp] theorem State.looseGd_queueAndPart (s : State) (w d off n : Nat) :
    (s.looseGd w d off n).queueAndPart = s.queueAndPart := by
  simp [State.looseGd]

@[simp] theorem State.testEnd_queueAndPart (s : State) (l : LongCmd) (status : Nat) (res0 : Word) :
    (s.testEnd l status res0).queueAndPart = s.queueAndPart := by
  unfold State.testEnd
  split <;> simp

/-! ### Machine/Finish.lean -/

@[simp] theorem State.say_queueAndPart (s : State) (line : String) :
    (s.say line).queueAndPart = s.queueAndPart := by
  simp [State.say]

@[simp] theorem State.sayEnd_queueAndPart (s : State) (st : Nat) :
    (s.sayEnd st).queueAndPart = s.queueAndPart := by
  simp [State.sayEnd]

@[simp] theorem State.longResult_queueAndPart (s : State) (l : LongCmd) :
    (s.longResult l).1.queueAndPart = s.queueAndPart := by
  unfold State.longResult
  repeat' split
  all_goals simp

@[simp] theorem State.endLong_queueAndPart (s : State) (l : LongCmd) (r : Nat × Word × Word) :
    (s.endLong l r).queueAndPart = s.queueAndPart := by
  unfold State.endLong
  split <;> simp

theorem State.cancelTarget_queueAndPart {s u : State} {l : LongCmd} (h : s.cancelTarget l = some u) :
    u.queueAndPart = s.queueAndPart := by
  unfold State.cancelTarget at h
  dsimp only at h
  repeat' split at h
  all_goals cases h
  all_goals simp

theorem State.cancelCmd_keeps (s : State) (m : Nat) (c : CmdCtx) : (s.cancelCmd m c).Keeps where
  run s := by
    simp only [State.cancelCmd]
    split
    · simp
    · split
      · simp
      · rename_i h
        exact State.cancelTarget_queueAndPart h
  failed _ := rfl

theorem State.entryCmd_keeps (s : State) (m op : Nat) (c : CmdCtx) (data : Bytes) :
    (s.entryCmd m op c data).Keeps := by
  unfold State.entryCmd
  split
  · exact nopCmd_keeps
  · exact s.identifyCmd_keeps m c
  · exact s.cancelCmd_keeps m c
  · exact s.settingGetCmd_keeps m c
  · exact s.settingSetCmd_keeps m c
  · exact s.logReadCmd_keeps m c
  · exact s.wallLoadCmd_keeps m c
  · exact s.wallResetCmd_keeps m c
  · exact s.wallPowerCmd_keeps m c
  · exact s.patternImageCmd_keeps m c _
  · exact s.captureCmd_keeps m c
  · exact s.marchCmd_keeps m c
  · exact s.gddrRetrainCmd_keeps m c
  · exact s.linkTrainCmd_keeps m c
  · exact s.selfTestCmd_keeps _ m c false
  · exact s.fwStageCmd_keeps m c _
  · exact s.fwActivateCmd_keeps m c
  · exact ⟨fun _ => rfl, fun _ => rfl⟩

@[simp] theorem State.startEntry_queueAndPart (s : State) (op : Nat) (c : CmdCtx) (data : Bytes) :
    (s.startEntry op c data).queueAndPart = s.queueAndPart :=
  (State.runCmd_queueAndPart (State.entryCmd_keeps ..) _ _).trans (by simp)

@[simp] theorem State.startFenced_queueAndPart (s : State) (q : Nat) :
    (s.startFenced q).queueAndPart = s.queueAndPart := by
  unfold State.startFenced
  split <;> simp

/-! ### Machine/Service.lean -/

@[simp] theorem State.meterUpdate_queueAndPart (s : State) :
    s.meterUpdate.queueAndPart = s.queueAndPart := by
  unfold State.meterUpdate
  dsimp only
  repeat' split
  all_goals simp

@[simp] theorem State.loadIr_queueAndPart (s : State) (op : Nat) :
    (s.loadIr op).queueAndPart = s.queueAndPart := by
  simp [State.loadIr]

@[simp] theorem State.scanWall_queueAndPart (s : State) (w : Nat) :
    (s.scanWall w).queueAndPart = s.queueAndPart := by
  simp [State.scanWall]

@[simp] theorem State.scanStop_queueAndPart (s : State) (op : Nat) :
    (s.scanStop op).queueAndPart = s.queueAndPart := by
  simp [State.scanStop]

/-! ### Machine/Console.lean -/

@[simp] theorem State.print_queueAndPart (s : State) (ls : List String) :
    (s.print ls).queueAndPart = s.queueAndPart := by
  simp [State.print]

theorem State.consoleWrite_queueAndPart {eff : State → State × Nat} (heff : ∀ a, (eff a).1.queueAndPart = a.queueAndPart)
    (s : State) (a : Nat) : (s.consoleWrite a eff).queueAndPart = s.queueAndPart := by
  simp [State.consoleWrite, State.regWrite_queueAndPart heff]

theorem State.consoleCmd_queueAndPart {d : Cmd} (hd : d.Keeps) (s : State) (c : CmdCtx) :
    (s.consoleCmd c d).queueAndPart = s.queueAndPart := by
  unfold State.consoleCmd
  split
  · simp [hd.failed]
  · dsimp only
    split <;> simp [State.startCmd_queueAndPart hd]

theorem State.entryLoadCmd_keeps (s : State) (m : Nat) (c : CmdCtx) (e : Nat) :
    (s.entryLoadCmd m c e).Keeps :=
  State.cmdOf_keeps (fun s => by
    dsimp only
    split <;> simp) ..

/-! ### The shapes of rows -/

/-- What a command answers on `s` has the queue and the part of `s`. -/
def KeepsQueueAndPart (s : State) (o : Out) : Prop := ∀ t, o = .next t → t.queueAndPart = s.queueAndPart

theorem next_keeps {s t : State} (h : t.queueAndPart = s.queueAndPart) :
    KeepsQueueAndPart s (.next t) := by
  rintro _ ⟨⟩
  exact h

theorem onWall_keeps {f : State → State} (hf : ∀ a, (f a).queueAndPart = a.queueAndPart) {w : Nat} {s : State} :
    KeepsQueueAndPart s (onWall w s f) := by
  unfold onWall
  split
  · exact next_keeps (by simp [hf])
  · intro t h
    cases h

theorem regRow_keeps {eff : State → State × Nat} (heff : ∀ a, (eff a).1.queueAndPart = a.queueAndPart) {s : State} {m : Mid} {a : Nat} :
    KeepsQueueAndPart s (regRow s m a eff) := next_keeps (State.regWrite_queueAndPart heff ..)

theorem dispRow_keeps {m : Mid} {w : Wall} {f : FlowIx} {op : Nat} {s : State} :
    KeepsQueueAndPart s (dispRow m w f op s) :=
  regRow_keeps fun a => by simp

theorem seqRow_keeps {run : Bank → Nat → State → State} (hrun : ∀ b n a, (run b n a).queueAndPart = a.queueAndPart) {x : TileRef}
    {s : State} {legal stream : Bool} {ready : Tile → Nat} : KeepsQueueAndPart s (seqRow x s legal stream ready run) :=
  onWall_keeps fun a => by
    split
    · rfl
    · split <;> simp [hrun]

theorem seqPlain_keeps {x : TileRef} {s : State} {legal : Bool} {run : Bank → Ctx → Ctx} :
    KeepsQueueAndPart s (seqPlain x s legal run) := seqRow_keeps fun b n a => by simp

theorem aluIns_keeps {x : TileRef} {f : AluF} {op : Word → Word → AluRes} {s : State} :
    KeepsQueueAndPart s (aluIns x f op s) :=
  seqPlain_keeps

theorem shiftIns_keeps {x : TileRef} {f : AluF} {op : Word → Word → BitVec 1 → AluRes} {s : State} :
    KeepsQueueAndPart s (shiftIns x f op s) := seqRow_keeps fun b n a => by simp

theorem aliIns_keeps {x : TileRef} {f : AliF} {op : Word → BitVec 16 → AluRes} {s : State} :
    KeepsQueueAndPart s (aliIns x f op s) := seqPlain_keeps

theorem aguIns_keeps {x : TileRef} {s : State} {run : Bank → Ctx → Ctx} :
    KeepsQueueAndPart s (aguIns x s run) := seqPlain_keeps

theorem endIns_keeps {x : TileRef} {m : Mark} {s : State} : KeepsQueueAndPart s (endIns x m s) :=
  seqRow_keeps fun b n a => by
    dsimp only
    split
    · simp
    · split <;> simp

theorem fpuIns_keeps {op : Nat} {x : TileRef} {f : FpuF} {s : State} :
    KeepsQueueAndPart s (fpuIns op x f s) :=
  seqRow_keeps fun b n a => by
    dsimp only
    split <;> simp

theorem hodDone_keeps {p : HodKind → Bool} {run : HodOp → State → State} (hrun : ∀ o a, (run o a).queueAndPart = a.queueAndPart)
    {x : TileRef} {s : State} : KeepsQueueAndPart s (hodDone x s p run) :=
  onWall_keeps fun a => by
    dsimp only
    split <;> simp [hrun]

theorem endpointRow_keeps {run : State → State × Ans} (hrun : ∀ a, (run a).1.queueAndPart = a.queueAndPart) {w r j : Nat} {p : Packet}
    {s : State} : KeepsQueueAndPart s (endpointRow w r j p s run) :=
  onWall_keeps fun _ => State.serve_queueAndPart hrun ..

theorem tileRow_keeps {types : BitVec 3 → Bool} {run : State → State × Ans} (hrun : ∀ a, (run a).1.queueAndPart = a.queueAndPart)
    {x : TileRef} {p : Packet} {s : State} : KeepsQueueAndPart s (tileRow x p s types run) :=
  onWall_keeps fun a => by
    simp [State.serve_queueAndPart hrun,
      State.serve_queueAndPart (run := fun s => (s.gdropped x.w.val x.t.val p, .silent)) (by simp)]

theorem gdRow_keeps {run : State → State × Ans} (hrun : ∀ a, (run a).1.queueAndPart = a.queueAndPart) {w : Wall} {d : Fin 2}
    {p : Packet} {s : State} {write : Bool} : KeepsQueueAndPart s (gdRow w d p s write run) :=
  onWall_keeps fun a => by
    extract_lets w d q ls
    refine State.ite_queueAndPart (by simp [State.serve_queueAndPart hrun]) ?_
    split
    · rfl
    · simp

theorem consoleRow_keeps {f : State → State} (hf : ∀ a, (f a).queueAndPart = a.queueAndPart) {s : State} {inRom : Bool} :
    KeepsQueueAndPart s (consoleRow s inRom f) := next_keeps (by simp [hf])

theorem wallPage_keeps {w : Nat} {s : State} {ls : State → List String} :
    KeepsQueueAndPart s (wallPage w s ls) :=
  consoleRow_keeps fun a => by simp

theorem tapRow_keeps {f : State → State} (hf : ∀ a, (f a).queueAndPart = a.queueAndPart) {s : State} :
    KeepsQueueAndPart s (tapRow s f) := next_keeps (by simp [hf])

theorem cmdRow_keeps {d : Cmd} (hd : d.Keeps) {s : State} {c : CmdCtx} :
    KeepsQueueAndPart s (cmdRow s c d) :=
  next_keeps (by simp [State.runCmd_queueAndPart hd])

/-! ### Rows with a shape of their own -/

theorem execRetf_keeps {x : TileRef} {s : State} :
    KeepsQueueAndPart s (execRetf x s) :=
  seqRow_keeps fun b n a => by
    dsimp only
    repeat' split
    all_goals simp

theorem execSync_keeps {x : TileRef} {s : State} :
    KeepsQueueAndPart s (execSync x s) :=
  seqRow_keeps fun b n a => by
    dsimp only
    split <;> simp

theorem execIllegalInstruction_keeps {x : TileRef} {i : Word} {s : State} :
    KeepsQueueAndPart s (execIllegalInstruction x i s) := by
  unfold execIllegalInstruction
  split
  · exact onWall_keeps fun _ => rfl
  · split
    · exact seqRow_keeps fun _ _ _ => rfl
    · exact onWall_keeps fun _ => rfl

theorem execHodOpStart_keeps {x : TileRef} {s : State} :
    KeepsQueueAndPart s (execHodOpStart x s) :=
  onWall_keeps fun a => by
    dsimp only
    repeat' split
    all_goals simp

theorem execMakeColdDone_keeps {x : TileRef} {s : State} :
    KeepsQueueAndPart s (execMakeColdDone x s) :=
  hodDone_keeps fun o a => by simp [State.spillAll_queueAndPart]

theorem execWindowSpillDone_keeps {x : TileRef} {s : State} :
    KeepsQueueAndPart s (execWindowSpillDone x s) :=
  hodDone_keeps fun o a => by
    dsimp only
    split
    · simp
    · next h => simp [State.spillFrame_queueAndPart h]

theorem execBlockSaveDone_keeps {x : TileRef} {s : State} :
    KeepsQueueAndPart s (execBlockSaveDone x s) :=
  hodDone_keeps fun o a => by
    dsimp only
    split
    · simp
    · next h => simp [State.takeArea_outside _ _ _ _ h]

theorem execFpSwapDone_keeps {x : TileRef} {s : State} :
    KeepsQueueAndPart s (execFpSwapDone x s) :=
  hodDone_keeps fun o a => by
    dsimp only
    repeat' split
    all_goals simp

theorem execRefillStart_keeps {x : TileRef} {s : State} :
    KeepsQueueAndPart s (execRefillStart x s) :=
  onWall_keeps fun a => by
    dsimp only
    repeat' split
    all_goals simp

theorem execRefillDone_keeps {x : TileRef} {s : State} :
    KeepsQueueAndPart s (execRefillDone x s) :=
  onWall_keeps fun a => by
    dsimp only
    split <;> simp

theorem execBondInterfaceWrite_keeps {x : TileRef} {s : State} :
    KeepsQueueAndPart s (execBondInterfaceWrite x s) :=
  onWall_keeps fun a => by
    dsimp only
    split <;> simp

theorem execPacketInject_keeps {w : Wall} {r : Fin 24} {j : Fin 8} {p : Packet} {s : State} :
    KeepsQueueAndPart s (execPacketInject w r j p s) :=
  onWall_keeps fun a => by
    extract_lets w
    split
    · rfl
    · split
      · rfl
      · next h => simp [State.take_queueAndPart h]

theorem execRouterHeadEntry_keeps {w : Wall} {r : Fin 24} {p : Packet} {s : State} :
    KeepsQueueAndPart s (execRouterHeadEntry w r p s) :=
  onWall_keeps fun a => by
    dsimp only
    split
    · rfl
    · next h => simp [State.take_queueAndPart h]

theorem execCrossingSwitchEntry_keeps {i : Fin 11} {p : Packet} {s : State} :
    KeepsQueueAndPart s (execCrossingSwitchEntry i p s) := by
  unfold execCrossingSwitchEntry
  extract_lets i back p1
  split
  · intro t h
    cases h
  split
  · exact next_keeps rfl
  refine next_keeps ?_
  split
  · rfl
  next s0 e h =>
    have h0 := State.take_queueAndPart h
    extract_lets late req s1 wanted at_ st s2 ok s2' q s3
    have h1 : s1.queueAndPart = s.queueAndPart := by
      unfold s1
      generalize req = o
      cases o <;> simp [h0]
    have h2 : s2.queueAndPart = s.queueAndPart := by simp [s2, h1]
    have h2' : s2'.queueAndPart = s.queueAndPart := by simp [s2', h1]
    have h3 : s3.queueAndPart = s.queueAndPart := by simp [s3, h2']
    refine State.ite_queueAndPart (by simp [h0]) (State.ite_queueAndPart h1 (State.ite_queueAndPart (by simp [h2]) ?_))
    exact State.ite_queueAndPart (by simp [h3]) (by simp [h3])

theorem execGatewayEntry_keeps {w : Wall} {p : Packet} {s : State} :
    KeepsQueueAndPart s (execGatewayEntry w p s) :=
  onWall_keeps fun a => by
    dsimp only
    split
    · rfl
    · next h => simp [State.take_queueAndPart h]

theorem execHostWindowAccess_keeps {p : Packet} {s : State} :
    KeepsQueueAndPart s (execHostWindowAccess p s) := by
  refine next_keeps ?_
  split
  · rfl
  · split
    · rfl
    · next h => simp [State.take_queueAndPart h]

theorem execAnswerReceipt_keeps {w : Wall} {r : Fin 24} {j : Fin 8} {p : Packet} {s : State} :
    KeepsQueueAndPart s (execAnswerReceipt w r j p s) :=
  onWall_keeps fun a => by
    dsimp only
    split
    · rfl
    split
    · rfl
    next h =>
      have h1 := State.take_queueAndPart h
      split
      · rfl
      split
      · split
        · next h2 =>
          split at h2
          · cases h2
          · exact (State.sendReply_queueAndPart h2).trans h1
        · simp [h1]
      split
      · split
        · next h2 =>
          split at h2
          · cases h2
          · exact (State.linkAnswer_queueAndPart h2).trans h1
        · simp [h1]
      · split <;> simp [h1]

theorem execEpochFlip_keeps {seg : Segment} {s : State} :
    KeepsQueueAndPart s (execEpochFlip seg s) := by
  unfold execEpochFlip
  dsimp only
  split
  · exact onWall_keeps fun a => by simp
  · exact next_keeps (by simp)

theorem execEncoderEdge_keeps {w : Wall} {n : Fin 4} {a b : Bool} {s : State} :
    KeepsQueueAndPart s (execEncoderEdge w n a b s) :=
  onWall_keeps fun a => by
    dsimp only
    repeat' split
    all_goals simp

theorem execAcuMatch_keeps {w : Wall} {u : Fin 16} {s : State} :
    KeepsQueueAndPart s (execAcuMatch w u s) :=
  onWall_keeps fun a => by
    extract_lets w u x t s1 y s2 lenB b y2 s3 s4 s5 y3
    have h2 : s2.queueAndPart = a.queueAndPart := by simp [s2, s1]
    refine State.ite_queueAndPart rfl ?_
    split <;> simp [h2, s3, s4, s5]

theorem execAcuTimePulseEnd_keeps {w : Wall} {u : Fin 16} {s : State} :
    KeepsQueueAndPart s (execAcuTimePulseEnd w u s) :=
  onWall_keeps fun a => by
    split <;> simp

theorem execPrestageWithdraw_keeps {w : Wall} {f : FlowIx} {s : State} :
    KeepsQueueAndPart s (execPrestageWithdraw w f s) :=
  onWall_keeps fun a => by
    repeat' split
    all_goals simp

theorem execPatternIssue_keeps {x : TileRef} {s : State} :
    KeepsQueueAndPart s (execPatternIssue x s) :=
  onWall_keeps fun a => by
    dsimp only
    repeat' split
    all_goals simp

theorem execSramRead_keeps {w : Wall} {b : Fin 8} {p : Packet} {s : State} :
    KeepsQueueAndPart s (execSramRead w b p s) := by
  unfold execSramRead
  split
  · exact next_keeps rfl
  · exact endpointRow_keeps fun a => by simp

theorem execSramWrite_keeps {w : Wall} {b : Fin 8} {p : Packet} {s : State} :
    KeepsQueueAndPart s (execSramWrite w b p s) := by
  unfold execSramWrite
  split
  · exact next_keeps rfl
  · exact endpointRow_keeps fun a => by simp

theorem execMarchEnd_keeps {w : Wall} {b : Fin 8} {r : MarchResult} {s : State} :
    KeepsQueueAndPart s (execMarchEnd w b r s) :=
  onWall_keeps fun a => by
    dsimp only
    split <;> simp

theorem execGddrRead_keeps {w : Wall} {d : Fin 2} {p : Packet} {crc : Nat} {s : State} :
    KeepsQueueAndPart s (execGddrRead w d p crc s) := by
  unfold execGddrRead
  split
  · exact next_keeps rfl
  · exact gdRow_keeps fun a => by simp

theorem execGddrWrite_keeps {w : Wall} {d : Fin 2} {p : Packet} {crc : Nat} {s : State} :
    KeepsQueueAndPart s (execGddrWrite w d p crc s) := by
  unfold execGddrWrite
  split
  · exact next_keeps rfl
  · exact gdRow_keeps fun a => by simp

theorem execHdmRead_keeps {dpa : Nat} {excl : Bool} {crc : Nat} {s : State} :
    KeepsQueueAndPart s (execHdmRead dpa excl crc s) := by
  refine next_keeps ?_
  split <;> simp

theorem execHdmWrite_keeps {dpa : Nat} {data : Bytes} {crc : Nat} {s : State} :
    KeepsQueueAndPart s (execHdmWrite dpa data crc s) := by
  refine next_keeps ?_
  split <;> simp

theorem execFrameArrival_keeps {w : Wall} {n : Fin 16} {s : State} :
    KeepsQueueAndPart s (execFrameArrival w n s) :=
  onWall_keeps fun a => by
    dsimp only
    split <;> simp

theorem execAngleTransmitMatch_keeps {w : Wall} {n : Fin 16} {s : State} :
    KeepsQueueAndPart s (execAngleTransmitMatch w n s) :=
  onWall_keeps fun a => by
    dsimp only
    split <;> simp

theorem execPtpNsRead_keeps {m : Mid} {w : Wall} {s : State} :
    KeepsQueueAndPart s (execPtpNsRead m w s) := by
  unfold execPtpNsRead
  dsimp only
  repeat' split
  all_goals exact next_keeps (by simp)

theorem execHubLogAppend_keeps {s : State} : KeepsQueueAndPart s (execHubLogAppend s) := by
  refine next_keeps ?_
  split <;> simp

theorem execWallEventRecord_keeps {w : Wall} {s : State} :
    KeepsQueueAndPart s (execWallEventRecord w s) :=
  onWall_keeps fun a => by
    dsimp only
    split <;> simp

theorem execHdmFlushTimeout_keeps {w : Wall} {d : Fin 2} {s : State} :
    KeepsQueueAndPart s (execHdmFlushTimeout w d s) :=
  onWall_keeps fun a => by
    dsimp only
    split <;> simp

theorem execSecureWipeDone_keeps {w : Wall} {s : State} :
    KeepsQueueAndPart s (execSecureWipeDone w s) :=
  onWall_keeps fun a => by
    dsimp only
    split <;> simp

theorem execKilnStreamPacket_keeps {w : Wall} {p : Packet} {s : State} :
    KeepsQueueAndPart s (execKilnStreamPacket w p s) := by
  unfold execKilnStreamPacket
  dsimp only
  split
  · exact next_keeps rfl
  · exact endpointRow_keeps fun a => by simp

theorem execEndRecord_keeps {w : Wall} {ws : Words} {s : State} :
    KeepsQueueAndPart s (execEndRecord w ws s) :=
  onWall_keeps fun a => by
    dsimp only
    repeat' split
    all_goals simp

theorem execReplayDone_keeps {w : Wall} {s : State} :
    KeepsQueueAndPart s (execReplayDone w s) :=
  onWall_keeps fun a => by
    dsimp only
    split
    · rfl
    · split <;> simp [State.replayFrom_queueAndPart]

theorem execStartUpStep_keeps {w : Wall} {s : State} :
    KeepsQueueAndPart s (execStartUpStep w s) :=
  onWall_keeps fun a => by
    dsimp only
    repeat' split
    all_goals simp

theorem execScrubPassStart_keeps {w : Wall} {s : State} :
    KeepsQueueAndPart s (execScrubPassStart w s) :=
  onWall_keeps fun a => by
    dsimp only
    repeat' split
    all_goals simp

theorem execCalibration_keeps {ok : Bool} {s : State} :
    KeepsQueueAndPart s (execCalibration ok s) := by
  refine next_keeps ?_
  dsimp only
  repeat' split
  all_goals simp

theorem execCurrentLimit_keeps {r : RailRef} {s : State} :
    KeepsQueueAndPart s (execCurrentLimit r s) := by
  unfold execCurrentLimit
  split
  · exact next_keeps (by simp)
  · exact onWall_keeps fun a => by simp

theorem execClockStep_keeps {w : Wall} {s : State} :
    KeepsQueueAndPart s (execClockStep w s) :=
  onWall_keeps fun a => by
    dsimp only
    split <;> simp

theorem execActivationPoint_keeps {s : State} : KeepsQueueAndPart s (execActivationPoint s) := by
  refine next_keeps ?_
  split <;> simp

theorem execActivationWithdrawn_keeps {s : State} :
    KeepsQueueAndPart s (execActivationWithdrawn s) := by
  refine next_keeps ?_
  repeat' split
  all_goals simp

theorem execTrowelRestart_keeps {s : State} : KeepsQueueAndPart s (execTrowelRestart s) := by
  refine next_keeps ?_
  split <;> simp

theorem execTrowelBoot_keeps {ok : Bool} {s : State} :
    KeepsQueueAndPart s (execTrowelBoot ok s) := by
  refine next_keeps ?_
  dsimp only
  repeat' split
  all_goals simp

theorem execBootTimeExceeded_keeps {s : State} : KeepsQueueAndPart s (execBootTimeExceeded s) := by
  refine next_keeps ?_
  dsimp only
  repeat' split
  all_goals simp

theorem execTrialCommit_keeps {s : State} : KeepsQueueAndPart s (execTrialCommit s) := by
  refine next_keeps ?_
  dsimp only
  split <;> simp

theorem execWatchdog_keeps {s : State} : KeepsQueueAndPart s (execWatchdog s) := by
  refine next_keeps ?_
  dsimp only
  repeat' split
  all_goals simp

theorem execChainPartnerChange_keeps {up present : Bool} {s : State} :
    KeepsQueueAndPart s (execChainPartnerChange up present s) := by
  refine next_keeps ?_
  dsimp only
  repeat' split
  all_goals simp

theorem execAck_keeps {fr : ChainFrame} {s : State} : KeepsQueueAndPart s (execAck fr s) :=
  next_keeps (State.chainFrame_queueAndPart (fun a => by
    dsimp only
    split
    · rfl
    · split <;> simp) ..)

theorem execChainResendRound_keeps {s : State} : KeepsQueueAndPart s (execChainResendRound s) := by
  refine next_keeps ?_
  dsimp only
  repeat' split
  all_goals simp

theorem execDoneOdWaitTimeout_keeps {w : Wall} {s : State} :
    KeepsQueueAndPart s (execDoneOdWaitTimeout w s) :=
  onWall_keeps fun a => by
    dsimp only
    split <;> simp

theorem execRegisterBusAccess_keeps {w : Wall} {p : Packet} {s : State} :
    KeepsQueueAndPart s (execRegisterBusAccess w p s) :=
  endpointRow_keeps fun a => by
    simp [State.regWrite_queueAndPart (fun b : State => b.writeEffect_queueAndPart _ _ _)]

theorem execKilnSlotWrite_keeps {w : Wall} {s : State} :
    KeepsQueueAndPart s (execKilnSlotWrite w s) :=
  onWall_keeps fun a => by
    dsimp only
    split <;> simp

theorem execLongCommandComplete_keeps {h : Word} {s : State} :
    KeepsQueueAndPart s (execLongCommandComplete h s) := by
  refine next_keeps ?_
  dsimp only
  repeat' split
  all_goals simp

theorem execMeter_keeps {v : Word} {s : State} :
    KeepsQueueAndPart s (execMeter v s) :=
  consoleRow_keeps fun a => by
    simp [State.consoleWrite_queueAndPart (fun b : State => b.meterSelWrite_queueAndPart _ _)]

theorem execRaise_keeps {v : Word} {s : State} : KeepsQueueAndPart s (execRaise v s) :=
  consoleRow_keeps fun _ => State.consoleWrite_queueAndPart (fun b => b.evRaise_queueAndPart v) ..

/-! ### Every command -/

/-- Each arm of `exec` is a row whose effect keeps the queue and the part. -/
theorem exec_keeps (c : Instr) (s : State) : KeepsQueueAndPart s (exec c s) := by
  unfold exec
  cases c with
  | registerWrite => exact regRow_keeps fun a => by simp
  | pairLoRead => exact next_keeps (by simp)
  | pairHiRead => exact next_keeps (by simp)
  | patternIssue => exact execPatternIssue_keeps
  | refillStart => exact execRefillStart_keeps
  | refillDone => exact execRefillDone_keeps
  | pcPinWrite => exact regRow_keeps fun a => by simp
  | pcInvalWrite => exact regRow_keeps fun a => by simp
  | capArm => exact regRow_keeps fun a => by simp
  | capDiscard => exact regRow_keeps fun a => by simp
  | captureFire => exact onWall_keeps fun a => by simp
  | bondInterfaceWrite => exact execBondInterfaceWrite_keeps
  | pat => exact seqRow_keeps fun b n a => by simp
  | aluAdd => exact aluIns_keeps
  | aluSub => exact aluIns_keeps
  | aluAnd => exact aluIns_keeps
  | aluOr => exact aluIns_keeps
  | aluXor => exact aluIns_keeps
  | aluShl => exact shiftIns_keeps
  | aluShr => exact shiftIns_keeps
  | aluSra => exact shiftIns_keeps
  | aluMov => exact aluIns_keeps
  | aluMin => exact aluIns_keeps
  | aluMax => exact aluIns_keeps
  | aluMinu => exact aluIns_keeps
  | aluMaxu => exact aluIns_keeps
  | aluMul => exact aluIns_keeps
  | aluMulh => exact aluIns_keeps
  | aluCmp => exact seqPlain_keeps
  | aluSx24 => exact aluIns_keeps
  | aluClz => exact aluIns_keeps
  | ldi => exact aliIns_keeps
  | lui => exact aliIns_keeps
  | addi => exact aliIns_keeps
  | andi => exact aliIns_keeps
  | ori => exact aliIns_keeps
  | xori => exact aliIns_keeps
  | cmpi => exact seqPlain_keeps
  | ldp => exact aguIns_keeps
  | ldb => exact aguIns_keeps
  | ldl => exact aguIns_keeps
  | ldli => exact seqRow_keeps fun b n a => by simp
  | ldm => exact aguIns_keeps
  | step => exact aguIns_keeps
  | stepi => exact aguIns_keeps
  | rdp => exact aguIns_keeps
  | rdb => exact aguIns_keeps
  | aguRdl => exact aguIns_keeps
  | aguRdm => exact aguIns_keeps
  | agsel => exact aguIns_keeps
  | br => exact seqRow_keeps fun b n a => by simp
  | callw => exact seqRow_keeps fun b n a => by simp
  | retw => exact seqRow_keeps fun b n a => by simp
  | jmp => exact seqRow_keeps fun b n a => by simp
  | rep => exact seqRow_keeps fun b n a => by simp
  | done => exact endIns_keeps
  | yield => exact endIns_keeps
  | waite => exact endIns_keeps
  | retf => exact execRetf_keeps
  | tpset => exact seqRow_keeps fun b n a => by simp
  | sync => exact execSync_keeps
  | signal => exact seqRow_keeps fun b n a => by simp
  | savew => exact seqRow_keeps fun b n a => by simp
  | restw => exact seqRow_keeps fun b n a => by simp
  | savel => exact seqRow_keeps fun b n a => by simp
  | saveu => exact seqRow_keeps fun b n a => by simp
  | loadl => exact seqRow_keeps fun b n a => by simp
  | loadu => exact seqRow_keeps fun b n a => by simp
  | rds => exact seqRow_keeps fun b n a => by simp
  | wrs => exact seqRow_keeps fun b n a => by simp
  | send => exact seqRow_keeps fun b n a => by simp
  | fence => exact seqRow_keeps fun b n a => by simp
  | sysNop => exact seqPlain_keeps
  | fadd => exact fpuIns_keeps
  | fsub => exact fpuIns_keeps
  | fmul => exact fpuIns_keeps
  | fma => exact fpuIns_keeps
  | fmin => exact fpuIns_keeps
  | fmax => exact fpuIns_keeps
  | fabs => exact fpuIns_keeps
  | fneg => exact fpuIns_keeps
  | fcmp => exact fpuIns_keeps
  | fdiv => exact fpuIns_keeps
  | fsqrt => exact fpuIns_keeps
  | ftoq => exact fpuIns_keeps
  | qtof => exact fpuIns_keeps
  | ftoi => exact fpuIns_keeps
  | itof => exact fpuIns_keeps
  | fmvr => exact fpuIns_keeps
  | fmvf => exact fpuIns_keeps
  | whandCtrlWrite => exact regRow_keeps fun a => by simp
  | create => exact dispRow_keeps
  | enable => exact dispRow_keeps
  | disable => exact dispRow_keeps
  | restart => exact dispRow_keeps
  | destroy => exact dispRow_keeps
  | wake => exact dispRow_keeps
  | descriptorWrite => exact regRow_keeps fun a => by simp
  | fdSchedWrite => exact regRow_keeps fun a => by simp
  | dispDoorbell => exact regRow_keeps fun a => by simp
  | fwCtrlWrite => exact regRow_keeps fun a => by simp
  | lsCtrlWrite => exact regRow_keeps fun a => by simp
  | hodCfgWrite => exact regRow_keeps fun a => by simp
  | scheduleMatch => exact onWall_keeps fun a => by simp
  | targetSweep => exact onWall_keeps fun a => by simp
  | prestage => exact onWall_keeps fun a => by simp
  | prestageWithdraw => exact execPrestageWithdraw_keeps
  | flowStart => exact onWall_keeps fun a => by simp
  | fastEntry => exact onWall_keeps fun a => by simp
  | hodOpStart => exact execHodOpStart_keeps
  | hodRestoreDone => exact hodDone_keeps fun o a => by simp
  | makeColdDone => exact execMakeColdDone_keeps
  | windowSpillDone => exact execWindowSpillDone_keeps
  | windowFillDone => exact hodDone_keeps fun o a => by simp
  | blockSaveDone => exact execBlockSaveDone_keeps
  | blockRestoreDone => exact hodDone_keeps fun o a => by simp
  | fpSwapDone => exact execFpSwapDone_keeps
  | areaHousekeepingDone => exact hodDone_keeps fun o a => by simp
  | encoderEdge => exact execEncoderEdge_keeps
  | indexEdge => exact onWall_keeps fun a => by simp
  | lineTriggerEdge => exact onWall_keeps fun a => by simp
  | mainsEdge => exact onWall_keeps fun a => by simp
  | feed => exact endpointRow_keeps fun a => by simp
  | angleShareReport => exact onWall_keeps fun a => by simp
  | refLoss => exact onWall_keeps fun a => by simp
  | standstill => exact onWall_keeps fun a => by simp
  | angCfgWrite => exact regRow_keeps fun a => by simp
  | angPreset => exact regRow_keeps fun a => by simp
  | ashSrcWrite => exact regRow_keeps fun a => by simp
  | acuCtrlWrite => exact regRow_keeps fun a => by simp
  | acuMatch => exact execAcuMatch_keeps
  | acuBMatch => exact onWall_keeps fun a => by simp
  | acuTimePulseEnd => exact execAcuTimePulseEnd_keeps
  | tickAlignCheck => exact onWall_keeps fun a => by simp
  | tickCorrection => exact onWall_keeps fun a => by simp
  | wallHeartbeat => exact onWall_keeps fun a => by simp
  | hubLogAppend => exact execHubLogAppend_keeps
  | wallEventRecord => exact execWallEventRecord_keeps
  | eventLost => exact onWall_keeps fun a => by simp
  | wallSilent => exact onWall_keeps fun a => by simp
  | packetInject => exact execPacketInject_keeps
  | routerHeadEntry => exact execRouterHeadEntry_keeps
  | crossingSwitchEntry => exact execCrossingSwitchEntry_keeps
  | gatewayEntry => exact execGatewayEntry_keeps
  | tileWritePacket => exact tileRow_keeps fun a => by simp
  | tileMessage => exact tileRow_keeps fun a => by simp
  | sramRead => exact execSramRead_keeps
  | sramWrite => exact execSramWrite_keeps
  | registerBusAccess => exact execRegisterBusAccess_keeps
  | linkUnitWrite => exact endpointRow_keeps fun a => by simp
  | hostWindowAccess => exact execHostWindowAccess_keeps
  | answerReceipt => exact execAnswerReceipt_keeps
  | bondEpochFlipWrite => exact regRow_keeps fun a => by simp
  | epochFlip => exact execEpochFlip_keeps
  | routeTableWrite => exact regRow_keeps fun a => by simp
  | slotTableWrite => exact regRow_keeps fun a => by simp
  | gcCtrlWrite => exact regRow_keeps fun a => by simp
  | biRingWrite => exact regRow_keeps fun a => by simp
  | drainTimeout => exact onWall_keeps fun a => by simp
  | connectionRelease => exact onWall_keeps fun a => by simp
  | frameRealign => exact onWall_keeps fun a => by simp
  | sramPatrolRead => exact onWall_keeps fun a => by simp
  | sramRetWrite => exact regRow_keeps fun a => by simp
  | retentionEntry => exact onWall_keeps fun a => by simp
  | retentionWake => exact onWall_keeps fun a => by simp
  | marchStart => exact regRow_keeps fun a => by simp
  | marchAbort => exact regRow_keeps fun a => by simp
  | marchEnd => exact execMarchEnd_keeps
  | clockGlitch => exact onWall_keeps fun a => by simp
  | temperatureTamper => exact onWall_keeps fun a => by simp
  | secureWipeDone => exact execSecureWipeDone_keeps
  | secStatusWrite => exact regRow_keeps fun a => by simp
  | gddrRead => exact execGddrRead_keeps
  | gddrWrite => exact execGddrWrite_keeps
  | hdmRead => exact execHdmRead_keeps
  | hdmWrite => exact execHdmWrite_keeps
  | backInvalidationResponse => exact onWall_keeps fun a => by simp
  | gddrTracking => exact onWall_keeps fun a => by simp
  | gddrPatrol => exact onWall_keeps fun a => by simp
  | gddrHot => exact onWall_keeps fun a => by simp
  | gddrTrainingDone => exact onWall_keeps fun a => by simp
  | gdRegionWrite => exact regRow_keeps fun a => by simp
  | regionModeChangeDone => exact onWall_keeps fun a => by simp
  | hdmFlushTimeout => exact execHdmFlushTimeout_keeps
  | gdUnstale => exact regRow_keeps fun a => by simp
  | lkCtrlWrite => exact regRow_keeps fun a => by simp
  | linkTrainingDone => exact onWall_keeps fun a => by simp
  | linkUp => exact onWall_keeps fun a => by simp
  | linkDown => exact onWall_keeps fun a => by simp
  | linkRxTimeout => exact onWall_keeps fun a => by simp
  | streamStartBlock => exact onWall_keeps fun a => by simp
  | streamSlotReceive => exact onWall_keeps fun a => by simp
  | frameArrival => exact execFrameArrival_keeps
  | lkSfGo => exact regRow_keeps fun a => by simp
  | freeRunTrigger => exact onWall_keeps fun a => by simp
  | angleTransmitMatch => exact execAngleTransmitMatch_keeps
  | ethFrameReceive => exact onWall_keeps fun a => by simp
  | ethTransmit => exact onWall_keeps fun a => by simp
  | ptpAdjWrite => exact regRow_keeps fun a => by simp
  | ptpNsRead => exact execPtpNsRead_keeps
  | legacyFrameReceive => exact onWall_keeps fun a => by simp
  | fieldPinEdge => exact onWall_keeps fun a => by simp
  | fpTripSet => exact regRow_keeps fun a => by simp
  | fpTripClr => exact regRow_keeps fun a => by simp
  | fpCfgWrite => exact regRow_keeps fun a => by simp
  | fpBankWrite => exact regRow_keeps fun a => by simp
  | vioInvalid => exact onWall_keeps fun a => by simp
  | vioValid => exact onWall_keeps fun a => by simp
  | fieldOutputReturn => exact onWall_keeps fun a => by simp
  | chainPartnerChange => exact execChainPartnerChange_keeps
  | enum => exact next_keeps (by simp)
  | tickSend => exact next_keeps (by simp)
  | tick => exact next_keeps (by simp)
  | image => exact next_keeps (State.chainFrame_queueAndPart (fun a => by simp) ..)
  | ack => exact execAck_keeps
  | chainResendRound => exact execChainResendRound_keeps
  | healthSend => exact next_keeps (by simp)
  | health => exact next_keeps (State.chainFrame_queueAndPart (fun a => by simp) ..)
  | recoveryFrame => exact next_keeps (State.chainFrame_queueAndPart (fun a => by simp) ..)
  | holdNRise => exact next_keeps (by simp)
  | doneOdRise => exact next_keeps (by simp)
  | doneOdWaitTimeout => exact execDoneOdWaitTimeout_keeps
  | cxlLinkUp => exact next_keeps (by simp)
  | cxlLinkDown => exact next_keeps (by simp)
  | functionLevelReset => exact next_keeps (by simp)
  | cxlReset => exact next_keeps (by simp)
  | claimTake => exact regRow_keeps fun a => by simp
  | claimRelease => exact regRow_keeps fun a => by simp
  | claimForce => exact regRow_keeps fun a => by simp
  | sqCfgWrite => exact regRow_keeps fun a => by simp
  | cqCfgWrite => exact regRow_keeps fun a => by simp
  | sqDb => exact regRow_keeps fun a => by simp
  | cqDb => exact regRow_keeps fun a => by simp
  | commandFetch => exact next_keeps (by simp)
  | fetchFail => exact next_keeps (by simp)
  | longCommandComplete => exact execLongCommandComplete_keeps
  | nop => exact cmdRow_keeps nopCmd_keeps
  | identify => exact cmdRow_keeps (State.identifyCmd_keeps ..)
  | cancel => exact cmdRow_keeps (State.cancelCmd_keeps ..)
  | settingGet => exact cmdRow_keeps (State.settingGetCmd_keeps ..)
  | settingSet => exact cmdRow_keeps (State.settingSetCmd_keeps ..)
  | logRead => exact cmdRow_keeps (State.logReadCmd_keeps ..)
  | wallLoad => exact cmdRow_keeps (State.wallLoadCmd_keeps ..)
  | wallReset => exact cmdRow_keeps (State.wallResetCmd_keeps ..)
  | wallPowerOn => exact cmdRow_keeps (State.wallPowerCmd_keeps ..)
  | wallPowerStandby => exact cmdRow_keeps (State.wallPowerCmd_keeps ..)
  | wallPowerOff => exact cmdRow_keeps (State.wallPowerCmd_keeps ..)
  | patternImage => exact cmdRow_keeps (State.patternImageCmd_keeps ..)
  | kilnSlotWrite => exact execKilnSlotWrite_keeps
  | capture => exact cmdRow_keeps (State.captureCmd_keeps ..)
  | march => exact cmdRow_keeps (State.marchCmd_keeps ..)
  | gddrRetrain => exact cmdRow_keeps (State.gddrRetrainCmd_keeps ..)
  | linkTrain => exact cmdRow_keeps (State.linkTrainCmd_keeps ..)
  | selfTestBrickBist => exact cmdRow_keeps (State.selfTestCmd_keeps ..)
  | selfTestMortarSpine => exact cmdRow_keeps (State.selfTestCmd_keeps ..)
  | selfTestTmemMarch => exact cmdRow_keeps (State.selfTestCmd_keeps ..)
  | selfTestSramMarch => exact cmdRow_keeps (State.selfTestCmd_keeps ..)
  | selfTestGddrPattern => exact cmdRow_keeps (State.selfTestCmd_keeps ..)
  | selfTestNearLoopback => exact cmdRow_keeps (State.selfTestCmd_keeps ..)
  | selfTestFarLoopback => exact cmdRow_keeps (State.selfTestCmd_keeps ..)
  | selfTestBondRoute => exact cmdRow_keeps (State.selfTestCmd_keeps ..)
  | selfTestAngleReference => exact cmdRow_keeps (State.selfTestCmd_keeps ..)
  | selfTestCxlLoopback => exact cmdRow_keeps (State.selfTestCmd_keeps ..)
  | selfTestRegulatorCheck => exact cmdRow_keeps (State.selfTestCmd_keeps ..)
  | fwStage => exact cmdRow_keeps (State.fwStageCmd_keeps ..)
  | fwActivate => exact cmdRow_keeps (State.fwActivateCmd_keeps ..)
  | activationPoint => exact execActivationPoint_keeps
  | trowelRestart => exact execTrowelRestart_keeps
  | trowelBoot => exact execTrowelBoot_keeps
  | trialCommit => exact execTrialCommit_keeps
  | xmodemBlock => exact next_keeps (by simp)
  | rcvPush => exact regRow_keeps fun a => by simp
  | rcvDone => exact regRow_keeps fun a => by simp
  | rcvAbort => exact regRow_keeps fun a => by simp
  | trwRcvSend => exact regRow_keeps fun a => by simp
  | evrRdWrite => exact regRow_keeps fun a => by simp
  | msixUnmask => exact regRow_keeps fun a => by simp
  | evRaise => exact regRow_keeps fun a => by simp
  | kilnStreamPacket => exact execKilnStreamPacket_keeps
  | kilnFrame => exact onWall_keeps fun a => by simp
  | endRecord => exact execEndRecord_keeps
  | bootLoad => exact onWall_keeps fun a => by simp
  | resetPhaseExit => exact onWall_keeps fun a => by simp
  | lockPhaseExit => exact onWall_keeps fun a => by simp
  | loadZeroingDone => exact onWall_keeps fun a => by simp
  | replayDone => exact execReplayDone_keeps
  | startUpStep => exact execStartUpStep_keeps
  | startupOrderWrite => exact regRow_keeps fun a => by simp
  | scrubPassStart => exact execScrubPassStart_keeps
  | scrubFrameCheck => exact onWall_keeps fun a => by simp
  | scrubPassEnd => exact onWall_keeps fun a => by simp
  | scrubHeartbeat => exact onWall_keeps fun a => by simp
  | ptCfgWrite => exact regRow_keeps fun a => by simp
  | powerOn => exact next_keeps (by simp)
  | brownOut => exact next_keeps (by simp)
  | wallPowerUp => exact onWall_keeps fun a => by simp
  | voltageCompare => exact next_keeps (by simp)
  | telemetrySample => exact next_keeps (by simp)
  | calibration => exact execCalibration_keeps
  | tamper => exact onWall_keeps fun a => by simp
  | currentLimit => exact execCurrentLimit_keeps
  | wpwrGateWrite => exact regRow_keeps fun a => by simp
  | courseWake => exact onWall_keeps fun a => by simp
  | rstNAssert => exact next_keeps (by simp)
  | watchdog => exact execWatchdog_keeps
  | watchdogCountClear => exact next_keeps (by simp)
  | clockStepPolicy => exact onWall_keeps fun a => by simp
  | clockStep => exact execClockStep_keeps
  | thermalStandby => exact onWall_keeps fun a => by simp
  | consoleOpen => exact next_keeps (by simp)
  | consoleTimeout => exact next_keeps (by simp)
  | help => exact consoleRow_keeps fun a => by simp
  | id => exact consoleRow_keeps fun a => by simp
  | pagePower => exact consoleRow_keeps fun a => by simp
  | pageMemory => exact wallPage_keeps
  | pageWall => exact wallPage_keeps
  | pageLink => exact wallPage_keeps
  | pagePin => exact wallPage_keeps
  | pageChain => exact consoleRow_keeps fun a => by simp
  | pageEvent => exact consoleRow_keeps fun a => by simp
  | pageHost => exact consoleRow_keeps fun a => by simp
  | reg => exact consoleRow_keeps fun a => by simp
  | log => exact consoleRow_keeps fun a => by simp
  | meter => exact execMeter_keeps
  | test => exact consoleRow_keeps fun a => State.consoleCmd_queueAndPart (State.selfTestCmd_keeps ..) ..
  | consoleMarch => exact consoleRow_keeps fun a => State.consoleCmd_queueAndPart (State.marchCmd_keeps ..) ..
  | loop => exact consoleRow_keeps fun a => State.consoleCmd_queueAndPart (State.selfTestCmd_keeps ..) ..
  | consoleWallReset => exact consoleRow_keeps fun a => State.consoleCmd_queueAndPart (State.wallResetCmd_keeps ..) ..
  | consoleWallLoad => exact consoleRow_keeps fun a => State.consoleCmd_queueAndPart (State.entryLoadCmd_keeps ..) ..
  | consoleWallPower => exact consoleRow_keeps fun a => State.consoleCmd_queueAndPart (State.wallPowerCmd_keeps ..) ..
  | raise => exact execRaise_keeps
  | safeEnter => exact consoleRow_keeps fun a => by simp
  | safeExit => exact consoleRow_keeps fun a => by simp
  | recovery => exact consoleRow_keeps fun a => by simp
  | quit => exact consoleRow_keeps fun a => by simp
  | svcMeterSelWrite => exact regRow_keeps fun a => by simp
  | svcMeterUpdate => exact next_keeps (by simp)
  | svcSafeEnter => exact regRow_keeps fun a => by simp
  | svcSafeExit => exact regRow_keeps fun a => by simp
  | extest => exact tapRow_keeps fun a => by simp
  | samplePreload => exact tapRow_keeps fun a => by simp
  | idcode => exact tapRow_keeps fun a => by simp
  | highz => exact tapRow_keeps fun a => by simp
  | clamp => exact tapRow_keeps fun a => by simp
  | extestPulse => exact tapRow_keeps fun a => by simp
  | extestTrain => exact tapRow_keeps fun a => by simp
  | wallScan => exact tapRow_keeps fun a => by simp
  | bypass => exact tapRow_keeps fun a => by simp
  | testLogicReset => exact tapRow_keeps fun a => by simp
  | illegalInstruction => exact execIllegalInstruction_keeps
  | angleAdvance => exact onWall_keeps fun a => by simp
  | cxlError => exact next_keeps (by simp)
  | holdNFall => exact next_keeps (by simp)
  | doneOdFall => exact next_keeps (by simp)
  | activationWithdrawn => exact execActivationWithdrawn_keeps
  | bootTimeExceeded => exact execBootTimeExceeded_keeps
  | registerRead => exact next_keeps (by simp)
  | reservedChainFrame => exact next_keeps (by simp)

/-- Settles O4: every arm of `exec` keeps the queue of waiting commands and the part. -/
theorem commandsKeepQueueAndPart : Obligations.CommandsKeepQueueAndPart := fun c s t h =>
  Prod.mk.inj (exec_keeps c s t h)

/-! ### The state after a module reset -/

theorem State.rd_reset (a : Nat) : State.reset.rd a = regReset 8 false a := rfl

/-- No register is listed after a reset, so a wall's power state is its register's reset value: OFF, and no start-up runs. -/
theorem State.reset_wall_off :
    ∀ w, w < 8 → State.reset.wallPower w = 2 ∧ State.reset.phase w = 0 := by
  decide

theorem memWf_reset : MemWf State.reset := ⟨rfl, rfl⟩

/-- Settles O2: the lists of the reset state are empty, its registers read their reset words, and the walls are off. -/
theorem resetLeavesAnIdleModule : Obligations.ResetLeavesAnIdleModule :=
  ⟨memWf_reset, rfl, rfl, rfl, rfl, rfl, rfl, rfl, rfl, rfl, State.rd_reset, State.reset_wall_off⟩

end Sys2Proof.Machine
end

section
/-!
PROOFS. Endpoints of the bond network (R280 to R282, R285, R296, R303, R405, R406, R571): what a sticky bit, a discarded
answer and an endpoint's answer leave alone, the buffers of a tile's bond interface, accesses of host windows, and the
receipt of answers.
-/
namespace Sys2Proof.Machine
open Sys2Proof

/-! ### Fields of registers -/

/-- A counter field that wraps, read back. -/
theorem State.fl_wrapFl_same (s : State) (a : Nat) (f : Fld) (h : f.lo + f.wd ≤ 32) :
    (s.wrapFl a f).fl a f = (s.fl a f + 1) % 2 ^ f.wd := by
  simp [State.wrapFl, State.fl_setFl_same _ _ _ _ h]

/-- A field below the written one of the same register keeps its value. -/
theorem State.fl_setFl_below (s : State) (a : Nat) (f g : Fld) (v : Nat) (h : f.lo + f.wd ≤ 32) (hg : g.lo + g.wd ≤ f.lo) :
    (s.setFl a f v).fl a g = s.fl a g := by
  simp [State.fl, fld_setFld_below _ _ _ _ h hg]

/-- A field above the written one of the same register keeps its value. -/
theorem State.fl_setFl_above (s : State) (a : Nat) (f g : Fld) (v : Nat) (h : f.lo + f.wd ≤ 32) (hg : f.lo + f.wd ≤ g.lo) :
    (s.setFl a f v).fl a g = s.fl a g := by
  simp [State.fl, fld_setFld_above _ _ _ _ h hg]

theorem State.fl_lt (s : State) (a : Nat) (f : Fld) : s.fl a f < 2 ^ f.wd := Nat.mod_lt _ (Nat.two_pow_pos _)

theorem State.rd_setFl_ne (s : State) {a j : Nat} (h : j ≠ a) (f : Fld) (v : Nat) : (s.setFl a f v).rd j = s.rd j :=
  State.rd_wr_ne s h _

theorem State.rd_bump_ne (s : State) {a j : Nat} (h : j ≠ a) : (s.bump a).rd j = s.rd j := State.rd_wr_ne s h _

/-! ### Sticky bits -/

@[simp] theorem State.stickyWall_tiles (s : State) (a : Nat) (f : Fld) (w c v : Nat) (l : List Nat) :
    (s.stickyWall a f w c v l).tiles = s.tiles := by
  unfold State.stickyWall
  split <;> simp

@[simp] theorem State.stickyWall_sram (s : State) (a : Nat) (f : Fld) (w c v : Nat) (l : List Nat) :
    (s.stickyWall a f w c v l).sram = s.sram := by
  unfold State.stickyWall
  split <;> simp

theorem State.stickyWall_rd (s : State) (a : Nat) (f : Fld) (w c v : Nat) (l : List Nat) {j : Nat} (ha : j ≠ a)
    (hw : j ≠ R.WEV_LOST_COUNT w) : (s.stickyWall a f w c v l).rd j = s.rd j := by
  unfold State.stickyWall
  split
  · rw [State.raiseWall_rd _ _ _ _ _ hw, State.rd_setFl_ne _ ha]
  · rfl

/-- A sticky bit reads 1 afterwards, whether it was set before or not. -/
theorem State.stickyWall_set (s : State) (a : Nat) (f : Fld) (w c v : Nat) (l : List Nat) (hf : f.wd = 1) (hl : f.lo < 32)
    (hw : a ≠ R.WEV_LOST_COUNT w) : (s.stickyWall a f w c v l).fl a f = 1 := by
  unfold State.stickyWall
  split
  · have hraise : ((s.setFl a f 1).raiseWall w c v l).fl a f = (s.setFl a f 1).fl a f :=
      congrArg (fld · f) (State.raiseWall_rd _ _ _ _ _ hw)
    have hone : 1 % 2 ^ f.wd = 1 := by simp [hf]
    exact (hraise.trans (State.fl_setFl_same _ _ _ _ (by omega))).trans hone
  · have := s.fl_lt a f
    rw [hf] at this
    omega

@[simp] theorem State.stickyHub_sram (s : State) (a : Nat) (f : Fld) (c v : Nat) (l : List Nat) :
    (s.stickyHub a f c v l).sram = s.sram := by
  unfold State.stickyHub
  split <;> simp

@[simp] theorem State.stickyHub_awaiting (s : State) (a : Nat) (f : Fld) (c v : Nat) (l : List Nat) :
    (s.stickyHub a f c v l).awaiting = s.awaiting := by
  unfold State.stickyHub
  split <;> simp

theorem State.stickyHub_rd (s : State) (a : Nat) (f : Fld) (c v : Nat) (l : List Nat) {j : Nat} (ha : j ≠ a) :
    (s.stickyHub a f c v l).rd j = s.rd j := by
  unfold State.stickyHub
  split
  · exact State.rd_setFl_ne s ha f 1
  · rfl

/-! ### Answers of endpoints (R302, R313, R314, R571) -/

/-- The registers of wall `w` that change when the wall discards an answer. -/
def lossRegs (w : Nat) : List Nat := [R.BOND_LOST_COUNT w, R.BOND_EVENT w, R.WEV_LOST_COUNT w]

/-- From `s` to `t` wall `w` has discarded an answer: it is counted and flagged, and no tile has changed (R314). -/
def AnswerLost (s t : State) (w : Nat) : Prop :=
  t.rd (R.BOND_LOST_COUNT w) = satInc (s.rd (R.BOND_LOST_COUNT w)) ∧ t.fl (R.BOND_EVENT w) F.BOND_EVENT_lost = 1 ∧
  t.tiles = s.tiles

theorem State.lostIn_answerLost (s : State) (w i : Nat) (p : Packet) : AnswerLost s (s.lostIn w i p) w := by
  have hcount : R.BOND_EVENT w ≠ R.WEV_LOST_COUNT w := by simp [R.BOND_EVENT, R.WEV_LOST_COUNT]
  refine ⟨?_, State.stickyWall_set _ _ _ _ _ _ _ rfl (by decide) hcount, by simp [State.lostIn]⟩
  rw [State.lostIn, State.stickyWall_rd _ _ _ _ _ _ _ (by simp [R.BOND_LOST_COUNT, R.BOND_EVENT])
    (by simp [R.BOND_LOST_COUNT, R.WEV_LOST_COUNT]), State.rd_bump_same]

@[simp] theorem State.lostIn_tiles (s : State) (w i : Nat) (p : Packet) : (s.lostIn w i p).tiles = s.tiles := by
  simp [State.lostIn]

@[simp] theorem State.lostIn_sram (s : State) (w i : Nat) (p : Packet) : (s.lostIn w i p).sram = s.sram := by
  simp [State.lostIn]

theorem State.lostIn_rd (s : State) (w i : Nat) (p : Packet) {j : Nat} (h : j ∉ lossRegs w) :
    (s.lostIn w i p).rd j = s.rd j := by
  simp only [lossRegs, List.mem_cons, List.not_mem_nil, or_false, not_or] at h
  obtain ⟨hlost, hevent, hcount⟩ := h
  rw [State.lostIn, State.stickyWall_rd _ _ _ _ _ _ _ hevent hcount, State.rd_bump_ne _ hlost]

@[simp] theorem State.sendAnswer_tiles (s : State) (w r : Nat) (p : Packet) (due : Nat) :
    (s.sendAnswer w r p due).tiles = s.tiles := by
  unfold State.sendAnswer
  split
  · simp
  · rfl

@[simp] theorem State.sendAnswer_sram (s : State) (w r : Nat) (p : Packet) (due : Nat) :
    (s.sendAnswer w r p due).sram = s.sram := by
  unfold State.sendAnswer
  split
  · simp
  · rfl

theorem State.sendAnswer_rd (s : State) (w r : Nat) (p : Packet) (due : Nat) {j : Nat} (h : j ∉ lossRegs w) :
    (s.sendAnswer w r p due).rd j = s.rd j := by
  unfold State.sendAnswer
  split
  · exact s.lostIn_rd w r p h
  · rfl

@[simp] theorem State.answerAt_tiles (s : State) (w r : Nat) (p : Packet) (a : Ans) :
    (s.answerAt w r p a).tiles = s.tiles := by
  cases a with
  | comp st =>
    unfold State.answerAt
    dsimp only
    split <;> simp
  | silent | nack | resp | fail => simp [State.answerAt]

@[simp] theorem State.answerAt_sram (s : State) (w r : Nat) (p : Packet) (a : Ans) :
    (s.answerAt w r p a).sram = s.sram := by
  cases a with
  | comp st =>
    unfold State.answerAt
    dsimp only
    split <;> simp
  | silent | nack | resp | fail => simp [State.answerAt]

@[simp] theorem State.answerAt_tile (s : State) (w r : Nat) (p : Packet) (a : Ans) (v i : Nat) :
    (s.answerAt w r p a).tile v i = s.tile v i := by
  simp [State.tile]

/-- An answer changes no register but the wall's count of refusals and those of a lost answer. -/
theorem State.answerAt_rd (s : State) (w r : Nat) (p : Packet) (a : Ans) {j : Nat} (hn : j ≠ R.BOND_NACK_COUNT w)
    (h : j ∉ lossRegs w) : (s.answerAt w r p a).rd j = s.rd j := by
  cases a with
  | silent => rfl
  | nack st => exact (State.sendAnswer_rd _ _ _ _ _ h).trans (s.rd_bump_ne hn)
  | comp st =>
    unfold State.answerAt
    dsimp only
    split
    · exact State.sendAnswer_rd _ _ _ _ _ h
    · rfl
  | resp | fail => exact State.sendAnswer_rd _ _ _ _ _ h

theorem State.answerAt_fl (s : State) (w r : Nat) (p : Packet) (a : Ans) (f : Fld) {j : Nat} (hn : j ≠ R.BOND_NACK_COUNT w)
    (h : j ∉ lossRegs w) : (s.answerAt w r p a).fl j f = s.fl j f :=
  congrArg (fld · f) (s.answerAt_rd w r p a hn h)

/-- A refusal is counted by the wall (R302). -/
theorem State.answerAt_nack_rd (s : State) (w r : Nat) (p : Packet) (st : Nat) :
    (s.answerAt w r p (.nack st)).rd (R.BOND_NACK_COUNT w) = satInc (s.rd (R.BOND_NACK_COUNT w)) := by
  have h : R.BOND_NACK_COUNT w ∉ lossRegs w := by
    simp [lossRegs, R.BOND_NACK_COUNT, R.BOND_LOST_COUNT, R.BOND_EVENT, R.WEV_LOST_COUNT]
  exact (State.sendAnswer_rd _ _ _ _ _ h).trans (s.rd_bump_same _)

/-- The registers of a tile's bond interface are none of those that an answer changes. -/
theorem interfaceReg_not_answered {w i : Nat} (hi : i < 128) {a : Nat} (ha : a = R.BI_WPTR w i ∨ a = R.BI_STATUS w i) :
    a ≠ R.BOND_NACK_COUNT w ∧ a ∉ lossRegs w := by
  simp only [lossRegs, R.BI_WPTR, R.BI_STATUS, R.BOND_NACK_COUNT, R.BOND_LOST_COUNT, R.BOND_EVENT, R.WEV_LOST_COUNT,
    List.mem_cons, List.not_mem_nil, or_false, not_or] at ha ⊢
  omega

/-! ### Packets in flight -/

/-- The state with another list of packets in flight. -/
def State.withFlight (s : State) (l : List InFlight) : State := { s with flight := l }

section
variable (s : State) (l : List InFlight)

@[simp] theorem State.withFlight_regs : (s.withFlight l).regs = s.regs := (rfl)
@[simp] theorem State.withFlight_tiles : (s.withFlight l).tiles = s.tiles := (rfl)
@[simp] theorem State.withFlight_sram : (s.withFlight l).sram = s.sram := (rfl)
@[simp] theorem State.withFlight_cxl : (s.withFlight l).cxl = s.cxl := (rfl)
@[simp] theorem State.withFlight_awaiting : (s.withFlight l).awaiting = s.awaiting := (rfl)
@[simp] theorem State.withFlight_hostOut : (s.withFlight l).hostOut = s.hostOut := (rfl)
@[simp] theorem State.withFlight_rd (a : Nat) : (s.withFlight l).rd a = s.rd a := (rfl)
@[simp] theorem State.withFlight_fl (a : Nat) (f : Fld) : (s.withFlight l).fl a f = s.fl a f := (rfl)
@[simp] theorem State.withFlight_tile (w i : Nat) : (s.withFlight l).tile w i = s.tile w i := (rfl)
@[simp] theorem State.withFlight_link (w n : Nat) : (s.withFlight l).link w n = s.link w n := (rfl)
@[simp] theorem State.withFlight_aspect (w i m : Nat) : (s.withFlight l).aspect w i m = s.aspect w i m := (rfl)
@[simp] theorem State.withFlight_window (m : Nat) : (s.withFlight l).window m = s.window m := (rfl)
@[simp] theorem State.withFlight_windowIssue (a : Nat) (p : Packet) : (s.withFlight l).windowIssue a p = s.windowIssue a p := (rfl)
@[simp] theorem State.withFlight_awaits (d : BitVec 16) (tag : BitVec 8) : (s.withFlight l).awaits d tag = s.awaits d tag := (rfl)

@[simp] theorem State.withFlight_crossDenied (w a : Nat) (p : Packet) :
    (s.withFlight l).crossDenied w a p = s.crossDenied w a p := (rfl)

end

/-- Taking a packet changes nothing but the list of packets in flight. -/
theorem State.take_flight {s u : State} {a : At} {p : Packet} {now : Nat} {first : InFlight → Bool} {e : InFlight}
    (h : s.take a p now first = some (u, e)) : ∃ l, u = s.withFlight l := by
  unfold State.take at h
  split at h
  · cases h
  · cases h
    exact ⟨_, rfl⟩

theorem Reaches.flight {s s1 : State} {w r j : Nat} {p : Packet} (h : Reaches s s1 w r j p) :
    ∃ l, s1 = s.withFlight l :=
  let ⟨_, ht, _⟩ := h
  State.take_flight ht

/-! ### Buffers of a tile's bond interface (R103, R278, R296) -/

theorem asFlits_class (g : Bool) (n : Nat) : ∀ (k first : Nat) (ws : List (Nat × Nat × W48)),
    ∀ f ∈ asFlits g n first ws k, f.g = g := by
  intro k
  induction k with
  | zero => simp [asFlits]
  | succ k ih =>
    intro first ws f hf
    unfold asFlits at hf
    split at hf
    · simp at hf
    · rcases List.mem_cons.mp hf with rfl | hr
      · rfl
      · exact ih n _ f hr

/-- Flits enough to hold the words hold them, in order. -/
theorem asFlits_words (g : Bool) (n : Nat) : ∀ (k first : Nat) (ws : List (Nat × Nat × W48)), ws.length ≤ first + k * n →
    (asFlits g n first ws (k + 1)).flatMap BondFlit.words = ws := by
  intro k
  induction k with
  | zero =>
    intro first ws h
    unfold asFlits
    split
    · simp_all
    · simp [asFlits, List.take_of_length_le (by omega : ws.length ≤ first)]
  | succ k ih =>
    intro first ws h
    rw [Nat.succ_mul] at h
    unfold asFlits
    split
    · simp_all
    · rw [List.flatMap_cons, ih n _ (by rw [List.length_drop]; omega), List.take_append_drop]

/-- Words of a packet that its flits can hold enter the buffers behind those that wait there. -/
theorem State.bufferWords_bbuf (s : State) (w t : Nat) (g : Bool) (asp : Nat) (ws : List (Nat × Nat × W48))
    (h : ws.length ≤ if asp = 3 then 125 else 250) :
    ∃ l, ((s.bufferWords w t g asp ws).tile w t).bbuf = (s.tile w t).bbuf ++ l ∧ (∀ f ∈ l, f.g = g) ∧
      l.flatMap BondFlit.words = ws := by
  refine ⟨_, congrArg Tile.bbuf (State.tile_setTile_same ..), asFlits_class _ _ _ _ _, asFlits_words _ _ 15 _ _ ?_⟩
  split at h
  next h3 => simpa [h3] using h
  next h3 => simpa [h3] using h

@[simp] theorem State.bufferWords_tmem (s : State) (w t : Nat) (g : Bool) (asp : Nat) (ws : List (Nat × Nat × W48)) :
    ((s.bufferWords w t g asp ws).tile w t).tmem = (s.tile w t).tmem := by
  simp [State.bufferWords]

@[simp] theorem State.bufferWords_sram (s : State) (w t : Nat) (g : Bool) (asp : Nat) (ws : List (Nat × Nat × W48)) :
    (s.bufferWords w t g asp ws).sram = s.sram := (rfl)

@[simp] theorem State.bufferWords_fl (s : State) (w t : Nat) (g : Bool) (asp : Nat) (ws : List (Nat × Nat × W48)) (a : Nat)
    (f : Fld) : (s.bufferWords w t g asp ws).fl a f = s.fl a f := (rfl)

/-- A dropped guaranteed flit is counted and flagged, and the buffers keep what they hold (R296). -/
theorem State.gdropped_effect (s : State) (w i : Nat) (p : Packet) (hi : i < 128) :
    (s.gdropped w i p).rd (R.BOND_GDROP_COUNT w) = satInc (s.rd (R.BOND_GDROP_COUNT w)) ∧
    (s.gdropped w i p).fl (R.BI_STATUS w i) F.BI_STATUS_gdrop = 1 ∧ (s.gdropped w i p).tiles = s.tiles := by
  have hr {j : Nat} (he : j ≠ R.BOND_EVENT w) (hl : j ≠ R.WEV_LOST_COUNT w) :
      (s.gdropped w i p).rd j = (((s.bump (R.BOND_GDROP_COUNT w)).bumpFl (R.BI_STATUS w i) F.BI_STATUS_gdrops).setFl
        (R.BI_STATUS w i) F.BI_STATUS_gdrop 1).rd j := State.stickyWall_rd _ _ _ _ _ _ _ he hl
  have hs : R.BOND_GDROP_COUNT w ≠ R.BI_STATUS w i := by
    simp only [R.BOND_GDROP_COUNT, R.BI_STATUS]
    omega
  refine ⟨?_, ?_, by simp [State.gdropped]⟩
  · rw [hr (by simp [R.BOND_GDROP_COUNT, R.BOND_EVENT]) (by simp [R.BOND_GDROP_COUNT, R.WEV_LOST_COUNT]),
      State.rd_setFl_ne _ hs, State.bumpFl, State.rd_setFl_ne _ hs, State.rd_bump_same]
  · rw [State.fl, hr (by simp only [R.BI_STATUS, R.BOND_EVENT]; omega) (by simp only [R.BI_STATUS, R.WEV_LOST_COUNT]; omega)]
    exact State.fl_setFl_same _ _ _ _ (by decide)

/-! ### Writes and messages at a tile (R280 to R282, R296) -/

/-- A guaranteed flit waits in the buffers of the tile's interface. -/
def GuaranteedWaits (s : State) (x : TileRef) : Prop := ∃ e ∈ (tileOf s x).bbuf, e.g = true

/-- The interface of the tile takes a packet: no guaranteed flit waits, or a best-effort buffer is free. -/
def InterfaceTakes (s : State) (x : TileRef) (p : Packet) : Prop :=
  if p.cls then ¬ GuaranteedWaits s x else s.bufferFree x.w.val x.t.val = true

/-- The words wait in the buffers of the tile's interface behind those there, and no memory has changed. -/
def Buffered (s t : State) (x : TileRef) (p : Packet) (ws : List (Nat × Nat × W48)) : Prop :=
  ∃ l, (tileOf t x).bbuf = (tileOf s x).bbuf ++ l ∧ (∀ f ∈ l, f.g = p.cls) ∧ l.flatMap BondFlit.words = ws ∧
    (tileOf t x).tmem = (tileOf s x).tmem ∧ t.sram = s.sram

/-- The wall counts a refusal, and the buffers of the tile's interface keep what they hold. -/
def TileRefused (s t : State) (x : TileRef) : Prop :=
  t.rd (R.BOND_NACK_COUNT x.w.val) = satInc (s.rd (R.BOND_NACK_COUNT x.w.val)) ∧ (tileOf t x).bbuf = (tileOf s x).bbuf

theorem guaranteedWaits_iff (s : State) (x : TileRef) :
    (s.tile x.w.val x.t.val).bbuf.any (fun e => e.g) = true ↔ GuaranteedWaits s x := List.any_eq_true

/-- What waits in the buffers is read off the tiles and the memories. -/
theorem Buffered.of_tiles_eq {s u t : State} {x : TileRef} {p : Packet} {ws : List (Nat × Nat × W48)} (h : Buffered s u x p ws)
    (htiles : t.tiles = u.tiles) (hsram : t.sram = u.sram) : Buffered s t x p ws := by
  simpa [Buffered, tileOf, State.tile, htiles, hsram] using h

theorem Buffered.of_withFlight {s t : State} {l : List InFlight} {x : TileRef} {p : Packet} {ws : List (Nat × Nat × W48)}
    (h : Buffered (s.withFlight l) t x p ws) : Buffered s t x p ws := by
  simpa [Buffered, tileOf] using h

theorem State.bufferWords_buffered (s : State) (x : TileRef) (p : Packet) (asp : Nat) (ws : List (Nat × Nat × W48))
    (h : ws.length ≤ if asp = 3 then 125 else 250) : Buffered s (s.bufferWords x.w.val x.t.val p.cls asp ws) x p ws := by
  obtain ⟨l, hbuf, hclass, hwords⟩ := s.bufferWords_bbuf x.w.val x.t.val p.cls asp ws h
  exact ⟨l, hbuf, hclass, hwords, s.bufferWords_tmem .., rfl⟩

theorem State.answerAt_refused (s : State) (x : TileRef) (r : Nat) (p : Packet) (st : Nat) :
    TileRefused s (s.answerAt x.w.val r p (.nack st)) x :=
  ⟨s.answerAt_nack_rd .., congrArg Tile.bbuf (s.answerAt_tile ..)⟩

theorem TileRefused.of_withFlight {s t : State} {l : List InFlight} {x : TileRef}
    (h : TileRefused (s.withFlight l) t x) : TileRefused s t x := by
  simpa [TileRefused, tileOf] using h

theorem exec_tileWritePacket (x : TileRef) (p : Packet) (s : State) :
    exec (.tileWritePacket x p) s = execTileWritePacket x p s := rfl

theorem exec_tileMessage (x : TileRef) (p : Packet) (s : State) : exec (.tileMessage x p) s = execTileMessage x p s := rfl

section
variable {s s1 : State} {x : TileRef} {p : Packet} (hon : OnWall s x.w) (ha : p.isAnswer = false)
  (hr : Reaches s s1 x.w.val (x.t.val / 8) (x.t.val % 8) p)
include hon ha hr

/-- A packet that the interface takes is served and answered. -/
theorem tileRow_takes {types : BitVec 3 → Bool} (run : State → State × Ans) (ht : types p.typ = true)
    (hk : InterfaceTakes s x p) :
    tileRow x p s types run = .next ((run s1).1.answerAt x.w.val (x.t.val / 8) p (run s1).2) := by
  obtain ⟨e, he, hl⟩ := hr
  have hw := guaranteedWaits_iff s x
  rw [tileRow, onWall_on _ hon.1 hon.2]
  cases hc : p.cls with
  | true =>
    rw [InterfaceTakes, if_pos hc, ← hw, Bool.not_eq_true] at hk
    simp [ht, hk, State.serve_takes ha he hl]
  | false =>
    rw [InterfaceTakes, if_neg (by simp [hc])] at hk
    simp [ht, hk, State.serve_takes ha he hl]

/-- A guaranteed packet that finds a guaranteed flit in the buffer is dropped. -/
theorem tileRow_drops {types : BitVec 3 → Bool} {run : State → State × Ans} (ht : types p.typ = true)
    (hc : p.cls = true) (hf : GuaranteedWaits s x) :
    ∃ t, tileRow x p s types run = .next t ∧
      t.rd (R.BOND_GDROP_COUNT x.w.val) = satInc (s.rd (R.BOND_GDROP_COUNT x.w.val)) ∧
      t.fl (R.BI_STATUS x.w.val x.t.val) F.BI_STATUS_gdrop = 1 ∧ (tileOf t x).bbuf = (tileOf s x).bbuf := by
  obtain ⟨l, rfl⟩ := hr.flight
  obtain ⟨e, he, hl⟩ := hr
  rw [← guaranteedWaits_iff] at hf
  obtain ⟨hcount, hflag, htiles⟩ := (s.withFlight l).gdropped_effect x.w.val x.t.val p x.t.isLt
  refine ⟨_, ?_, hcount, hflag, by simp only [tileOf, State.tile, htiles, State.withFlight_tiles]⟩
  rw [tileRow, onWall_on _ hon.1 hon.2]
  simp [ht, hc, hf, State.serve_takes ha he hl, State.answerAt]

/-- A write of a size that suits the tile memory waits in the buffers, from the packet's address on (R280, R281). -/
theorem tileWritePacket_buffers (ht : p.typ = 0) (hk : InterfaceTakes s x p)
    (hd : ¬ s.crossDenied x.w.val (R.BI_RING x.w.val x.t.val) p = true) {asp : Nat}
    (hasp : asp = s.aspect x.w.val x.t.val (bvf p.addr 12 2)) (hz : tileSizeOk asp p = true) {ws : List (Nat × Nat × W48)}
    (hws : ws = (tileWords asp p.payload).zipIdx.map
      (fun e => (bvf p.addr 12 2, (bvf p.addr 0 12 + e.2) % aspectDepth asp, e.1)))
    (hn : ws.length ≤ if asp = 3 then 125 else 250) :
    ∃ t, exec (.tileWritePacket x p) s = .next t ∧ Buffered s t x p ws := by
  obtain ⟨l, rfl⟩ := hr.flight
  refine ⟨_, (exec_tileWritePacket x p s).trans (tileRow_takes hon ha hr _ (by simp [ht]) hk), ?_⟩
  simp only [State.withFlight_crossDenied, State.withFlight_aspect, ← hasp, ← hws]
  rw [if_neg (by simp [ht]), if_neg hd, if_neg (by simp [hz])]
  exact (((s.withFlight l).bufferWords_buffered x p asp ws hn).of_tiles_eq (by simp) (by simp)).of_withFlight

/-- A read, a packet that the tile-control table denies and a write of another size are refused (R16, R281). -/
theorem tileWritePacket_refuses (hk : InterfaceTakes s x p)
    (h : p.typ = 1 ∨ p.typ = 0 ∧ (s.crossDenied x.w.val (R.BI_RING x.w.val x.t.val) p = true ∨
      tileSizeOk (s.aspect x.w.val x.t.val (bvf p.addr 12 2)) p = false)) :
    ∃ t, exec (.tileWritePacket x p) s = .next t ∧ TileRefused s t x := by
  obtain ⟨l, rfl⟩ := hr.flight
  have ht : (decide (p.typ = 0) || decide (p.typ = 1)) = true := by rcases h with h | ⟨h, -⟩ <;> simp [h]
  refine ⟨_, (exec_tileWritePacket x p s).trans (tileRow_takes hon ha hr _ ht hk), ?_⟩
  simp only [State.withFlight_crossDenied, State.withFlight_aspect]
  split
  · exact (State.answerAt_refused ..).of_withFlight
  · split
    · exact (State.answerAt_refused ..).of_withFlight
    next hread hdenied =>
      obtain ⟨-, hsize⟩ := h.resolve_left hread
      rw [if_pos (by simp [hsize.resolve_left hdenied])]
      exact (State.answerAt_refused ..).of_withFlight

/-- A message to a tile whose ring is disabled sets `noring` and is refused (R282). -/
theorem tileMessage_noring (ht : p.typ = 3) (hk : InterfaceTakes s x p)
    (hd : ¬ s.crossDenied x.w.val (R.BI_RING x.w.val x.t.val) p = true)
    (he : fld (s.rd (R.BI_RING x.w.val x.t.val)) F.BI_RING_en = 0) :
    ∃ t, exec (.tileMessage x p) s = .next t ∧ t.fl (R.BI_STATUS x.w.val x.t.val) F.BI_STATUS_noring = 1 ∧
      TileRefused s t x := by
  obtain ⟨l, rfl⟩ := hr.flight
  obtain ⟨hnack, hloss⟩ := interfaceReg_not_answered x.t.isLt (w := x.w.val) (.inr rfl)
  refine ⟨_, (exec_tileMessage x p s).trans (tileRow_takes hon ha hr _ (by simp [ht]) hk), ?_⟩
  simp only [State.withFlight_crossDenied, State.withFlight_rd]
  rw [if_neg hd, if_pos he]
  refine ⟨?_, ?_, ?_⟩
  · rw [State.answerAt_fl _ _ _ _ _ _ hnack hloss]
    exact State.fl_setFl_same _ _ _ _ (by decide)
  · rw [State.answerAt_nack_rd, State.rd_setFl_ne _ hnack.symm, State.withFlight_rd]
  · simp [tileOf]

/-- A message waits in the buffers at the ring's write offset, which moves past its words, and is counted (R282). -/
theorem tileMessage_buffers (ht : p.typ = 3) (hk : InterfaceTakes s x p)
    (hd : ¬ s.crossDenied x.w.val (R.BI_RING x.w.val x.t.val) p = true) {ring : Word}
    (hring : ring = s.rd (R.BI_RING x.w.val x.t.val)) (he : fld ring F.BI_RING_en = 1) {asp : Nat}
    (hasp : asp = s.aspect x.w.val x.t.val (fld ring F.BI_RING_tmem)) (hz : tileSizeOk asp p = true) {o : Nat}
    (ho : o = s.fl (R.BI_WPTR x.w.val x.t.val) F.BI_WPTR_wptr) {ws : List (Nat × Nat × W48)}
    (hws : ws = (tileWords asp p.payload).zipIdx.map
      (fun e => (fld ring F.BI_RING_tmem, fld ring F.BI_RING_base + (o + e.2) % fld ring F.BI_RING_len, e.1)))
    (hn : ws.length ≤ if asp = 3 then 125 else 250) (hlen : 0 < fld ring F.BI_RING_len) :
    ∃ t, exec (.tileMessage x p) s = .next t ∧ Buffered s t x p ws ∧
      t.fl (R.BI_WPTR x.w.val x.t.val) F.BI_WPTR_wptr = (o + ws.length) % fld ring F.BI_RING_len ∧
      t.fl (R.BI_WPTR x.w.val x.t.val) F.BI_WPTR_msgs = (s.fl (R.BI_WPTR x.w.val x.t.val) F.BI_WPTR_msgs + 1) % 65536 := by
  obtain ⟨l, rfl⟩ := hr.flight
  obtain ⟨hnack, hloss⟩ := interfaceReg_not_answered x.t.isLt (w := x.w.val) (.inl rfl)
  refine ⟨_, (exec_tileMessage x p s).trans (tileRow_takes hon ha hr _ (by simp [ht]) hk), ?_⟩
  simp only [State.withFlight_crossDenied, State.withFlight_rd, State.withFlight_aspect, State.withFlight_fl, ← hring, ← hasp,
    ← ho, ← hws]
  rw [if_neg hd, if_neg (by simp [he]), if_neg (by simp [hz])]
  refine ⟨?_, ?_, ?_⟩
  · exact (((s.withFlight l).bufferWords_buffered x p asp ws hn).of_tiles_eq (by simp) (by simp)).of_withFlight
  · rw [State.answerAt_fl _ _ _ _ _ _ hnack hloss, State.wrapFl, State.fl_setFl_below _ _ _ _ _ (by decide) (by decide),
      State.fl_setFl_same _ _ _ _ (by decide)]
    have hwidth : fld ring F.BI_RING_len < 2 ^ 12 := Nat.mod_lt _ (by decide)
    exact Nat.mod_eq_of_lt (Nat.lt_trans (Nat.mod_lt _ hlen) hwidth)
  · rw [State.answerAt_fl _ _ _ _ _ _ hnack hloss, State.fl_wrapFl_same _ _ _ (by decide),
      State.fl_setFl_above _ _ _ _ _ (by decide) (by decide), State.bufferWords_fl, State.withFlight_fl]
    rfl

/-- A message that the tile-control table denies, and one of another size to an enabled ring, are refused (R16, R281). -/
theorem tileMessage_refuses (ht : p.typ = 3) (hk : InterfaceTakes s x p)
    (h : s.crossDenied x.w.val (R.BI_RING x.w.val x.t.val) p = true ∨
      fld (s.rd (R.BI_RING x.w.val x.t.val)) F.BI_RING_en = 1 ∧
      tileSizeOk (s.aspect x.w.val x.t.val (fld (s.rd (R.BI_RING x.w.val x.t.val)) F.BI_RING_tmem)) p = false) :
    ∃ t, exec (.tileMessage x p) s = .next t ∧ TileRefused s t x := by
  obtain ⟨l, rfl⟩ := hr.flight
  refine ⟨_, (exec_tileMessage x p s).trans (tileRow_takes hon ha hr _ (by simp [ht]) hk), ?_⟩
  simp only [State.withFlight_crossDenied, State.withFlight_rd, State.withFlight_aspect]
  split
  · exact (State.answerAt_refused ..).of_withFlight
  next hdenied =>
    obtain ⟨hen, hsize⟩ := h.resolve_left hdenied
    rw [if_neg (by simp [hen]), if_pos (by simp [hsize])]
    exact (State.answerAt_refused ..).of_withFlight

end

/-- Writes and messages at a tile: each clause is the lemma of its case. -/
theorem tileInterfacesBufferPackets : Rule.TileInterfacesBufferPackets := by
  intro s s1 x p hon ha hr
  refine ⟨⟨?_, ?_, ?_⟩, fun ht => ⟨?_, ?_, ?_, ?_⟩⟩
  · exact fun ht hk hd hz hn => tileWritePacket_buffers hon ha hr ht hk hd rfl hz rfl hn
  · exact fun h hk => tileWritePacket_refuses hon ha hr hk h
  · intro ht hc hf
    rw [exec_tileWritePacket]
    exact tileRow_drops hon ha hr (by simp [ht]) hc hf
  · exact fun hk hd he => tileMessage_noring hon ha hr ht hk hd he
  · exact fun hk hd he hz hn hlen => tileMessage_buffers hon ha hr ht hk hd rfl he rfl hz rfl rfl hn hlen
  · exact fun hk h => tileMessage_refuses hon ha hr ht hk h
  · intro hc hf
    rw [exec_tileMessage]
    exact tileRow_drops hon ha hr (by simp [ht]) hc hf

/-! ### Host windows (R303, R405, R406) -/

/-- The host address of a packet of master `p.mid`: its own, or, of an on-chip master, in the master's window (R303). -/
def State.hostAddress (s : State) (p : Packet) : Nat :=
  if p.mid.toNat < 32 then p.addr.toNat else ((s.window p.mid.toNat).2 + p.addr.toNat) % 18446744073709551616

/-- A write of the same on-chip master is out on the other path than the one that the access takes (R405). -/
def State.PathClash (s : State) (p : Packet) (out : List HostOut) : Prop :=
  p.typ ≠ 1 ∧ ∃ f ∈ s.awaiting, dHub f.pkt.src = false ∧ f.pkt.mid = p.mid ∧ f.pkt.typ ≠ 1 ∧
    f.io ≠ decide (issuePath out = 1)

theorem State.switchAnswer_frame (s : State) (p : Packet) :
    (s.switchAnswer p).sram = s.sram ∧ (s.switchAnswer p).awaiting = s.awaiting ∧
    (s.switchAnswer p).rd R.XS_NACK_COUNT = s.rd R.XS_NACK_COUNT := by
  have hlost : (s.lostAtSwitch p).sram = s.sram ∧ (s.lostAtSwitch p).awaiting = s.awaiting ∧
      (s.lostAtSwitch p).rd R.XS_NACK_COUNT = s.rd R.XS_NACK_COUNT :=
    ⟨by simp [State.lostAtSwitch], by simp [State.lostAtSwitch], by
      rw [State.lostAtSwitch, State.stickyHub_rd _ _ _ _ _ _ (by decide), State.rd_bump_ne _ (by decide)]⟩
  unfold State.switchAnswer
  split
  · exact ⟨rfl, rfl, rfl⟩
  · split
    · exact hlost
    · dsimp only
      split
      · exact ⟨rfl, rfl, rfl⟩
      · exact hlost

theorem State.switchRefuse_frame (s : State) (p : Packet) (st : Nat) (ha : p.isAnswer = false) :
    (s.switchRefuse p st).sram = s.sram ∧ (s.switchRefuse p st).awaiting = s.awaiting ∧
    (s.switchRefuse p st).rd R.XS_NACK_COUNT = satInc (s.rd R.XS_NACK_COUNT) := by
  obtain ⟨hsram, hawaiting, hcount⟩ :=
    (s.bump R.XS_NACK_COUNT).switchAnswer_frame (answerTo p 5 st (nackAux p 0 0 true) [])
  rw [State.switchRefuse, if_neg (by simp [ha])]
  exact ⟨hsram, hawaiting, hcount.trans (s.rd_bump_same _)⟩

theorem exec_hostWindowAccess (p : Packet) (s : State) : exec (.hostWindowAccess p) s = execHostWindowAccess p s := rfl

section
variable {s : State} {p : Packet} {l : List InFlight} {e : InFlight} (hp : s.powered = true) (ha : p.isAnswer = false)
  (ht : s.take (.hub 0) p s.tick (fun e => sameStream e.pkt p) = some (s.withFlight l, e))
include hp ha ht

theorem hostWindowAccess_down (hu : s.cxl.up = false) :
    exec (.hostWindowAccess p) s = .next ((s.withFlight l).switchRefuse p stDomainOff) := by
  rw [exec_hostWindowAccess]
  simp [execHostWindowAccess, ha, hp, ht, hu]

theorem hostWindowAccess_waits (hu : s.cxl.up = true) (hc : s.PathClash p (s.windowIssue (s.hostAddress p) p)) :
    exec (.hostWindowAccess p) s = .next s := by
  rw [exec_hostWindowAccess]
  obtain ⟨hw, f, hf, hsrc, hmid, htyp, hio⟩ := hc
  simp only [execHostWindowAccess, ha, hp, ht]
  rw [if_neg (by simp), if_neg (by simp [hu]), if_pos]
  simp only [Bool.and_eq_true, decide_eq_true_eq, List.any_eq_true]
  refine ⟨hw, f, hf, ⟨⟨by simp [hsrc], hmid⟩, htyp⟩, ?_⟩
  exact fun h => hio (Bool.eq_iff_iff.mpr ((iff_of_eq h).trans decide_eq_true_iff.symm))

theorem hostWindowAccess_goes_out (hu : s.cxl.up = true) (hc : ¬ s.PathClash p (s.windowIssue (s.hostAddress p) p)) :
    ∃ t, exec (.hostWindowAccess p) s = .next t ∧ t.sram = s.sram ∧ t.awaiting.length = s.awaiting.length + 1 ∧
      t.regs = s.regs ∧ t.hostOut = s.hostOut ++ s.windowIssue (s.hostAddress p) p := by
  rw [exec_hostWindowAccess]
  simp only [execHostWindowAccess, ha, hp, ht]
  rw [if_neg (by simp), if_neg (by simp [hu]), if_neg]
  · exact ⟨_, rfl, rfl, List.length_append, rfl, rfl⟩
  · intro h
    simp only [Bool.and_eq_true, decide_eq_true_eq, List.any_eq_true] at h
    obtain ⟨hw, f, hf, ⟨⟨hsrc, hmid⟩, htyp⟩, hio⟩ := h
    refine hc ⟨hw, f, hf, by simpa using hsrc, hmid, htyp, fun h => hio (propext ?_)⟩
    exact (Bool.eq_iff_iff.mp h).trans decide_eq_true_iff

end

/-! ### Answers to sends of tiles (R153, R285) -/

theorem Tile.setBank_outst (x : Tile) (b : Bank) (c : Ctx) : (x.setBank b c).outst = x.outst := by
  cases b <;> rfl

theorem Tile.advance_outst (x : Tile) (b : Bank) : (x.advance b).outst = x.outst := by
  unfold Tile.advance
  simp only []
  split
  · exact x.setBank_outst b _
  · split
    · split <;> split <;> exact Tile.setBank_outst _ b _
    · exact x.setBank_outst b _

@[simp] theorem State.onCtx_outst (s : State) (w t : Nat) (b : Bank) (g : Ctx → Ctx) :
    ((s.onCtx w t b g).tile w t).outst = (s.tile w t).outst := by
  simp [State.onCtx, Tile.setBank_outst]

@[simp] theorem State.endFence_outst (s : State) (w t : Nat) (b : Bank) :
    ((s.endFence w t b).tile w t).outst = (s.tile w t).outst := by
  unfold State.endFence
  dsimp only
  split
  · simp [State.advance, Tile.advance_outst]
  · rfl

@[simp] theorem State.endFence_regs (s : State) (w t : Nat) (b : Bank) : (s.endFence w t b).regs = s.regs := by
  unfold State.endFence
  dsimp only
  split <;> rfl

@[simp] theorem State.endFence_sram (s : State) (w t : Nat) (b : Bank) : (s.endFence w t b).sram = s.sram := by
  unfold State.endFence
  dsimp only
  split <;> rfl

@[simp] theorem State.sramUe_tiles (s : State) (w a : Nat) : (s.sramUe w a).tiles = s.tiles := by
  simp [State.sramUe, apply_ite State.tiles]

theorem State.foldl_tiles {α : Type} {f : State → α → State} (hf : ∀ a e, (f a e).tiles = a.tiles) (l : List α) (s : State) :
    (l.foldl f s).tiles = s.tiles := by
  induction l generalizing s with
  | nil => rfl
  | cons e r ih => exact (ih _).trans (hf s e)

/-- The marks that a write of wall SRAM takes off, and the count of those that it corrects, touch no tile. -/
theorem State.foldl_marks_tiles (part : Nat × Nat → Bool) (c : Nat) (l : List (Nat × Nat)) (s : State) :
    (l.foldl (fun (a : State) e =>
      let a1 := { a with sramErr := Sp.drop a.sramErr e.1 }
      if part e then a1.bump c else a1) s).tiles = s.tiles :=
  State.foldl_tiles (fun a e => by simp only [apply_ite State.tiles, State.bump_tiles, ite_self]) l s

@[simp] theorem State.sramWrite_tiles (s : State) (w b off : Nat) (bs : List Byte) :
    (s.sramWrite w b off bs).1.tiles = s.tiles := by
  unfold State.sramWrite
  extract_lets k part es s1
  split
  · dsimp only
    split
    · exact State.sramUe_tiles ..
    · rfl
  · exact (State.setSram_tiles ..).trans (State.foldl_marks_tiles part _ es s)

/-- A status recorded for a send leaves the list of sends alone. -/
theorem State.recordSend_outst (s : State) (w t f st : Nat) :
    ((s.recordSend w t f st).tile w t).outst = (s.tile w t).outst := by
  unfold State.recordSend
  split
  · simp
  · split
    · rfl
    · simp [State.tile, State.setAreaWord, State.setAreaWords]

theorem State.sendReply_none (s : State) {w t : Nat} {tag : BitVec 8} (st : Nat)
    (h : (s.tile w t).outst.find? (fun e => e.1 = tag) = none) : s.sendReply w t tag st = none := by
  simp [State.sendReply, h]

/-- The answer of a tile's send takes it off the list; with status OK nothing else but the tile changes. -/
theorem State.sendReply_some (s : State) {w t : Nat} {tag : BitVec 8} (st : Nat) {e : BitVec 8 × Nat}
    (h : (s.tile w t).outst.find? (fun e => e.1 = tag) = some e) :
    ∃ u, s.sendReply w t tag st = some u ∧ (u.tile w t).outst = (s.tile w t).outst.erase e ∧
      (st = 0 → u.regs = s.regs ∧ u.sram = s.sram) := by
  simp only [State.sendReply, h]
  refine ⟨_, rfl, ?_, fun hst => ?_⟩
  · simp only [State.endFence_outst]
    split
    · rw [State.tile_setTile_same]
    · rw [State.recordSend_outst, State.tile_setTile_same]
  · simp [hst]

/-! ### Answers to slot writes of link units (R373, R374) -/

theorem State.linkAnswer_none (s : State) {w n : Nat} {tag : BitVec 8} (st : Nat)
    (h : ¬ ∃ f ∈ (s.link w n).rx, tag ∈ f.tags) : s.linkAnswer w n tag st = none := by
  rw [State.linkAnswer, if_neg (by simpa using h)]

/-- The answer of a slot write releases its frame; a refused write is counted. -/
theorem State.linkAnswer_some (s : State) {w n : Nat} {tag : BitVec 8} (st : Nat)
    (h : ∃ f ∈ (s.link w n).rx, tag ∈ f.tags) :
    ∃ u, s.linkAnswer w n tag st = some u ∧ (st = 0 → u.regs = s.regs) ∧
      (st ≠ 0 → u.rd (R.LK_RXDROP_COUNT w n) = satInc (s.rd (R.LK_RXDROP_COUNT w n))) := by
  rw [State.linkAnswer, if_pos (by simpa using h)]
  refine ⟨_, rfl, fun hst => ?_, fun hst => ?_⟩
  · rw [if_pos hst]
    rfl
  · rw [if_neg hst, State.rd_bump_same]
    rfl

/-! ### The receipt of answers (R571) -/

theorem exec_answerReceipt (w : Wall) (r : Fin 24) (j : Fin 8) (p : Packet) (s : State) :
    exec (.answerReceipt w r j p) s = execAnswerReceipt w r j p s := rfl

section
variable {s s1 : State} {w : Wall} {r : Fin 24} {j : Fin 8} {p : Packet} (hon : OnWall s w) (ha : p.isAnswer = true)
  (hj : j.val < localPorts r.val) (hr : Reaches s s1 w.val r.val j.val p)
include hon ha hj hr

/-- The answer is taken: what follows is the endpoint's part. -/
theorem answerReceipt_takes :
    exec (.answerReceipt w r j p) s = .next (
      if r.val < 16 then
        (if p.typ = 2 then none else s1.sendReply w.val (8 * r.val + j.val) p.tag p.status.toNat).getD
          (s1.lostIn w.val (8 * r.val + j.val) p)
      else if r.val = 20 ∨ r.val = 21 then
        (if p.typ = 2 then none else s1.linkAnswer w.val (8 * (r.val - 20) + j.val) p.tag p.status.toNat).getD
          (s1.lostIn w.val r.val p)
      else ((s1.awaits (mkDst w.val r.val j.val) p.tag).map fun q => { s1 with awaiting := s1.awaiting.erase q }).getD
        (s1.lostIn w.val r.val p)) := by
  obtain ⟨e, he, hl⟩ := hr
  rw [exec_answerReceipt, execAnswerReceipt, onWall_on _ hon.1 hon.2]
  dsimp only
  rw [if_neg (by simp [ha, hj]), he]
  dsimp only
  rw [if_neg (by simp [hl])]
  simp only [Bool.or_eq_true, decide_eq_true_eq]
  congr 1
  refine ite_congr rfl (fun _ => ?_) fun _ => ite_congr rfl (fun _ => ?_) fun _ => ?_
  · generalize (if p.typ = 2 then none else s1.sendReply w.val (8 * r.val + j.val) p.tag p.status.toNat) = o
    cases o with
    | none => exact Option.getD_none.symm
    | some u => exact Option.getD_some.symm
  · generalize (if p.typ = 2 then none else s1.linkAnswer w.val (8 * (r.val - 20) + j.val) p.tag p.status.toNat) = o
    cases o with
    | none => exact Option.getD_none.symm
    | some u => exact Option.getD_some.symm
  · generalize s1.awaits (mkDst w.val r.val j.val) p.tag = o
    cases o with
    | none => exact Option.getD_none.symm
    | some q => exact Option.getD_some.symm

end

theorem AnswerLost.of_withFlight {s t : State} {l : List InFlight} {w : Nat} (h : AnswerLost (s.withFlight l) t w) :
    AnswerLost s t w := by
  simpa [AnswerLost] using h

/-- The tile at local port `j` of router `r`, where routers 0 to 15 have tiles. -/
def tileAt (w : Wall) (r : Fin 24) (j : Fin 8) : TileRef := ⟨w, ⟨(8 * r.val + j.val) % 128, Nat.mod_lt _ (by decide)⟩⟩

theorem tileOf_tileAt (s : State) (w : Wall) (r : Fin 24) (j : Fin 8) (h : r.val < 16) :
    tileOf s (tileAt w r j) = s.tile w.val (8 * r.val + j.val) :=
  congrArg (s.tile w.val) (Nat.mod_eq_of_lt (by omega))

section
variable {s s1 : State} {w : Wall} {r : Fin 24} {j : Fin 8} {p : Packet} (hon : OnWall s w) (ha : p.isAnswer = true)
  (hj : j.val < localPorts r.val) (hr : Reaches s s1 w.val r.val j.val p)
include hon ha hj hr

/-- At a tile an answer ends the send of its tag; one that no send awaits is lost (R285, R314). -/
theorem answerReceipt_at_tile (h : r.val < 16) :
    ∃ t, exec (.answerReceipt w r j p) s = .next t ∧
      (∀ e, p.typ ≠ 2 → (tileOf s (tileAt w r j)).outst.find? (fun e => e.1 = p.tag) = some e →
        (tileOf t (tileAt w r j)).outst = (tileOf s (tileAt w r j)).outst.erase e ∧
        (p.status = 0 → t.regs = s.regs ∧ t.sram = s.sram)) ∧
      (p.typ = 2 ∨ (tileOf s (tileAt w r j)).outst.find? (fun e => e.1 = p.tag) = none → AnswerLost s t w.val) := by
  obtain ⟨l, rfl⟩ := hr.flight
  refine ⟨_, answerReceipt_takes hon ha hj hr, ?_, ?_⟩
  · intro e htyp hsent
    rw [tileOf_tileAt _ _ _ _ h] at hsent
    obtain ⟨u, hu, hout, hkept⟩ := (s.withFlight l).sendReply_some p.status.toNat hsent
    rw [if_pos h, if_neg htyp, hu, Option.getD_some, tileOf_tileAt _ _ _ _ h, tileOf_tileAt _ _ _ _ h]
    exact ⟨hout, fun hst => hkept (by simp [hst])⟩
  · intro hnone
    have hlost : (if p.typ = 2 then none else
        (s.withFlight l).sendReply w.val (8 * r.val + j.val) p.tag p.status.toNat) = none := by
      rw [tileOf_tileAt _ _ _ _ h] at hnone
      split
      · rfl
      next htyp => exact State.sendReply_none _ _ (hnone.resolve_left htyp)
    rw [if_pos h, hlost, Option.getD_none]
    exact (State.lostIn_answerLost ..).of_withFlight

/-- At a link unit an answer to a slot write releases its frame, and counts a refusal; another is lost (R314, R374). -/
theorem answerReceipt_at_link (h : r.val = 20 ∨ r.val = 21) :
    let slot := p.typ ≠ 2 ∧ ∃ f ∈ (s.link w.val (8 * (r.val - 20) + j.val)).rx, p.tag ∈ f.tags
    let drops := R.LK_RXDROP_COUNT w.val (8 * (r.val - 20) + j.val)
    ∃ t, exec (.answerReceipt w r j p) s = .next t ∧
      (slot → p.status = 0 → t.regs = s.regs) ∧ (slot → p.status ≠ 0 → t.rd drops = satInc (s.rd drops)) ∧
      (¬ slot → AnswerLost s t w.val) := by
  intro slot drops
  obtain ⟨l, rfl⟩ := hr.flight
  have h16 : ¬ r.val < 16 := by omega
  by_cases hs : slot
  · obtain ⟨u, hu, hok, hbad⟩ := (s.withFlight l).linkAnswer_some p.status.toNat hs.2
    refine ⟨u, ?_, fun _ hst => hok (by simp [hst]), fun _ hst => hbad fun h0 => hst (BitVec.eq_of_toNat_eq h0), absurd hs⟩
    rw [answerReceipt_takes hon ha hj hr, if_neg h16, if_pos h, if_neg hs.1, hu, Option.getD_some]
  · have hlost : (if p.typ = 2 then none else
        (s.withFlight l).linkAnswer w.val (8 * (r.val - 20) + j.val) p.tag p.status.toNat) = none := by
      split
      · rfl
      next htyp => exact State.linkAnswer_none _ _ fun hf => hs ⟨htyp, hf⟩
    refine ⟨_, answerReceipt_takes hon ha hj hr, fun h => absurd h hs, fun h => absurd h hs, fun _ => ?_⟩
    rw [if_neg h16, if_pos h, hlost, Option.getD_none]
    exact (State.lostIn_answerLost ..).of_withFlight

/-- Elsewhere an answer ends the request of that local port that awaits it; another is lost (R314, R571). -/
theorem answerReceipt_at_port (h : 16 ≤ r.val) (h20 : r.val ≠ 20) (h21 : r.val ≠ 21) :
    ∃ t, exec (.answerReceipt w r j p) s = .next t ∧
      (∀ q, s.awaits (mkDst w.val r.val j.val) p.tag = some q → t.awaiting = s.awaiting.erase q ∧ t.regs = s.regs) ∧
      (s.awaits (mkDst w.val r.val j.val) p.tag = none → AnswerLost s t w.val) := by
  obtain ⟨l, rfl⟩ := hr.flight
  refine ⟨_, answerReceipt_takes hon ha hj hr, ?_, ?_⟩
  · intro q hq
    rw [if_neg (by omega), if_neg (by omega), State.withFlight_awaits, hq, Option.map_some, Option.getD_some]
    exact ⟨rfl, rfl⟩
  · intro hq
    rw [if_neg (by omega), if_neg (by omega), State.withFlight_awaits, hq, Option.map_none, Option.getD_none]
    exact (State.lostIn_answerLost ..).of_withFlight

end

/-- Accesses of host windows, and the receipt of answers at tiles, link units and the other ports. -/
theorem answersEndWhatTheyAnswer : Rule.AnswersEndWhatTheyAnswer := by
  intro s s1 p
  refine ⟨fun e hp ha ht => ?_, fun w r j hon ha hj hr => ?_⟩
  · obtain ⟨l, rfl⟩ := State.take_flight ht
    cases hu : s.cxl.up with
    | false =>
      obtain ⟨hsram, hawaiting, hcount⟩ := (s.withFlight l).switchRefuse_frame p stDomainOff ha
      exact ⟨_, hostWindowAccess_down hp ha ht hu, hsram, nofun, nofun, fun _ => ⟨hawaiting, hcount⟩⟩
    | true =>
      by_cases hc : s.PathClash p (s.windowIssue (s.hostAddress p) p)
      · exact ⟨s, hostWindowAccess_waits hp ha ht hu hc, rfl, fun _ h => absurd hc h, fun _ _ => rfl, nofun⟩
      · obtain ⟨t, hexec, hsram, hout⟩ := hostWindowAccess_goes_out hp ha ht hu hc
        exact ⟨t, hexec, hsram, fun _ _ => hout, fun _ h => absurd h hc, nofun⟩
  · by_cases h16 : r.val < 16
    · obtain ⟨t, hexec, hends, hlost⟩ := answerReceipt_at_tile hon ha hj hr h16
      exact ⟨t, hexec, fun e _ => hends e, fun _ => hlost, by omega, by omega, by omega, by omega, by omega⟩
    · by_cases hlink : r.val = 20 ∨ r.val = 21
      · obtain ⟨t, hexec, hok, hbad, hlost⟩ := answerReceipt_at_link hon ha hj hr hlink
        exact ⟨t, hexec, by omega, by omega, fun h => hok h.2, fun h => hbad h.2, fun _ h => hlost fun hs => h ⟨hlink, hs⟩,
          by omega, by omega⟩
      · obtain ⟨t, hexec, hends, hlost⟩ := answerReceipt_at_port hon ha hj hr (by omega) (by omega) (by omega)
        exact ⟨t, hexec, by omega, by omega, by omega, by omega, by omega, fun q _ _ _ => hends q, fun _ _ _ => hlost⟩

/-- Settles O33: the tile's interface serves its writes and messages by case, and an answer goes by its router to the
tile's sends, the link unit's frames or the requests of the port. -/
theorem endpointsTakeAndAnswer : Obligations.EndpointsTakeAndAnswer :=
  ⟨tileInterfacesBufferPackets, answersEndWhatTheyAnswer⟩

end Sys2Proof.Machine
end
